-- ==== Sys2Proof/Word.lean ====
section
/-! DEFINITION. Word.lean: the word types of the block. -/
namespace Sys2Proof

/-- One byte. -/
abbrev Byte := BitVec 8
/-- A number of marks in 1/256 mark, signed: the unit of R8 with the sign a difference needs. -/
abbrev Marks256 := Int

end Sys2Proof
end

