-- ==== Sys2Proof/Syntax.lean ====
section
/-! DEFINITION. Syntax.lean: the commands of the block, one constructor of `Instr` per row of
spec/opcode_table.json. A command is one of the part's indivisible steps
(spec/95_what_each_step_holds.md): a register write, a cell or a bus transaction, a timer
that runs out, or something the world does to a ball. Its operands are what the step takes
from outside the block; what the block itself knows stands in `State`. -/
namespace Sys2Proof

/-- A channel CH000–CH159 (R12). -/
abbrev ChanId := Fin 160
/-- A bank B0–B3 (R12). -/
abbrev BankId := Fin 4
/-- A controlled rail CV0–CV3 (chapter 9). -/
abbrev RailId := Fin 4
/-- A sequence slot 0–23 (R228). -/
abbrev SeqSlot := Fin 24
/-- An edge: the 16 bytes of R54 as one number, bit n of the edge at bit n. -/
abbrev EdgeBits := BitVec 128
/-- The 20 bytes of a Stayline cell (R145) as one number, byte 0 least significant. -/
abbrev CellBits := BitVec 160

/-- How a cell arrived on a port (R143, R147, R150). -/
structure Arrival where
  /-- code violations within the cell, and on the port between the last cell and this one -/
  violations : Nat
  outside : Nat
  /-- bytes missing at the end of a cell that ended early without K30.7 -/
  missing : Nat
  /-- tide ticks from the SOC at the stamp point to now -/
  sinceSoc : Nat
  deriving DecidableEq, Repr

/-- Who writes a register (R76), with the two levels of the core (R281). -/
inductive Writer where
  | wright | hand | ring | host | service
  deriving DecidableEq, Repr

/-- A Stayline port. -/
inductive Port where
  | east | west
  deriving DecidableEq, Repr

/-- A feed. -/
inductive FeedId where
  | fa | fb
  deriving DecidableEq, Repr

/-- A converter of the Measurement Subsystem. -/
inductive AdcId where
  | a | b
  deriving DecidableEq, Repr

/-- How two successive samples of an encoder pair differ (R32). -/
inductive EncStep where
  | aLeadsB | bLeadsA | illegal
  deriving DecidableEq, Repr

/-- Why a power-on reset is entered (SYS.RSTCAUSE.PORSRC, R413). -/
inductive PorSource where
  | supply | shipWake | scanEnd
  deriving DecidableEq, Repr

/-- What the SFDP read-out of the store finds (R338). Sizes in MiB, times in µs. -/
inductive SfdpResult where
  | absent
  | unsupported
  | found (sizeMiB tProgUs tEraseUs : Nat)
  deriving DecidableEq, Repr

/-- The supplies a burn or a store operation is judged against (R334, R347): VSYS and VHOLD in
mV, and the helm die temperature in 1/128 °C. -/
structure EnergyEnv where
  vsys  : Nat
  vhold : Nat
  temp  : Int
  deriving DecidableEq, Repr

/-- Bits of physical OTP words that still fail at tight margin after three pulses (R326, R332). -/
abbrev BurnFailures := List (Nat × BitVec 32)

/-- How a CV_OC trip arises (R217): the overcurrent timer, or a phase's IMON report. -/
inductive OcCause where
  | timer
  | imon (phase : Fin 8)
  deriving DecidableEq, Repr

/-- A target whose raw power good is deglitched (R228, R229), with the reading it depends on:
the rail's feedback in mV, the bank's VBUS_Bm in 10 mV. -/
inductive PgTarget where
  | rail (r : RailId) (vfb : Nat)
  | feed
  | bank (b : BankId) (vbus : Nat)
  | group (k : SeqSlot)
  | ldo (k : Fin 3)
  deriving DecidableEq, Repr

/-- How a controller transaction on the two-wire bus goes (R398, R399). -/
inductive TwiOutcome where
  | ok (data : List (BitVec 8))
  | nackAddr
  | nackData
  | arbLost (ownAddress : Bool)
  deriving DecidableEq, Repr

/-- What R128 reports: an IMEAS in mA that has stood for `held` ticks, or the samples of consecutive pulses in mA,
newest first. -/
inductive Undercurrent where
  | level (imeas held : Nat)
  | pulses (imeas : List Nat)
  deriving DecidableEq, Repr

/-- The commands, in the order of the table. -/
inductive Instr where
  /-- R28. `straps`: the level of TWA2–TWA0 (R390). -/
  | powerOnReset (src : PorSource) (straps : BitVec 3)
  /-- R306. -/
  | secureBoot (sfdp : SfdpResult) (env : EnergyEnv)
  /-- R16. `ok`: the load check passes. -/
  | bankUcodeLoad (b : BankId) (ok : Bool)
  /-- R17. A frame with its CRC verdict and rolling count; `clamped` are the channels whose
  turn-off in this frame makes the inductive clamp conduct (R112). -/
  | linkFrame (b : BankId) (crcOk : Bool) (count : BitVec 4) (clamped : List ChanId)
  /-- R18. -/
  | bankDeadman (b : BankId)
  /-- R19. `ucodeOk`: the microcode check, after a reload where it failed. -/
  | bankRestart (b : BankId) (ucodeOk : Bool)
  /-- R70. -/
  | edgeScan
  /-- R32. `stable`: the samples of 10 ns for which the new levels have stood (R31). -/
  | encoderCount (enc : Fin 2) (step : EncStep) (stable : Nat)
  /-- R33. `stable`: the samples for which the high level has stood (R31). -/
  | radarPulse (stable : Nat)
  /-- R36. -/
  | srcFail (enc : Fin 2)
  /-- R36. `v`: the byte written to RCK.SRCRST. -/
  | srcrst (w : Writer) (v : BitVec 8)
  /-- R37. -/
  | hspeedWrite (w : Writer) (v : BitVec 32)
  /-- R37. -/
  | hdirWrite (w : Writer) (v : BitVec 8)
  /-- R44. -/
  | hyawWrite (w : Writer) (v : BitVec 32)
  /-- R37. -/
  | speedStale
  /-- R44. -/
  | yawStale
  /-- R37. -/
  | srcLost
  /-- R45. `v`: the byte written to RCK.CAP. -/
  | cap (w : Writer) (v : BitVec 8)
  /-- R167. -/
  | beaconSend
  /-- R46. The oldest delivered BEACON message is taken. -/
  | beaconReceive
  /-- R51. -/
  | beaconMissing
  /-- R49. -/
  | beaconLoss
  /-- R60. `v`: the byte written at offset 0x0F. -/
  | edgeSubmit (w : Writer) (v : BitVec 8)
  /-- R58. `hand`: the core writes at Hand. -/
  | coreEdge (hand : Bool) (e : EdgeBits)
  /-- R64. -/
  | edgeFlush (w : Writer) (v : BitVec 32)
  /-- R111. `v`: the value written to CHS[n].STAT. -/
  | safeClear (w : Writer) (n : ChanId) (v : BitVec 16)
  /-- R111. -/
  | saferel (w : Writer) (v : BitVec 8)
  /-- R94. -/
  | slotStart (n : ChanId)
  /-- R95. -/
  | peakEnd (n : ChanId)
  /-- R107. `cusp`: the sample s in 10 ns, or none where the window holds no cusp. -/
  | latencySample (n : ChanId) (on : Bool) (cusp : Option Nat)
  /-- R109. -/
  | latencyJournal
  /-- R118. `n`: the channel whose condition it is; `imeas` in mA, of a gang the sum. -/
  | inrushFail (n : ChanId) (imeas : BitVec 16)
  /-- R119. -/
  | overload (n : ChanId) (imeas : BitVec 16)
  /-- R120. `imeas`: the current of the channel's own switch. -/
  | short (n : ChanId) (imeas : BitVec 16)
  /-- R121. `temp`: what the channel's sensor reads, °C. -/
  | thermal (n : ChanId) (imeas : BitVec 16) (temp : Nat)
  /-- R121. -/
  | thermalRecovery (n : ChanId) (temp : Nat)
  /-- R125. `v`: the value written to BANK[m].TRIPS. -/
  | tripClear (w : Writer) (b : BankId) (v : BitVec 64)
  /-- R126. -/
  | retry (n : ChanId)
  /-- R126. -/
  | retryCountReset (n : ChanId)
  /-- R127. VMEAS (2 mV units) has been at least `vmeas` for `held` ticks, VBUS_Bm `vbus` (10 mV). -/
  | openOff (n : ChanId) (vmeas : BitVec 16) (held vbus : Nat)
  /-- R128. -/
  | openOn (n : ChanId) (u : Undercurrent)
  /-- R129. As R127. -/
  | damageO (n : ChanId) (vmeas : BitVec 16) (vbus held : Nat)
  /-- R130. -/
  | damageG (n : ChanId)
  /-- R131, step 3. `off`: the ISOm gate is below its turn-off threshold. -/
  | isoVerify (b : BankId) (off : Bool)
  /-- R132. -/
  | isoOpen (w : Writer) (b : BankId)
  /-- R132. `ucodeOk`: the microcode check of the restart. -/
  | isoClose (w : Writer) (b : BankId) (ucodeOk : Bool)
  /-- R137. `low`: the filtered level of STRIKE_N becomes low; else it becomes high again. -/
  | strikePin (low : Bool)
  /-- R133. -/
  | strikeAssert (w : Writer)
  /-- R135. -/
  | strikeRelease (w : Writer)
  /-- R174. The oldest delivered STRIKE message is taken. -/
  | strikeCellReceive
  /-- R149. The cell as it arrives, and the tide ticks from its SOC to its outgoing SOC. -/
  | cellForward (p : Port) (c : CellBits) (fwdDelay : Nat)
  /-- R147. A cell that ended early has D0.0 in its missing bytes. -/
  | cellReceive (p : Port) (c : CellBits) (a : Arrival)
  /-- R151. -/
  | cellAbort (p : Port)
  /-- R152. `incoming`: a cell that will be forwarded on this port has begun to arrive. -/
  | cellSend (p : Port) (incoming : Bool)
  /-- R144. The code groups received since the last comma but 64, and the running disparity before the first. -/
  | syncAcquired (p : Port) (plus : Bool) (gs : List (BitVec 10))
  /-- R144. The last code groups received, and the running disparity before the first. `violations`: code
  violations on the port since the last cell. -/
  | syncLost (p : Port) (plus : Bool) (gs : List (BitVec 10)) (violations : Nat)
  /-- R160. -/
  | lossOfSignal (p : Port)
  /-- R158. The oldest LINK HELLO received on the port is taken. -/
  | linkHelloReceive (p : Port)
  /-- R158. `incoming`, as for CELL_SEND. -/
  | helloSend (p : Port) (incoming : Bool)
  /-- R160. -/
  | helloTimeout (p : Port)
  /-- R159. `incoming`, as for CELL_SEND. -/
  | pingSend (p : Port) (incoming : Bool)
  /-- R159. The oldest PING is taken; the ECHO leaves at once or at a later CELL_SEND. `incoming`, as for CELL_SEND. -/
  | pingReceive (p : Port) (incoming : Bool)
  /-- R159. The oldest ECHO is taken. -/
  | echoReceive (p : Port)
  /-- R158. -/
  | linkRetrain (w : Writer) (v : BitVec 8)
  /-- R161. -/
  | linkDegraded
  /-- R155. -/
  | rasmTimeout
  /-- R157. -/
  | sourceForget (src : BitVec 12)
  /-- R157. -/
  | quietEnd
  /-- R169. The oldest delivered EDGE message is taken. -/
  | edgeCellReceive
  /-- R170. -/
  | readRequest
  /-- R172. -/
  | writeRequest
  /-- R171. -/
  | responseReceive
  /-- R173. -/
  | eventReceive
  /-- R381. -/
  | activateReceive
  /-- R177. -/
  | enumQueryReceive
  /-- R177. -/
  | enumReportReceive
  /-- R177. -/
  | enumQuerySend
  /-- R171. -/
  | ringRead (w : Writer)
  /-- R172. -/
  | ringWrite (w : Writer)
  /-- R171. `dst`: the destination whose transaction times out. -/
  | transTimeout
  /-- R179. -/
  | headWindowEnd
  /-- R191. `vin` in 10 mV; it has lain in the window for `held` ticks. -/
  | feedQualified (f : FeedId) (vin : BitVec 16) (held : Nat)
  /-- R191. The condition has stood for `held` ticks. -/
  | feedUv (f : FeedId) (vin : BitVec 16) (held : Nat)
  /-- R191. -/
  | feedOv (f : FeedId) (vin : BitVec 16) (held : Nat)
  /-- R193. VIN and VBUS in 10 mV. -/
  | feedInrushComplete (f : FeedId) (vin vbus : BitVec 16)
  /-- R193. `shunt`: the shunt voltage in µV, signed. -/
  | feedInrushFail (f : FeedId) (shunt : Int)
  /-- R196. -/
  | feedOverload (f : FeedId) (shunt : Int)
  /-- R197. -/
  | feedShort (f : FeedId) (shunt : Int)
  /-- R197. -/
  | feedReverse (f : FeedId) (shunt : Int)
  /-- R198. -/
  | feedRetryClear (f : FeedId)
  /-- R198. `v`: the byte written to CLR. -/
  | feedClrTrip (w : Writer) (f : FeedId) (v : BitVec 8)
  /-- R199. The common source and VBUS in 10 mV, as they have stood for `held` ticks. -/
  | feedDamageO (f : FeedId) (src vbus : BitVec 16) (held : Nat)
  /-- R199. V_GS in 0.1 V and the shunt voltage in µV. -/
  | feedDamageG (f : FeedId) (vgs : BitVec 8) (shunt : Int)
  /-- R201. -/
  | feedRevert
  /-- R201. `v`: the byte written to FEED.CMD. -/
  | feedSelect (w : Writer) (v : BitVec 8)
  /-- R203, step 4: the second true sample in succession. -/
  | feedVerified
  /-- R204. `gateTest`: the failing test is the gate's; else the shunt's. -/
  | feedVerifyFail (gateTest : Bool)
  /-- R203, steps 5 and 6. -/
  | feedSwitch
  /-- R213, step 2. `vpre` in µV. -/
  | railPrebiasSample (r : RailId) (vpre : Nat)
  /-- R213, step 5. -/
  | railRampDone (r : RailId)
  /-- R214. -/
  | railStopDone (r : RailId)
  /-- R212. -/
  | vrefWrite (w : Writer) (r : RailId) (v : BitVec 16)
  /-- R212. -/
  | slewWrite (w : Writer) (r : RailId) (v : BitVec 16)
  /-- R215. Feedback in mV. -/
  | railSettled (r : RailId) (vfb : Nat)
  /-- R215. -/
  | railMaskTimeout (r : RailId) (vfb : Nat)
  /-- R217. -/
  | cvOc (r : RailId) (cause : OcCause)
  /-- R218. The feedback has stood there for `held` ticks. -/
  | cvOv (r : RailId) (vfb held : Nat)
  /-- R218. -/
  | cvOvClampEnd (r : RailId) (vfb : Nat)
  /-- R219. -/
  | railBrake (r : RailId) (vfb : Nat)
  /-- R219. -/
  | railBrakeEnd (r : RailId) (vfb : Nat)
  /-- R220. I_tot in 0.1 A, no greater for `held` ticks. -/
  | phaseShed (r : RailId) (itot : BitVec 16) (held : Nat)
  /-- R220. -/
  | phaseAdd (r : RailId) (itot : BitVec 16)
  /-- R220. -/
  | fastAdd (r : RailId) (vfb : Nat)
  /-- R221. -/
  | shedComplete (r : RailId)
  /-- R225. -/
  | ib0vWrite (w : Writer) (v : BitVec 16)
  /-- R225. -/
  | clockSwitch
  /-- R224. -/
  | ioUv (vio : BitVec 16) (held : Nat)
  /-- R224. LD(k+1). -/
  | ldOc (k : Fin 3) (held : Nat)
  /-- R224. -/
  | ldclr (w : Writer) (v : BitVec 8)
  /-- R230. -/
  | seqOn (w : Writer)
  /-- R235. -/
  | seqOff (w : Writer)
  /-- R230. -/
  | seqWaitEnd
  /-- R231. -/
  | slotEnable (k : SeqSlot)
  /-- R229. -/
  | pgDeglitch (t : PgTarget) (held : Nat)
  /-- R232. -/
  | slotQualified (k : SeqSlot)
  /-- R233. -/
  | slotTimeout (k : SeqSlot)
  /-- R235. -/
  | slotDisable (k : SeqSlot)
  /-- R237. -/
  | seqOffTimeout (k : SeqSlot)
  /-- R240. -/
  | pfwExpiry
  /-- R242. VBUS_Bm in 10 mV. -/
  | bankUv (b : BankId) (vbus held : Nat)
  /-- R242. -/
  | bankOv (b : BankId) (vbus held : Nat)
  /-- R243. -/
  | counterJournal
  /-- R243. -/
  | cntClr (w : Writer) (v : BitVec 16)
  /-- R246. The 14-bit code of the conversion that ends. -/
  | adcConversion (c : AdcId) (code : BitVec 14)
  /-- R251. -/
  | loopDelayEnd (c : AdcId)
  /-- R258. -/
  | xmiss (c : AdcId)
  /-- R256. -/
  | adcUrgent (w : Writer) (v : BitVec 16)
  /-- R256. -/
  | urgTagFree (w : Writer) (t : Fin 4)
  /-- R266. VBUS_SNS and VBAT in mV as the power-path comparator sees them. -/
  | chginChange (vbus vbat : Nat)
  /-- R267, step 2. VBAT in mV throughout. -/
  | detectSample (vbat : Nat)
  /-- R267, steps 3 and 4. -/
  | detectResult (vbat : Nat)
  /-- R267. -/
  | detectRepeat
  /-- R268. `held`: how long VBAT or IBAT has met its condition, ticks; `vloop`: the voltage loop takes
  control. -/
  | chargePhaseChange (vbat ibat held : Nat) (vloop : Bool)
  /-- R268. -/
  | batShort (vbat : Nat)
  /-- R269. The battery NTC ratio in result units, and how long it has been outside the window, ticks. -/
  | ntcSuspend (ratio : BitVec 16) (held : Nat)
  /-- R269. -/
  | ntcResume (ratio : BitVec 16) (held : Nat)
  /-- R270. -/
  | batTimeout
  /-- R271. -/
  | batOv (vbat held : Nat)
  /-- R273. IBAT at the start and the end of the interval, mA. -/
  | batRemoved (ibat0 ibat1 vbat : Nat)
  /-- R273. -/
  | removalCheck (vbat : Nat)
  /-- R264. How long the battery alone has supplied VSYS below the threshold, ticks. -/
  | batCutoff (vbat held : Nat)
  /-- R272. -/
  | chgClr (w : Writer)
  /-- R276. -/
  | shipRequest (w : Writer)
  /-- R276. -/
  | shipCancel (w : Writer)
  /-- R276. The highest VBUS_Bn in mV, and how long it has been so low, ticks. -/
  | shipEntry (vbus held : Nat) (env : EnergyEnv)
  /-- R277. How long WAKE_N has been low, ticks of 10 ns. -/
  | wakeButton (held : Nat) (straps : BitVec 3)
  /-- R277. The highest VBUS_Bn in mV. -/
  | vbusWake (vbus : Nat) (straps : BitVec 3)
  /-- R287. -/
  | wdtService (w : Writer) (v : BitVec 8)
  /-- R291. -/
  | wdtCheckin (w : Writer) (v : BitVec 8)
  /-- R287. -/
  | wdtLate
  /-- R290. -/
  | wdtPrewarn
  /-- R284. -/
  | wdtClkstop (periods : Nat)
  /-- R285. 1 MHz edges in 32 LFRC periods; `monStopped`: the monitoring clock has stopped. -/
  | wdtClkdev (edges : Nat) (monStopped : Bool)
  /-- R296, step 4. -/
  | coreResetRelease
  /-- R296, step 6. -/
  | wdxEnd
  /-- R280. -/
  | eccError
  /-- R280. -/
  | eccCorr
  /-- R303. -/
  | lifecmd (w : Writer) (v : BitVec 32) (env : EnergyEnv) (bad : BurnFailures)
  /-- R304. -/
  | keyRevoke (w : Writer) (v : BitVec 8) (env : EnergyEnv) (bad : BurnFailures)
  /-- R310. The response written through SEC-AP, `age` tide ticks after the nonce was read. -/
  | debugAuth (slot : Fin 8) (scope : BitVec 8) (pubkey sig : BitVec 512) (age : Nat)
  /-- R311. -/
  | debugClose (w : Writer)
  /-- R312. -/
  | debugHalt
  /-- R299. -/
  | debugHaltRelease
  /-- R313. -/
  | scanEnter
  /-- R313. -/
  | scanExit (straps : BitVec 3)
  /-- R315. -/
  | pwrWake (w : Writer)
  /-- R316. -/
  | pwrRun (w : Writer)
  /-- R317. -/
  | pwrStandby (w : Writer)
  /-- R317. -/
  | pwrKeep (w : Writer)
  /-- R315. -/
  | wakeStart
  /-- R315. -/
  | pllLock
  /-- R326. -/
  | otpProgram (w : Writer) (env : EnergyEnv) (bad : BurnFailures)
  /-- R327. -/
  | otpFinalise (w : Writer) (env : EnergyEnv) (bad : BurnFailures)
  /-- R332. -/
  | otpReburn (w : Writer) (env : EnergyEnv) (bad : BurnFailures)
  /-- R333. -/
  | otpRepair (w : Writer) (env : EnergyEnv) (bad : BurnFailures)
  /-- R335. -/
  | otpCommandDone
  /-- R331. -/
  | otpLockset (w : Writer) (v : BitVec 16)
  /-- R334. -/
  | otpSession (env : EnergyEnv) (bad : BurnFailures)
  /-- R341. -/
  | recordWrite (env : EnergyEnv)
  /-- R348. -/
  | storeRetry (env : EnergyEnv)
  /-- R341. `ok`: the operation reads back and the flash reports no error. -/
  | storeOpComplete (ok : Bool)
  /-- R346. -/
  | clockJournal
  /-- R352. -/
  | scrub (w : Writer)
  /-- R352. -/
  | scrubStart
  /-- R352. -/
  | scrubDone (env : EnergyEnv)
  /-- R351. -/
  | wallWrite (w : Writer) (v : BitVec 32)
  /-- R355. -/
  | xaddrWrite (w : Writer) (v : BitVec 32)
  /-- R355. -/
  | xdataWrite (w : Writer) (v : BitVec 256) (env : EnergyEnv)
  /-- R355. -/
  | xdataRead (w : Writer)
  /-- R366. -/
  | riggingLoad
  /-- R368. -/
  | riggingCommit
  /-- R369. -/
  | rigCorrupt
  /-- R374. `tag` and `bcast` (ADDR = 0xFFF) of the service frame. -/
  | svcPing (bcast : Bool) (tag : BitVec 8)
  /-- R374. -/
  | svcRead (bcast : Bool) (tag page off len : BitVec 8)
  /-- R374. -/
  | svcWrite (bcast : Bool) (tag page off : BitVec 8) (data : List (BitVec 8))
  /-- R58. -/
  | svcEdge (bcast : Bool) (tag : BitVec 8) (e : EdgeBits)
  /-- R377. -/
  | svcOpen (bcast : Bool) (tag kind : BitVec 8) (len : BitVec 32)
  /-- R378. -/
  | svcData (bcast : Bool) (tag : BitVec 8) (off : BitVec 32) (data : List (BitVec 8)) (env : EnergyEnv)
  /-- R379. -/
  | svcClose (bcast : Bool) (tag : BitVec 8)
  /-- R374. -/
  | svcStatus (bcast : Bool) (tag : BitVec 8)
  /-- R380. -/
  | svcActivate (bcast : Bool) (tag : BitVec 8) (epoch : BitVec 64) (cond : BitVec 8) (imgid : BitVec 32) (tgt : BitVec 8)
  /-- R385. -/
  | svcConfirm (bcast : Bool) (tag : BitVec 8) (env : EnergyEnv) (bad : BurnFailures)
  /-- R377. -/
  | transferEraseDone (env : EnergyEnv)
  /-- R379. -/
  | verifyDone
  /-- R380. -/
  | updActivate (w : Writer)
  /-- R385. -/
  | updConfirm (w : Writer) (env : EnergyEnv) (bad : BurnFailures)
  /-- R380. -/
  | updAbort (w : Writer)
  /-- R382. -/
  | activateEpoch (env : EnergyEnv)
  /-- R383. -/
  | activateSuspendEnd
  /-- R394. The bytes after the address byte; `stop`: the transaction ends with STOP, else with a
  repeated START. -/
  | twiWrite (bytes : List (BitVec 8)) (stop : Bool)
  /-- R393. -/
  | twiRead (n : Nat) (stop : Bool)
  /-- R397. `others`: the addresses of the other devices on the bus that answer. -/
  | alertResponse (others : List (BitVec 7))
  /-- R396. `collision`: SCL falls during the pulse. -/
  | attentionPulse (collision : Bool)
  /-- R398. `v`: the byte written to TWI.CCTL. -/
  | twiControllerStart (w : Writer) (v : BitVec 8)
  /-- R399. -/
  | twiControllerTransaction (idle : Nat) (o : TwiOutcome)
  /-- R400. -/
  | sclTimeout (held : Nat)
  /-- R401. `released`: SDA reads high once the device has released its own drive; `clocks`: the
  clocks after which SDA reads high, if within 9. -/
  | sdaStuck (held : Nat) (released : Bool) (clocks : Option (Fin 10))
  /-- R402. -/
  | busErr (start : Bool)
  /-- R76. -/
  | registerWrite (w : Writer) (page off : BitVec 8) (bytes : List (BitVec 8))
  /-- R39. -/
  | standstill
  /-- R213, step 3. -/
  | prebiasWaitEnd (r : RailId) (vfb : Nat)
  /-- R191. -/
  | feedQualificationLost (f : FeedId) (vin : BitVec 16)
  /-- R373. -/
  | svcFrameDiscard
  /-- R369. -/
  | rigEccCorrected
  deriving DecidableEq, Repr

end Sys2Proof
end

