-- ==== Sys2Proof/Decode.lean ====
section
/-! DEFINITION. Decode.lean: the commands that words of the opcode table spell. -/
namespace Sys2Proof

/-- spec/opcode_table.json gives no row bits: its rows are events, register writes, cells and bus
transactions, which no word encodes. No word spells a command. -/
def decodeTableWord (_nbits _w : Nat) : Option Instr := none

end Sys2Proof
end

