-- ==== Sys2Proof/Config.lean ====
section
/-! DEFINITION. Config.lean: what an implementation fixes and the spec leaves open. Every constant
here is opaque: no proof can see a value of it, so a claim holds whatever it is. -/
namespace Sys2Proof.Config

/-- The n-th free value: a number the spec does not state. A step that meets one reads it at
`Device.free` and advances that counter (notes/assumptions/3.md). -/
opaque freeValue : Nat → Nat

/-- The bits that fail a burn which a bus write starts: what the world gives such a burn is no operand of
the write (notes/assumptions/3.md). -/
opaque freeBurns : Nat → List (Nat × BitVec 32)

/-- What a register reads that no command reports a value of: a live measurement, or a window whose
selector lies outside its range; by byte address and time (notes/assumptions/3.md). -/
opaque liveReading : Nat → Nat → Nat

/-- The shunt voltage of a feed, µV, signed, by feed and period of the feed controllers' clock: what the world gives
(notes/assumptions/3.md). -/
opaque shuntReading : Nat → Nat → Int

/-- What a phase's power stage reports at PHn_IMON, mV, by phase and period of the PLL's clock: what the world gives
(notes/assumptions/3.md). -/
opaque imonReading : Nat → Nat → Nat

/-- What the digital loop of a rail commands its phase, by the coefficients of CV[r].COMP, phase and period of the PLL's
clock: the spec gives no loop law (R210; notes/assumptions/80.md). -/
opaque loopDrive : Nat → Nat → Nat → Nat

/-- The charger's current is held below its set value for the die temperature (R269), by period of the PLL's clock:
what the world gives (notes/assumptions/3.md). -/
opaque thermHeld : Nat → Bool

/-- SHA-256 over a list of bytes (R305, R325, R359): the standard's function, named by the spec and
not defined by it (notes/assumptions/4.md). -/
opaque sha256 : List Byte → BitVec 256

/-- ECDSA P-256 verification (R305, check 7; R310): public key, digest, signature
(notes/assumptions/4.md). -/
opaque ecdsaVerify : BitVec 512 → BitVec 256 → BitVec 512 → Bool

/-- The hash in a key slot of the KEYS region, from the region's logical words 1 to 63 (R304): the spec
does not say where the eight hashes stand in those words (notes/assumptions/7.md). -/
opaque keyHash : List (BitVec 32) → Nat → BitVec 256

/-- The 16-bit check value of a CHANNEL record (R109, R340): the spec names it and gives no algorithm
(notes/assumptions/9.md). -/
opaque channelCheck : List Byte → BitVec 16

/-- The eight argument bytes of an event (R173, R345) as one number: the spec names the quantities an
event carries, and not where they stand (notes/assumptions/5.md). -/
opaque eventArgs : Nat → List Nat → BitVec 64

end Sys2Proof.Config
end

