-- ==== Sys2Proof/Machine/Codes.lean ====
section
/-! DEFINITION. Machine/Codes.lean: the event codes of R356, of Rigging Image, of Field Update and
of the Two-Wire Host Port. -/
namespace Sys2Proof.Machine

def Ev.ENC_ILLEGAL : Nat := 0x0101
def Ev.COUNT_OVERRUN : Nat := 0x0102
def Ev.SRC_FAIL : Nat := 0x0103
def Ev.SPEED_STALE : Nat := 0x0104
def Ev.YAW_STALE : Nat := 0x0105
def Ev.OVERSPEED : Nat := 0x0106
def Ev.BEACON_STALE : Nat := 0x0107
def Ev.BEACON_LOSS : Nat := 0x0108
def Ev.TIDE_SLIP : Nat := 0x0109
def Ev.HEAD_TAKEOVER : Nat := 0x010A
def Ev.HEAD_DEPOSED : Nat := 0x010B
def Ev.LATE_EDGE : Nat := 0x0201
def Ev.LATE_DROPPED : Nat := 0x0202
def Ev.OVERTAKEN : Nat := 0x0203
def Ev.SUPERSEDED : Nat := 0x0204
def Ev.STORE_FULL : Nat := 0x0205
def Ev.CH_FULL : Nat := 0x0206
def Ev.EDGE_REFUSED : Nat := 0x0207
def Ev.DISCARDED_STATE : Nat := 0x0208
def Ev.DISCARDED_SYNC : Nat := 0x0209
def Ev.FLUSHED : Nat := 0x020A
def Ev.LATENCY_UNLEARNED : Nat := 0x0401
def Ev.LATENCY_LEARNED : Nat := 0x0402
def Ev.SAFE_ENTERED : Nat := 0x0403
def Ev.CYC_WARN : Nat := 0x0404
def Ev.INRUSH_FAIL : Nat := 0x0405
def Ev.OVERLOAD : Nat := 0x0406
def Ev.SHORT : Nat := 0x0407
def Ev.THERMAL : Nat := 0x0408
def Ev.WINDOW_TRIP : Nat := 0x0409
def Ev.RETRY_EXHAUSTED : Nat := 0x040A
def Ev.OPEN_OFF : Nat := 0x040B
def Ev.OPEN_ON : Nat := 0x040C
def Ev.DAMAGE_O : Nat := 0x040D
def Ev.DAMAGE_G : Nat := 0x040E
def Ev.ISO_OPENED : Nat := 0x040F
def Ev.ISO_FAIL : Nat := 0x0410
def Ev.ISO_REFUSED : Nat := 0x0411
def Ev.BANK_DEADMAN : Nat := 0x0412
def Ev.BANK_UCODE : Nat := 0x0413
def Ev.STRIKE : Nat := 0x0414
def Ev.FEED_UV : Nat := 0x0501
def Ev.FEED_OV : Nat := 0x0502
def Ev.FEED_INRUSH_FAIL : Nat := 0x0503
def Ev.FEED_OVERLOAD : Nat := 0x0504
def Ev.FEED_SHORT : Nat := 0x0505
def Ev.FEED_REVERSE : Nat := 0x0506
def Ev.FEED_DAMAGE_O : Nat := 0x0507
def Ev.FEED_DAMAGE_G : Nat := 0x0508
def Ev.FEED_SWITCH : Nat := 0x0509
def Ev.FEED_VERIFY_FAIL : Nat := 0x050A
def Ev.FEED_SELREF : Nat := 0x050B
def Ev.CV_OV : Nat := 0x0601
def Ev.CV_OC : Nat := 0x0602
def Ev.SHED_ABORT : Nat := 0x0603
def Ev.VREF_REF : Nat := 0x0604
def Ev.PREBIAS : Nat := 0x0605
def Ev.IB0V_REF : Nat := 0x0701
def Ev.IO_UV : Nat := 0x0702
def Ev.LD_OC : Nat := 0x0703
def Ev.SEQ_FAULT : Nat := 0x0801
def Ev.SEQ_DONE : Nat := 0x0802
def Ev.POWER_FAIL : Nat := 0x0803
def Ev.PFW_CANCEL : Nat := 0x0804
def Ev.SEQ_OFF_TIMEOUT : Nat := 0x0805
def Ev.ADC_WINDOW : Nat := 0x0901
def Ev.PLAUSIBILITY : Nat := 0x0902
def Ev.XMISS : Nat := 0x0903
def Ev.URG_FULL : Nat := 0x0904
def Ev.ADC_SKIP : Nat := 0x0905
def Ev.WDT_EXPIRY : Nat := 0x0B01
def Ev.WDT_PREWARN : Nat := 0x0B02
def Ev.WDT_REFUSED : Nat := 0x0B03
def Ev.WDT_SURPLUS : Nat := 0x0B04
def Ev.WDT_BAD : Nat := 0x0B05
def Ev.WDT_CLKDEV : Nat := 0x0B06
def Ev.WDT_MONSTOP : Nat := 0x0B07
def Ev.ECC_CORR : Nat := 0x0B08
def Ev.PRIV_FAULT : Nat := 0x0B09
def Ev.BAT_SHORT : Nat := 0x0C01
def Ev.BAT_TIMEOUT : Nat := 0x0C02
def Ev.BAT_OV : Nat := 0x0C03
def Ev.BAT_REMOVED : Nat := 0x0C04
def Ev.BAT_DONE : Nat := 0x0C05
def Ev.BAT_CUTOFF : Nat := 0x0C06
def Ev.WAKEBTN : Nat := 0x0C07
def Ev.LINK_DOWN : Nat := 0x0D01
def Ev.LINK_UP : Nat := 0x0D02
def Ev.LINK_DEGRADED : Nat := 0x0D03
def Ev.RING_BREAK : Nat := 0x0D04
def Ev.RING_HEAL : Nat := 0x0D05
def Ev.TRANS_TIMEOUT : Nat := 0x0D06
def Ev.EVDROP : Nat := 0x0D07
def Ev.ADDR_CONFLICT : Nat := 0x0D08
def Ev.DEV_NEW : Nat := 0x0D09
def Ev.DEV_MISSING : Nat := 0x0D0A
def Ev.DEV_BYPASSED : Nat := 0x0D0B
def Ev.LOAD_OVER : Nat := 0x0D0C
def Ev.STORE_ABSENT : Nat := 0x0E01
def Ev.STORE_UNSUPPORTED : Nat := 0x0E02
def Ev.STORE_DEFER : Nat := 0x0E03
def Ev.LOG_DROPPED : Nat := 0x0E04
def Ev.STORE_TORN : Nat := 0x0E05
def Ev.STORE_GAP : Nat := 0x0E06
def Ev.STORE_BADBLK : Nat := 0x0E07
def Ev.STORE_REPAIRED : Nat := 0x0E08
def Ev.STORE_UNREPAIRED : Nat := 0x0E09
def Ev.STORE_RETIRED : Nat := 0x0E0A
def Ev.STORE_NOSPARE : Nat := 0x0E0B
def Ev.STORE_REWRITE : Nat := 0x0E0C
def Ev.STORE_CRITICAL : Nat := 0x0E0D
def Ev.SCRUB_DONE : Nat := 0x0E0E
def Ev.OTP_DIGEST : Nat := 0x1001
def Ev.OTP_WEAK : Nat := 0x1002
def Ev.FINAL_DONE : Nat := 0x1003
def Ev.OTP_VERIFY : Nat := 0x1004
def Ev.OTP_REPAIRED : Nat := 0x1005
def Ev.OTP_NOSPARE : Nat := 0x1006
def Ev.OTP_REFUSED : Nat := 0x1007
def Ev.LC_BURNED : Nat := 0x1101
def Ev.LC_REFUSED : Nat := 0x1102
def Ev.AUTH_FAIL : Nat := 0x1103
def Ev.BOOT_FALLBACK : Nat := 0x1104
def Ev.BOOT_FAIL : Nat := 0x1105
def Ev.DBG_AUTH : Nat := 0x1106
def Ev.DBG_FAIL : Nat := 0x1107
def Ev.DBG_LOCKOUT : Nat := 0x1108
def Ev.DBG_HALT_SAFE : Nat := 0x1109
def Ev.PWR_REFUSED : Nat := 0x110A
def Ev.RIG_LOADED : Nat := 0x0040
def Ev.RIG_FALLBACK : Nat := 0x0041
def Ev.RIG_FAIL : Nat := 0x0042
def Ev.RIG_CORRUPT : Nat := 0x0043
def Ev.RIG_SKIPPED : Nat := 0x0044
def Ev.UPD_IMAGE_OK : Nat := 0x0F01
def Ev.UPD_IMAGE_BAD : Nat := 0x0F02
def Ev.UPD_ARMED : Nat := 0x0F03
def Ev.UPD_REFUSED : Nat := 0x0F04
def Ev.UPD_POSTPONED : Nat := 0x0F05
def Ev.UPD_ACTIVATED : Nat := 0x0F06
def Ev.UPD_CONFIRMED : Nat := 0x0F07
def Ev.UPD_REVERT : Nat := 0x0F08
def Ev.UPD_NOCOUNT : Nat := 0x0F09
def Ev.BUS_ERR : Nat := 0x1201
def Ev.SCL_TIMEOUT : Nat := 0x1202
def Ev.SDA_STUCK : Nat := 0x1203
def Ev.ARB_LOST : Nat := 0x1204
def Ev.ATT_COLL : Nat := 0x1205
def Ev.WR_DISCARD : Nat := 0x1206

end Sys2Proof.Machine
end

