-- ==== Sys2Proof/Machine/Regs.lean ====
section
/-! DEFINITION. Machine/Regs.lean: every register of the register map (R406), one constant per
register or indexed family and one per named field, from the register summaries and field tables
of the block chapters: address (page × 256 + offset), width, Reset value, and the bits of each
access code (R5). A register's value of reset "IDENT", "OTP", "store", "straps", "journalled" or
"LDEF" stands here as 0 (the straps' as 0x38): the start-up check, the boot and the rigging load
write the value they find. -/
namespace Sys2Proof.Machine

/-- The number of `w` ones. -/
def ones (w : Nat) : Nat := 2 ^ w - 1

/-- A register: its byte address, its width in bits, its Reset value, the masks of its RW and RWL,
W1C, WO and RG bits (every other bit is RO or reserved), and the bits a core reset returns to
Reset (R409–R411). -/
structure Reg where
  addr  : Nat
  width : Nat
  reset : Nat := 0
  rw    : Nat := 0
  w1c   : Nat := 0
  wo    : Nat := 0
  rg    : Nat := 0
  core  : Nat := 0
  deriving DecidableEq, Repr

/-- A field: bits [lo + w − 1 : lo] of a register. -/
structure Field where
  reg : Reg
  lo  : Nat
  w   : Nat
  deriving DecidableEq, Repr

/-! ## Page SYS (0x0, R413, R371) -/

/-- SYS.RIG: Rigging status. -/
def SYS.RIG : Reg := { addr := 0x40, width := 16, w1c := 0xf00 }
@[reducible] def SYS.RIG_RIGGED : Field := ⟨SYS.RIG, 0, 1⟩
@[reducible] def SYS.RIG_SLOT : Field := ⟨SYS.RIG, 1, 1⟩
@[reducible] def SYS.RIG_FELLBACK : Field := ⟨SYS.RIG, 2, 1⟩
@[reducible] def SYS.RIG_LOADING : Field := ⟨SYS.RIG, 3, 1⟩
@[reducible] def SYS.RIG_RIG_FAIL : Field := ⟨SYS.RIG, 8, 1⟩
@[reducible] def SYS.RIG_RIG_FALLBACK : Field := ⟨SYS.RIG, 9, 1⟩
@[reducible] def SYS.RIG_RIG_CORRUPT : Field := ⟨SYS.RIG, 10, 1⟩
@[reducible] def SYS.RIG_RIG_SKIPPED : Field := ⟨SYS.RIG, 11, 1⟩
/-- SYS.RIGERR: Code of the last refusal, R365, R367; 0x00 when no slot was refused at the last load. -/
def SYS.RIGERR : Reg := { addr := 0x42, width := 8 }
/-- SYS.RIGETYPE: TYPE of the record at fault. -/
def SYS.RIGETYPE : Reg := { addr := 0x43, width := 8 }
/-- SYS.RIGEINST: INSTANCE of the record at fault. -/
def SYS.RIGEINST : Reg := { addr := 0x44, width := 8 }
/-- SYS.RIGEOFF: Payload offset of the field at fault. -/
def SYS.RIGEOFF : Reg := { addr := 0x46, width := 16 }
/-- SYS.RIGID: IMGID of the loaded image. -/
def SYS.RIGID : Reg := { addr := 0x48, width := 32 }
/-- SYS.RIGVER: VERSION of the loaded image. -/
def SYS.RIGVER : Reg := { addr := 0x4c, width := 32 }
/-- SYS.RIGFMT: FMT of the loaded image. -/
def SYS.RIGFMT : Reg := { addr := 0x50, width := 16 }
/-- SYS.RIGNREC: Records loaded. -/
def SYS.RIGNREC : Reg := { addr := 0x52, width := 16 }
/-- SYS.RIGSKIP: Optional records skipped. -/
def SYS.RIGSKIP : Reg := { addr := 0x54, width := 16 }
/-- SYS.RIGECC: Corrected configuration errors, saturating. -/
def SYS.RIGECC : Reg := { addr := 0x56, width := 16 }
/-- SYS.RIGCRC: CRC-32C of the configuration at commit. -/
def SYS.RIGCRC : Reg := { addr := 0x58, width := 32 }
/-- SYS.CHVER: Chandler release of the loaded image. -/
def SYS.CHVER : Reg := { addr := 0x5c, width := 32 }
/-- SYS.ID: Part and stepping. -/
def SYS.ID : Reg := { addr := 0x0, width := 32, reset := 0x316000a2 }
@[reducible] def SYS.ID_STEP : Field := ⟨SYS.ID, 0, 16⟩
@[reducible] def SYS.ID_PART : Field := ⟨SYS.ID, 16, 16⟩
/-- SYS.SERIAL: IDENT words 1–2, word 1 in [31:0]. -/
def SYS.SERIAL : Reg := { addr := 0x4, width := 64 }
/-- SYS.FWVER: VERSION of the running firmware bundle, written by the boot ROM (R306). -/
def SYS.FWVER : Reg := { addr := 0xc, width := 32, core := 0xffffffff }
/-- SYS.ISUM: Interrupt summary, one bit per page. -/
def SYS.ISUM : Reg := { addr := 0x10, width := 32 }
@[reducible] def SYS.ISUM_PG : Field := ⟨SYS.ISUM, 0, 20⟩
/-- SYS.IMASKC: Core interrupt enables; written by the core only. -/
def SYS.IMASKC : Reg := { addr := 0x14, width := 32, reset := 0xfffff, rw := 0xfffff }
/-- SYS.IMASKH: IRQ_N enables. -/
def SYS.IMASKH : Reg := { addr := 0x18, width := 32, reset := 0xfffff, rw := 0xfffff }
/-- SYS.ICFG: IRQ_N control. -/
def SYS.ICFG : Reg := { addr := 0x1c, width := 8, reset := 1, rw := 0x1 }
@[reducible] def SYS.ICFG_IRQEN : Field := ⟨SYS.ICFG, 0, 1⟩
/-- SYS.RSTCAUSE: Cause of the last core reset. -/
def SYS.RSTCAUSE : Reg := { addr := 0x1d, width := 8 }
@[reducible] def SYS.RSTCAUSE_KIND : Field := ⟨SYS.RSTCAUSE, 0, 4⟩
@[reducible] def SYS.RSTCAUSE_PORSRC : Field := ⟨SYS.RSTCAUSE, 4, 4⟩
/-- SYS.CORERST: Core resets since power-on reset, saturating; POR domain. -/
def SYS.CORERST : Reg := { addr := 0x1e, width := 16 }
/-- SYS.IRQC: ISUM AND IMASKC. -/
def SYS.IRQC : Reg := { addr := 0x20, width := 32 }
/-- SYS.IRQH: ISUM AND IMASKH. -/
def SYS.IRQH : Reg := { addr := 0x24, width := 32 }

/-! ## Page RCK (0x1, R53) -/

/-- RCK.CFG: Sources and modes. -/
def RCK.CFG : Reg := { addr := 0x100, width := 32, reset := 112, rg := 0x3f77 }
@[reducible] def RCK.CFG_SRC : Field := ⟨RCK.CFG, 0, 3⟩
@[reducible] def RCK.CFG_FALLBK : Field := ⟨RCK.CFG, 4, 3⟩
@[reducible] def RCK.CFG_YAWSRC : Field := ⟨RCK.CFG, 8, 2⟩
@[reducible] def RCK.CFG_REVMODE : Field := ⟨RCK.CFG, 10, 1⟩
@[reducible] def RCK.CFG_LOSSACT : Field := ⟨RCK.CFG, 11, 1⟩
@[reducible] def RCK.CFG_ENCSIDE : Field := ⟨RCK.CFG, 12, 1⟩
@[reducible] def RCK.CFG_RADDIR : Field := ⟨RCK.CFG, 13, 1⟩
@[reducible] def RCK.CFG_ROLE : Field := ⟨RCK.CFG, 16, 2⟩
/-- RCK.MARK: Mark size, µm. -/
def RCK.MARK : Reg := { addr := 0x104, width := 16, reset := 1000, rg := 0xffff }
/-- RCK.KENC0: ENC0 distance per count, 2^-24 mark. -/
def RCK.KENC0 : Reg := { addr := 0x108, width := 32, reset := 0x1000000, rg := 0xffffffff }
/-- RCK.KENC1: ENC1 distance per count. -/
def RCK.KENC1 : Reg := { addr := 0x10c, width := 32, reset := 0x1000000, rg := 0xffffffff }
/-- RCK.KRAD: RADAR distance per pulse. -/
def RCK.KRAD : Reg := { addr := 0x110, width := 32, reset := 0x1000000, rg := 0xffffffff }
/-- RCK.FILT: Input filters. -/
def RCK.FILT : Reg := { addr := 0x114, width := 32, reset := 0x141414, rg := 0x3f3f3f }
@[reducible] def RCK.FILT_TF0 : Field := ⟨RCK.FILT, 0, 6⟩
@[reducible] def RCK.FILT_TF1 : Field := ⟨RCK.FILT, 8, 6⟩
@[reducible] def RCK.FILT_TFR : Field := ⟨RCK.FILT, 16, 6⟩
/-- RCK.TRACK: Track width, mm. -/
def RCK.TRACK : Reg := { addr := 0x118, width := 16, reset := 3000, rg := 0xffff }
/-- RCK.TSLEW: Correction time, µs, 100–10 000. -/
def RCK.TSLEW : Reg := { addr := 0x11a, width := 16, reset := 1000, rg := 0xffff }
/-- RCK.STAT: Status and events. -/
def RCK.STAT : Reg := { addr := 0x11c, width := 32, reset := 2, w1c := 0xff00 }
@[reducible] def RCK.STAT_SYNC : Field := ⟨RCK.STAT, 0, 1⟩
@[reducible] def RCK.STAT_STANDSTILL : Field := ⟨RCK.STAT, 1, 1⟩
@[reducible] def RCK.STAT_REVERSE : Field := ⟨RCK.STAT, 2, 1⟩
@[reducible] def RCK.STAT_FLYWHEEL : Field := ⟨RCK.STAT, 3, 1⟩
@[reducible] def RCK.STAT_OVERSPEED : Field := ⟨RCK.STAT, 4, 1⟩
@[reducible] def RCK.STAT_SPEED_STALE : Field := ⟨RCK.STAT, 5, 1⟩
@[reducible] def RCK.STAT_YAW_STALE : Field := ⟨RCK.STAT, 6, 1⟩
@[reducible] def RCK.STAT_TIDE_LOCK : Field := ⟨RCK.STAT, 7, 1⟩
@[reducible] def RCK.STAT_ENC_ILLEGAL : Field := ⟨RCK.STAT, 8, 1⟩
@[reducible] def RCK.STAT_COUNT_OVERRUN : Field := ⟨RCK.STAT, 9, 1⟩
@[reducible] def RCK.STAT_SRC_FAIL : Field := ⟨RCK.STAT, 10, 1⟩
@[reducible] def RCK.STAT_BEACON_STALE : Field := ⟨RCK.STAT, 11, 1⟩
@[reducible] def RCK.STAT_BEACON_LOSS : Field := ⟨RCK.STAT, 12, 1⟩
@[reducible] def RCK.STAT_TIDE_SLIP : Field := ⟨RCK.STAT, 13, 1⟩
@[reducible] def RCK.STAT_HEAD_TAKEOVER : Field := ⟨RCK.STAT, 14, 1⟩
@[reducible] def RCK.STAT_HEAD_DEPOSED : Field := ⟨RCK.STAT, 15, 1⟩
/-- RCK.RECK: Local reckoning, R8. -/
def RCK.RECK : Reg := { addr := 0x120, width := 48 }
/-- RCK.TIDE: Local tide. -/
def RCK.TIDE : Reg := { addr := 0x128, width := 64 }
/-- RCK.SPEED: Speed, µm/s. -/
def RCK.SPEED : Reg := { addr := 0x130, width := 32 }
/-- RCK.YAW: Yaw rate, µrad/s, signed. -/
def RCK.YAW : Reg := { addr := 0x134, width := 32 }
/-- RCK.RATE: Extrapolation rate, 2^-32 mark per tick. -/
def RCK.RATE : Reg := { addr := 0x138, width := 32 }
/-- RCK.ERR: Last correction error, 1/256 mark, signed. -/
def RCK.ERR : Reg := { addr := 0x13c, width := 16 }
/-- RCK.REV: Total reverse travel, R8. -/
def RCK.REV : Reg := { addr := 0x140, width := 48 }
/-- RCK.REVDEF: Reverse deficit, 1/256 mark. -/
def RCK.REVDEF : Reg := { addr := 0x148, width := 32 }
/-- RCK.REVTHR: REVERSE threshold, marks. -/
def RCK.REVTHR : Reg := { addr := 0x14c, width := 16, reset := 8, rg := 0xffff }
/-- RCK.HTO: Host value timeout, ms, 1–1000. -/
def RCK.HTO : Reg := { addr := 0x14e, width := 16, reset := 100, rg := 0xffff }
/-- RCK.HSPEED: Host speed, µm/s. -/
def RCK.HSPEED : Reg := { addr := 0x150, width := 32, rw := 0xffffffff }
/-- RCK.HYAW: Host yaw, µrad/s, signed. -/
def RCK.HYAW : Reg := { addr := 0x154, width := 32, rw := 0xffffffff }
/-- RCK.HDIR: Bit [0]: 0 forward, 1 reverse. -/
def RCK.HDIR : Reg := { addr := 0x158, width := 8, rw := 0x1 }
@[reducible] def RCK.HDIR_REVERSE : Field := ⟨RCK.HDIR, 0, 1⟩
/-- RCK.SRCRST: Bit [0]: restore failed source, R36. -/
def RCK.SRCRST : Reg := { addr := 0x159, width := 8, wo := 0xff }
/-- RCK.AMAX: Maximum beacon age, µs, 10–600. -/
def RCK.AMAX : Reg := { addr := 0x15a, width := 16, reset := 100, rg := 0xffff }
/-- RCK.FLYTO: Flywheel limit, ms, 2–1000. -/
def RCK.FLYTO : Reg := { addr := 0x15c, width := 16, reset := 20, rg := 0xffff }
/-- RCK.ILLCNT: Illegal transitions, saturating. -/
def RCK.ILLCNT : Reg := { addr := 0x15e, width := 16 }
/-- RCK.CNT0: ENC0 counts, signed, wrapping. -/
def RCK.CNT0 : Reg := { addr := 0x160, width := 32 }
/-- RCK.CNT1: ENC1 counts, signed, wrapping. -/
def RCK.CNT1 : Reg := { addr := 0x164, width := 32 }
/-- RCK.CNTR: RADAR pulses, wrapping. -/
def RCK.CNTR : Reg := { addr := 0x168, width := 32 }
/-- RCK.BAGE: Age of last valid beacon, 10 ns. -/
def RCK.BAGE : Reg := { addr := 0x16c, width := 16 }
/-- RCK.HEAD: Bits [11:0]: head address. -/
def RCK.HEAD : Reg := { addr := 0x16e, width := 16 }
@[reducible] def RCK.HEAD_ADDR : Field := ⟨RCK.HEAD, 0, 12⟩
/-- RCK.EPOCH: Highest accepted epoch. -/
def RCK.EPOCH : Reg := { addr := 0x170, width := 16 }
/-- RCK.STALECNT: Stale beacons, saturating. -/
def RCK.STALECNT : Reg := { addr := 0x172, width := 16 }
/-- RCK.CAP: Bit [0]: capture RECK and TIDE. -/
def RCK.CAP : Reg := { addr := 0x174, width := 8, wo := 0xff }
/-- RCK.CAPRECK: Captured reckoning. -/
def RCK.CAPRECK : Reg := { addr := 0x178, width := 48 }
/-- RCK.CAPTIDE: Captured tide. -/
def RCK.CAPTIDE : Reg := { addr := 0x180, width := 64 }

/-! ## Page EDGE (0x2, R84) -/

/-- EDGE.WIN: Edge window, R60. -/
def EDGE.WIN : Reg := { addr := 0x200, width := 128, rw := ones 128 }
/-- EDGE.WRES: Result of last submission. -/
def EDGE.WRES : Reg := { addr := 0x210, width := 32 }
@[reducible] def EDGE.WRES_CODE : Field := ⟨EDGE.WRES, 0, 8⟩
@[reducible] def EDGE.WRES_ENTRIES : Field := ⟨EDGE.WRES, 16, 8⟩
@[reducible] def EDGE.WRES_NLATE : Field := ⟨EDGE.WRES, 24, 8⟩
/-- EDGE.WLATE: Largest lateness of last submission, 1/256 mark. -/
def EDGE.WLATE : Reg := { addr := 0x214, width := 32 }
/-- EDGE.CFG: Late policies and limit. -/
def EDGE.CFG : Reg := { addr := 0x218, width := 32, rg := 0xffff00ff }
@[reducible] def EDGE.CFG_LP_RING : Field := ⟨EDGE.CFG, 0, 2⟩
@[reducible] def EDGE.CFG_LP_CORE : Field := ⟨EDGE.CFG, 2, 2⟩
@[reducible] def EDGE.CFG_LP_HOST : Field := ⟨EDGE.CFG, 4, 2⟩
@[reducible] def EDGE.CFG_LP_SVC : Field := ⟨EDGE.CFG, 6, 2⟩
@[reducible] def EDGE.CFG_LMAX : Field := ⟨EDGE.CFG, 16, 16⟩
/-- EDGE.STAT: Events. -/
def EDGE.STAT : Reg := { addr := 0x21c, width := 32, w1c := 0xff }
@[reducible] def EDGE.STAT_LATE_EDGE : Field := ⟨EDGE.STAT, 0, 1⟩
@[reducible] def EDGE.STAT_LATE_DROPPED : Field := ⟨EDGE.STAT, 1, 1⟩
@[reducible] def EDGE.STAT_SUPERSEDED : Field := ⟨EDGE.STAT, 2, 1⟩
@[reducible] def EDGE.STAT_OVERTAKEN : Field := ⟨EDGE.STAT, 3, 1⟩
@[reducible] def EDGE.STAT_STORE_FULL : Field := ⟨EDGE.STAT, 4, 1⟩
@[reducible] def EDGE.STAT_CH_FULL : Field := ⟨EDGE.STAT, 5, 1⟩
@[reducible] def EDGE.STAT_EDGE_REFUSED : Field := ⟨EDGE.STAT, 6, 1⟩
@[reducible] def EDGE.STAT_DISCARDED : Field := ⟨EDGE.STAT, 7, 1⟩
/-- EDGE.USED: Entries in use, 0–2048. -/
def EDGE.USED : Reg := { addr := 0x220, width := 16 }
/-- EDGE.PEAK: Highest USED since last written. -/
def EDGE.PEAK : Reg := { addr := 0x222, width := 16, rw := 0xffff }
/-- EDGE.CNTFIRED: Entries fired. -/
def EDGE.CNTFIRED : Reg := { addr := 0x224, width := 32 }
/-- EDGE.CNTLATE: Entries fired late. -/
def EDGE.CNTLATE : Reg := { addr := 0x228, width := 32 }
/-- EDGE.CNTLDROP: Entries dropped late. -/
def EDGE.CNTLDROP : Reg := { addr := 0x22c, width := 32 }
/-- EDGE.CNTSUP: SUPERSEDED. -/
def EDGE.CNTSUP : Reg := { addr := 0x230, width := 32 }
/-- EDGE.CNTOVT: OVERTAKEN. -/
def EDGE.CNTOVT : Reg := { addr := 0x234, width := 32 }
/-- EDGE.CNTREF: Edges refused. -/
def EDGE.CNTREF : Reg := { addr := 0x238, width := 32 }
/-- EDGE.CNTDISC: Entries discarded by state, sync loss or flush. -/
def EDGE.CNTDISC : Reg := { addr := 0x23c, width := 32 }
/-- EDGE.LASTLATE: Largest lateness of last late edge, any source. -/
def EDGE.LASTLATE : Reg := { addr := 0x240, width := 32 }
/-- EDGE.LASTLCH: Bits [7:0]: channel of that lateness. -/
def EDGE.LASTLCH : Reg := { addr := 0x244, width := 16 }
@[reducible] def EDGE.LASTLCH_CH : Field := ⟨EDGE.LASTLCH, 0, 8⟩
/-- EDGE.LASTLSRC: Bits [2:0]: its source. -/
def EDGE.LASTLSRC : Reg := { addr := 0x246, width := 8 }
@[reducible] def EDGE.LASTLSRC_SRC : Field := ⟨EDGE.LASTLSRC, 0, 3⟩
/-- EDGE.FLUSH: R64. -/
def EDGE.FLUSH : Reg := { addr := 0x248, width := 32, wo := 0xf0fff }
@[reducible] def EDGE.FLUSH_INDEX : Field := ⟨EDGE.FLUSH, 0, 10⟩
@[reducible] def EDGE.FLUSH_TTYPE : Field := ⟨EDGE.FLUSH, 10, 2⟩
@[reducible] def EDGE.FLUSH_SRCMASK : Field := ⟨EDGE.FLUSH, 16, 4⟩
/-- EDGE.QCH: Channel to inspect, 0–159. -/
def EDGE.QCH : Reg := { addr := 0x24c, width := 8, rw := 0xff }
/-- EDGE.QPEND: Entries pending on QCH, 0–16. -/
def EDGE.QPEND : Reg := { addr := 0x24d, width := 8 }
/-- EDGE.DC: Centring term in use, 10 ns units: 100 or 140. -/
def EDGE.DC : Reg := { addr := 0x24e, width := 16, reset := 100 }
/-- EDGE.QNEXT: Lowest F_eff pending on QCH; 0 if none. -/
def EDGE.QNEXT : Reg := { addr := 0x250, width := 48 }

/-! ## Page SECT (0x3, R85) -/

/-- SECT.RIDX: Bits [9:0]: ring section ID to inspect. -/
def SECT.RIDX : Reg := { addr := 0x300, width := 16, rw := 0x3ff }
/-- SECT.RMAP: Bits [5:0]: local section of RIDX; bit [7]: VALID; bit [6] reserved. -/
def SECT.RMAP : Reg := { addr := 0x302, width := 8 }
@[reducible] def SECT.RMAP_LSECT : Field := ⟨SECT.RMAP, 0, 6⟩
@[reducible] def SECT.RMAP_VALID : Field := ⟨SECT.RMAP, 7, 1⟩
/-- SECT.LIDX: Bits [5:0]: local section to inspect. -/
def SECT.LIDX : Reg := { addr := 0x304, width := 8, rw := 0x3f }
/-- SECT.LCOUNT: Member channels of LIDX, 0–160. -/
def SECT.LCOUNT : Reg := { addr := 0x305, width := 8 }
/-- SECT.LMASK0: Members CH000–CH031 of LIDX, bit n = CHn. -/
def SECT.LMASK0 : Reg := { addr := 0x308, width := 32 }
/-- SECT.LMASK1: CH032–CH063. -/
def SECT.LMASK1 : Reg := { addr := 0x30c, width := 32 }
/-- SECT.LMASK2: CH064–CH095. -/
def SECT.LMASK2 : Reg := { addr := 0x310, width := 32 }
/-- SECT.LMASK3: CH096–CH127. -/
def SECT.LMASK3 : Reg := { addr := 0x314, width := 32 }
/-- SECT.LMASK4: CH128–CH159. -/
def SECT.LMASK4 : Reg := { addr := 0x318, width := 32 }
/-- SECT.ON: Bit s: any member of local section s on, R67. -/
def SECT.ON : Reg := { addr := 0x320, width := 64 }
/-- SECT.ALL: Bit s: every member on. -/
def SECT.ALL : Reg := { addr := 0x328, width := 64 }
/-- SECT.RIGGED: Bit s: local section s rigged with at least one channel. -/
def SECT.RIGGED : Reg := { addr := 0x330, width := 64 }
/-- SECT.UNMAPCNT: Unmapped ring-section edges, wrapping. -/
def SECT.UNMAPCNT : Reg := { addr := 0x338, width := 32 }
/-- SECT.STAT: Section status. -/
def SECT.STAT : Reg := { addr := 0x33c, width := 8 }
@[reducible] def SECT.STAT_ANYON : Field := ⟨SECT.STAT, 0, 1⟩

/-! ## Page BANK (0x4, R139, R115) -/

/-- BANK.KTB[m], m = 0–19: Bits [22:0]: PERIOD, 40 ns ticks, R90; bits [31:23] reserved. -/
def BANK.KTB (i : Nat) : Reg :=
  { addr := 0x480 + 0x4 * i, width := 32, reset := 0x3d090, rg := 0x7fffff }
@[reducible] def BANK.KTB_PERIOD (i : Nat) : Field := ⟨BANK.KTB i, 0, 23⟩
/-- BANK.SAFEREL: Bit [0] ALL: release every channel's SAFE, R111. -/
def BANK.SAFEREL : Reg := { addr := 0x4d0, width := 8, wo := 0xff }
/-- BANK.GIDX: Channel shown, 0–159. -/
def BANK.GIDX : Reg := { addr := 0x4e0, width := 8, rw := 0xff }
/-- BANK.GSTAG: Stagger S of GIDX, signed, 1/256 mark (R68). -/
def BANK.GSTAG : Reg := { addr := 0x4e4, width := 32, rg := 0xffffffff }
/-- BANK.GLAT: Lateral position y of GIDX, signed, mm. -/
def BANK.GLAT : Reg := { addr := 0x4e8, width := 16, rg := 0xffff }
/-- BANK.GLDEFON: ON default latency, µs. -/
def BANK.GLDEFON : Reg := { addr := 0x4ea, width := 16, rg := 0xffff }
/-- BANK.GLDEFOFF: OFF default latency, µs. -/
def BANK.GLDEFOFF : Reg := { addr := 0x4ec, width := 16, rg := 0xffff }
/-- BANK.GLMINON: ON lower bound, µs. -/
def BANK.GLMINON : Reg := { addr := 0x4ee, width := 16, rg := 0xffff }
/-- BANK.GLMINOFF: OFF lower bound, µs. -/
def BANK.GLMINOFF : Reg := { addr := 0x4f0, width := 16, rg := 0xffff }
/-- BANK.GLMAXON: ON upper bound, µs. -/
def BANK.GLMAXON : Reg := { addr := 0x4f2, width := 16, rg := 0xffff }
/-- BANK.GLMAXOFF: OFF upper bound, µs. -/
def BANK.GLMAXOFF : Reg := { addr := 0x4f4, width := 16, rg := 0xffff }
/-- BANK.STRIKECMD: Assert and release, R133, R135. -/
def BANK.STRIKECMD : Reg := { addr := 0x400, width := 8, wo := 0x3 }
@[reducible] def BANK.STRIKECMD_ASSERT : Field := ⟨BANK.STRIKECMD, 0, 1⟩
@[reducible] def BANK.STRIKECMD_RELEASE : Field := ⟨BANK.STRIKECMD, 1, 1⟩
/-- BANK.STRIKESTAT: STRIKE status. -/
def BANK.STRIKESTAT : Reg := { addr := 0x401, width := 8, w1c := 0x7c }
@[reducible] def BANK.STRIKESTAT_ACTIVE : Field := ⟨BANK.STRIKESTAT, 0, 1⟩
@[reducible] def BANK.STRIKESTAT_PIN : Field := ⟨BANK.STRIKESTAT, 1, 1⟩
@[reducible] def BANK.STRIKESTAT_SRC_PIN : Field := ⟨BANK.STRIKESTAT, 2, 1⟩
@[reducible] def BANK.STRIKESTAT_SRC_RING : Field := ⟨BANK.STRIKESTAT, 3, 1⟩
@[reducible] def BANK.STRIKESTAT_SRC_REG : Field := ⟨BANK.STRIKESTAT, 4, 1⟩
@[reducible] def BANK.STRIKESTAT_SRC_INT : Field := ⟨BANK.STRIKESTAT, 5, 1⟩
@[reducible] def BANK.STRIKESTAT_RELREF : Field := ⟨BANK.STRIKESTAT, 6, 1⟩
/-- BANK.STRIKECFG: Ring sending and receiving, R136. -/
def BANK.STRIKECFG : Reg := { addr := 0x402, width := 8, reset := 3, rg := 0x3 }
@[reducible] def BANK.STRIKECFG_RINGTX : Field := ⟨BANK.STRIKECFG, 0, 1⟩
@[reducible] def BANK.STRIKECFG_RINGRX : Field := ⟨BANK.STRIKECFG, 1, 1⟩
/-- BANK.STRIKECNT: Assertions, saturating. -/
def BANK.STRIKECNT : Reg := { addr := 0x404, width := 16 }
/-- BANK.RETRYBASE: Back-off base B, ms, 1–1000. -/
def BANK.RETRYBASE : Reg := { addr := 0x406, width := 16, reset := 10, rg := 0xffff }
/-- BANK.STRIKETIDE: Tide of the last assertion. -/
def BANK.STRIKETIDE : Reg := { addr := 0x408, width := 64 }
/-- BANK.PSTAT: Protection events, any bank. -/
def BANK.PSTAT : Reg := { addr := 0x410, width := 32, w1c := 0x3fff }
@[reducible] def BANK.PSTAT_INRUSH_FAIL : Field := ⟨BANK.PSTAT, 0, 1⟩
@[reducible] def BANK.PSTAT_OVERLOAD : Field := ⟨BANK.PSTAT, 1, 1⟩
@[reducible] def BANK.PSTAT_SHORT : Field := ⟨BANK.PSTAT, 2, 1⟩
@[reducible] def BANK.PSTAT_THERMAL : Field := ⟨BANK.PSTAT, 3, 1⟩
@[reducible] def BANK.PSTAT_WINDOW_TRIP : Field := ⟨BANK.PSTAT, 4, 1⟩
@[reducible] def BANK.PSTAT_DAMAGE_O : Field := ⟨BANK.PSTAT, 5, 1⟩
@[reducible] def BANK.PSTAT_DAMAGE_G : Field := ⟨BANK.PSTAT, 6, 1⟩
@[reducible] def BANK.PSTAT_RETRY_EXHAUSTED : Field := ⟨BANK.PSTAT, 7, 1⟩
@[reducible] def BANK.PSTAT_OPEN_OFF : Field := ⟨BANK.PSTAT, 8, 1⟩
@[reducible] def BANK.PSTAT_OPEN_ON : Field := ⟨BANK.PSTAT, 9, 1⟩
@[reducible] def BANK.PSTAT_STRIKE : Field := ⟨BANK.PSTAT, 10, 1⟩
@[reducible] def BANK.PSTAT_ISO_OPENED : Field := ⟨BANK.PSTAT, 11, 1⟩
@[reducible] def BANK.PSTAT_BANK_DEADMAN : Field := ⟨BANK.PSTAT, 12, 1⟩
@[reducible] def BANK.PSTAT_BANK_UCODE : Field := ⟨BANK.PSTAT, 13, 1⟩
/-- BANK.STAT[m]: Bank status. -/
def BANK.STAT (i : Nat) : Reg :=
  { addr := 0x420 + 0x18 * i, width := 16, reset := 1, w1c := 0x1f0, rg := 0x4 }
@[reducible] def BANK.STAT_HELD (i : Nat) : Field := ⟨BANK.STAT i, 0, 1⟩
@[reducible] def BANK.STAT_ISO (i : Nat) : Field := ⟨BANK.STAT i, 1, 1⟩
@[reducible] def BANK.STAT_NOISO (i : Nat) : Field := ⟨BANK.STAT i, 2, 1⟩
@[reducible] def BANK.STAT_UCODE_OK (i : Nat) : Field := ⟨BANK.STAT i, 3, 1⟩
@[reducible] def BANK.STAT_DEADMAN (i : Nat) : Field := ⟨BANK.STAT i, 4, 1⟩
@[reducible] def BANK.STAT_UCODE_FAIL (i : Nat) : Field := ⟨BANK.STAT i, 5, 1⟩
@[reducible] def BANK.STAT_ISO_OPENED (i : Nat) : Field := ⟨BANK.STAT i, 6, 1⟩
@[reducible] def BANK.STAT_ISO_FAIL (i : Nat) : Field := ⟨BANK.STAT i, 7, 1⟩
@[reducible] def BANK.STAT_ISO_REFUSED (i : Nat) : Field := ⟨BANK.STAT i, 8, 1⟩
/-- BANK.LINKERR[m]: Failed link frames, saturating, R17. -/
def BANK.LINKERR (i : Nat) : Reg := { addr := 0x422 + 0x18 * i, width := 16 }
/-- BANK.UCTHR[m]: Undercurrent threshold, mA, 10–4000, R128. -/
def BANK.UCTHR (i : Nat) : Reg :=
  { addr := 0x424 + 0x18 * i, width := 16, reset := 50, rg := 0xffff }
/-- BANK.ISOCTL[m]: Isolator command, R132. -/
def BANK.ISOCTL (i : Nat) : Reg := { addr := 0x426 + 0x18 * i, width := 8, wo := 0x3 }
@[reducible] def BANK.ISOCTL_OPEN (i : Nat) : Field := ⟨BANK.ISOCTL i, 0, 1⟩
@[reducible] def BANK.ISOCTL_CLOSE (i : Nat) : Field := ⟨BANK.ISOCTL i, 1, 1⟩
/-- BANK.TRIPS[m]: Bits [39:0]: bit i is the trip, latched or awaiting a retry, of CH(40m + i); for a gang, set on the lead only (R123, R125); [63:40] reserved. -/
def BANK.TRIPS (i : Nat) : Reg := { addr := 0x428 + 0x18 * i, width := 64, w1c := 0xffffffffff }
/-- BANK.OPEN[m]: Bits [39:0]: bit i is open load on CH(40m + i); [63:40] reserved. -/
def BANK.OPEN (i : Nat) : Reg := { addr := 0x430 + 0x18 * i, width := 64, w1c := 0xffffffffff }

/-! ## Page FEED (0x5, R207) -/

/-- FEED.CFG: Priority and revert. -/
def FEED.CFG : Reg := { addr := 0x500, width := 16, reset := 2560, rg := 0xff03 }
@[reducible] def FEED.CFG_PRI : Field := ⟨FEED.CFG, 0, 1⟩
@[reducible] def FEED.CFG_REVERT : Field := ⟨FEED.CFG, 1, 1⟩
@[reducible] def FEED.CFG_RVT : Field := ⟨FEED.CFG, 8, 8⟩
/-- FEED.CMD: Manual selection, R201. -/
def FEED.CMD : Reg := { addr := 0x502, width := 8, wo := 0x3 }
@[reducible] def FEED.CMD_SELA : Field := ⟨FEED.CMD, 0, 1⟩
@[reducible] def FEED.CMD_SELB : Field := ⟨FEED.CMD, 1, 1⟩
/-- FEED.STAT: Selection status. -/
def FEED.STAT : Reg := { addr := 0x504, width := 16, w1c := 0x700 }
@[reducible] def FEED.STAT_ACTIVE : Field := ⟨FEED.STAT, 0, 2⟩
@[reducible] def FEED.STAT_SWITCHING : Field := ⟨FEED.STAT, 2, 1⟩
@[reducible] def FEED.STAT_MANUAL : Field := ⟨FEED.STAT, 3, 1⟩
@[reducible] def FEED.STAT_FEED_SWITCH : Field := ⟨FEED.STAT, 8, 1⟩
@[reducible] def FEED.STAT_VERIFY_FAIL : Field := ⟨FEED.STAT, 9, 1⟩
@[reducible] def FEED.STAT_SELREF : Field := ⟨FEED.STAT, 10, 1⟩
/-- FEED.LASTGAP: Last gap, 10 ns, R203. -/
def FEED.LASTGAP : Reg := { addr := 0x506, width := 16 }
/-- FEED.SWCNT: Switchovers, saturating. -/
def FEED.SWCNT : Reg := { addr := 0x508, width := 16 }
/-- FEED.VBUS: VBUS, 10 mV. -/
def FEED.VBUS : Reg := { addr := 0x50a, width := 16 }
/-- FEED.FCFG: Feed configuration. -/
def FEED.FCFG (i : Nat) : Reg :=
  { addr := 0x510 + 0x20 * i, width := 32, reset := 0xa0a1419, rg := 0xffffff3f }
@[reducible] def FEED.FCFG_FS (i : Nat) : Field := ⟨FEED.FCFG i, 0, 2⟩
@[reducible] def FEED.FCFG_RETRY (i : Nat) : Field := ⟨FEED.FCFG i, 2, 1⟩
@[reducible] def FEED.FCFG_DMG (i : Nat) : Field := ⟨FEED.FCFG i, 3, 2⟩
@[reducible] def FEED.FCFG_DREACT (i : Nat) : Field := ⟨FEED.FCFG i, 5, 1⟩
@[reducible] def FEED.FCFG_TINR (i : Nat) : Field := ⟨FEED.FCFG i, 8, 8⟩
@[reducible] def FEED.FCFG_TFLT (i : Nat) : Field := ⟨FEED.FCFG i, 16, 8⟩
@[reducible] def FEED.FCFG_QUAL (i : Nat) : Field := ⟨FEED.FCFG i, 24, 8⟩
/-- FEED.VLIM: [9:0] current limit, 50 µV, 20–1000. -/
def FEED.VLIM (i : Nat) : Reg :=
  { addr := 0x514 + 0x20 * i, width := 16, reset := 400, rg := 0x3ff }
/-- FEED.VINR: [9:0] inrush limit, 50 µV, 20–1000. -/
def FEED.VINR (i : Nat) : Reg := { addr := 0x516 + 0x20 * i, width := 16, reset := 40, rg := 0x3ff }
/-- FEED.UV: Undervoltage, 10 mV, 500–3200. -/
def FEED.UV (i : Nat) : Reg := { addr := 0x518 + 0x20 * i, width := 16, reset := 600, rg := 0xffff }
/-- FEED.OV: Overvoltage, 10 mV, 700–3800; OV ≤ UV + 2 × HYS refused. -/
def FEED.OV (i : Nat) : Reg :=
  { addr := 0x51a + 0x20 * i, width := 16, reset := 3200, rg := 0xffff }
/-- FEED.HYS: Hysteresis, 10 mV, 5–200. -/
def FEED.HYS (i : Nat) : Reg := { addr := 0x51c + 0x20 * i, width := 8, reset := 30, rg := 0xff }
/-- FEED.FILT: UV and OV filter, µs, 1–100. -/
def FEED.FILT (i : Nat) : Reg := { addr := 0x51d + 0x20 * i, width := 8, reset := 4, rg := 0xff }
/-- FEED.RSH: Shunt resistance, µΩ, 100–10 000. -/
def FEED.RSH (i : Nat) : Reg :=
  { addr := 0x51e + 0x20 * i, width := 16, reset := 1000, rg := 0xffff }
/-- FEED.FSTAT: Feed status and events. -/
def FEED.FSTAT (i : Nat) : Reg :=
  { addr := 0x520 + 0x20 * i, width := 16, reset := 16, w1c := 0xff00 }
@[reducible] def FEED.FSTAT_QUALIFIED (i : Nat) : Field := ⟨FEED.FSTAT i, 0, 1⟩
@[reducible] def FEED.FSTAT_ON (i : Nat) : Field := ⟨FEED.FSTAT i, 1, 1⟩
@[reducible] def FEED.FSTAT_LIMIT (i : Nat) : Field := ⟨FEED.FSTAT i, 2, 1⟩
@[reducible] def FEED.FSTAT_INRUSH (i : Nat) : Field := ⟨FEED.FSTAT i, 3, 1⟩
@[reducible] def FEED.FSTAT_AVAIL (i : Nat) : Field := ⟨FEED.FSTAT i, 4, 1⟩
@[reducible] def FEED.FSTAT_LATCHED (i : Nat) : Field := ⟨FEED.FSTAT i, 5, 1⟩
@[reducible] def FEED.FSTAT_FEED_UV (i : Nat) : Field := ⟨FEED.FSTAT i, 8, 1⟩
@[reducible] def FEED.FSTAT_FEED_OV (i : Nat) : Field := ⟨FEED.FSTAT i, 9, 1⟩
@[reducible] def FEED.FSTAT_FEED_INRUSH_FAIL (i : Nat) : Field := ⟨FEED.FSTAT i, 10, 1⟩
@[reducible] def FEED.FSTAT_FEED_OVERLOAD (i : Nat) : Field := ⟨FEED.FSTAT i, 11, 1⟩
@[reducible] def FEED.FSTAT_FEED_SHORT (i : Nat) : Field := ⟨FEED.FSTAT i, 12, 1⟩
@[reducible] def FEED.FSTAT_FEED_REVERSE (i : Nat) : Field := ⟨FEED.FSTAT i, 13, 1⟩
@[reducible] def FEED.FSTAT_FEED_DAMAGE_O (i : Nat) : Field := ⟨FEED.FSTAT i, 14, 1⟩
@[reducible] def FEED.FSTAT_FEED_DAMAGE_G (i : Nat) : Field := ⟨FEED.FSTAT i, 15, 1⟩
/-- FEED.VIN: Harness voltage, 10 mV. -/
def FEED.VIN (i : Nat) : Reg := { addr := 0x522 + 0x20 * i, width := 16 }
/-- FEED.IMEAS: Current, 10 mA, signed. -/
def FEED.IMEAS (i : Nat) : Reg := { addr := 0x524 + 0x20 * i, width := 16 }
/-- FEED.VGS: Gate-source voltage, 0.1 V. -/
def FEED.VGS (i : Nat) : Reg := { addr := 0x526 + 0x20 * i, width := 8 }
/-- FEED.CLR: [0] TRIP: clear latched trip and out-of-service, R198, R200. -/
def FEED.CLR (i : Nat) : Reg := { addr := 0x527 + 0x20 * i, width := 8, wo := 0xff }
/-- FEED.FTMR: Fault timer, 0.1 ms. -/
def FEED.FTMR (i : Nat) : Reg := { addr := 0x528 + 0x20 * i, width := 16 }

/-! ## Page CV (0x6, R226) -/

/-- CV.PHACT: Bit n: PHn active. -/
def CV.PHACT : Reg := { addr := 0x600, width := 8 }
/-- CV.PHLIM: Bit n: PHn in limit last period, R216. -/
def CV.PHLIM : Reg := { addr := 0x601, width := 8 }
/-- CV.PHFLT: Bit n: IMON out of range, R217; cleared at the rail's next start. -/
def CV.PHFLT : Reg := { addr := 0x602, width := 8 }
/-- CV.CFG: Assignment and thresholds. -/
def CV.CFG (i : Nat) : Reg :=
  { addr := 0x610 + 0x30 * i, width := 32, reset := 0xa5313200, rg := 0xfffffff7 }
@[reducible] def CV.CFG_FIRST (i : Nat) : Field := ⟨CV.CFG i, 0, 3⟩
@[reducible] def CV.CFG_NPH (i : Nat) : Field := ⟨CV.CFG i, 4, 4⟩
@[reducible] def CV.CFG_FSW (i : Nat) : Field := ⟨CV.CFG i, 8, 8⟩
@[reducible] def CV.CFG_MINPH (i : Nat) : Field := ⟨CV.CFG i, 16, 3⟩
@[reducible] def CV.CFG_STOP (i : Nat) : Field := ⟨CV.CFG i, 19, 1⟩
@[reducible] def CV.CFG_BRK (i : Nat) : Field := ⟨CV.CFG i, 20, 4⟩
@[reducible] def CV.CFG_PGW (i : Nat) : Field := ⟨CV.CFG i, 24, 4⟩
@[reducible] def CV.CFG_OVF (i : Nat) : Field := ⟨CV.CFG i, 28, 4⟩
/-- CV.VREF: Target REF_T, mV, R212. -/
def CV.VREF (i : Nat) : Reg := { addr := 0x614 + 0x30 * i, width := 16, reset := 400, rw := 0xffff }
/-- CV.SLEW: Retarget rate, 0.1 mV/µs, 1–500; other values refused, R212. -/
def CV.SLEW (i : Nat) : Reg := { addr := 0x616 + 0x30 * i, width := 16, reset := 10, rw := 0xffff }
/-- CV.SSLEW: Soft-start and stop rate, 0.1 mV/µs, 1–500. -/
def CV.SSLEW (i : Nat) : Reg := { addr := 0x618 + 0x30 * i, width := 16, reset := 5, rg := 0xffff }
/-- CV.VMIN: Lowest target accepted, mV. -/
def CV.VMIN (i : Nat) : Reg := { addr := 0x61a + 0x30 * i, width := 16, reset := 400, rg := 0xffff }
/-- CV.VMAX: Highest target accepted, mV. -/
def CV.VMAX (i : Nat) : Reg :=
  { addr := 0x61c + 0x30 * i, width := 16, reset := 1600, rg := 0xffff }
/-- CV.SETTLE: PG settling time, µs, 10–1000, R215. -/
def CV.SETTLE (i : Nat) : Reg :=
  { addr := 0x61e + 0x30 * i, width := 16, reset := 50, rg := 0xffff }
/-- CV.ILIM: Per-phase limit, 0.1 A, 10–1000. -/
def CV.ILIM (i : Nat) : Reg := { addr := 0x620 + 0x30 * i, width := 16, reset := 200, rg := 0xffff }
/-- CV.IMGAIN: IMON gain, µV/A, 500–20 000. -/
def CV.IMGAIN (i : Nat) : Reg :=
  { addr := 0x622 + 0x30 * i, width := 16, reset := 5000, rg := 0xffff }
/-- CV.IADD: Add threshold per phase, 0.1 A. -/
def CV.IADD (i : Nat) : Reg := { addr := 0x624 + 0x30 * i, width := 16, reset := 200, rg := 0xffff }
/-- CV.ISHED: Shed threshold per phase, 0.1 A. -/
def CV.ISHED (i : Nat) : Reg :=
  { addr := 0x626 + 0x30 * i, width := 16, reset := 100, rg := 0xffff }
/-- CV.SHOLD: Shed hold and hold-off, ms, 1–1000. -/
def CV.SHOLD (i : Nat) : Reg := { addr := 0x628 + 0x30 * i, width := 16, reset := 10, rg := 0xffff }
/-- CV.TOC: Overcurrent timer, 0.1 ms, 1–100. -/
def CV.TOC (i : Nat) : Reg := { addr := 0x62a + 0x30 * i, width := 16, reset := 20, rg := 0xffff }
/-- CV.COMP: Loop coefficients in the format Rigging Image defines. -/
def CV.COMP (i : Nat) : Reg := { addr := 0x62c + 0x30 * i, width := 32, rg := 0xffffffff }
@[reducible] def CV.COMP_KP (i : Nat) : Field := ⟨CV.COMP i, 0, 10⟩
@[reducible] def CV.COMP_KI (i : Nat) : Field := ⟨CV.COMP i, 10, 10⟩
@[reducible] def CV.COMP_KD (i : Nat) : Field := ⟨CV.COMP i, 20, 10⟩
@[reducible] def CV.COMP_SCALE (i : Nat) : Field := ⟨CV.COMP i, 30, 2⟩
/-- CV.STAT: Rail status. -/
def CV.STAT (i : Nat) : Reg := { addr := 0x630 + 0x30 * i, width := 16, w1c := 0x1f00 }
@[reducible] def CV.STAT_STATE (i : Nat) : Field := ⟨CV.STAT i, 0, 3⟩
@[reducible] def CV.STAT_PG (i : Nat) : Field := ⟨CV.STAT i, 3, 1⟩
@[reducible] def CV.STAT_PGOUT (i : Nat) : Field := ⟨CV.STAT i, 4, 1⟩
@[reducible] def CV.STAT_MASK (i : Nat) : Field := ⟨CV.STAT i, 5, 1⟩
@[reducible] def CV.STAT_BRAKE (i : Nat) : Field := ⟨CV.STAT i, 6, 1⟩
@[reducible] def CV.STAT_SHEDDING (i : Nat) : Field := ⟨CV.STAT i, 7, 1⟩
@[reducible] def CV.STAT_CV_OV (i : Nat) : Field := ⟨CV.STAT i, 8, 1⟩
@[reducible] def CV.STAT_CV_OC (i : Nat) : Field := ⟨CV.STAT i, 9, 1⟩
@[reducible] def CV.STAT_SHED_ABORT (i : Nat) : Field := ⟨CV.STAT i, 10, 1⟩
@[reducible] def CV.STAT_VREF_REF (i : Nat) : Field := ⟨CV.STAT i, 11, 1⟩
@[reducible] def CV.STAT_PREBIAS (i : Nat) : Field := ⟨CV.STAT i, 12, 1⟩
/-- CV.REF: Present reference, mV. -/
def CV.REF (i : Nat) : Reg := { addr := 0x632 + 0x30 * i, width := 16 }
/-- CV.VFB: Feedback voltage, mV. -/
def CV.VFB (i : Nat) : Reg := { addr := 0x634 + 0x30 * i, width := 16 }
/-- CV.ITOT: I_tot, 0.1 A. -/
def CV.ITOT (i : Nat) : Reg := { addr := 0x636 + 0x30 * i, width := 16 }
/-- CV.NACT: Active phases m. -/
def CV.NACT (i : Nat) : Reg := { addr := 0x638 + 0x30 * i, width := 8 }
/-- CV.BRKCNT: Brakes, saturating. -/
def CV.BRKCNT (i : Nat) : Reg := { addr := 0x63a + 0x30 * i, width := 16 }
/-- CV.ABORTCNT: Shed aborts, saturating. -/
def CV.ABORTCNT (i : Nat) : Reg := { addr := 0x63c + 0x30 * i, width := 16 }
/-- CV.PHI[n], n = 0–7: Phase current, 0.1 A, signed. -/
def CV.PHI (i : Nat) : Reg := { addr := 0x6d0 + 0x2 * i, width := 16 }

/-! ## Page INT (0x7, R227) -/

/-- INT.IB0V: VDDL target, 10 mV, 90–180, R225. -/
def INT.IB0V : Reg := { addr := 0x700, width := 16, reset := 110, rw := 0xffff }
/-- INT.IB1V: VIO, 10 mV, 180–360. -/
def INT.IB1V : Reg := { addr := 0x702, width := 16, reset := 330, rg := 0xffff }
/-- INT.LD1V: LD1 output, 50 mV, 24–100. -/
def INT.LD1V : Reg := { addr := 0x704, width := 8, reset := 66, rg := 0xff }
/-- INT.LD2V: LD2 output, same encoding. -/
def INT.LD2V : Reg := { addr := 0x705, width := 8, reset := 66, rg := 0xff }
/-- INT.LD3V: LD3 output, same encoding. -/
def INT.LD3V : Reg := { addr := 0x706, width := 8, reset := 66, rg := 0xff }
/-- INT.LDCFG: Enables, R223. -/
def INT.LDCFG : Reg := { addr := 0x707, width := 8, rg := 0x7e }
@[reducible] def INT.LDCFG_EN : Field := ⟨INT.LDCFG, 1, 3⟩
@[reducible] def INT.LDCFG_KEEP : Field := ⟨INT.LDCFG, 4, 3⟩
/-- INT.STAT: Regulator status. -/
def INT.STAT : Reg := { addr := 0x708, width := 16, w1c := 0x700 }
@[reducible] def INT.STAT_CLK : Field := ⟨INT.STAT, 0, 1⟩
@[reducible] def INT.STAT_RAMP : Field := ⟨INT.STAT, 1, 1⟩
@[reducible] def INT.STAT_IB0_LIM : Field := ⟨INT.STAT, 2, 1⟩
@[reducible] def INT.STAT_IB1_LIM : Field := ⟨INT.STAT, 3, 1⟩
@[reducible] def INT.STAT_LD0_LIM : Field := ⟨INT.STAT, 4, 1⟩
@[reducible] def INT.STAT_LDOFF : Field := ⟨INT.STAT, 5, 3⟩
@[reducible] def INT.STAT_IB0V_REF : Field := ⟨INT.STAT, 8, 1⟩
@[reducible] def INT.STAT_IO_UV : Field := ⟨INT.STAT, 9, 1⟩
@[reducible] def INT.STAT_LD_OC : Field := ⟨INT.STAT, 10, 1⟩
/-- INT.IB0REF: Present IB0 reference, 10 mV. -/
def INT.IB0REF : Reg := { addr := 0x70a, width := 16, reset := 110 }
/-- INT.LDCLR: Bit k, k = 1–3: clear latched LD_OC of LDk, R224. -/
def INT.LDCLR : Reg := { addr := 0x70c, width := 8, wo := 0xff }

/-! ## Page SEQ (0x8, R244) -/

/-- SEQ.CFG: Timing and reaction. -/
def SEQ.CFG : Reg := { addr := 0x800, width := 32, reset := 0xa0064, rg := 0x7ff01ff }
@[reducible] def SEQ.CFG_TPFW : Field := ⟨SEQ.CFG, 0, 9⟩
@[reducible] def SEQ.CFG_TMINOFF : Field := ⟨SEQ.CFG, 16, 8⟩
@[reducible] def SEQ.CFG_FACT : Field := ⟨SEQ.CFG, 24, 2⟩
@[reducible] def SEQ.CFG_AUTO : Field := ⟨SEQ.CFG, 26, 1⟩
/-- SEQ.CMD: ON and OFF, R238. -/
def SEQ.CMD : Reg := { addr := 0x804, width := 8, wo := 0x3 }
@[reducible] def SEQ.CMD_ON : Field := ⟨SEQ.CMD, 0, 1⟩
@[reducible] def SEQ.CMD_OFF : Field := ⟨SEQ.CMD, 1, 1⟩
/-- SEQ.STAT: State and events. -/
def SEQ.STAT : Reg := { addr := 0x806, width := 16, w1c := 0x1f00 }
@[reducible] def SEQ.STAT_STATE : Field := ⟨SEQ.STAT, 0, 3⟩
@[reducible] def SEQ.STAT_PEND : Field := ⟨SEQ.STAT, 3, 1⟩
@[reducible] def SEQ.STAT_PFWACT : Field := ⟨SEQ.STAT, 4, 1⟩
@[reducible] def SEQ.STAT_SEQ_FAULT : Field := ⟨SEQ.STAT, 8, 1⟩
@[reducible] def SEQ.STAT_SEQ_DONE : Field := ⟨SEQ.STAT, 9, 1⟩
@[reducible] def SEQ.STAT_PFW : Field := ⟨SEQ.STAT, 10, 1⟩
@[reducible] def SEQ.STAT_PFW_CANCEL : Field := ⟨SEQ.STAT, 11, 1⟩
@[reducible] def SEQ.STAT_SEQ_OFF_TIMEOUT : Field := ⟨SEQ.STAT, 12, 1⟩
/-- SEQ.BUV: Bank undervoltage, 10 mV, 500–3200. -/
def SEQ.BUV : Reg := { addr := 0x808, width := 16, reset := 600, rg := 0xffff }
/-- SEQ.BOV: Bank overvoltage, 10 mV, 700–3800; BOV ≤ BUV refused. -/
def SEQ.BOV : Reg := { addr := 0x80a, width := 16, reset := 3300, rg := 0xffff }
/-- SEQ.FSLOT: Slot of the last SEQ_FAULT or warning; 0xFF none. -/
def SEQ.FSLOT : Reg := { addr := 0x80c, width := 8, reset := 255 }
/-- SEQ.FCAUSE: 0 none, 1 TIMEOUT, 2 PG_LOSS, 3 FEED, 4 OFF_TIMEOUT. -/
def SEQ.FCAUSE : Reg := { addr := 0x80d, width := 8 }
/-- SEQ.PFWT: Tide at which the last warning began. -/
def SEQ.PFWT : Reg := { addr := 0x810, width := 64 }
/-- SEQ.QUALMASK: Bit k: slot k qualified. -/
def SEQ.QUALMASK : Reg := { addr := 0x818, width := 32 }
/-- SEQ.ENMASK: Bit k: slot k enabled. -/
def SEQ.ENMASK : Reg := { addr := 0x81c, width := 32 }
/-- SEQ.SLOTA[k], k = 0–23: Target and dependency. -/
def SEQ.SLOTA (i : Nat) : Reg :=
  { addr := 0x820 + 0x4 * i, width := 32, reset := 496, rg := 0xfffff1ff }
@[reducible] def SEQ.SLOTA_TYPE (i : Nat) : Field := ⟨SEQ.SLOTA i, 0, 3⟩
@[reducible] def SEQ.SLOTA_REC (i : Nat) : Field := ⟨SEQ.SLOTA i, 3, 1⟩
@[reducible] def SEQ.SLOTA_DEP (i : Nat) : Field := ⟨SEQ.SLOTA i, 4, 5⟩
@[reducible] def SEQ.SLOTA_SEL (i : Nat) : Field := ⟨SEQ.SLOTA i, 12, 20⟩
/-- SEQ.SLOTB[k], k = 0–23: Delays and times. -/
def SEQ.SLOTB (i : Nat) : Reg :=
  { addr := 0x880 + 0x4 * i, width := 32, reset := 0x71000000, rg := 0xffffffff }
@[reducible] def SEQ.SLOTB_ONDLY (i : Nat) : Field := ⟨SEQ.SLOTB i, 0, 12⟩
@[reducible] def SEQ.SLOTB_OFFDLY (i : Nat) : Field := ⟨SEQ.SLOTB i, 12, 12⟩
@[reducible] def SEQ.SLOTB_QUAL (i : Nat) : Field := ⟨SEQ.SLOTB i, 24, 4⟩
@[reducible] def SEQ.SLOTB_TO (i : Nat) : Field := ⟨SEQ.SLOTB i, 28, 4⟩
/-- SEQ.TSTART: Common start of the present or last sequence. -/
def SEQ.TSTART : Reg := { addr := 0x8e0, width := 64 }
/-- SEQ.TDONE: Completion tide of the last power-down. -/
def SEQ.TDONE : Reg := { addr := 0x8e8, width := 64 }

/-! ## Page ADC (0x9, R260) -/

/-- ADC.CFG: Cross-check settings. -/
def ADC.CFG : Reg := { addr := 0x900, width := 32, reset := 0x6400, rg := 0x3ff01 }
@[reducible] def ADC.CFG_XACT : Field := ⟨ADC.CFG, 0, 1⟩
@[reducible] def ADC.CFG_XWAIT : Field := ⟨ADC.CFG, 8, 10⟩
/-- ADC.LOOPA: Loop range of ADC_A, R251. -/
def ADC.LOOPA : Reg := { addr := 0x904, width := 32, rg := 0x1ff01ff }
@[reducible] def ADC.LOOPA_START : Field := ⟨ADC.LOOPA, 0, 9⟩
@[reducible] def ADC.LOOPA_END : Field := ⟨ADC.LOOPA, 16, 9⟩
/-- ADC.LOOPB: Loop range of ADC_B, same layout. -/
def ADC.LOOPB : Reg := { addr := 0x908, width := 32, rg := 0x1ff01ff }
@[reducible] def ADC.LOOPB_START : Field := ⟨ADC.LOOPB, 0, 9⟩
@[reducible] def ADC.LOOPB_END : Field := ⟨ADC.LOOPB, 16, 9⟩
/-- ADC.FCFG[s], s = 0–15: Filter slot s, R252. -/
def ADC.FCFG (i : Nat) : Reg := { addr := 0x90c + 0x2 * i, width := 16, reset := 4, rg := 0xfff }
@[reducible] def ADC.FCFG_ORDER (i : Nat) : Field := ⟨ADC.FCFG i, 0, 2⟩
@[reducible] def ADC.FCFG_DM1 (i : Nat) : Field := ⟨ADC.FCFG i, 2, 10⟩
/-- ADC.URG: Urgent request, R256. -/
def ADC.URG : Reg := { addr := 0x92c, width := 16, wo := 0x7ff }
@[reducible] def ADC.URG_INPUT : Field := ⟨ADC.URG, 0, 9⟩
@[reducible] def ADC.URG_CONV : Field := ⟨ADC.URG, 9, 2⟩
/-- ADC.URGRES: Result of the last URG write. -/
def ADC.URGRES : Reg := { addr := 0x92e, width := 8 }
@[reducible] def ADC.URGRES_TAG : Field := ⟨ADC.URGRES, 0, 2⟩
@[reducible] def ADC.URGRES_CODE : Field := ⟨ADC.URGRES, 4, 2⟩
/-- ADC.EIDX: Entry shown, 0–383. -/
def ADC.EIDX : Reg := { addr := 0x930, width := 16, rw := 0xffff }
/-- ADC.ENTRY: Entry EIDX, table entry layout of R250. -/
def ADC.ENTRY : Reg := { addr := 0x940, width := 128, rg := ones 128 }

/-! ## Page ADCD (0xa, R261) -/

/-- ADCD.FOUT[s], s = 0–15: Last output of filter slot s. -/
def ADCD.FOUT (i : Nat) : Reg := { addr := 0xa00 + 0x2 * i, width := 16 }
/-- ADCD.FSET: Bit s: slot s settled, R252. -/
def ADCD.FSET : Reg := { addr := 0xa20, width := 16 }
/-- ADCD.FNEW: Bit s: new output since last cleared. -/
def ADCD.FNEW : Reg := { addr := 0xa22, width := 16, w1c := 0xffff }
/-- ADCD.STAT: Status and events. -/
def ADCD.STAT : Reg := { addr := 0xa24, width := 16, w1c := 0x1f00 }
@[reducible] def ADCD.STAT_RUNA : Field := ⟨ADCD.STAT, 0, 1⟩
@[reducible] def ADCD.STAT_RUNB : Field := ⟨ADCD.STAT, 1, 1⟩
@[reducible] def ADCD.STAT_ADC_WINDOW : Field := ⟨ADCD.STAT, 8, 1⟩
@[reducible] def ADCD.STAT_PLAUSIBILITY : Field := ⟨ADCD.STAT, 9, 1⟩
@[reducible] def ADCD.STAT_XMISS : Field := ⟨ADCD.STAT, 10, 1⟩
@[reducible] def ADCD.STAT_URG_FULL : Field := ⟨ADCD.STAT, 11, 1⟩
@[reducible] def ADCD.STAT_ADC_SKIP : Field := ⟨ADCD.STAT, 12, 1⟩
/-- ADCD.URES[t], t = 0–3: Urgent result of tag t. -/
def ADCD.URES (i : Nat) : Reg := { addr := 0xa28 + 0x4 * i, width := 32, w1c := 0x80000000 }
@[reducible] def ADCD.URES_VALUE (i : Nat) : Field := ⟨ADCD.URES i, 0, 16⟩
@[reducible] def ADCD.URES_INPUT (i : Nat) : Field := ⟨ADCD.URES i, 16, 9⟩
@[reducible] def ADCD.URES_CONV (i : Nat) : Field := ⟨ADCD.URES i, 25, 1⟩
@[reducible] def ADCD.URES_DONE (i : Nat) : Field := ⟨ADCD.URES i, 31, 1⟩
/-- ADCD.URTIDE[t], t = 0–3: Sample tide of URES[t]. -/
def ADCD.URTIDE (i : Nat) : Reg := { addr := 0xa38 + 0x8 * i, width := 64 }
/-- ADCD.ERAW: Last result of entry EIDX. -/
def ADCD.ERAW : Reg := { addr := 0xa58, width := 16 }
/-- ADCD.ETIDE: Sample tide of ERAW. -/
def ADCD.ETIDE : Reg := { addr := 0xa60, width := 64 }
/-- ADCD.CONVA: Conversions by ADC_A. -/
def ADCD.CONVA : Reg := { addr := 0xa68, width := 32 }
/-- ADCD.CONVB: Conversions by ADC_B. -/
def ADCD.CONVB : Reg := { addr := 0xa6c, width := 32 }
/-- ADCD.SLIPA: Loop A conversions delayed, R257. -/
def ADCD.SLIPA : Reg := { addr := 0xa70, width := 32 }
/-- ADCD.SLIPB: Loop B conversions delayed. -/
def ADCD.SLIPB : Reg := { addr := 0xa74, width := 32 }
/-- ADCD.SKIPCNT: Skipped conversions, R249. -/
def ADCD.SKIPCNT : Reg := { addr := 0xa78, width := 32 }
/-- ADCD.XMISSCNT: Missed rendezvous, saturating. -/
def ADCD.XMISSCNT : Reg := { addr := 0xa7c, width := 16 }
/-- ADCD.PLAUSCNT: PLAUSIBILITY events, saturating. -/
def ADCD.PLAUSCNT : Reg := { addr := 0xa7e, width := 16 }
/-- ADCD.WSTAT: Bit e: entry e has acted, R255. -/
def ADCD.WSTAT : Reg := { addr := 0xa80, width := 384, w1c := ones 384 }
/-- ADCD.XSTAT: Bit p, p = 1–15: PLAUSIBILITY on pair p; bit 0 reserved. -/
def ADCD.XSTAT : Reg := { addr := 0xab0, width := 16, w1c := 0xfffe }
/-- ADCD.XDIFF[p], p = 1–15: Last ¦A - B¦ of pair p. -/
def ADCD.XDIFF (i : Nat) : Reg := { addr := 0xab0 + 0x2 * i, width := 16 }

/-! ## Page WDT (0xb, R300) -/

/-- WDT.CFG: Clock, window, grant. -/
def WDT.CFG : Reg := { addr := 0xb00, width := 32, reset := 64, rg := 0x3f1, core := 0xfffffc0e }
@[reducible] def WDT.CFG_CLKSEL : Field := ⟨WDT.CFG, 0, 1⟩
@[reducible] def WDT.CFG_WMIN : Field := ⟨WDT.CFG, 4, 4⟩
@[reducible] def WDT.CFG_GRANT : Field := ⟨WDT.CFG, 8, 2⟩
/-- WDT.PERIOD: T_MAX, ms, 1–16 000. -/
def WDT.PERIOD : Reg := { addr := 0xb04, width := 16, reset := 1000, rg := 0xffff }
/-- WDT.PWARN: Pre-warning lead, ms; 0 none, R286. -/
def WDT.PWARN : Reg := { addr := 0xb06, width := 16, reset := 100, rg := 0xffff }
/-- WDT.BOOTP: Boot period, ms, 100–16 000. -/
def WDT.BOOTP : Reg := { addr := 0xb08, width := 16, reset := 2000, rg := 0xffff }
/-- WDT.WDXLEN: WDX pulse, ms, 1–1000. -/
def WDT.WDXLEN : Reg := { addr := 0xb0a, width := 16, reset := 100, rg := 0xffff }
/-- WDT.SVC: Writing 0x5A services, R287. -/
def WDT.SVC : Reg := { addr := 0xb0c, width := 8, wo := 0xff, core := 0xff }
/-- WDT.CHECKIN: Bit k: check in slot k, R291. -/
def WDT.CHECKIN : Reg := { addr := 0xb0d, width := 8, wo := 0xff, core := 0xff }
/-- WDT.SLOTEN: Bit k: slot k enabled. -/
def WDT.SLOTEN : Reg := { addr := 0xb0e, width := 8, rg := 0xff }
/-- WDT.SURPF: Bit k: SURPLUS on slot k expires, R293. -/
def WDT.SURPF : Reg := { addr := 0xb0f, width := 8, rg := 0xff }
/-- WDT.SLOTOWN: Bits [2k+1:2k]: owner of slot k, 0 core, 1 two-wire host, 2 ring head; 3 refused. -/
def WDT.SLOTOWN : Reg := { addr := 0xb10, width := 16, rg := 0xffff }
/-- WDT.CHK: Bit k: slot k checked in this period. -/
def WDT.CHK : Reg := { addr := 0xb12, width := 8, core := 0xff }
/-- WDT.STAT: Status and events. -/
def WDT.STAT : Reg := { addr := 0xb14, width := 16, reset := 1, w1c := 0x3f00, core := 0xefff }
@[reducible] def WDT.STAT_BOOT : Field := ⟨WDT.STAT, 0, 1⟩
@[reducible] def WDT.STAT_FROZEN : Field := ⟨WDT.STAT, 1, 1⟩
@[reducible] def WDT.STAT_MONSTOP : Field := ⟨WDT.STAT, 2, 1⟩
@[reducible] def WDT.STAT_CLKDEV : Field := ⟨WDT.STAT, 3, 1⟩
@[reducible] def WDT.STAT_PREWARN : Field := ⟨WDT.STAT, 8, 1⟩
@[reducible] def WDT.STAT_SURPLUS : Field := ⟨WDT.STAT, 9, 1⟩
@[reducible] def WDT.STAT_SVC_REFUSED : Field := ⟨WDT.STAT, 10, 1⟩
@[reducible] def WDT.STAT_SVC_BAD : Field := ⟨WDT.STAT, 11, 1⟩
@[reducible] def WDT.STAT_EXPIRED : Field := ⟨WDT.STAT, 12, 1⟩
@[reducible] def WDT.STAT_ECC_CORR : Field := ⟨WDT.STAT, 13, 1⟩
/-- WDT.ECCCNT: Corrected SRAM errors, saturating. -/
def WDT.ECCCNT : Reg := { addr := 0xb16, width := 16, core := 0xffff }
/-- WDT.CNT: Ticks since period start. -/
def WDT.CNT : Reg := { addr := 0xb18, width := 32, core := 0xffffffff }
/-- WDT.TMAXT: T_MAX in ticks. -/
def WDT.TMAXT : Reg := { addr := 0xb1c, width := 32, reset := 0x8000, core := 0xffffffff }
/-- WDT.TMINT: T_MIN in ticks. -/
def WDT.TMINT : Reg := { addr := 0xb20, width := 32, reset := 8192, core := 0xffffffff }
/-- WDT.LPC: Program counter at the last expiry. -/
def WDT.LPC : Reg := { addr := 0xb24, width := 32 }
/-- WDT.LSVC: Tide of the last valid service before it. -/
def WDT.LSVC : Reg := { addr := 0xb28, width := 64 }
/-- WDT.LEXP: Tide of the last expiry. -/
def WDT.LEXP : Reg := { addr := 0xb30, width := 64 }
/-- WDT.LCAUSE: 0 none, 1 LATE, 2 EARLY, 3 CLKSTOP, 4 SURPLUS, 5 ECC. -/
def WDT.LCAUSE : Reg := { addr := 0xb38, width := 8 }
/-- WDT.LSLOTS: CHK at the last expiry. -/
def WDT.LSLOTS : Reg := { addr := 0xb39, width := 8 }
/-- WDT.EXPCNT: Expiries, saturating. -/
def WDT.EXPCNT : Reg := { addr := 0xb3a, width := 16 }
/-- WDT.SURPCNT: Surplus check-ins, saturating. -/
def WDT.SURPCNT : Reg := { addr := 0xb3c, width := 16, core := 0xffff }
/-- WDT.REFCNT: Refused and invalid writes, saturating. -/
def WDT.REFCNT : Reg := { addr := 0xb3e, width := 16, core := 0xffff }
/-- WDT.SVCT: Tide of the last valid service. -/
def WDT.SVCT : Reg := { addr := 0xb40, width := 64, core := ones 64 }

/-! ## Page CHG (0xc, R278) -/

/-- CHG.CFG: Pack and charger settings. -/
def CHG.CFG : Reg := { addr := 0xc00, width := 32, reset := 0x6e00a040, rg := 0xfffffff7 }
@[reducible] def CHG.CFG_EN : Field := ⟨CHG.CFG, 0, 1⟩
@[reducible] def CHG.CFG_CHEM : Field := ⟨CHG.CFG, 1, 1⟩
@[reducible] def CHG.CFG_CELLS : Field := ⟨CHG.CFG, 2, 1⟩
@[reducible] def CHG.CFG_VRDROP : Field := ⟨CHG.CFG, 4, 4⟩
@[reducible] def CHG.CFG_VFLT : Field := ⟨CHG.CFG, 8, 8⟩
@[reducible] def CHG.CFG_TOPOFF : Field := ⟨CHG.CFG, 16, 8⟩
@[reducible] def CHG.CFG_TREG : Field := ⟨CHG.CFG, 24, 8⟩
/-- CHG.ICHG: CC current, 10 mA, 10–300. -/
def CHG.ICHG : Reg := { addr := 0xc04, width := 16, reset := 50, rg := 0xffff }
/-- CHG.IPRE: Precharge current, 10 mA, 5–30. -/
def CHG.IPRE : Reg := { addr := 0xc06, width := 16, reset := 10, rg := 0xffff }
/-- CHG.ITERM: Termination current, 10 mA, 2–50. -/
def CHG.ITERM : Reg := { addr := 0xc08, width := 16, reset := 5, rg := 0xffff }
/-- CHG.VPRE: Precharge threshold per cell, 20 mV, 100–160. -/
def CHG.VPRE : Reg := { addr := 0xc0a, width := 8, reset := 150, rg := 0xff }
/-- CHG.BATOK: Healthy threshold per cell, 20 mV, 100–180, R275. -/
def CHG.BATOK : Reg := { addr := 0xc0b, width := 8, reset := 165, rg := 0xff }
/-- CHG.VCUT: Cut-off per cell, 20 mV, 100–160, R264. -/
def CHG.VCUT : Reg := { addr := 0xc0c, width := 8, reset := 155, rg := 0xff }
/-- CHG.TPRE: Precharge limit, min, 5–120. -/
def CHG.TPRE : Reg := { addr := 0xc0d, width := 8, reset := 30, rg := 0xff }
/-- CHG.TSAFE: Total limit, 0.1 h, 10–200. -/
def CHG.TSAFE : Reg := { addr := 0xc0e, width := 8, reset := 100, rg := 0xff }
/-- CHG.HOLD: VHOLD charge current. -/
def CHG.HOLD : Reg := { addr := 0xc0f, width := 8, reset := 1, rg := 0x3 }
@[reducible] def CHG.HOLD_HICHG : Field := ⟨CHG.HOLD, 0, 2⟩
/-- CHG.NTCLO: NTC window start, result units of 0x178. -/
def CHG.NTCLO : Reg := { addr := 0xc10, width := 16, rg := 0xffff }
/-- CHG.NTCHI: NTC window end, excluded; at most 0xFFF0. -/
def CHG.NTCHI : Reg := { addr := 0xc12, width := 16, reset := 0xfff0, rg := 0xffff }
/-- CHG.CMD: Commands. -/
def CHG.CMD : Reg := { addr := 0xc14, width := 8, wo := 0x7 }
@[reducible] def CHG.CMD_SHIP : Field := ⟨CHG.CMD, 0, 1⟩
@[reducible] def CHG.CMD_SHIPCANCEL : Field := ⟨CHG.CMD, 1, 1⟩
@[reducible] def CHG.CMD_CLR : Field := ⟨CHG.CMD, 2, 1⟩
/-- CHG.STAT: Status and events. -/
def CHG.STAT : Reg := { addr := 0xc18, width := 32, reset := 256, w1c := 0x7f0000 }
@[reducible] def CHG.STAT_PHASE : Field := ⟨CHG.STAT, 0, 3⟩
@[reducible] def CHG.STAT_PRESENT : Field := ⟨CHG.STAT, 3, 1⟩
@[reducible] def CHG.STAT_HEALTHY : Field := ⟨CHG.STAT, 4, 1⟩
@[reducible] def CHG.STAT_CHGIN : Field := ⟨CHG.STAT, 5, 1⟩
@[reducible] def CHG.STAT_THERMREG : Field := ⟨CHG.STAT, 6, 1⟩
@[reducible] def CHG.STAT_NTCSUSP : Field := ⟨CHG.STAT, 7, 1⟩
@[reducible] def CHG.STAT_FETON : Field := ⟨CHG.STAT, 8, 1⟩
@[reducible] def CHG.STAT_SHIPPEND : Field := ⟨CHG.STAT, 9, 1⟩
@[reducible] def CHG.STAT_BAT_REMOVED : Field := ⟨CHG.STAT, 16, 1⟩
@[reducible] def CHG.STAT_BAT_SHORT : Field := ⟨CHG.STAT, 17, 1⟩
@[reducible] def CHG.STAT_BAT_TIMEOUT : Field := ⟨CHG.STAT, 18, 1⟩
@[reducible] def CHG.STAT_BAT_OV : Field := ⟨CHG.STAT, 19, 1⟩
@[reducible] def CHG.STAT_BAT_DONE : Field := ⟨CHG.STAT, 20, 1⟩
@[reducible] def CHG.STAT_BAT_CUTOFF : Field := ⟨CHG.STAT, 21, 1⟩
@[reducible] def CHG.STAT_WAKEBTN : Field := ⟨CHG.STAT, 22, 1⟩
/-- CHG.SAFET: Safety timer, 10 ms units. -/
def CHG.SAFET : Reg := { addr := 0xc1c, width := 32 }
/-- CHG.PHTIME: Time in present phase, 10 ms units. -/
def CHG.PHTIME : Reg := { addr := 0xc20, width := 32 }
/-- CHG.CYCNT: Cycles begun since power-on reset, saturating. -/
def CHG.CYCNT : Reg := { addr := 0xc24, width := 16 }

/-! ## Page RING (0xd, R187, R165) -/

/-- RING.PSTAT: Port state and events. -/
def RING.PSTAT (i : Nat) : Reg := { addr := 0xd80 + 0x20 * i, width := 16, w1c := 0x700 }
@[reducible] def RING.PSTAT_STATE (i : Nat) : Field := ⟨RING.PSTAT i, 0, 2⟩
@[reducible] def RING.PSTAT_PEERRX (i : Nat) : Field := ⟨RING.PSTAT i, 2, 1⟩
@[reducible] def RING.PSTAT_DEGRADED (i : Nat) : Field := ⟨RING.PSTAT i, 3, 1⟩
@[reducible] def RING.PSTAT_LINK_DOWN (i : Nat) : Field := ⟨RING.PSTAT i, 8, 1⟩
@[reducible] def RING.PSTAT_LINK_UP (i : Nat) : Field := ⟨RING.PSTAT i, 9, 1⟩
@[reducible] def RING.PSTAT_LINK_DEGRADED (i : Nat) : Field := ⟨RING.PSTAT i, 10, 1⟩
/-- RING.PEER: [11:0] peer address; [12] peer port, 0 East, 1 West. -/
def RING.PEER (i : Nat) : Reg := { addr := 0xd82 + 0x20 * i, width := 16 }
@[reducible] def RING.PEER_ADDR (i : Nat) : Field := ⟨RING.PEER i, 0, 12⟩
@[reducible] def RING.PEER_PORT (i : Nat) : Field := ⟨RING.PEER i, 12, 1⟩
/-- RING.LDLY: Link delay, 10 ns, R159. -/
def RING.LDLY (i : Nat) : Reg := { addr := 0xd84 + 0x20 * i, width := 16 }
/-- RING.LDSPRD: Spread of the last measurement, 10 ns, saturating. -/
def RING.LDSPRD (i : Nat) : Reg := { addr := 0xd86 + 0x20 * i, width := 8 }
/-- RING.PEERVER: [3:0] peer's lowest, [7:4] highest version. -/
def RING.PEERVER (i : Nat) : Reg := { addr := 0xd87 + 0x20 * i, width := 8 }
@[reducible] def RING.PEERVER_LO (i : Nat) : Field := ⟨RING.PEERVER i, 0, 4⟩
@[reducible] def RING.PEERVER_HI (i : Nat) : Field := ⟨RING.PEERVER i, 4, 4⟩
/-- RING.CVCNT: Code violations. -/
def RING.CVCNT (i : Nat) : Reg := { addr := 0xd88 + 0x20 * i, width := 32 }
/-- RING.CRCCNT: CRC failures, not stomped. -/
def RING.CRCCNT (i : Nat) : Reg := { addr := 0xd8c + 0x20 * i, width := 32 }
/-- RING.STOMPCNT: Stomped cells received. -/
def RING.STOMPCNT (i : Nat) : Reg := { addr := 0xd90 + 0x20 * i, width := 32 }
/-- RING.DOWNCNT: Transitions to DOWN, saturating. -/
def RING.DOWNCNT (i : Nat) : Reg := { addr := 0xd94 + 0x20 * i, width := 16 }
/-- RING.ABORTCNT: Aborted cells received, saturating, R151. -/
def RING.ABORTCNT (i : Nat) : Reg := { addr := 0xd96 + 0x20 * i, width := 16 }
/-- RING.RXCELLS: Valid cells received. -/
def RING.RXCELLS (i : Nat) : Reg := { addr := 0xd98 + 0x20 * i, width := 32 }
/-- RING.TXCELLS: Cells sent. -/
def RING.TXCELLS (i : Nat) : Reg := { addr := 0xd9c + 0x20 * i, width := 32 }
/-- RING.LCFG: Port configuration. -/
def RING.LCFG : Reg := { addr := 0xdc0, width := 16, reset := 1047, rg := 0x3fff }
@[reducible] def RING.LCFG_ENE : Field := ⟨RING.LCFG, 0, 1⟩
@[reducible] def RING.LCFG_ENW : Field := ⟨RING.LCFG, 1, 1⟩
@[reducible] def RING.LCFG_EMPHE : Field := ⟨RING.LCFG, 2, 2⟩
@[reducible] def RING.LCFG_EMPHW : Field := ⟨RING.LCFG, 4, 2⟩
@[reducible] def RING.LCFG_DEGTHR : Field := ⟨RING.LCFG, 6, 8⟩
/-- RING.LCTL: Retrain, R158. -/
def RING.LCTL : Reg := { addr := 0xdc2, width := 8, wo := 0x3 }
@[reducible] def RING.LCTL_RETRE : Field := ⟨RING.LCTL, 0, 1⟩
@[reducible] def RING.LCTL_RETRW : Field := ⟨RING.LCTL, 1, 1⟩
/-- RING.LSTAT: Ring status at this device. -/
def RING.LSTAT : Reg := { addr := 0xdc4, width := 16, reset := 6, w1c := 0x300 }
@[reducible] def RING.LSTAT_CHAIN : Field := ⟨RING.LSTAT, 0, 1⟩
@[reducible] def RING.LSTAT_ISOLATED : Field := ⟨RING.LSTAT, 1, 1⟩
@[reducible] def RING.LSTAT_QUIET : Field := ⟨RING.LSTAT, 2, 1⟩
@[reducible] def RING.LSTAT_RING_BREAK : Field := ⟨RING.LSTAT, 8, 1⟩
@[reducible] def RING.LSTAT_RING_HEAL : Field := ⟨RING.LSTAT, 9, 1⟩
/-- RING.HOPLIM: Hop limit in use, R151. -/
def RING.HOPLIM : Reg := { addr := 0xdc6, width := 16, reset := 4094 }
/-- RING.DUPCNT: Duplicate segments, R154. -/
def RING.DUPCNT : Reg := { addr := 0xdc8, width := 32 }
/-- RING.OLDCNT: Segments outside the window, R155. -/
def RING.OLDCNT : Reg := { addr := 0xdcc, width := 32 }
/-- RING.HLIMCNT: Cells aborted at the hop limit, R151. -/
def RING.HLIMCNT : Reg := { addr := 0xdd0, width := 32 }
/-- RING.RASMTO: Incomplete messages discarded, R155. -/
def RING.RASMTO : Reg := { addr := 0xdd4, width := 32 }
/-- RING.OWNRM: Own cells removed on return. -/
def RING.OWNRM : Reg := { addr := 0xdd8, width := 32 }
/-- RING.TXSEQ: Next SEQ to send, R157. -/
def RING.TXSEQ : Reg := { addr := 0xddc, width := 16 }
/-- RING.CFG: Address, role, budget. -/
def RING.CFG : Reg := { addr := 0xd00, width := 32, reset := 0x40000, rg := 0xff3fff }
@[reducible] def RING.CFG_ADDR : Field := ⟨RING.CFG, 0, 12⟩
@[reducible] def RING.CFG_ROLE : Field := ⟨RING.CFG, 12, 2⟩
@[reducible] def RING.CFG_TXBUD : Field := ⟨RING.CFG, 16, 8⟩
/-- RING.ADDR: [11:0] address in use; [12] 0 IDENT, 1 rigging. -/
def RING.ADDR : Reg := { addr := 0xd04, width := 16 }
@[reducible] def RING.ADDR_ADDR : Field := ⟨RING.ADDR, 0, 12⟩
@[reducible] def RING.ADDR_RIGGED : Field := ⟨RING.ADDR, 12, 1⟩
/-- RING.VERSUP: [3:0] lowest, [7:4] highest version. -/
def RING.VERSUP : Reg := { addr := 0xd06, width := 8, reset := 17 }
@[reducible] def RING.VERSUP_LO : Field := ⟨RING.VERSUP, 0, 4⟩
@[reducible] def RING.VERSUP_HI : Field := ⟨RING.VERSUP, 4, 4⟩
/-- RING.VRUN: [3:0] running version V. -/
def RING.VRUN : Reg := { addr := 0xd07, width := 8, reset := 1 }
@[reducible] def RING.VRUN_V : Field := ⟨RING.VRUN, 0, 4⟩
/-- RING.RSTAT: Ring operation status. -/
def RING.RSTAT : Reg := { addr := 0xd08, width := 16, w1c := 0x1f00 }
@[reducible] def RING.RSTAT_BYPASS : Field := ⟨RING.RSTAT, 0, 1⟩
@[reducible] def RING.RSTAT_CONFLICT : Field := ⟨RING.RSTAT, 1, 1⟩
@[reducible] def RING.RSTAT_LOAD_OVER : Field := ⟨RING.RSTAT, 2, 1⟩
@[reducible] def RING.RSTAT_TRANS_TIMEOUT : Field := ⟨RING.RSTAT, 8, 1⟩
@[reducible] def RING.RSTAT_EVDROP : Field := ⟨RING.RSTAT, 9, 1⟩
@[reducible] def RING.RSTAT_DEV_NEW : Field := ⟨RING.RSTAT, 10, 1⟩
@[reducible] def RING.RSTAT_DEV_MISSING : Field := ⟨RING.RSTAT, 11, 1⟩
@[reducible] def RING.RSTAT_DEV_BYPASSED : Field := ⟨RING.RSTAT, 12, 1⟩
/-- RING.TTO: Transaction timeout, µs, 100–10 000. -/
def RING.TTO : Reg := { addr := 0xd0c, width := 16, reset := 500, rg := 0xffff }
/-- RING.TRETRY: Retries, 0–7. -/
def RING.TRETRY : Reg := { addr := 0xd0e, width := 8, reset := 2, rg := 0xff }
/-- RING.ENUMP: Enumeration period, 100 ms units, 1–100. -/
def RING.ENUMP : Reg := { addr := 0xd0f, width := 8, reset := 10, rg := 0xff }
/-- RING.TDST: [11:0] transaction destination. -/
def RING.TDST : Reg := { addr := 0xd10, width := 16, rw := 0xfff }
/-- RING.TPAGE: Page. -/
def RING.TPAGE : Reg := { addr := 0xd12, width := 8, rw := 0xff }
/-- RING.TOFF: Offset. -/
def RING.TOFF : Reg := { addr := 0xd13, width := 8, rw := 0xff }
/-- RING.TLEN: Length, 1–32. -/
def RING.TLEN : Reg := { addr := 0xd14, width := 8, reset := 1, rw := 0xff }
/-- RING.TCTL: Start, field table below. -/
def RING.TCTL : Reg := { addr := 0xd15, width := 8, wo := 0x3 }
@[reducible] def RING.TCTL_READ : Field := ⟨RING.TCTL, 0, 1⟩
@[reducible] def RING.TCTL_WRITE : Field := ⟨RING.TCTL, 1, 1⟩
/-- RING.TRES: Result. -/
def RING.TRES : Reg := { addr := 0xd16, width := 8 }
@[reducible] def RING.TRES_STATUS : Field := ⟨RING.TRES, 0, 4⟩
@[reducible] def RING.TRES_BUSY : Field := ⟨RING.TRES, 7, 1⟩
/-- RING.TDATA: Write data in; read data out. -/
def RING.TDATA : Reg := { addr := 0xd18, width := 256, rw := ones 256 }
/-- RING.NCOUNT: Entries in the ring table. -/
def RING.NCOUNT : Reg := { addr := 0xd38, width := 16 }
/-- RING.MIDX: Table entry shown, 0–4093. -/
def RING.MIDX : Reg := { addr := 0xd3a, width := 16, rw := 0xffff }
/-- RING.MADDR: [11:0] address; [12] present; [13] bypassed; [14] conflict. -/
def RING.MADDR : Reg := { addr := 0xd3c, width := 16 }
@[reducible] def RING.MADDR_ADDR : Field := ⟨RING.MADDR, 0, 12⟩
@[reducible] def RING.MADDR_PRESENT : Field := ⟨RING.MADDR, 12, 1⟩
@[reducible] def RING.MADDR_BYPASSED : Field := ⟨RING.MADDR, 13, 1⟩
@[reducible] def RING.MADDR_CONFLICT : Field := ⟨RING.MADDR, 14, 1⟩
/-- RING.MHOPE: East hops, R177. -/
def RING.MHOPE : Reg := { addr := 0xd3e, width := 16 }
/-- RING.MHOPW: West hops. -/
def RING.MHOPW : Reg := { addr := 0xd40, width := 16 }
/-- RING.MVER: Versions supported. -/
def RING.MVER : Reg := { addr := 0xd42, width := 8 }
/-- RING.MROLE: [1:0] present role; [15:8] of entry reserved. -/
def RING.MROLE : Reg := { addr := 0xd43, width := 8 }
@[reducible] def RING.MROLE_ROLE : Field := ⟨RING.MROLE, 0, 2⟩
/-- RING.MSER: IDENT serial. -/
def RING.MSER : Reg := { addr := 0xd44, width := 64 }
/-- RING.EVCNT: Events received, wrapping. -/
def RING.EVCNT : Reg := { addr := 0xd4c, width := 32 }
/-- RING.EVDROPCNT: Events dropped, saturating. -/
def RING.EVDROPCNT : Reg := { addr := 0xd50, width := 16 }
/-- RING.TXDEFCNT: Cells deferred by budget, saturating. -/
def RING.TXDEFCNT : Reg := { addr := 0xd52, width := 16 }
/-- RING.TTOCNT: Transaction timeouts, saturating. -/
def RING.TTOCNT : Reg := { addr := 0xd54, width := 16 }
/-- RING.NOTHEADCNT: Head-only messages from a non-head, saturating. -/
def RING.NOTHEADCNT : Reg := { addr := 0xd56, width := 16 }
/-- RING.VERCNT: Cells of another version, wrapping. -/
def RING.VERCNT : Reg := { addr := 0xd58, width := 32 }
/-- RING.TXBUDSUM: ΣTXBUD from the ring table. -/
def RING.TXBUDSUM : Reg := { addr := 0xd5c, width := 16 }

/-! ## Page STORE (0xe, R357) -/

/-- STORE.STAT: Status and events. -/
def STORE.STAT : Reg := { addr := 0xe00, width := 16, w1c := 0xff00, core := 0xffff }
@[reducible] def STORE.STAT_PRESENT : Field := ⟨STORE.STAT, 0, 1⟩
@[reducible] def STORE.STAT_BUSY : Field := ⟨STORE.STAT, 1, 1⟩
@[reducible] def STORE.STAT_QUEUED : Field := ⟨STORE.STAT, 2, 1⟩
@[reducible] def STORE.STAT_SCRUBBING : Field := ⟨STORE.STAT, 3, 1⟩
@[reducible] def STORE.STAT_STORE_FAULT : Field := ⟨STORE.STAT, 8, 1⟩
@[reducible] def STORE.STAT_STORE_DEFER : Field := ⟨STORE.STAT, 9, 1⟩
@[reducible] def STORE.STAT_LOG_DROPPED : Field := ⟨STORE.STAT, 10, 1⟩
@[reducible] def STORE.STAT_STORE_TORN : Field := ⟨STORE.STAT, 11, 1⟩
@[reducible] def STORE.STAT_STORE_GAP : Field := ⟨STORE.STAT, 12, 1⟩
@[reducible] def STORE.STAT_STORE_BADBLK : Field := ⟨STORE.STAT, 13, 1⟩
@[reducible] def STORE.STAT_STORE_RETIRED : Field := ⟨STORE.STAT, 14, 1⟩
@[reducible] def STORE.STAT_STORE_NOSPARE : Field := ⟨STORE.STAT, 15, 1⟩
/-- STORE.CMD: [0] SCRUB, R352; [7:1] reserved. -/
def STORE.CMD : Reg := { addr := 0xe02, width := 8, wo := 0xff, core := 0xff }
/-- STORE.QUSED: Queued records, 0–32. -/
def STORE.QUSED : Reg := { addr := 0xe03, width := 8 }
/-- STORE.SIZE: Store size, MiB; 0 none. -/
def STORE.SIZE : Reg := { addr := 0xe04, width := 16, core := 0xffff }
/-- STORE.SPARES: Free spare sectors. -/
def STORE.SPARES : Reg := { addr := 0xe06, width := 8, reset := 64, core := 0xff }
/-- STORE.CHOLD: C_HOLD, µF, 100–65 535. -/
def STORE.CHOLD : Reg := { addr := 0xe08, width := 16, reset := 1000, rg := 0xffff }
/-- STORE.VMARG: V_MIN margin, mV, 100–2000. -/
def STORE.VMARG : Reg := { addr := 0xe0a, width := 16, reset := 300, rg := 0xffff }
/-- STORE.PRUN: P in STANDBY and RUN, mW, 100–5000. -/
def STORE.PRUN : Reg := { addr := 0xe0c, width := 16, reset := 1500, rg := 0xffff }
/-- STORE.PKEEP: P in KEEP, mW, 20–2000. -/
def STORE.PKEEP : Reg := { addr := 0xe0e, width := 16, reset := 200, rg := 0xffff }
/-- STORE.EHOLD: Last E, µJ. -/
def STORE.EHOLD : Reg := { addr := 0xe10, width := 32, core := 0xffffffff }
/-- STORE.EREQ: Last 2 × E_op, µJ. -/
def STORE.EREQ : Reg := { addr := 0xe14, width := 32, core := 0xffffffff }
/-- STORE.SCLK: Store clock, s. -/
def STORE.SCLK : Reg := { addr := 0xe18, width := 32 }
/-- STORE.WALL: Wall time, s, R351. -/
def STORE.WALL : Reg := { addr := 0xe1c, width := 32, wo := 0xffffffff, core := 0xffffffff }
/-- STORE.NEXTSEQ: Next log SEQ. -/
def STORE.NEXTSEQ : Reg := { addr := 0xe20, width := 32, core := 0xffffffff }
/-- STORE.DROPCNT: Records dropped, saturating. -/
def STORE.DROPCNT : Reg := { addr := 0xe24, width := 16 }
/-- STORE.TORNCNT: Torn records, saturating. -/
def STORE.TORNCNT : Reg := { addr := 0xe26, width := 16 }
/-- STORE.GAPCNT: Sequence gaps, saturating. -/
def STORE.GAPCNT : Reg := { addr := 0xe28, width := 16 }
/-- STORE.BOOTCNT: Power-on resets, saturating. -/
def STORE.BOOTCNT : Reg := { addr := 0xe2a, width := 16 }
/-- STORE.TSCRUB: SCLK of the last completed scrub. -/
def STORE.TSCRUB : Reg := { addr := 0xe2c, width := 32 }
/-- STORE.MAXERASE: Highest erase count of any sector. -/
def STORE.MAXERASE : Reg := { addr := 0xe30, width := 32, core := 0xffffffff }
/-- STORE.XADDR: Window address; [31] staging, R355. -/
def STORE.XADDR : Reg := { addr := 0xe38, width := 32, rw := 0xffffffff, core := 0xffffffff }
@[reducible] def STORE.XADDR_ADDR : Field := ⟨STORE.XADDR, 0, 31⟩
@[reducible] def STORE.XADDR_STAGING : Field := ⟨STORE.XADDR, 31, 1⟩
/-- STORE.XSTAT: Window status. -/
def STORE.XSTAT : Reg := { addr := 0xe3c, width := 8, w1c := 0x8, core := 0xff }
@[reducible] def STORE.XSTAT_CODE : Field := ⟨STORE.XSTAT, 0, 2⟩
@[reducible] def STORE.XSTAT_STAGING : Field := ⟨STORE.XSTAT, 2, 1⟩
@[reducible] def STORE.XSTAT_DONE : Field := ⟨STORE.XSTAT, 3, 1⟩
/-- STORE.XDATA: Window data, 32 bytes. -/
def STORE.XDATA : Reg := { addr := 0xe40, width := 256, rw := ones 256, core := ones 256 }
/-- STORE.RSEQ: Log record to show. -/
def STORE.RSEQ : Reg := { addr := 0xe60, width := 32, rw := 0xffffffff, core := 0xffffffff }
/-- STORE.RRES: 0 OK, 1 NOT_FOUND, 2 TORN, 3 BUSY. -/
def STORE.RRES : Reg := { addr := 0xe64, width := 8, core := 0xff }
/-- STORE.RREC: Record RSEQ, layout of R340. -/
def STORE.RREC : Reg := { addr := 0xe80, width := 512, core := ones 512 }

/-! ## Page UPD (0xf, R388) -/

/-- UPD.STAT: Transfer, arming, trial and events. -/
def UPD.STAT : Reg := { addr := 0xf00, width := 16, w1c := 0x7f00 }
@[reducible] def UPD.STAT_XSTATE : Field := ⟨UPD.STAT, 0, 3⟩
@[reducible] def UPD.STAT_XKIND : Field := ⟨UPD.STAT, 3, 1⟩
@[reducible] def UPD.STAT_ARMED : Field := ⟨UPD.STAT, 4, 1⟩
@[reducible] def UPD.STAT_FWTRIAL : Field := ⟨UPD.STAT, 5, 1⟩
@[reducible] def UPD.STAT_RGTRIAL : Field := ⟨UPD.STAT, 6, 1⟩
@[reducible] def UPD.STAT_UPD_IMAGE_OK : Field := ⟨UPD.STAT, 8, 1⟩
@[reducible] def UPD.STAT_UPD_IMAGE_BAD : Field := ⟨UPD.STAT, 9, 1⟩
@[reducible] def UPD.STAT_UPD_REFUSED : Field := ⟨UPD.STAT, 10, 1⟩
@[reducible] def UPD.STAT_UPD_POSTPONED : Field := ⟨UPD.STAT, 11, 1⟩
@[reducible] def UPD.STAT_UPD_ACTIVATED : Field := ⟨UPD.STAT, 12, 1⟩
@[reducible] def UPD.STAT_UPD_CONFIRMED : Field := ⟨UPD.STAT, 13, 1⟩
@[reducible] def UPD.STAT_UPD_REVERT : Field := ⟨UPD.STAT, 14, 1⟩
/-- UPD.CMD: [0] ACTIVATE, [1] CONFIRM, [2] ABORT; one bit per write, otherwise no effect. -/
def UPD.CMD : Reg := { addr := 0xf02, width := 8, wo := 0xff }
/-- UPD.RES: Result code, following table. -/
def UPD.RES : Reg := { addr := 0xf03, width := 8 }
/-- UPD.CTL: [0] MAINT, R374. -/
def UPD.CTL : Reg := { addr := 0xf04, width := 8, rw := 0x1 }
@[reducible] def UPD.CTL_MAINT : Field := ⟨UPD.CTL, 0, 1⟩
/-- UPD.SVCCFG: [1:0] BAUD: 0 1, 1 2, 2 3, 3 4 Mbit/s. -/
def UPD.SVCCFG : Reg := { addr := 0xf05, width := 8, rw := 0x3 }
@[reducible] def UPD.SVCCFG_BAUD : Field := ⟨UPD.SVCCFG, 0, 2⟩
/-- UPD.AWIN: Window step, 100 ms, 1–600. -/
def UPD.AWIN : Reg := { addr := 0xf06, width := 16, reset := 10, rw := 0xffff }
/-- UPD.AEPOCH: Activation epoch, tide. -/
def UPD.AEPOCH : Reg := { addr := 0xf08, width := 64, rw := ones 64 }
/-- UPD.ACOND: COND, R382. -/
def UPD.ACOND : Reg := { addr := 0xf10, width := 8, rw := 0xff }
/-- UPD.ATGT: [0] firmware, [1] rigging. -/
def UPD.ATGT : Reg := { addr := 0xf11, width := 8, reset := 1, rw := 0x3 }
@[reducible] def UPD.ATGT_FW : Field := ⟨UPD.ATGT, 0, 1⟩
@[reducible] def UPD.ATGT_RG : Field := ⟨UPD.ATGT, 1, 1⟩
/-- UPD.TRIES: Boots on trial, R387. -/
def UPD.TRIES : Reg := { addr := 0xf12, width := 8 }
/-- UPD.AID: Identifier, R380. -/
def UPD.AID : Reg := { addr := 0xf14, width := 32, rw := 0xffffffff }
/-- UPD.ARMTIDE: Armed epoch or next window. -/
def UPD.ARMTIDE : Reg := { addr := 0xf18, width := 64 }
/-- UPD.SLOTID[i], i = 0–3: IMGID of firmware A, B, rigging A, B; 0 blank. -/
def UPD.SLOTID (i : Nat) : Reg := { addr := 0xf20 + 0x4 * i, width := 32 }
/-- UPD.SLOTVER[i]: VERSION, same order. -/
def UPD.SLOTVER (i : Nat) : Reg := { addr := 0xf30 + 0x4 * i, width := 32 }
/-- UPD.XLEN: Transfer length. -/
def UPD.XLEN : Reg := { addr := 0xf40, width := 32 }
/-- UPD.XRCV: Bytes programmed. -/
def UPD.XRCV : Reg := { addr := 0xf44, width := 32 }
/-- UPD.SVCERR: Frames discarded, saturating. -/
def UPD.SVCERR : Reg := { addr := 0xf48, width := 16 }
/-- UPD.RXMAP: Bit b: 8 KiB block b complete, R378. -/
def UPD.RXMAP : Reg := { addr := 0xf80, width := 512 }

/-! ## Page OTP (0x10, R336) -/

/-- OTP.CMD: [3:0] OP: 1 PROGRAM, 2 FINALISE, 3 REBURN, 4 REPAIR; others refused with RANGE. -/
def OTP.CMD : Reg := { addr := 0x1000, width := 8, wo := 0xff, core := 0xff }
/-- OTP.CRES: 0 OK, 1 SOURCE, 2 STATE, 3 ENERGY, 4 LOCKED, 5 FINALISED, 6 NO_HEADER, 7 HEADER, 8 RANGE, 9 VERIFY, 10 NO_SPARE, 11 NOT_WEAK, 12 BUSY. -/
def OTP.CRES : Reg := { addr := 0x1001, width := 8, core := 0xff }
/-- OTP.STAT: Status and events. -/
def OTP.STAT : Reg := { addr := 0x1002, width := 16, w1c := 0x7f00, core := 0xffff }
@[reducible] def OTP.STAT_BUSY : Field := ⟨OTP.STAT, 0, 1⟩
@[reducible] def OTP.STAT_SESSION : Field := ⟨OTP.STAT, 1, 1⟩
@[reducible] def OTP.STAT_OTP_DIGEST : Field := ⟨OTP.STAT, 8, 1⟩
@[reducible] def OTP.STAT_OTP_WEAK : Field := ⟨OTP.STAT, 9, 1⟩
@[reducible] def OTP.STAT_FINAL_DONE : Field := ⟨OTP.STAT, 10, 1⟩
@[reducible] def OTP.STAT_OTP_VERIFY : Field := ⟨OTP.STAT, 11, 1⟩
@[reducible] def OTP.STAT_OTP_REPAIRED : Field := ⟨OTP.STAT, 12, 1⟩
@[reducible] def OTP.STAT_OTP_NOSPARE : Field := ⟨OTP.STAT, 13, 1⟩
@[reducible] def OTP.STAT_OTP_REFUSED : Field := ⟨OTP.STAT, 14, 1⟩
/-- OTP.ADDR: [11:0] logical address, physical address (REPAIR) or region code (FINALISE). -/
def OTP.ADDR : Reg := { addr := 0x1004, width := 16, rw := 0xfff, core := 0xffff }
/-- OTP.WDATA: Bits to burn, R326. -/
def OTP.WDATA : Reg := { addr := 0x1008, width := 32, rw := 0xffffffff, core := 0xffffffff }
/-- OTP.RIDX: [10:0] logical word shown, 0x000–0x4AF. -/
def OTP.RIDX : Reg := { addr := 0x100c, width := 16, rw := 0x7ff, core := 0xffff }
/-- OTP.RDATA: Normal-margin value of RIDX, R331. -/
def OTP.RDATA : Reg := { addr := 0x1010, width := 32, core := 0xffffffff }
/-- OTP.RWEAK: [3:0] bit c: copy c weak; [6] at risk; [7] a copy repaired. -/
def OTP.RWEAK : Reg := { addr := 0x1014, width := 8 }
@[reducible] def OTP.RWEAK_WEAK : Field := ⟨OTP.RWEAK, 0, 4⟩
@[reducible] def OTP.RWEAK_ATRISK : Field := ⟨OTP.RWEAK, 6, 1⟩
@[reducible] def OTP.RWEAK_REPAIRED : Field := ⟨OTP.RWEAK, 7, 1⟩
/-- OTP.PIDX: [11:0] physical word shown. -/
def OTP.PIDX : Reg := { addr := 0x1016, width := 16, rw := 0xfff, core := 0xffff }
/-- OTP.PNORM: PIDX at normal margin. -/
def OTP.PNORM : Reg := { addr := 0x1018, width := 32, core := 0xffffffff }
/-- OTP.PTIGHT: PIDX at tight margin. -/
def OTP.PTIGHT : Reg := { addr := 0x101c, width := 32, core := 0xffffffff }
/-- OTP.LOCKS: [5:0] PLOCK, [13:8] RLOCK, bit = region code. -/
def OTP.LOCKS : Reg := { addr := 0x1020, width := 16 }
@[reducible] def OTP.LOCKS_PLOCK : Field := ⟨OTP.LOCKS, 0, 6⟩
@[reducible] def OTP.LOCKS_RLOCK : Field := ⟨OTP.LOCKS, 8, 6⟩
/-- OTP.LOCKSET: Writing 1 sets the lock, same layout. -/
def OTP.LOCKSET : Reg := { addr := 0x1022, width := 16, wo := 0xffff, core := 0xffff }
/-- OTP.SPARES: Blank repair records. -/
def OTP.SPARES : Reg := { addr := 0x1024, width := 8, reset := 170 }
/-- OTP.WEAKTOT: Weak physical words at the last start. -/
def OTP.WEAKTOT : Reg := { addr := 0x1026, width := 16 }
/-- OTP.RSTAT[r], r = 0–5: Region status. -/
def OTP.RSTAT (i : Nat) : Reg := { addr := 0x1030 + 0x2 * i, width := 16 }
@[reducible] def OTP.RSTAT_STATE (i : Nat) : Field := ⟨OTP.RSTAT i, 0, 2⟩
@[reducible] def OTP.RSTAT_ATRISK (i : Nat) : Field := ⟨OTP.RSTAT i, 2, 1⟩
@[reducible] def OTP.RSTAT_WEAKCNT (i : Nat) : Field := ⟨OTP.RSTAT i, 8, 8⟩

/-! ## Page SEC (0x11, R322) -/

/-- SEC.LIFE: Lifecycle. -/
def SEC.LIFE : Reg := { addr := 0x1100, width := 8 }
@[reducible] def SEC.LIFE_STATE : Field := ⟨SEC.LIFE, 0, 2⟩
@[reducible] def SEC.LIFE_PARTIAL : Field := ⟨SEC.LIFE, 2, 1⟩
@[reducible] def SEC.LIFE_KILLED : Field := ⟨SEC.LIFE, 3, 1⟩
@[reducible] def SEC.LIFE_BURNED : Field := ⟨SEC.LIFE, 4, 2⟩
/-- SEC.DBG: Debug state. -/
def SEC.DBG : Reg := { addr := 0x1101, width := 8 }
@[reducible] def SEC.DBG_DSTATE : Field := ⟨SEC.DBG, 0, 2⟩
@[reducible] def SEC.DBG_HALTREQ : Field := ⟨SEC.DBG, 2, 1⟩
@[reducible] def SEC.DBG_HALTED : Field := ⟨SEC.DBG, 3, 1⟩
@[reducible] def SEC.DBG_SCAN : Field := ⟨SEC.DBG, 4, 1⟩
@[reducible] def SEC.DBG_SCANOK : Field := ⟨SEC.DBG, 5, 1⟩
@[reducible] def SEC.DBG_LOCKOUT : Field := ⟨SEC.DBG, 6, 1⟩
/-- SEC.PSTAT: Power state. -/
def SEC.PSTAT : Reg := { addr := 0x1102, width := 8, reset := 2 }
@[reducible] def SEC.PSTAT_STATE : Field := ⟨SEC.PSTAT, 0, 3⟩
@[reducible] def SEC.PSTAT_WAKEPEND : Field := ⟨SEC.PSTAT, 3, 1⟩
@[reducible] def SEC.PSTAT_TRANS : Field := ⟨SEC.PSTAT, 4, 1⟩
/-- SEC.PCFG: [0] STRIKEDROP, R317; [7:1] reserved. -/
def SEC.PCFG : Reg := { addr := 0x1103, width := 8, rg := 0x1 }
@[reducible] def SEC.PCFG_STRIKEDROP : Field := ⟨SEC.PCFG, 0, 1⟩
/-- SEC.STAT: Status and events. -/
def SEC.STAT : Reg := { addr := 0x1104, width := 16, w1c := 0x7f00, core := 0x3 }
@[reducible] def SEC.STAT_AUTHSKIP : Field := ⟨SEC.STAT, 0, 1⟩
@[reducible] def SEC.STAT_BOOT_FAIL : Field := ⟨SEC.STAT, 1, 1⟩
@[reducible] def SEC.STAT_LC_BURNED : Field := ⟨SEC.STAT, 8, 1⟩
@[reducible] def SEC.STAT_LC_REFUSED : Field := ⟨SEC.STAT, 9, 1⟩
@[reducible] def SEC.STAT_AUTH_FAIL : Field := ⟨SEC.STAT, 10, 1⟩
@[reducible] def SEC.STAT_BOOT_FALLBACK : Field := ⟨SEC.STAT, 11, 1⟩
@[reducible] def SEC.STAT_DBG_AUTH : Field := ⟨SEC.STAT, 12, 1⟩
@[reducible] def SEC.STAT_DBG_FAIL : Field := ⟨SEC.STAT, 13, 1⟩
@[reducible] def SEC.STAT_PWR_REFUSED : Field := ⟨SEC.STAT, 14, 1⟩
/-- SEC.PWRCMD: [0] WAKE, [1] RUN, [2] STANDBY, [3] KEEP; one bit per write, otherwise no effect. -/
def SEC.PWRCMD : Reg := { addr := 0x1106, width := 8, wo := 0xff }
/-- SEC.PWRRES: 0 OK, 1 NOT_RIGGED, 2 NOT_ON, 3 HALTED, 4 BYPASSED, 5 NO_FEED, 6 WRONG_STATE. -/
def SEC.PWRRES : Reg := { addr := 0x1107, width := 8 }
/-- SEC.LIFECMD: [1:0] TARGET: 1 PROVISIONED, 2 DEPLOYED, 3 RETURNED; [31:16] KEY. -/
def SEC.LIFECMD : Reg := { addr := 0x1108, width := 32, wo := 0xffffffff }
/-- SEC.LCRES: 0 OK, 1 BAD_KEY, 2 ORDER, 3 CONDITION, 4 IN_RUN, 5 ENERGY. -/
def SEC.LCRES : Reg := { addr := 0x110c, width := 8 }
/-- SEC.REVCMD: [2:0] slot to revoke, R304; [7:3] must be 0b10110. -/
def SEC.REVCMD : Reg := { addr := 0x110d, width := 8, wo := 0xff }
/-- SEC.DBGCTL: [0] CLOSE, R311. -/
def SEC.DBGCTL : Reg := { addr := 0x110e, width := 8, wo := 0xff }
/-- SEC.AUTHRES: Reason of the last refusal, R305. -/
def SEC.AUTHRES : Reg := { addr := 0x110f, width := 8, core := 0xff }
/-- SEC.FWFLOOR: Firmware floor, 0–64. -/
def SEC.FWFLOOR : Reg := { addr := 0x1110, width := 8 }
/-- SEC.RGFLOOR: Rigging floor, 0–32. -/
def SEC.RGFLOOR : Reg := { addr := 0x1111, width := 8 }
/-- SEC.REVOKED: Bit k: slot k revoked. -/
def SEC.REVOKED : Reg := { addr := 0x1112, width := 8 }
/-- SEC.BOOT: [0] running slot, 0 A, 1 B; [1] FELLBACK. -/
def SEC.BOOT : Reg := { addr := 0x1113, width := 8, core := 0xff }
@[reducible] def SEC.BOOT_SLOT : Field := ⟨SEC.BOOT, 0, 1⟩
@[reducible] def SEC.BOOT_FELLBACK : Field := ⟨SEC.BOOT, 1, 1⟩

/-! ## Page TWI (0x12, R405) -/

/-- TWI.CFG: Attention and controller settings. -/
def TWI.CFG : Reg := { addr := 0x1200, width := 32, reset := 0x30a0a09, rw := 0x7ff1f0f }
@[reducible] def TWI.CFG_ATTEN : Field := ⟨TWI.CFG, 0, 1⟩
@[reducible] def TWI.CFG_BUSCLR : Field := ⟨TWI.CFG, 1, 1⟩
@[reducible] def TWI.CFG_CSPEED : Field := ⟨TWI.CFG, 2, 2⟩
@[reducible] def TWI.CFG_ATTLEN : Field := ⟨TWI.CFG, 8, 5⟩
@[reducible] def TWI.CFG_ATTREP : Field := ⟨TWI.CFG, 16, 8⟩
@[reducible] def TWI.CFG_CRETRY : Field := ⟨TWI.CFG, 24, 3⟩
/-- TWI.TIM: Hold and filter, R404. -/
def TWI.TIM : Reg := { addr := 0x1204, width := 16, reset := 517, rw := 0xf1f }
@[reducible] def TWI.TIM_THOLD : Field := ⟨TWI.TIM, 0, 5⟩
@[reducible] def TWI.TIM_TFILT : Field := ⟨TWI.TIM, 8, 4⟩
/-- TWI.TTO: Timeout, ms, 1–50; values outside act as the nearer limit. -/
def TWI.TTO : Reg := { addr := 0x1206, width := 8, reset := 35, rw := 0xff }
/-- TWI.ADDR: [6:0] own address, R390. -/
def TWI.ADDR : Reg := { addr := 0x1207, width := 8, reset := 56 }
/-- TWI.STAT: Status and events. -/
def TWI.STAT : Reg := { addr := 0x1208, width := 16, w1c := 0x3f00 }
@[reducible] def TWI.STAT_ATTPEND : Field := ⟨TWI.STAT, 0, 1⟩
@[reducible] def TWI.STAT_BUSBUSY : Field := ⟨TWI.STAT, 1, 1⟩
@[reducible] def TWI.STAT_CBUSY : Field := ⟨TWI.STAT, 2, 1⟩
@[reducible] def TWI.STAT_BUS_ERR : Field := ⟨TWI.STAT, 8, 1⟩
@[reducible] def TWI.STAT_SCL_TIMEOUT : Field := ⟨TWI.STAT, 9, 1⟩
@[reducible] def TWI.STAT_SDA_STUCK : Field := ⟨TWI.STAT, 10, 1⟩
@[reducible] def TWI.STAT_ARB_LOST : Field := ⟨TWI.STAT, 11, 1⟩
@[reducible] def TWI.STAT_ATT_COLL : Field := ⟨TWI.STAT, 12, 1⟩
@[reducible] def TWI.STAT_WR_DISCARD : Field := ⟨TWI.STAT, 13, 1⟩
/-- TWI.BUSERRCNT: Bus errors, R402. -/
def TWI.BUSERRCNT : Reg := { addr := 0x120a, width := 16 }
/-- TWI.TOCNT: SCL and SDA timeouts. -/
def TWI.TOCNT : Reg := { addr := 0x120c, width := 16 }
/-- TWI.ARBCNT: Arbitration losses as controller. -/
def TWI.ARBCNT : Reg := { addr := 0x120e, width := 16 }
/-- TWI.DISCCNT: Discarded writes, R394. -/
def TWI.DISCCNT : Reg := { addr := 0x1210, width := 16 }
/-- TWI.ATTCNT: Attention pulses sent. -/
def TWI.ATTCNT : Reg := { addr := 0x1212, width := 16 }
/-- TWI.ARACNT: Times served, R397. -/
def TWI.ARACNT : Reg := { addr := 0x1214, width := 16 }
/-- TWI.CADDR: [6:0] controller target address. -/
def TWI.CADDR : Reg := { addr := 0x1220, width := 8, rw := 0x7f }
/-- TWI.CWLEN: Bytes to write, 0–8. -/
def TWI.CWLEN : Reg := { addr := 0x1221, width := 8, rw := 0xff }
/-- TWI.CRLEN: Bytes to read, 0–32. -/
def TWI.CRLEN : Reg := { addr := 0x1222, width := 8, rw := 0xff }
/-- TWI.CCTL: [0] START, R398. -/
def TWI.CCTL : Reg := { addr := 0x1223, width := 8, wo := 0xff }
/-- TWI.CRES: Controller result. -/
def TWI.CRES : Reg := { addr := 0x1224, width := 8 }
@[reducible] def TWI.CRES_STATUS : Field := ⟨TWI.CRES, 0, 3⟩
@[reducible] def TWI.CRES_BUSY : Field := ⟨TWI.CRES, 7, 1⟩
/-- TWI.CWDATA: Bytes to write, byte 0 first. -/
def TWI.CWDATA : Reg := { addr := 0x1228, width := 64, rw := ones 64 }
/-- TWI.CRDATA: Bytes read, byte 0 first. -/
def TWI.CRDATA : Reg := { addr := 0x1240, width := 256 }

/-! ## Page CNT (0x13, R245) -/

/-- CNT.UV[j]: R242. -/
def CNT.UV (j : Nat) : Reg := { addr := 0x1300 + 0x10 * j, width := 16 }
/-- CNT.OV[j]: R242. -/
def CNT.OV (j : Nat) : Reg := { addr := 0x1302 + 0x10 * j, width := 16 }
/-- CNT.OC[j]: R242. -/
def CNT.OC (j : Nat) : Reg := { addr := 0x1304 + 0x10 * j, width := 16 }
/-- CNT.CHAT[j]: R242. -/
def CNT.CHAT (j : Nat) : Reg := { addr := 0x1306 + 0x10 * j, width := 16 }
/-- CNT.STO[j]: R242. -/
def CNT.STO (j : Nat) : Reg := { addr := 0x1308 + 0x10 * j, width := 16 }
/-- CNT.TRIP[j]: R242. -/
def CNT.TRIP (j : Nat) : Reg := { addr := 0x130a + 0x10 * j, width := 16 }
/-- CNT.CLR: Clear, R243. -/
def CNT.CLR : Reg := { addr := 0x13a0, width := 16, wo := 0xffff, core := 0xffff }
@[reducible] def CNT.CLR_TMASK : Field := ⟨CNT.CLR, 0, 10⟩
@[reducible] def CNT.CLR_CMASK : Field := ⟨CNT.CLR, 10, 6⟩
/-- CNT.JSTAT: Journal status. -/
def CNT.JSTAT : Reg := { addr := 0x13a2, width := 8, w1c := 0x4, core := 0xff }
@[reducible] def CNT.JSTAT_PENDING : Field := ⟨CNT.JSTAT, 0, 1⟩
@[reducible] def CNT.JSTAT_RESTORED : Field := ⟨CNT.JSTAT, 1, 1⟩
@[reducible] def CNT.JSTAT_NOREC : Field := ⟨CNT.JSTAT, 2, 1⟩

/-! ## Page CH (0x20, R113) -/

/-- CH.CFG: Mode, gang, phase, options. -/
def CH.CFG (n : Nat) : Reg :=
  { addr := 0x2000 + 16 * n + 0, width := 32, reset := n % 8 * 1024 + 0x10, rg := 0x3fff0 }
@[reducible] def CH.CFG_MODE (n : Nat) : Field := ⟨CH.CFG n, 0, 4⟩
@[reducible] def CH.CFG_MODEMASK (n : Nat) : Field := ⟨CH.CFG n, 4, 4⟩
@[reducible] def CH.CFG_GANG (n : Nat) : Field := ⟨CH.CFG n, 8, 2⟩
@[reducible] def CH.CFG_PHASE (n : Nat) : Field := ⟨CH.CFG n, 10, 3⟩
@[reducible] def CH.CFG_TCEN (n : Nat) : Field := ⟨CH.CFG n, 13, 1⟩
@[reducible] def CH.CFG_FWD (n : Nat) : Field := ⟨CH.CFG n, 14, 1⟩
@[reducible] def CH.CFG_LEARN (n : Nat) : Field := ⟨CH.CFG n, 15, 1⟩
@[reducible] def CH.CFG_SAFE (n : Nat) : Field := ⟨CH.CFG n, 16, 2⟩
/-- CH.DUTY: Base duty and duty limits. -/
def CH.DUTY (n : Nat) : Reg :=
  { addr := 0x2000 + 16 * n + 4, width := 32, reset := 0x3ff00000, rg := 0x3ffffc00 }
@[reducible] def CH.DUTY_BASE (n : Nat) : Field := ⟨CH.DUTY n, 0, 10⟩
@[reducible] def CH.DUTY_DMIN (n : Nat) : Field := ⟨CH.DUTY n, 10, 10⟩
@[reducible] def CH.DUTY_DMAX (n : Nat) : Field := ⟨CH.DUTY n, 20, 10⟩
/-- CH.LIM: Current limit and peak-and-hold. -/
def CH.LIM (n : Nat) : Reg :=
  { addr := 0x2000 + 16 * n + 8, width := 32, reset := 0x1914501e, rg := 0xffffffff }
@[reducible] def CH.LIM_ILIM (n : Nat) : Field := ⟨CH.LIM n, 0, 9⟩
@[reducible] def CH.LIM_IPEAK (n : Nat) : Field := ⟨CH.LIM n, 9, 7⟩
@[reducible] def CH.LIM_IHOLD (n : Nat) : Field := ⟨CH.LIM n, 16, 7⟩
@[reducible] def CH.LIM_TPEAK (n : Nat) : Field := ⟨CH.LIM n, 23, 9⟩
/-- CH.PROT: Protection settings, defined in Channel Protection and STRIKE. -/
def CH.PROT (n : Nat) : Reg :=
  { addr := 0x2000 + 16 * n + 12, width := 32, reset := 0x2853c, rg := 0xfffffff }
@[reducible] def CH.PROT_IINR (n : Nat) : Field := ⟨CH.PROT n, 0, 7⟩
@[reducible] def CH.PROT_TINR (n : Nat) : Field := ⟨CH.PROT n, 7, 7⟩
@[reducible] def CH.PROT_TFLT (n : Nat) : Field := ⟨CH.PROT n, 14, 6⟩
@[reducible] def CH.PROT_RETRY (n : Nat) : Field := ⟨CH.PROT n, 20, 3⟩
@[reducible] def CH.PROT_DMG (n : Nat) : Field := ⟨CH.PROT n, 23, 2⟩
@[reducible] def CH.PROT_DREACT (n : Nat) : Field := ⟨CH.PROT n, 25, 1⟩
@[reducible] def CH.PROT_OLOFF (n : Nat) : Field := ⟨CH.PROT n, 26, 1⟩
@[reducible] def CH.PROT_OLON (n : Nat) : Field := ⟨CH.PROT n, 27, 1⟩

/-! ## Page CHS (0x30, R114) -/

/-- CHS.STAT: Channel status. -/
def CHS.STAT (n : Nat) : Reg :=
  { addr := 0x3000 + 16 * n + 0, width := 16, reset := 24, w1c := 0x84 }
@[reducible] def CHS.STAT_OUT (n : Nat) : Field := ⟨CHS.STAT n, 0, 1⟩
@[reducible] def CHS.STAT_CMD (n : Nat) : Field := ⟨CHS.STAT n, 1, 1⟩
@[reducible] def CHS.STAT_SAFE (n : Nat) : Field := ⟨CHS.STAT n, 2, 1⟩
@[reducible] def CHS.STAT_UNL_ON (n : Nat) : Field := ⟨CHS.STAT n, 3, 1⟩
@[reducible] def CHS.STAT_UNL_OFF (n : Nat) : Field := ⟨CHS.STAT n, 4, 1⟩
@[reducible] def CHS.STAT_COMP_CLAMP (n : Nat) : Field := ⟨CHS.STAT n, 5, 1⟩
@[reducible] def CHS.STAT_PEAK (n : Nat) : Field := ⟨CHS.STAT n, 6, 1⟩
@[reducible] def CHS.STAT_CYC_WARN (n : Nat) : Field := ⟨CHS.STAT n, 7, 1⟩
@[reducible] def CHS.STAT_FAULT (n : Nat) : Field := ⟨CHS.STAT n, 8, 3⟩
@[reducible] def CHS.STAT_HELD (n : Nat) : Field := ⟨CHS.STAT n, 11, 1⟩
/-- CHS.IMEAS: Switch current, mA; gang sum on a lead, R101. -/
def CHS.IMEAS (n : Nat) : Reg := { addr := 0x3000 + 16 * n + 2, width := 16 }
/-- CHS.VMEAS: Output voltage, 2 mV units, signed. -/
def CHS.VMEAS (n : Nat) : Reg := { addr := 0x3000 + 16 * n + 4, width := 16 }
/-- CHS.DEFF: Bits [9:0]: effective duty, R102. -/
def CHS.DEFF (n : Nat) : Reg := { addr := 0x3000 + 16 * n + 6, width := 16 }
@[reducible] def CHS.DEFF_DUTY (n : Nat) : Field := ⟨CHS.DEFF n, 0, 10⟩
/-- CHS.LON: ON latency in use, µs. -/
def CHS.LON (n : Nat) : Reg := { addr := 0x3000 + 16 * n + 8, width := 16 }
/-- CHS.LOFF: OFF latency in use, µs. -/
def CHS.LOFF (n : Nat) : Reg := { addr := 0x3000 + 16 * n + 10, width := 16 }
/-- CHS.CYC: Rated cycles / 256, R112. -/
def CHS.CYC (n : Nat) : Reg := { addr := 0x3000 + 16 * n + 12, width := 32 }

/-! ## The map -/

/-- The registers of page SYS. -/
def pageSYS : List Reg :=
  [SYS.RIG, SYS.RIGERR, SYS.RIGETYPE, SYS.RIGEINST, SYS.RIGEOFF, SYS.RIGID, SYS.RIGVER,
   SYS.RIGFMT, SYS.RIGNREC, SYS.RIGSKIP, SYS.RIGECC, SYS.RIGCRC, SYS.CHVER, SYS.ID, SYS.SERIAL,
   SYS.FWVER, SYS.ISUM, SYS.IMASKC, SYS.IMASKH, SYS.ICFG, SYS.RSTCAUSE, SYS.CORERST, SYS.IRQC,
   SYS.IRQH]

/-- The registers of page RCK. -/
def pageRCK : List Reg :=
  [RCK.CFG, RCK.MARK, RCK.KENC0, RCK.KENC1, RCK.KRAD, RCK.FILT, RCK.TRACK, RCK.TSLEW, RCK.STAT,
   RCK.RECK, RCK.TIDE, RCK.SPEED, RCK.YAW, RCK.RATE, RCK.ERR, RCK.REV, RCK.REVDEF, RCK.REVTHR,
   RCK.HTO, RCK.HSPEED, RCK.HYAW, RCK.HDIR, RCK.SRCRST, RCK.AMAX, RCK.FLYTO, RCK.ILLCNT, RCK.CNT0,
   RCK.CNT1, RCK.CNTR, RCK.BAGE, RCK.HEAD, RCK.EPOCH, RCK.STALECNT, RCK.CAP, RCK.CAPRECK,
   RCK.CAPTIDE]

/-- The registers of page EDGE. -/
def pageEDGE : List Reg :=
  [EDGE.WIN, EDGE.WRES, EDGE.WLATE, EDGE.CFG, EDGE.STAT, EDGE.USED, EDGE.PEAK, EDGE.CNTFIRED,
   EDGE.CNTLATE, EDGE.CNTLDROP, EDGE.CNTSUP, EDGE.CNTOVT, EDGE.CNTREF, EDGE.CNTDISC, EDGE.LASTLATE,
   EDGE.LASTLCH, EDGE.LASTLSRC, EDGE.FLUSH, EDGE.QCH, EDGE.QPEND, EDGE.DC, EDGE.QNEXT]

/-- The registers of page SECT. -/
def pageSECT : List Reg :=
  [SECT.RIDX, SECT.RMAP, SECT.LIDX, SECT.LCOUNT, SECT.LMASK0, SECT.LMASK1, SECT.LMASK2,
   SECT.LMASK3, SECT.LMASK4, SECT.ON, SECT.ALL, SECT.RIGGED, SECT.UNMAPCNT, SECT.STAT]

/-- The registers of page BANK. -/
def pageBANK : List Reg :=
  [BANK.SAFEREL, BANK.GIDX, BANK.GSTAG, BANK.GLAT, BANK.GLDEFON, BANK.GLDEFOFF, BANK.GLMINON,
   BANK.GLMINOFF, BANK.GLMAXON, BANK.GLMAXOFF, BANK.STRIKECMD, BANK.STRIKESTAT, BANK.STRIKECFG,
   BANK.STRIKECNT, BANK.RETRYBASE, BANK.STRIKETIDE, BANK.PSTAT] ++
  (List.range 20).map BANK.KTB ++
  (List.range 4).map BANK.STAT ++
  (List.range 4).map BANK.LINKERR ++
  (List.range 4).map BANK.UCTHR ++
  (List.range 4).map BANK.ISOCTL ++
  (List.range 4).map BANK.TRIPS ++
  (List.range 4).map BANK.OPEN

/-- The registers of page FEED. -/
def pageFEED : List Reg :=
  [FEED.CFG, FEED.CMD, FEED.STAT, FEED.LASTGAP, FEED.SWCNT, FEED.VBUS] ++
  (List.range 2).map FEED.FCFG ++
  (List.range 2).map FEED.VLIM ++
  (List.range 2).map FEED.VINR ++
  (List.range 2).map FEED.UV ++
  (List.range 2).map FEED.OV ++
  (List.range 2).map FEED.HYS ++
  (List.range 2).map FEED.FILT ++
  (List.range 2).map FEED.RSH ++
  (List.range 2).map FEED.FSTAT ++
  (List.range 2).map FEED.VIN ++
  (List.range 2).map FEED.IMEAS ++
  (List.range 2).map FEED.VGS ++
  (List.range 2).map FEED.CLR ++
  (List.range 2).map FEED.FTMR

/-- The registers of page CV. -/
def pageCV : List Reg :=
  [CV.PHACT, CV.PHLIM, CV.PHFLT] ++
  (List.range 4).map CV.CFG ++
  (List.range 4).map CV.VREF ++
  (List.range 4).map CV.SLEW ++
  (List.range 4).map CV.SSLEW ++
  (List.range 4).map CV.VMIN ++
  (List.range 4).map CV.VMAX ++
  (List.range 4).map CV.SETTLE ++
  (List.range 4).map CV.ILIM ++
  (List.range 4).map CV.IMGAIN ++
  (List.range 4).map CV.IADD ++
  (List.range 4).map CV.ISHED ++
  (List.range 4).map CV.SHOLD ++
  (List.range 4).map CV.TOC ++
  (List.range 4).map CV.COMP ++
  (List.range 4).map CV.STAT ++
  (List.range 4).map CV.REF ++
  (List.range 4).map CV.VFB ++
  (List.range 4).map CV.ITOT ++
  (List.range 4).map CV.NACT ++
  (List.range 4).map CV.BRKCNT ++
  (List.range 4).map CV.ABORTCNT ++
  (List.range 8).map CV.PHI

/-- The registers of page INT. -/
def pageINT : List Reg :=
  [INT.IB0V, INT.IB1V, INT.LD1V, INT.LD2V, INT.LD3V, INT.LDCFG, INT.STAT, INT.IB0REF, INT.LDCLR]

/-- The registers of page SEQ. -/
def pageSEQ : List Reg :=
  [SEQ.CFG, SEQ.CMD, SEQ.STAT, SEQ.BUV, SEQ.BOV, SEQ.FSLOT, SEQ.FCAUSE, SEQ.PFWT, SEQ.QUALMASK,
   SEQ.ENMASK, SEQ.TSTART, SEQ.TDONE] ++
  (List.range 24).map SEQ.SLOTA ++
  (List.range 24).map SEQ.SLOTB

/-- The registers of page ADC. -/
def pageADC : List Reg :=
  [ADC.CFG, ADC.LOOPA, ADC.LOOPB, ADC.URG, ADC.URGRES, ADC.EIDX, ADC.ENTRY] ++
  (List.range 16).map ADC.FCFG

/-- The registers of page ADCD. -/
def pageADCD : List Reg :=
  [ADCD.FSET, ADCD.FNEW, ADCD.STAT, ADCD.ERAW, ADCD.ETIDE, ADCD.CONVA, ADCD.CONVB, ADCD.SLIPA,
   ADCD.SLIPB, ADCD.SKIPCNT, ADCD.XMISSCNT, ADCD.PLAUSCNT, ADCD.WSTAT, ADCD.XSTAT] ++
  (List.range 16).map ADCD.FOUT ++
  (List.range 4).map ADCD.URES ++
  (List.range 4).map ADCD.URTIDE ++
  (List.range 15).map (fun i => ADCD.XDIFF (i + 1))

/-- The registers of page WDT. -/
def pageWDT : List Reg :=
  [WDT.CFG, WDT.PERIOD, WDT.PWARN, WDT.BOOTP, WDT.WDXLEN, WDT.SVC, WDT.CHECKIN, WDT.SLOTEN,
   WDT.SURPF, WDT.SLOTOWN, WDT.CHK, WDT.STAT, WDT.ECCCNT, WDT.CNT, WDT.TMAXT, WDT.TMINT, WDT.LPC,
   WDT.LSVC, WDT.LEXP, WDT.LCAUSE, WDT.LSLOTS, WDT.EXPCNT, WDT.SURPCNT, WDT.REFCNT, WDT.SVCT]

/-- The registers of page CHG. -/
def pageCHG : List Reg :=
  [CHG.CFG, CHG.ICHG, CHG.IPRE, CHG.ITERM, CHG.VPRE, CHG.BATOK, CHG.VCUT, CHG.TPRE, CHG.TSAFE,
   CHG.HOLD, CHG.NTCLO, CHG.NTCHI, CHG.CMD, CHG.STAT, CHG.SAFET, CHG.PHTIME, CHG.CYCNT]

/-- The registers of page RING. -/
def pageRING : List Reg :=
  [RING.LCFG, RING.LCTL, RING.LSTAT, RING.HOPLIM, RING.DUPCNT, RING.OLDCNT, RING.HLIMCNT,
   RING.RASMTO, RING.OWNRM, RING.TXSEQ, RING.CFG, RING.ADDR, RING.VERSUP, RING.VRUN, RING.RSTAT,
   RING.TTO, RING.TRETRY, RING.ENUMP, RING.TDST, RING.TPAGE, RING.TOFF, RING.TLEN, RING.TCTL,
   RING.TRES, RING.TDATA, RING.NCOUNT, RING.MIDX, RING.MADDR, RING.MHOPE, RING.MHOPW, RING.MVER,
   RING.MROLE, RING.MSER, RING.EVCNT, RING.EVDROPCNT, RING.TXDEFCNT, RING.TTOCNT, RING.NOTHEADCNT,
   RING.VERCNT, RING.TXBUDSUM] ++
  (List.range 2).map RING.PSTAT ++
  (List.range 2).map RING.PEER ++
  (List.range 2).map RING.LDLY ++
  (List.range 2).map RING.LDSPRD ++
  (List.range 2).map RING.PEERVER ++
  (List.range 2).map RING.CVCNT ++
  (List.range 2).map RING.CRCCNT ++
  (List.range 2).map RING.STOMPCNT ++
  (List.range 2).map RING.DOWNCNT ++
  (List.range 2).map RING.ABORTCNT ++
  (List.range 2).map RING.RXCELLS ++
  (List.range 2).map RING.TXCELLS

/-- The registers of page STORE. -/
def pageSTORE : List Reg :=
  [STORE.STAT, STORE.CMD, STORE.QUSED, STORE.SIZE, STORE.SPARES, STORE.CHOLD, STORE.VMARG,
   STORE.PRUN, STORE.PKEEP, STORE.EHOLD, STORE.EREQ, STORE.SCLK, STORE.WALL, STORE.NEXTSEQ,
   STORE.DROPCNT, STORE.TORNCNT, STORE.GAPCNT, STORE.BOOTCNT, STORE.TSCRUB, STORE.MAXERASE,
   STORE.XADDR, STORE.XSTAT, STORE.XDATA, STORE.RSEQ, STORE.RRES, STORE.RREC]

/-- The registers of page UPD. -/
def pageUPD : List Reg :=
  [UPD.STAT, UPD.CMD, UPD.RES, UPD.CTL, UPD.SVCCFG, UPD.AWIN, UPD.AEPOCH, UPD.ACOND, UPD.ATGT,
   UPD.TRIES, UPD.AID, UPD.ARMTIDE, UPD.XLEN, UPD.XRCV, UPD.SVCERR, UPD.RXMAP] ++
  (List.range 4).map UPD.SLOTID ++
  (List.range 4).map UPD.SLOTVER

/-- The registers of page OTP. -/
def pageOTP : List Reg :=
  [OTP.CMD, OTP.CRES, OTP.STAT, OTP.ADDR, OTP.WDATA, OTP.RIDX, OTP.RDATA, OTP.RWEAK, OTP.PIDX,
   OTP.PNORM, OTP.PTIGHT, OTP.LOCKS, OTP.LOCKSET, OTP.SPARES, OTP.WEAKTOT] ++
  (List.range 6).map OTP.RSTAT

/-- The registers of page SEC. -/
def pageSEC : List Reg :=
  [SEC.LIFE, SEC.DBG, SEC.PSTAT, SEC.PCFG, SEC.STAT, SEC.PWRCMD, SEC.PWRRES, SEC.LIFECMD,
   SEC.LCRES, SEC.REVCMD, SEC.DBGCTL, SEC.AUTHRES, SEC.FWFLOOR, SEC.RGFLOOR, SEC.REVOKED, SEC.BOOT]

/-- The registers of page TWI. -/
def pageTWI : List Reg :=
  [TWI.CFG, TWI.TIM, TWI.TTO, TWI.ADDR, TWI.STAT, TWI.BUSERRCNT, TWI.TOCNT, TWI.ARBCNT,
   TWI.DISCCNT, TWI.ATTCNT, TWI.ARACNT, TWI.CADDR, TWI.CWLEN, TWI.CRLEN, TWI.CCTL, TWI.CRES,
   TWI.CWDATA, TWI.CRDATA]

/-- The registers of page CNT. -/
def pageCNT : List Reg :=
  [CNT.CLR, CNT.JSTAT] ++
  (List.range 10).map CNT.UV ++
  (List.range 10).map CNT.OV ++
  (List.range 10).map CNT.OC ++
  (List.range 10).map CNT.CHAT ++
  (List.range 10).map CNT.STO ++
  (List.range 10).map CNT.TRIP

/-- The registers of CH[n] (R113). -/
def regsCH (n : Nat) : List Reg := [CH.CFG n, CH.DUTY n, CH.LIM n, CH.PROT n]

/-- The registers of CHS[n] (R114). -/
def regsCHS (n : Nat) : List Reg :=
  [CHS.STAT n, CHS.IMEAS n, CHS.VMEAS n, CHS.DEFF n, CHS.LON n, CHS.LOFF n, CHS.CYC n]

/-- The registers of a page (R406); none on an unassigned one (R407). -/
def pageRegs : Nat → List Reg
  | 0 => pageSYS
  | 1 => pageRCK
  | 2 => pageEDGE
  | 3 => pageSECT
  | 4 => pageBANK
  | 5 => pageFEED
  | 6 => pageCV
  | 7 => pageINT
  | 8 => pageSEQ
  | 9 => pageADC
  | 10 => pageADCD
  | 11 => pageWDT
  | 12 => pageCHG
  | 13 => pageRING
  | 14 => pageSTORE
  | 15 => pageUPD
  | 16 => pageOTP
  | 17 => pageSEC
  | 18 => pageTWI
  | 19 => pageCNT
  | p =>
    if 0x20 ≤ p ∧ p < 0x2A then (List.range 16).flatMap fun i => regsCH ((p - 0x20) * 16 + i)
    else if 0x30 ≤ p ∧ p < 0x3A then (List.range 16).flatMap fun i => regsCHS ((p - 0x30) * 16 + i)
    else []

/-- The register that holds byte address `a`; none where the map leaves the byte reserved (R407). -/
def regAt (a : Nat) : Option Reg :=
  (pageRegs (a / 256)).find? fun r => r.addr ≤ a ∧ a < r.addr + r.width / 8

end Sys2Proof.Machine
end

