-- ==== Sys2Proof/Machine/State.lean ====
section
/-! DEFINITION. Machine/State.lean: the state of the block. `Device` holds every register (in
`regs`, one home for each) and everything the spec gives the hardware beside its registers, block
by block; `State` adds the queue of waiting commands. All of it is plain data. -/
namespace Sys2Proof.Machine

/-! ## Registers and sparse data -/

/-- The register file: (address, value) pairs, addresses strictly rising, no entry equal to its
register's Reset value; a register that is not listed holds its Reset value. -/
abbrev RegFile := List (Nat × Nat)

/-- Bytes by address in one canonical form: addresses strictly rising, and no entry equal to what an
unlisted address reads as. -/
abbrev Bytes := List Host.Cell

/-- 32-bit words by address, in the same canonical form. -/
abbrev Words := List (Nat × Nat)

/-! ## Edges and channels (chapters 3 to 5) -/

/-- The source of an action (R56). -/
inductive Source where
  | fault | strike | head | core | host | svc
  deriving DecidableEq, Repr

/-- What a pending entry will do (R55). -/
inductive Action where
  | on | off | duty (c : Nat) | mode (m : Nat) | hold (marks : Nat)
  deriving DecidableEq, Repr

/-- The classes of R55. -/
inductive Class where
  | state | duty | mode
  deriving DecidableEq, Repr

/-- One entry of the edge store (R62). Marks in 1/256 mark. -/
structure Entry where
  ch   : Nat
  fire : Nat
  seq  : Nat
  src  : Source
  act  : Action
  feff : Nat
  /-- judged late at its acceptance (R77), so R79 applies before it fires -/
  late : Bool
  /-- its late policy is LATE_DROP (R78) -/
  drop : Bool
  /-- the target it was sent to: INDEX and TTYPE -/
  tgt  : Nat
  deriving DecidableEq, Repr

/-- The record R79 keeps for each channel and class. -/
structure LastAct where
  feff : Nat
  rank : Nat
  seq  : Nat
  deriving DecidableEq, Repr

/-- A HOLD window [start, stop) with its rank (R74). -/
structure HoldWin where
  start : Nat
  stop  : Nat
  rank  : Nat
  deriving DecidableEq, Repr

/-- How a trip stands (R123–R126). -/
inductive TripState where
  | none
  | latched
  | waiting   -- a retry will follow
  deriving DecidableEq, Repr

/-- What the learning of one action of one channel holds (R106–R108). Times in 10 ns. -/
structure Learn where
  lat     : Nat := 0
  fails   : Nat := 0
  /-- the consecutive successful samples since the flag was set, newest first, at most 4 -/
  samples : List Nat := []
  deriving DecidableEq, Repr

/-- A channel beside its registers. -/
structure Chan where
  /-- rigged geometry and latency bounds (R68, R102, R115) -/
  stag   : Int := 0
  lat    : Int := 0
  ldefOn : Nat := 0
  ldefOff : Nat := 0
  lminOn : Nat := 0
  lminOff : Nat := 0
  lmaxOn : Nat := 0
  lmaxOff : Nat := 0
  /-- check value of the loaded CHANNEL record (R109) -/
  check : Nat := 0
  learnOn  : Learn := {}
  learnOff : Learn := {}
  /-- an open latency search window: the action, and the tide of its dispatch (R106) -/
  search : Option (Bool × Nat) := none
  /-- k of R102 as an exact fraction -/
  kNum : Int := 1
  kDen : Nat := 1
  /-- a MODE that waits for the next slot start (R88) -/
  pendMode : Option Nat := none
  /-- ticks of on-time left in the pulse that runs; none where no pulse end is due (R91–R94) -/
  pulse : Option Nat := none
  /-- the first pulse after an ON is running (R93) -/
  firstPulse : Bool := false
  /-- the bank has carried out an ON of the channel, and nothing has turned it off since (R93) -/
  bankOn : Bool := false
  /-- the hold phase runs: the switch chops (R95, R98) -/
  chop : Bool := false
  /-- `clk` of the last slot start taken (R92) -/
  slotAt : Option Nat := none
  /-- `clk` of the last turn-on, turn-off and end of a peak phase of the output (R95, R127–R129) -/
  onAt : Nat := 0
  offAt : Nat := 0
  holdAt : Nat := 0
  /-- pulses of at least 500 µs that have begun since the channel was turned on (R128) -/
  pulses : Nat := 0
  /-- `clk` of the bank dispatch that opened an inrush window (R118) -/
  inrush : Option Nat := none
  /-- `clk` of the bank dispatch of a fired ON or a retry whose output has been on since (R130) -/
  dispatch : Option Nat := none
  /-- the fault timer, in steps of the bank's timers (R117, R119) -/
  ftmr : Nat := 0
  trip : TripState := .none
  /-- `clk` of the last trip and of the last retry (R126) -/
  tripAt : Nat := 0
  retryAt : Nat := 0
  /-- retries carried out since the count last reset (R126) -/
  retries : Nat := 0
  /-- the 1 s interval after a retry is running (R126) -/
  watch : Bool := false
  /-- the sensor has not read below 150 °C since a THERMAL trip (R121) -/
  hot : Bool := false
  /-- a clear, or a retry, that waits for the sensor (R121) or for another hold to end (R126) -/
  clearPend : Bool := false
  retryPend : Bool := false
  /-- rated cycles counted towards the next unit of CYC (R112) -/
  cycFrac : Nat := 0
  /-- the records of R79 -/
  lastState : Option LastAct := none
  lastDuty  : Option LastAct := none
  lastMode  : Option LastAct := none
  holds : List HoldWin := []
  /-- a fault-logic or STRIKE action of the coming scan: its rank (R75) -/
  forced : Option Nat := none
  deriving DecidableEq, Repr

/-- A command the helm has queued for a bank (R17, R71): a lead channel turns on or off; `fired`: by
a fired edge, so that a latency detection is attempted (R106); `duty`: the effective duty at that moment, which the
first pulse uses (R94). -/
structure BankCmd where
  ch : Nat
  on : Bool
  fired : Bool
  duty : Nat := 0
  deriving DecidableEq, Repr

/-- How far a bank isolation has come (R131, R132). -/
inductive IsoStep where
  | none
  /-- steps 1 to 3 run; `fault`: it logs ISO_OPENED and counts a TRIP (R132, R242) -/
  | opening (fault : Bool)
  deriving DecidableEq, Repr

/-- What a submission of an edge answers (R84): its code, entries placed, late entries and largest lateness. -/
structure EdgeReply where
  code : Nat
  entries : Nat := 0
  nlate : Nat := 0
  worst : Nat := 0
  deriving DecidableEq, Repr

/-- A bank die beside its registers. -/
structure Bank where
  /-- the link runs (R317 stops it in KEEP) -/
  link : Bool := false
  /-- the sequencer lets the bank run: its slot is enabled, or no slot names it and a power-up has
  begun (R228) -/
  enabled : Bool := false
  /-- count of the previous valid frame (R17) -/
  count : Option Nat := none
  /-- tide of the last valid frame (R19), and its `clk` (R18) -/
  lastValid : Nat := 0
  validAt : Nat := 0
  /-- `clk` at which the link began to run, and with it the timebases of the bank's clusters (R90) -/
  linkAt : Nat := 0
  /-- `clk` at which the present step of the bank's timers began, and its length (R117) -/
  stepAt : Nat := 0
  stepLen : Nat := 1000
  /-- the bank has tripped on its dead-man and the helm has not released it since (R19) -/
  dead : Bool := false
  cmds : List BankCmd := []
  iso : IsoStep := .none
  /-- a CLOSE written during steps 1–3 waits (R132), with the verdict of its restart -/
  closePend : Option Bool := none
  /-- the isolator gate output ISOm drives on -/
  isoGate : Bool := false
  /-- trips that occurred during a dead-man hold, for the helm's read-out (R19): channel, cause,
  IMEAS -/
  tripRec : List (Nat × Nat × Nat) := []
  deriving DecidableEq, Repr

/-! ## Reckoning (chapter 2) -/

/-- One accepted count: its tide and its distance in 2^-32 mark. -/
structure Stamp where
  tide : Nat
  dist : Nat
  deriving DecidableEq, Repr

/-- The reckoning source in use (R35, R36); `solo e` is MEAN on its remaining encoder. -/
inductive RckSource where
  | mean | enc (e : Fin 2) | radar | host | none
  | solo (e : Fin 2)
  deriving DecidableEq, Repr

structure Rck where
  /-- reckoning in 2^-32 mark (R34) -/
  reck : Nat := 0
  /-- the count position, the target of R40, in 2^-32 mark -/
  pos  : Int := 0
  tide : Nat := 0
  /-- the PLL is locked (R45) -/
  pll  : Bool := false
  /-- ticks by which tide is ahead of the head's while it runs at half rate (R47, R49) -/
  ahead : Nat := 0
  halfPhase : Bool := false
  /-- that half rate is the approach of an acquisition (R49), which R47 leaves to run -/
  approach : Bool := false
  /-- how far the LFRC steps so far are behind 3051.7578125 ticks a period, in 1/128 tick (R45) -/
  lfrcOwed : Int := 0
  /-- millionths of a tick that steering has added or taken (R46) -/
  steerFrac : Int := 0
  /-- the tide error that steering works on, in ticks (R46) -/
  steerErr : Int := 0
  src : RckSource := .mean
  /-- the stamps of RADAR and of each encoder, newest first, at most 256 (R38) -/
  stamps  : List Stamp := []
  stamps0 : List Stamp := []
  stamps1 : List Stamp := []
  /-- the speed estimate v at the last RADAR pulse, or the host speed in use, µm/s, and the wheels'
  at their last counts (R37, R38, R44) -/
  vEst : Nat := 0
  vEnc0 : Nat := 0
  vEnc1 : Nat := 0
  /-- tide since which each wheel has indicated at least 1 km/h (R36) -/
  fast0 : Option Nat := none
  fast1 : Option Nat := none
  /-- the correction term of RATE in force, in 2^-32 mark per tick (R40) -/
  corr : Int := 0
  /-- the most recent count was forward (R40) -/
  fwd : Bool := false
  /-- the most recent encoder count was forward (R35, RADDIR = 0) -/
  encFwd : Bool := true
  /-- an encoder that failed (R36), and one that has counted again since -/
  failed  : Option (Fin 2) := none
  resumed : Bool := false
  srcLost : Bool := false
  /-- reverse travel and deficit in 2^-32 mark (R41) -/
  rev : Nat := 0
  revDef : Nat := 0
  /-- tide of the last HSPEED and HYAW writes since the end of the rigging load (R37, R44) -/
  hspeedAt : Option Nat := none
  hyawAt : Option Nat := none
  /-- tide at the end of the last rigging load -/
  loadedAt : Nat := 0
  /-- standby: P_own and O, in 2^-32 mark (R51) -/
  pOwn : Int := 0
  offs : Int := 0
  /-- send tide and receipt tide of the last valid beacon (R49, R51) -/
  tL : Nat := 0
  tRecv : Nat := 0
  /-- beacons missed since (R51), agreeing beacons in succession (R49) -/
  missing : Nat := 0
  agree : Nat := 0
  /-- speed, yaw and SRC_LOST of the beacon in force (R68, R102, R37) -/
  bSpeed : Nat := 0
  bYaw : Int := 0
  bLost : Bool := false
  /-- reckoning holds: the flywheel limit has run out or the source is lost (R37, R49) -/
  holding : Bool := false
  /-- tide at which the next beacon of a head falls due (R167) -/
  due : Nat := 0
  deriving DecidableEq, Repr

/-! ## The event log's source -/

/-- A logged event: code (R356), tide, origin (0 itself), and the quantities its rule says it
carries. `raw`: the eight argument bytes of an event that a member sent (R173); how the quantities
of an own event stand in those bytes the spec does not say (Config.eventArgs). -/
structure Event where
  code : Nat
  tide : Nat
  orig : Nat := 0
  args : List Nat := []
  raw  : Option Nat := none
  deriving DecidableEq, Repr

/-! ## Stayline (chapters 6 and 7) -/

/-- Message types (R146, R166). -/
inductive MsgType where
  | beacon | edge | read | write | response | event | strike | activate | enum
  deriving DecidableEq, Repr

/-- A message, delivered or waiting to be sent. Payload bytes 0–35 (R166). -/
structure Msg where
  type : MsgType
  addr : Nat            -- SRC of a received message, DST of an own one
  data : List Nat
  /-- received: its port, and for a beacon the tide of receipt and the age at receipt (R167) -/
  port : Port := .east
  /-- received: its DST is 0xFFF -/
  bcast : Bool := false
  /-- received: the 10 ns period of the PLL's clock in which it was delivered (R156) -/
  took : Nat := 0
  stamp : Nat := 0
  age  : Nat := 0
  deriving DecidableEq, Repr

/-- An own message on its way out: the ports it is still to leave, and the next segment (R154). -/
structure TxMsg where
  msg  : Msg
  /-- its number, taken when its first cell begins (R148) -/
  seq  : Option Nat := none
  /-- next segment for East and for West; none where that port does not send it -/
  segE : Option Nat
  segW : Option Nat
  /-- queued while no port was UP: the ports are those UP when its first cell can begin (R154) -/
  undecided : Bool := false
  /-- segments begun so far on either port, each counted once against TXBUD (R183) -/
  paid : Nat := 0
  /-- its next cell was held back by the budget and counted (R183) -/
  deferred : Bool := false
  /-- its first copy has left a port whole (R172) -/
  copied : Bool := false
  /-- a STRIKE: forwarded STRIKE cells that were queued before it on each port (R152) -/
  aheadE : Nat := 0
  aheadW : Nat := 0
  /-- a BEACON: Reckoning and Tide as its first SOC left each port (R167) -/
  capE : Nat × Nat := (0, 0)
  capW : Nat × Nat := (0, 0)
  deriving DecidableEq, Repr

/-- A partly assembled message (R155, R168). -/
structure Partial where
  src  : Nat
  seq  : Nat
  type : MsgType
  port : Option Port     -- a beacon is assembled per port
  segs : List (Nat × List Nat)
  last : Option Nat
  since : Nat
  stamp : Nat := 0
  age  : Nat := 0
  deriving DecidableEq, Repr

/-- What the device records of a source (R155). -/
structure SrcRec where
  src : Nat
  newest : Nat
  /-- (SEQ, SEG, beacon port) delivered within the window -/
  seen : List (Nat × Nat × Option Port)
  /-- period of the clock of its last cell (R157) -/
  lastCell : Nat
  deriving DecidableEq, Repr

/-- A LINK cell received on a port: HELLO, PING, ECHO (R161). -/
inductive LinkMsg where
  | hello (rxok : Bool) (peerPort : Nat) (peer : Nat) (lo hi : Nat)
  /-- with the tide at which its SOC reached the stamp point -/
  | ping (num : Nat) (t2 : Nat)
  | echo (num : Nat) (hold : Nat) (t4 : Nat)
  deriving DecidableEq, Repr

/-- A LINK cell of the device's own that waits for a cell boundary (R152, R158, R159). -/
inductive LinkOut where
  | hello
  | ping
  /-- the ECHO of a PING whose SOC came at tide t2 -/
  | echo (num : Nat) (t2 : Nat)
  deriving DecidableEq, Repr

/-- A forwarded cell. `live`: it still arrives, and the forwarding delay it was given; none once it has arrived
whole. The cell 0 stands for one that ends with K30.7 as soon as it has begun (R151). -/
structure Fwd where
  cell : CellBits
  live : Option Nat := none
  deriving DecidableEq, Repr

/-- A port beside its registers. -/
structure PortSt where
  rx : List LinkMsg := []
  /-- period of the PLL's clock in which the port came UP (R149), and from which a next cell may begin (R144) -/
  upAt : Nat := 0
  freeAt : Nat := 0
  /-- own LINK cells that wait, oldest first -/
  linkq : List LinkOut := []
  /-- a HELLO with RXOK = 1 has come since sync was acquired (R158, step 3) -/
  helloOk : Bool := false
  /-- the cell that left on this port last, as its bytes stand on the line; 0 where K30.7 cut it short -/
  out : CellBits := 0
  /-- tide of the last valid HELLO, and of the last HELLO sent -/
  helloRx : Nat := 0
  helloTx : Nat := 0
  /-- HELLOs with RXOK = 0 in succession (R160) -/
  badRx : Nat := 0
  /-- the exchange under way: its number and t1, and the results d so far, in half ticks (R159) -/
  pingNum : Nat := 0
  pingT1 : Option Nat := none
  pingOut : Option Nat := none
  results : List Int := []
  /-- tide of the last PING or ECHO sent (R159) -/
  pingAt : Nat := 0
  /-- tide of the last PING sent, and of the first of the present or last sixteen exchanges -/
  pingTx : Nat := 0
  roundAt : Nat := 0
  /-- forwarded cells waiting for this transmit port (R152) -/
  fwd : List Fwd := []
  /-- the cell on its way out is a forwarded one that still arrives, with its forwarding delay (R150) -/
  outLive : Option Nat := none
  /-- CRCCNT at the start of the present second of tide, and its rise in the second before (R161) -/
  crcBase : Nat := 0
  crcRise : Nat := 0
  deriving DecidableEq, Repr

/-- An outstanding transaction (R171). -/
structure Trans where
  dst : Nat
  write : Bool
  tid : Nat
  data : List Nat
  tries : Nat
  /-- tide at which the request was queued, and at which its first cell left -/
  queued : Nat
  sent : Option Nat := none
  deriving DecidableEq, Repr

/-- A RESPONSE a target keeps (R171). -/
structure Kept where
  src : Nat
  tid : Nat
  write : Bool
  resp : List Nat
  deriving DecidableEq, Repr

/-- An entry of the head's ring table (R177, R187). -/
structure RingEntry where
  addr : Nat
  present : Bool
  bypassed : Bool
  conflict : Bool
  hopE : Nat
  hopW : Nat
  ver : Nat
  role : Nat
  serial : Nat
  txbud : Nat
  rigged : Bool
  sync : Bool
  /-- queries in succession it has not answered -/
  missed : Nat
  answered : Bool
  deriving DecidableEq, Repr

structure Ring where
  east : PortSt := {}
  west : PortSt := {}
  inbox : List Msg := []
  parts : List Partial := []
  srcs : List SrcRec := []
  txq : List TxMsg := []
  /-- budgeted cells begun in the present send interval (R183) -/
  begun : Nat := 0
  /-- tide at which that interval began -/
  interval : Nat := 0
  trans : List Trans := []
  /-- the last TID used for each destination (R171) -/
  tids : List (Nat × Nat) := []
  kept : List Kept := []
  /-- events that wait to go to the head (R173) -/
  evq : List Event := []
  /-- the oldest of them is held back by the budget and counted (R183) -/
  evHeld : Bool := false
  /-- the East copy of a beacon whose West copy was complete in this period of the clock (R156, R168) -/
  eastCopy : Option (Nat × Partial) := none
  table : List RingEntry := []
  queryNum : Nat := 0
  lastQuery : Nat := 0
  queryPend : Bool := false
  /-- the present second of tide, and the last whose rise of CRCCNT has been judged (R161) -/
  second : Nat := 0
  degSec : Nat := 0
  /-- the query last received, and its hops on each port (R177) -/
  hopQ : Nat := 0
  hopE : Nat := 0xFFFF
  hopW : Nat := 0xFFFF
  /-- the address before the last change, and the period of the clock of that change (R149) -/
  prevAddr : Nat := 0
  addrAt : Nat := 0
  /-- period of the clock in which QUIET ends (R157), tide at which the head window opens, and whether a beacon was heard -/
  quietTo : Nat := 5000000
  window : Option Nat := none
  windowDone : Bool := false
  heard : Bool := false
  /-- a port has been UP since the present wake (R418) -/
  upSince : Bool := false
  /-- a standby role waits for the next enumeration, which is under way, and whether another device
  has reported the standby role in it (R179) -/
  wantStandby : Bool := false
  enumOpen : Bool := false
  standbySeen : Bool := false
  deriving DecidableEq, Repr

/-! ## Feeds and rails (chapters 8 and 9) -/

/-- A feed controller beside its registers. Its times are counts of the controllers' clock, `feedClk`. -/
structure Feed where
  /-- an undervoltage that no other feed could serve is still present (R202, R241) -/
  uv : Bool := false
  /-- the gate was driven on, was driven off, the latched trip -/
  onAt : Nat := 0
  offAt : Nat := 0
  tripAt : Nat := 0
  /-- since when a stretch in the window counts towards QUAL (R191, R198) -/
  lostAt : Nat := 0
  /-- fault timer, in ticks (R196) -/
  ftmr : Nat := 0
  /-- inrush complete since turn-on (R194) -/
  good : Bool := false
  /-- a trip is latched (R198); out of service by a damage reaction or a failed verification (R200,
  R204); not verified off at a switchover, so that the other feed's gate is inhibited (R201, R204) -/
  tripped : Bool := false
  outOfService : Bool := false
  unverified : Bool := false
  /-- since when the feed has been qualified and available (R201) -/
  qualAt : Nat := 0
  deriving DecidableEq, Repr

/-- Why a switchover runs (R203). -/
inductive SwitchCause where
  | uv | ov | reverse | trip | damage | revert | manual
  deriving DecidableEq, Repr

/-- A switchover in progress (R203). -/
structure Switchover where
  t0 : Nat
  incoming : FeedId
  cause : SwitchCause
  /-- step 4 done -/
  verified : Bool
  /-- a selection of the tick in which a trigger began the sequence, evaluated again after it (R202) -/
  again : Option Nat := none
  deriving DecidableEq, Repr

structure Rail where
  /-- REF in µV -/
  ref : Nat := 0
  /-- tide of enable; of REF reaching REF_T; of the clamp's start; of the disable -/
  enAt : Nat := 0
  atTarget : Option Nat := none
  clampAt : Option Nat := none
  disAt : Nat := 0
  /-- step 2 of the start has been taken; the phases wait at mid above REF_T (R213) -/
  sampled : Bool := false
  waiting : Bool := false
  /-- a retarget during START put the rest of the ramp at SLEW (R212) -/
  useSlew : Bool := false
  /-- a disable during the clamp of R218 waits for its end: no restart, or a restart, follows -/
  afterClamp : Option Bool := none
  /-- the phase whose shed is in progress and the period in which it began, and the tide until which
  no shed begins (R220, R221) -/
  shedding : Option (Nat × Nat) := none
  holdoff : Nat := 0
  /-- place in the present switching period, in ten-thousandths; the periods so far, and the active phases over which
  the present one is spaced (R210) -/
  place : Nat := 0
  periods : Nat := 0
  spacing : Nat := 0
  /-- phases that become active at the next period start (R220, R221) -/
  joining : List Nat := []
  /-- overcurrent timer, in periods, and the periods in succession in which a phase's IMON was out of range (R217) -/
  oc : Nat := 0
  bad : List (Nat × Nat) := []
  /-- tide since which PG has been 1 (R215) -/
  pgSince : Option Nat := none
  deriving DecidableEq, Repr

structure IntReg where
  /-- the IB0 reference in µV -/
  ib0 : Nat := 1100000
  /-- tide since which it has been at or above 1.00 V -/
  above : Nat := 0
  /-- LD1–LD3 on by their slots (R223) -/
  slotOn : List Nat := []
  deriving DecidableEq, Repr

/-! ## Sequencer (chapter 10) -/

structure SlotSt where
  enAt : Nat := 0
  /-- beginning of the present qualification (R232) -/
  qualFrom : Option Nat := none
  deriving DecidableEq, Repr

structure Seq where
  slots : List (Nat × SlotSt) := []
  /-- deglitched power good of each target: rails, feed, banks, groups, LDOs (R229) -/
  pgRail : List Nat := []
  pgFeed : Bool := false
  pgBank : List Nat := []
  pgGroup : List Nat := []
  pgLdo : List Nat := []
  /-- slots to be disabled in this power-down and their due tides (R235, R236) -/
  downAt : List (Nat × Nat) := []
  /-- rail slots disabled in this power-down whose rail has still to reach OFF, with the tide of the
  disable (R237) -/
  railsDown : List (Nat × Nat) := []
  /-- a power-down has completed since the power-on reset (R230) -/
  everDown : Bool := false
  /-- slots with a running fault since the warning began, and rails restarted once in it (R241) -/
  faulted : List Nat := []
  restarted : List Nat := []
  /-- the PFW_N output is high -/
  pfwN : Bool := false
  deriving DecidableEq, Repr

/-! ## Measurement (chapter 11) -/

/-- What a converter does (R251, R257, R258). -/
inductive AdcJob where
  | idle
  | loop                    -- converts its loop entry
  | pair                    -- converts its entry of a rendezvous in step with the other
  | urgent (tag : Nat)
  deriving DecidableEq, Repr

/-- Where a loop stands (R251, R257, R258): stopped; its next conversion ready to start, with the
conversions of the entry still to come after it; converting; in a delay until a tide; waiting at a
rendezvous since a tide. -/
inductive LoopPhase where
  | off
  | due (left : Nat)
  | conv (left : Nat)
  | delay (till : Nat)
  | waiting (since : Nat)
  deriving DecidableEq, Repr

/-- A loop (R251). -/
structure Loop where
  entry : Nat := 0
  phase : LoopPhase := .off
  /-- a rendezvous is agreed and both convert in step (R258) -/
  paired : Bool := false
  /-- the conversion that is due has been counted in SLIPA or SLIPB (R257) -/
  slipped : Bool := false
  deriving DecidableEq, Repr

structure Converter where
  job : AdcJob := .idle
  /-- when the present conversion began, by `clk`, and the tide of its sample instant (R246) -/
  began : Nat := 0
  stamp : Nat := 0
  loop : Loop := {}
  /-- the first result of a pair, awaiting the other converter's (R259) -/
  pairRes : Option Int := none
  deriving DecidableEq, Repr

/-- A filter slot (R252): its samples, newest first, at most K × D, and how many since the last output. -/
structure Filter where
  samples : List Int := []
  taken : Nat := 0
  phase : Nat := 0
  deriving DecidableEq, Repr

/-- An urgent request in a tag (R256). -/
structure Urgent where
  tag : Nat
  input : Nat
  conv : Nat
  /-- queued and not yet converted -/
  waiting : Bool
  deriving DecidableEq, Repr

/-- A window's action on its way: it takes effect at `due` of `clk` (R255). -/
structure WindowDue where
  due : Nat
  entry : Nat
  value : Int
  deriving DecidableEq, Repr

structure Adc where
  a : Converter := {}
  b : Converter := {}
  /-- the rigged table: (entry, 128 bits) (R250) -/
  table : List (Nat × Nat) := []
  /-- window counts and last raw results by entry; cross-check counts by pair -/
  wcount : List (Nat × Nat) := []
  raw : List (Nat × Nat × Nat) := []
  xcount : List (Nat × Nat) := []
  filters : List (Nat × Filter) := []
  tags : List Urgent := []
  /-- the last conversion of each entry was skipped (R249) -/
  skipped : List Nat := []
  /-- window actions not yet in effect, oldest first -/
  acting : List WindowDue := []
  deriving DecidableEq, Repr

/-! ## Charger, watchdog, security (chapters 12 to 14) -/

structure Charger where
  /-- tide of entry into the phase, and of the start of detection -/
  phaseAt : Nat := 0
  /-- the detection has sampled V_s and sources (R267, step 3) -/
  sourcing : Bool := false
  /-- the battery was found absent: detection repeats 1 s after its start (R267) -/
  absent : Bool := false
  /-- VBAT in mV as last reported, for HEALTHY (R275) -/
  vbat : Nat := 0
  /-- tide of the last removal check (R273) -/
  checkAt : Nat := 0
  /-- the safety timer and its precharge part, in half ticks (R270) -/
  safe2 : Nat := 0
  pre2 : Nat := 0
  deriving DecidableEq, Repr

/-- What the charger did in the present tick, for an event of the same tick that comes before it (R274): the event's
rank, CHG.STAT, CYCNT and the charger before it, and the code it logged. -/
structure ChgDone where
  tick : Nat
  rank : Nat
  stat : Nat
  cycles : Nat
  before : Charger
  code : Option Nat
  deriving DecidableEq, Repr

structure Wdt where
  /-- hundred-millionths of a watchdog tick towards the next CNT -/
  frac : Nat := 0
  /-- T_WARN and T_BOOT in ticks in use, and whether this period has warned -/
  warn : Nat := 3276
  boot : Nat := 65536
  warned : Bool := false
  /-- the clock in use: 1 MHz (R283) -/
  fast : Bool := false
  /-- when a debug halt last ended, by `clk`: R284's monitor periods count from there (R299) -/
  resumedAt : Nat := 0
  /-- when the last valid service took effect, by `clk`, and the CHK bits of the period that it ended (R291) -/
  servedAt : Option Nat := none
  ended : Nat := 0
  /-- the core is held in reset until this tide (R296) -/
  resetTo : Option Nat := none
  /-- WDX is high until this tide -/
  wdxTo : Option Nat := none
  /-- this expiry is still to be logged after the restart (R296, step 5) -/
  toLog : Bool := false
  deriving DecidableEq, Repr

/-- Whether the helm has its supply (R314): `on`, or unpowered in SHIP or OFF. -/
inductive Supply where
  | on | ship | off
  deriving DecidableEq, Repr

structure Security where
  supply : Supply := .on
  /-- the nonce of SEC-AP, and the failures in succession (R310) -/
  nonce : Nat := 0
  fails : Nat := 0
  /-- tide of a granted RETURN authorisation (R303) -/
  returnAt : Option Nat := none
  /-- the core runs the boot ROM's recovery (R306, step 5) -/
  recovery : Bool := false
  /-- a core reset has happened and the boot ROM has not run since (R306, R387) -/
  bootDue : Bool := true
  /-- the boot to come is the first after a power-on reset; it follows an activation -/
  cold : Bool := true
  activation : Bool := false
  /-- the rigging load that the firmware runs next (R366) -/
  loadDue : Bool := false
  /-- this boot runs the previous slots, its count not written (R387) -/
  previous : Bool := false
  /-- a halt waits for the next scan (R312) -/
  haltAtScan : Bool := false
  /-- RUN has been accepted and begins at the next scan boundary (R316) -/
  runAtScan : Bool := false
  deriving DecidableEq, Repr

/-! ## OTP and store (chapters 15 and 16) -/

/-- A running OTP command (R335): its result when it ends, its address, a region that it finalises,
whether it writes a repair record, and the physical bits it burns. -/
structure OtpRun where
  result : Nat
  addr : Nat
  final : Option Nat := none
  repair : Bool := false
  /-- bits that the command adds at normal and at tight margin, by physical word (R335) -/
  burns : List (Nat × Nat) := []
  tightBurns : List (Nat × Nat) := []
  deriving DecidableEq, Repr

structure Otp where
  /-- the array at normal and at tight margin; an unlisted word reads 0 (R323) -/
  norm : Words := []
  tight : Words := []
  /-- physical words flagged weak at the last start, or since (R329, R326) -/
  weak : List Nat := []
  run : Option OtpRun := none
  deriving DecidableEq, Repr

/-- A boot header record (R386). -/
structure BootHdr where
  fw : Nat
  rg : Nat
  trial : Nat
  tries : Nat
  fwId : Nat
  rgId : Nat
  epoch : Nat
  deriving DecidableEq, Repr

/-- A channel's part of a LATENCY record: L_on and L_off in 10 ns, the UNL flags, CYC, and the check value
of its CHANNEL record (R109, R340). -/
structure LatRec where
  on : Nat
  off : Nat
  unl : Nat
  cyc : Nat
  check : Nat
  deriving DecidableEq, Repr

/-- What a record of the log or the journal carries (R340, R343, R345, R346). -/
inductive RecBody where
  | event (e : Event) (boot sclk : Nat)
  | counter (part : Nat) (vals : List Nat)
  | latency (group : Nat) (chans : List LatRec)
  /-- with TSCRUB, which is journalled too (notes/assumptions/34.md) -/
  | clock (sclk boot tscrub : Nat)
  | sector (erases sclk boot : Nat)
  deriving DecidableEq, Repr

/-- A DEFECT record (R340, R349): the retired sector, the spare that stands for it, its erase count and the cause. -/
structure DefectRec where
  seq : Nat
  sector : Nat
  spare : Nat
  erases : Nat
  cause : Nat
  deriving DecidableEq, Repr

/-- A record as written. -/
structure Record where
  seq : Nat
  tide : Nat
  body : RecBody
  /-- it passes MAGIC and CRC (R342) -/
  intact : Bool := true
  deriving DecidableEq, Repr

/-- A sector of the log or journal that holds records, oldest first; `time` is its programming time
(R353). -/
structure Sector where
  num : Nat
  time : Nat
  recs : List Record
  deriving DecidableEq, Repr

/-- A program or erase under way (R341, R343, R346). -/
inductive StoreOp where
  | record (b : RecBody) (tide : Nat)
  /-- the SECTOR record that opens the next sector of the journal, or of the log (R344, R346) -/
  | openSector (journal : Bool)
  | eraseLog
  | eraseJournal
  deriving DecidableEq, Repr

structure Store where
  /-- the bytes of the slot areas; an unlisted byte reads 0xFF -/
  flash : Bytes := []
  /-- the boot header copies: the newest valid record of each with its SEQ, and how many records the
  copy's sector holds (R386) -/
  hdr0 : Option (Nat × BootHdr) := none
  hdr1 : Option (Nat × BootHdr) := none
  used0 : Nat := 0
  used1 : Nat := 0
  /-- log and journal sectors that hold records, from the oldest to the one in use; every other sector
  of the areas is erased -/
  log : List Sector := []
  journal : List Sector := []
  jseq : Nat := 0
  /-- the two copies of the defect table, oldest record first, and its next SEQ (R349) -/
  def2 : List DefectRec := []
  def3 : List DefectRec := []
  defSeq : Nat := 0
  /-- sectors that wait to be retired, with the cause (R350); physical sectors that were, that a rewrite gave back to the
  pool (R353), and erase counts by physical sector -/
  retiring : List (Nat × Nat) := []
  worn : List Nat := []
  returned : List Nat := []
  erases : List (Nat × Nat) := []
  /-- SCLK at the last rewrite of sectors 0–3 (R353) -/
  critTime : Nat := 0
  /-- journal records that wait for RECORD_WRITE, with their tides -/
  ready : List (RecBody × Nat) := []
  /-- what is still to be written of the full copy that opens a journal sector (R346) -/
  opening : List RecBody := []
  /-- a counter has changed since the last journalling (R243) -/
  cntDirty : Bool := false
  /-- the 32-entry SRAM queue (R348), the drops still to be reported, and a deferral under way -/
  queue : List (RecBody × Nat) := []
  droppedSince : Nat := 0
  deferring : Bool := false
  /-- when the head of the queue was last tried, by `clk`, and the power state then (R348) -/
  triedAt : Nat := 0
  triedIn : Nat := 0
  /-- maximum program and erase times from SFDP, µs -/
  tProg : Nat := 0
  tErase : Nat := 0
  /-- tide of the last SCLK second, of the last CLOCK record, of the last latency journal -/
  sclkAt : Nat := 0
  clockAt : Nat := 0
  latAt : Nat := 0
  /-- a power-down has completed since: latencies and clock are due for the journal (R109, R346) -/
  latDue : Bool := false
  clockDue : Bool := false
  /-- the operation under way -/
  op : Option StoreOp := none
  /-- the 32-byte writes staged in the window (R355), newest first, and the block base -/
  staged : List Nat := []
  stageBase : Nat := 0
  deriving DecidableEq, Repr

/-! ## Rigging, update, buses (chapters 17 to 19) -/

/-- A record of a rigging image (R361). -/
structure RigRec where
  type : Nat
  inst : Nat
  data : List Nat
  deriving DecidableEq, Repr

/-- A rigging image that has passed its checks and waits for its commit (R366). -/
structure Shadow where
  slot : Nat
  fellback : Bool
  recs : List RigRec
  /-- types of the optional records that were skipped (R360) -/
  skipped : List Nat
  /-- from its header -/
  imgid : Nat
  version : Nat
  fmt : Nat
  chver : Nat
  deriving DecidableEq, Repr

/-- A response frame of the service port (R373, R374). -/
structure SvcResp where
  cmd : Nat
  tag : Nat
  payload : List Nat
  deriving DecidableEq, Repr

structure Upd where
  resp : Option SvcResp := none
  /-- sectors of the transfer still to be erased (R377) -/
  toErase : List Nat := []
  /-- pages programmed, as 256-byte page numbers (R378) -/
  pages : List Nat := []
  /-- a firmware, a rigging image in the inactive slot is READY (R376, R381) -/
  readyFw : Bool := false
  readyRg : Bool := false
  /-- the payload of the ACTIVATE that is armed, or was last (R175, R381) -/
  armed : List Nat := []
  /-- the epoch whose suspension runs (R383), and postponement logged (R382) -/
  suspend : Option Nat := none
  postponed : Bool := false
  /-- the head repeats this ACTIVATE with each query (R380) -/
  repeating : Option (List Nat) := none
  deriving DecidableEq, Repr

structure Twi where
  ptr : Nat := 0
  page : Nat := 0
  /-- the snapshot: register address and value (R393) -/
  snap : Option (Nat × Nat) := none
  /-- the write buffer: register address and value (R394) -/
  buf : Option (Nat × Nat) := none
  /-- the bytes the last transaction returned, and whether its address was acknowledged -/
  out : List Nat := []
  acked : Bool := true
  /-- a pulse has been sent for the attention pending now; tide of the service that followed it (R396) -/
  pulsed : Bool := false
  servedAt : Option Nat := none
  /-- retries of the controller transaction so far (R399) -/
  tries : Nat := 0
  deriving DecidableEq, Repr

/-- Everything the spec gives the block. -/
structure Device where
  regs : RegFile := []
  chans : Vector Chan 160 := .replicate 160 {}
  banks : Vector Bank 4 := .replicate 4 {}
  rck : Rck := {}
  /-- the edge store (R62) -/
  store : List Entry := []
  /-- the section map: local section and member mask; ring ID and local section (R65) -/
  sects : List (Nat × Nat) := []
  ringMap : List (Nat × Nat) := []
  /-- the return code to firmware of the last edge written into the core's queue (R58) -/
  coreRes : Option EdgeReply := none
  /-- events logged and not yet taken by RECORD_WRITE, oldest first -/
  events : List Event := []
  /-- R460: the second in which each (code, key) was last logged -/
  logged : List (Nat × Nat × Nat) := []
  ring : Ring := {}
  feedA : Feed := {}
  feedB : Feed := {}
  switch : Option Switchover := none
  rails : Vector Rail 4 := .replicate 4 {}
  int : IntReg := {}
  seq : Seq := {}
  adc : Adc := {}
  chg : Charger := {}
  /-- the charger's event of the present tick (R274) -/
  chgLast : Option ChgDone := none
  wdt : Wdt := {}
  sec : Security := {}
  otp : Otp := {}
  flash : Store := {}
  shadow : Option Shadow := none
  upd : Upd := {}
  twi : Twi := {}
  /-- 10 ns periods of the PLL's clock since the power-on reset, which no steering moves: what the private
  links, the clusters' timebases and the bank dies count (R17, R18, R90, R117) -/
  clk : Nat := 0
  /-- the event bits that hardware has set in one cycle: its tide, and their registers' addresses and bit
  numbers (R6, R416) -/
  fresh : Nat × List (Nat × Nat) := (0, [])
  /-- the core's own write buffer: register address and value (R408) -/
  coreBuf : Option (Nat × Nat) := none
  /-- 10 ns periods of the feed controllers, which VFC runs while the helm has no supply too (R189) -/
  feedClk : Nat := 0
  /-- index of the next free value: the model's own, not the spec's -/
  free : Nat := 0
  deriving DecidableEq, Repr

/-- The block and the commands that wait, first in, first out. -/
structure State where
  dev : Device
  pending : List Instr
  deriving DecidableEq, Repr

/-- A command that cannot exist: no meaning raises it on a well-formed command. Safe: the model
stops where there is no hardware to go on. -/
inductive Fault where
  /-- The command is not well-formed (WellFormed.lean). Safe. -/
  | malformed
  deriving DecidableEq, Repr

/-- Why the model gives a command no meaning. -/
inductive Refusal where
  /-- Raised by an arm of `exec` whose meaning is not written. Safe. -/
  | notModelled (mnemonic : String)
  deriving DecidableEq, Repr

/-- The OTP array as it leaves the factory, in the model: IDENT word 3 holds stepping A2 in both
copies (R1, R323, R324); every other word is blank (notes/assumptions/6.md). -/
def Otp.factory : Otp where
  norm := [(0x103, 0xA2), (0x143, 0xA2)]
  tight := [(0x103, 0xA2), (0x143, 0xA2)]

/-- The device as a power-on reset leaves it (R409): every register at its Reset value, tide and
reckoning 0, nothing queued. -/
def Device.reset : Device where
  otp := Otp.factory

/-- The state right after reset: the queue is empty. -/
def State.reset : State := { dev := Device.reset, pending := [] }

end Sys2Proof.Machine
end

