-- ==== Sys2Proof/Machine/Ops.lean ====
section
/-! DEFINITION. Machine/Ops.lean: the named operations over the state that every family shares:
registers and their fields, sparse data, channels, banks and rails, free values, the event log,
counters, and rounding. -/
namespace Sys2Proof.Machine

/-! ## Arithmetic -/

/-- Ticks of tide (10 ns, R8) in a µs, a ms and a s. -/
abbrev usec : Nat := 100
abbrev msec : Nat := 100000
abbrev second : Nat := 100000000

/-- n / d rounded to the nearest whole, halves up (R68, R91, R102, R107, R252). -/
def roundDiv (n : Int) (d : Nat) : Int := (2 * n + d) / (2 * d)

/-- n / d rounded up (R286). -/
def ceilDiv (n d : Nat) : Nat := (n + d - 1) / d

/-- `v` limited to [lo, hi]. -/
def clamp (lo hi v : Nat) : Nat := max lo (min hi v)

/-- A `w`-bit number read as two's complement. -/
def signed (w v : Nat) : Int := if v % 2 ^ w < 2 ^ (w - 1) then (v % 2 ^ w : Nat) else (v % 2 ^ w : Nat) - (2 ^ w : Nat)

/-- The `w`-bit two's complement of a whole number. -/
def unsigned (w : Nat) (v : Int) : Nat := (v % (2 ^ w : Nat)).toNat

/-- Bits [lo + w − 1 : lo] of `x`. -/
def bitsOf (x lo w : Nat) : Nat := x / 2 ^ lo % 2 ^ w

/-- `x` with bits [lo + w − 1 : lo] replaced by `v`. -/
def setBits (x lo w v : Nat) : Nat :=
  x / 2 ^ (lo + w) * 2 ^ (lo + w) + v % 2 ^ w * 2 ^ lo + x % 2 ^ lo

/-- Bits of `a` that are 0 in `b`. -/
def lacking (a b : Nat) : Nat := a - (a &&& b)

/-- `x` as `n` bytes, least significant first. -/
def toBytes : Nat → Nat → List Nat
  | 0, _ => []
  | n + 1, x => x % 256 :: toBytes n (x / 256)

/-- The number whose bytes, least significant first, are given. -/
def ofBytes : List Nat → Nat
  | [] => 0
  | b :: t => b % 256 + 256 * ofBytes t

/-- SEQ `a` is newer than `b` among `w`-bit numbers (R72, R155). -/
def seqNewer (w a b : Nat) : Bool :=
  let diff := (a + 2 ^ w - b % 2 ^ w) % 2 ^ w
  if diff = 2 ^ (w - 1) then decide (b < a) else decide (0 < diff ∧ diff < 2 ^ (w - 1))

/-- A number into an ascending list. -/
def insNat : List Nat → Nat → List Nat
  | [], a => [a]
  | b :: t, a => if a ≤ b then a :: b :: t else b :: insNat t a

/-- The numbers in ascending order. -/
def sortNat (l : List Nat) : List Nat := l.foldl insNat []

/-! ## Keyed lists -/

/-- The value listed under key `a`. -/
def look {α : Type} : List (Nat × α) → Nat → Option α
  | [], _ => none
  | (b, v) :: t, a => if b = a then some v else look t a

/-- Without key `a`. -/
def del {α : Type} (l : List (Nat × α)) (a : Nat) : List (Nat × α) := l.filter fun e => e.1 ≠ a

/-- With (a, v) before the first greater key. -/
def ins {α : Type} : List (Nat × α) → Nat → α → List (Nat × α)
  | [], a, v => [(a, v)]
  | (b, w) :: t, a, v => if a < b then (a, v) :: (b, w) :: t else (b, w) :: ins t a v

/-- With `v` under key `a`. -/
def put {α : Type} (l : List (Nat × α)) (a : Nat) (v : α) : List (Nat × α) := ins (del l a) a v

/-- With `v` under key `a`, the key dropped where `v` is what an unlisted key reads as. -/
def putD {α : Type} [DecidableEq α] (l : List (Nat × α)) (a : Nat) (v dflt : α) : List (Nat × α) :=
  if v = dflt then del l a else put l a v

/-- The canonical form: keys strictly rising, no value equal to its key's default. -/
def canonical {α : Type} [DecidableEq α] (dflt : Nat → α) : List (Nat × α) → Bool
  | [] => true
  | (a, v) :: t => v ≠ dflt a && t.all (fun e => a < e.1) && canonical dflt t

/-! ## The register file -/

/-- The value of a register. -/
def Device.rd (d : Device) (r : Reg) : Nat := (look d.regs r.addr).getD r.reset

/-- A register takes a value, cut to its width. -/
def Device.wr (d : Device) (r : Reg) (v : Nat) : Device :=
  { d with regs := putD d.regs r.addr (v % 2 ^ r.width) r.reset }

/-- The value of a field. -/
def Device.fld (d : Device) (f : Field) : Nat := bitsOf (d.rd f.reg) f.lo f.w

/-- A field takes a value. -/
def Device.setFld (d : Device) (f : Field) (v : Nat) : Device := d.wr f.reg (setBits (d.rd f.reg) f.lo f.w v)

/-- A one-bit field as a truth value. -/
def Device.flag (d : Device) (f : Field) : Bool := d.fld f == 1

/-- A one-bit field takes a truth value. -/
def Device.setFlag (d : Device) (f : Field) (b : Bool) : Device := d.setFld f b.toNat

/-- Local tide. -/
abbrev Device.now (d : Device) : Nat := d.rck.tide

/-- R6: hardware sets bit `bit` of the register at `addr` in this cycle. -/
def Device.noteSet (d : Device) (addr bit : Nat) : Device :=
  { d with fresh := (d.now, (addr, bit) :: if d.fresh.1 = d.now then d.fresh.2 else []) }

/-- The bits of a register that hardware has set in this cycle: a write of 1 leaves them at 1 (R6, R416). -/
def Device.freshBits (d : Device) (r : Reg) : Nat :=
  if d.fresh.1 = d.now then
    ((List.range r.width).filter fun i => d.fresh.2.contains (r.addr, i)).foldl (fun m i => m + 2 ^ i) 0
  else 0

/-- An event bit is set by hardware. -/
def Device.raise (d : Device) (f : Field) : Device := (d.setFlag f true).noteSet f.reg.addr f.lo

/-- A status bit is cleared. -/
abbrev Device.lower (d : Device) (f : Field) : Device := d.setFlag f false

/-- Bit `i` of a register. -/
def Device.bit (d : Device) (r : Reg) (i : Nat) : Bool := d.fld ⟨r, i, 1⟩ == 1

/-- Bit `i` of a register takes a value. -/
def Device.setBit (d : Device) (r : Reg) (i : Nat) (b : Bool) : Device := d.setFld ⟨r, i, 1⟩ b.toNat

/-- Bit `i` of a register is set by hardware. -/
def Device.raiseBit (d : Device) (r : Reg) (i : Nat) : Device := (d.setBit r i true).noteSet r.addr i

/-- A counter counts `n`, saturating. -/
def Device.countSat (d : Device) (r : Reg) (n : Nat := 1) : Device := d.wr r (min (d.rd r + n) (2 ^ r.width - 1))

/-- A counter counts `n`, wrapping. -/
def Device.count (d : Device) (r : Reg) (n : Nat := 1) : Device := d.wr r (d.rd r + n)

/-! ## Parts of the device -/

def Device.chan (d : Device) (n : Nat) : Chan := (d.chans[n]?).getD {}
def Device.setChan (d : Device) (n : Nat) (c : Chan) : Device := { d with chans := d.chans.setIfInBounds n c }
def Device.modChan (d : Device) (n : Nat) (f : Chan → Chan) : Device := d.setChan n (f (d.chan n))

def Device.bank (d : Device) (m : Nat) : Bank := (d.banks[m]?).getD {}
def Device.setBank (d : Device) (m : Nat) (b : Bank) : Device := { d with banks := d.banks.setIfInBounds m b }
def Device.modBank (d : Device) (m : Nat) (f : Bank → Bank) : Device := d.setBank m (f (d.bank m))

def Device.rail (d : Device) (r : Nat) : Rail := (d.rails[r]?).getD {}
def Device.setRail (d : Device) (r : Nat) (x : Rail) : Device := { d with rails := d.rails.setIfInBounds r x }
def Device.modRail (d : Device) (r : Nat) (f : Rail → Rail) : Device := d.setRail r (f (d.rail r))

/-- Index of a feed or a port in its register blocks. -/
def FeedIx : FeedId → Nat
  | .fa => 0
  | .fb => 1
def PortIx : Port → Nat
  | .east => 0
  | .west => 1

def Device.feed (d : Device) : FeedId → Feed
  | .fa => d.feedA
  | .fb => d.feedB
def Device.setFeed (d : Device) (f : FeedId) (x : Feed) : Device :=
  match f with
  | .fa => { d with feedA := x }
  | .fb => { d with feedB := x }
def otherFeed : FeedId → FeedId
  | .fa => .fb
  | .fb => .fa

def Device.port (d : Device) : Port → PortSt
  | .east => d.ring.east
  | .west => d.ring.west
def Device.setPort (d : Device) (p : Port) (x : PortSt) : Device :=
  match p with
  | .east => { d with ring := { d.ring with east := x } }
  | .west => { d with ring := { d.ring with west := x } }
def otherPort : Port → Port
  | .east => .west
  | .west => .east

/-- Local reckoning in 1/256 mark (R8): the top 8 of the 32 fraction bits (R34). -/
def Device.reckoning (d : Device) : Nat := d.rck.reck / 2 ^ 24

/-- The channels, and the channels of a bank, in order (R12). -/
def allChans : List Nat := List.range 160
def bankChans (m : Nat) : List Nat := (List.range 40).map (40 * m + ·)

/-- One step after another for each of a list. -/
def Device.each {α : Type} (d : Device) (l : List α) (f : Device → α → Device) : Device := l.foldl f d

/-- One of two steps. -/
def Device.when (d : Device) (c : Bool) (f : Device → Device) : Device := if c then f d else d

/-! ## Power state, role, rigging -/

/-- Power states as SEC.PSTAT reports them (R314). -/
def stKeep : Nat := 2
def stStandby : Nat := 3
def stRun : Nat := 4

def Device.inRun (d : Device) : Bool := d.fld SEC.PSTAT_STATE == stRun
def Device.inKeep (d : Device) : Bool := d.fld SEC.PSTAT_STATE == stKeep
def Device.rigged (d : Device) : Bool := d.flag SYS.RIG_RIGGED
/-- The device holds the head role (RCK.CFG.ROLE). -/
def Device.isHead (d : Device) : Bool := d.fld RCK.CFG_ROLE == 1
def Device.isStandby (d : Device) : Bool := d.fld RCK.CFG_ROLE == 2
/-- The core runs: neither halted by a debugger nor held in reset (R296, R312). -/
def Device.coreAlive (d : Device) : Bool := !d.flag SEC.DBG_HALTED && d.wdt.resetTo.isNone
/-- Firmware runs: it has booted since the last core reset, and not into recovery (R306). -/
def Device.coreRuns (d : Device) : Bool := d.coreAlive && !d.sec.bootDue && !d.sec.recovery
/-- The core answers the service port and keeps transfers: firmware, or the boot ROM in recovery (R306, R312). -/
def Device.coreServes (d : Device) : Bool := d.coreAlive && !d.sec.bootDue
/-- The address in use (R176). -/
def Device.addr (d : Device) : Nat := d.fld RING.ADDR_ADDR

/-! ## Free values -/

/-- The next free value, below `2 ^ w`: the spec states no number, and the step goes on with this
one (notes/assumptions/3.md). -/
def Device.freeVal (d : Device) (w : Nat) : Nat := Config.freeValue d.free % 2 ^ w

/-- The free value is used up. -/
def Device.nextFree (d : Device) : Device := { d with free := d.free + 1 }

/-! ## The event log -/

/-- A member sends every event it logs to the head (R173): the event joins the 16-entry EVENT
queue, whose oldest is dropped when it overflows. -/
def Device.toHead (d : Device) (e : Event) (front : Bool := false) : Device :=
  if d.isHead then d
  else
    let q := if front then e :: d.ring.evq else d.ring.evq ++ [e]
    if q.length ≤ 16 then { d with ring := { d.ring with evq := q } }
    else
      let q' := if front then e :: d.ring.evq.tail else d.ring.evq.tail ++ [e]
      (({ d with ring := { d.ring with evq := q' } }).raise RING.RSTAT_EVDROP).countSat RING.EVDROPCNT

/-- An event is logged with its tide stamp and, on a member, sent to the head. -/
def Device.log (d : Device) (code : Nat) (args : List Nat := []) (front : Bool := false) : Device :=
  let e : Event := { code := code, tide := d.now, args := args }
  ({ d with events := d.events ++ [e] }).toHead e front

/-- R460: the event is logged if it is the first under its code and key in the present second of
tide. `report`: it is returned along its entry path every time (R58). A later occurrence in that second counts
in the registers of its own rule alone: R460 names no counter of its own, and ADC_WINDOW has none (DESIGN CHOICE,
notes/assumptions/75.md). -/
def Device.logFirst (d : Device) (code key : Nat) (args : List Nat := []) (report : Bool := false) : Device :=
  let sec := d.now / second
  if d.logged.any fun e => e.1 == code && e.2.1 == key && e.2.2 == sec then
    if report then d.toHead { code := code, tide := d.now, args := args } else d
  else
    ({ d with logged := (code, key, sec) :: d.logged.filter (fun e => !(e.1 == code && e.2.1 == key)) }).log code args

/-! ## Meanings -/

/-- The helm is powered: in SHIP and OFF nothing but the wake detector acts (R276, R314). -/
def Device.powered (d : Device) : Bool := d.sec.supply == .on

/-- A meaning that always answers a next state: the device changes, the queue does not. An unpowered
helm takes no part. -/
def State.run (s : State) (f : Device → Device) : Host.Outcome State Fault Refusal :=
  .next { s with dev := if s.dev.powered then f s.dev else s.dev }

/-- The device with another one's feed controllers: their state and page FEED. -/
def Device.withFeeds (d x : Device) : Device :=
  { d with
    feedA := x.feedA, feedB := x.feedB, switch := x.switch, feedClk := x.feedClk
    regs := d.regs.filter (fun e => e.1 < 0x500) ++ x.regs.filter (fun e => e.1 / 256 == 5)
      ++ d.regs.filter (fun e => 0x600 ≤ e.1) }

/-- The feed controllers alone, where the helm has no supply (R189). -/
def Device.onFeeds (d : Device) (f : Device → Device) : Device := if d.powered then f d else d.withFeeds (f d)

/-- The same for the feed controllers, which run from VFC: with the helm unpowered they alone change (R189, R192). -/
def State.runFeed (s : State) (f : Device → Device) : Host.Outcome State Fault Refusal :=
  .next { s with dev := s.dev.onFeeds f }

/-- The same for what reaches an unpowered device too. -/
def State.runAny (s : State) (f : Device → Device) : Host.Outcome State Fault Refusal :=
  .next { s with dev := f s.dev }

/-- The same for a command that must be well-formed. -/
def State.runIf (s : State) (ok : Bool) (f : Device → Device) : Host.Outcome State Fault Refusal :=
  if ok then s.run f else .fault .malformed

end Sys2Proof.Machine
end

