-- ==== Sys2Proof/Machine/Flags.lean ====
section
/-! DEFINITION. Machine/Flags.lean: the interrupt summary, the interrupt outputs and the attention condition
(R396, R397, R414–R416). The flags a command sets are computed by its own block. -/
namespace Sys2Proof.Machine

/-- Some W1C bit of a register is 1. -/
def Device.eventIn (d : Device) (r : Reg) : Bool := r.w1c != 0 && d.rd r &&& r.w1c != 0

/-- Pages whose W1C bits a bit of ISUM gathers: its own, and for BANK the CHS pages. -/
def gathered (p : Nat) : List Nat := if p = 4 then 4 :: (List.range 10).map (0x30 + ·) else [p]

def Device.pageBit (d : Device) (p : Nat) : Bool := (gathered p).any fun q => (pageRegs q).any d.eventIn

/-- SYS.ISUM (R414). -/
def Device.isum (d : Device) : Nat := (List.range 20).foldl (fun m p => m + (d.pageBit p).toNat * 2 ^ p) 0
/-- SYS.IRQC and SYS.IRQH. -/
def Device.irqc (d : Device) : Nat := d.isum &&& d.rd SYS.IMASKC
def Device.irqh (d : Device) : Nat := d.isum &&& d.rd SYS.IMASKH

/-- The core's interrupt input (R415). -/
def Device.coreIrq (d : Device) : Bool := d.irqc != 0
/-- IRQ_N is driven low (R415); an unpowered device releases it. -/
def Device.irqDriven (d : Device) : Bool := d.powered && d.flag SYS.ICFG_IRQEN && d.irqh != 0
/-- The condition of attention (R396). -/
def Device.attention (d : Device) : Bool := d.flag TWI.CFG_ATTEN && d.irqDriven

/-- Attention is pending: from a service until ATTREP × 10 ms later the device withholds it (R396, R397). -/
def Device.attPending (d : Device) : Bool :=
  d.attention &&
    match d.twi.servedAt with
    | none => true
    | some t => d.fld TWI.CFG_ATTREP != 0 && decide (t + d.fld TWI.CFG_ATTREP * 10 * msec ≤ d.now)

/-- Where the condition has gone, the next attention begins afresh (R396). -/
def Device.attSettle (d : Device) : Device :=
  if (!d.twi.pulsed && d.twi.servedAt.isNone) || d.attention then d
  else { d with twi := { d.twi with pulsed := false, servedAt := none } }

end Sys2Proof.Machine
end

