-- ==== Sys2Proof/Machine/Operands.lean ====
section
/-! DEFINITION. Machine/Operands.lean: every operand form of the commands: the fields of an edge
(R54), of a cell (R145), of a message payload (R166–R177), the check codes (R57, R147, R340), and
who a writer is (R56, R76, R281). -/
namespace Sys2Proof.Machine

/-! ## Check codes -/

/-- One byte into a CRC of width `w`, most significant bit first. -/
def crcByte (w poly crc byte : Nat) : Nat :=
  (List.range 8).foldl (fun c _ =>
    if c / 2 ^ (w - 1) % 2 = 1 then (c * 2 % 2 ^ w) ^^^ poly else c * 2 % 2 ^ w)
    (crc ^^^ (byte % 256 * 2 ^ (w - 8)))

/-- CRC-8 of R57: polynomial 0x2F, initial 0xFF, no reflection, final XOR 0xFF. -/
def crc8 (bs : List Nat) : Nat := bs.foldl (crcByte 8 0x2F) 0xFF ^^^ 0xFF

/-- CRC-16 of R147: polynomial 0x1021, initial 0xFFFF, no reflection, no final XOR. -/
def crc16 (bs : List Nat) : Nat := bs.foldl (crcByte 16 0x1021) 0xFFFF

/-- One byte into the reflected CRC-32C; 0x82F63B78 is 0x1EDC6F41 with its bits in reverse. -/
def crc32Byte (crc byte : Nat) : Nat :=
  (List.range 8).foldl (fun c _ => if c % 2 = 1 then (c / 2) ^^^ 0x82F63B78 else c / 2) (crc ^^^ (byte % 256))

/-- CRC-32C of R340: polynomial 0x1EDC6F41, reflected, initial value and final XOR 0xFFFFFFFF. -/
def crc32c (bs : List Nat) : Nat := bs.foldl crc32Byte 0xFFFFFFFF ^^^ 0xFFFFFFFF

/-! ## Writers -/

/-- The core, at either level. -/
def isCore : Writer → Bool
  | .wright | .hand => true
  | _ => false

/-- The source an edge takes from its writer (R60). -/
def writerSource : Writer → Source
  | .wright | .hand => .core
  | .ring => .head
  | .host => .host
  | .service => .svc

/-- Ranks (R56): 1 is highest. -/
def rank : Source → Nat
  | .fault => 1
  | .strike => 2
  | .head => 3
  | .core => 4
  | .host => 5
  | .svc => 6

/-- SRC codes (R56). -/
def srcCode : Source → Nat
  | .fault => 0
  | .strike => 1
  | .head => 2
  | .core => 3
  | .host => 4
  | .svc => 5

/-! ## Edges -/

/-- The fields of an edge (R54). -/
structure EdgeReq where
  fire : Nat
  seq : Nat
  index : Nat
  ttype : Nat
  rsv : Nat
  action : Nat
  late : Nat
  arg : Nat
  chkOk : Bool
  deriving DecidableEq, Repr

/-- The fields of sixteen bytes taken as one number; CHK is computed with SRC as sent (R57). -/
def edgeReq (x : Nat) : EdgeReq where
  fire := bitsOf x 0 48
  seq := bitsOf x 48 32
  index := bitsOf x 80 10
  ttype := bitsOf x 92 2
  rsv := bitsOf x 90 2 + bitsOf x 94 2
  action := bitsOf x 96 3
  late := bitsOf x 99 2
  arg := bitsOf x 104 16
  chkOk := crc8 (toBytes 15 x) == bitsOf x 120 8

/-- The action of an edge, none where R55 refuses it. -/
def edgeAction (e : EdgeReq) : Option Action :=
  if e.action = 0 then (if e.arg = 0 then some .on else none)
  else if e.action = 1 then (if e.arg = 0 then some .off else none)
  else if e.action = 2 then (if e.arg < 1024 then some (.duty e.arg) else none)
  else if e.action = 3 then (if e.arg < 16 then some (.mode e.arg) else none)
  else if e.action = 4 then (if e.arg = 0 then none else some (.hold e.arg))
  else none

/-- The class of an action (R55). -/
def actClass : Action → Class
  | .on | .off | .hold _ => .state
  | .duty _ => .duty
  | .mode _ => .mode

/-- The order in which classes at one mark are applied: mode, duty, state (R73). -/
def classOrder : Class → Nat
  | .mode => 0
  | .duty => 1
  | .state => 2

/-! ## Cells -/

/-- Byte `i` of a payload; bytes beyond its length are 0 (R166). -/
def byteAt (l : List Nat) (i : Nat) : Nat := (l[i]?).getD 0

/-- Bytes i to i + n − 1 of a payload as a number. -/
def fieldAt (l : List Nat) (i n : Nat) : Nat := ofBytes ((List.range n).map fun k => byteAt l (i + k))

/-- The fields of a cell (R145). -/
structure Cell where
  link : Bool
  src : Nat
  type : Nat
  seg : Nat
  last : Bool
  dst : Nat
  seq : Nat
  hop : Nat
  ver : Nat
  payload : List Nat
  crc : Nat
  crcCalc : Nat
  deriving DecidableEq, Repr

/-- Codes that stand in byte 0 for the SOC code groups K27.7 and K29.7 (R143): the octet values of
those groups. -/
def socCell : Nat := 0xFB
def socLink : Nat := 0xFD

/-- The fields of a cell's twenty bytes. -/
def cellFields (x : Nat) : Cell where
  link := bitsOf x 0 8 == socLink
  src := bitsOf x 8 12
  type := bitsOf x 20 4
  seg := bitsOf x 24 2
  last := bitsOf x 26 1 == 1
  dst := bitsOf x 28 12
  seq := bitsOf x 40 16
  hop := bitsOf x 56 12
  ver := bitsOf x 68 4
  payload := toBytes 9 (bitsOf x 72 72)
  crc := bitsOf x 144 16
  crcCalc := crc16 (toBytes 17 (x / 256))

/-- The twenty bytes of a cell, its CRC computed (R147). -/
def cellBytes (link : Bool) (src type seg : Nat) (last : Bool) (dst seq hop ver : Nat) (pay : List Nat) : Nat :=
  let body := toBytes 8 (src % 2 ^ 12 + type % 16 * 2 ^ 12 + seg % 4 * 2 ^ 16 + last.toNat * 2 ^ 18
    + dst % 2 ^ 12 * 2 ^ 20 + seq % 2 ^ 16 * 2 ^ 32 + hop % 2 ^ 12 * 2 ^ 48 + ver % 16 * 2 ^ 60)
    ++ (List.range 9).map (byteAt pay)
  ofBytes ((if link then socLink else socCell) :: body ++ toBytes 2 (crc16 body))

/-- Message types (R146). -/
def msgType : Nat → Option MsgType
  | 1 => some .beacon
  | 2 => some .edge
  | 3 => some .read
  | 4 => some .write
  | 5 => some .response
  | 6 => some .event
  | 7 => some .strike
  | 8 => some .activate
  | 9 => some .enum
  | _ => none

def typeCode : MsgType → Nat
  | .beacon => 1
  | .edge => 2
  | .read => 3
  | .write => 4
  | .response => 5
  | .event => 6
  | .strike => 7
  | .activate => 8
  | .enum => 9

/-- The class of an own message in the order of R183; STRIKE stands before them all (R152). -/
def sendClass : MsgType → Nat
  | .strike => 0
  | .beacon => 1
  | .activate => 2
  | .edge => 3
  | .response => 4
  | .read | .write => 5
  | .event => 6
  | .enum => 7

/-- Cells of a message of `n` payload bytes (R148, R166). -/
def segCount (n : Nat) : Nat := max 1 (ceilDiv n 9)

/-- The payload length of each message type (R166–R177); what a message holds beyond it is 0. -/
def msgBytes (m : Msg) : Nat :=
  match m.type with
  | .beacon => 27
  | .edge => if byteAt m.data 0 = 2 then 36 else 18
  | .read => 9
  | .write => min 36 (4 + byteAt m.data 3)
  | .response => min 36 (4 + byteAt m.data 2)
  | .event => 18
  | .strike => 9
  | .activate => 18
  | .enum => if byteAt m.data 0 = 0 then 9 else 20

/-- Flag bits of a beacon's FLAGS byte (R167). -/
def flagByte (bs : List Bool) : Nat := bs.foldr (fun b acc => b.toNat + 2 * acc) 0

end Sys2Proof.Machine
end

