-- ==== Sys2Proof/Machine/RingBase.lean ====
section
/-! DEFINITION. Machine/RingBase.lean: what every block uses of the Stayline: port states and the
device's own messages on their way out (R148, R154, R176, R183). -/
namespace Sys2Proof.Machine

/-- Port states (R165). -/
def portDown : Nat := 0
def portSync : Nat := 1
def portUp : Nat := 2
def portDisabled : Nat := 3

def Device.portState (d : Device) (p : Port) : Nat := d.fld (RING.PSTAT_STATE (PortIx p))
def Device.isUp (d : Device) (p : Port) : Bool := d.portState p == portUp
/-- The rigging enables the port. -/
def Device.portEnabled (d : Device) : Port → Bool
  | .east => d.flag RING.LCFG_ENE
  | .west => d.flag RING.LCFG_ENW

/-- The device may send this message: an address (R176), no conflict (R178), and, bypassed, ENUM
reports alone (R182). -/
def Device.maySend (d : Device) (t : MsgType) (data : List Nat) : Bool :=
  d.addr != 0 && !d.flag RING.RSTAT_CONFLICT
    && (!d.flag RING.RSTAT_BYPASS || (t == .enum && byteAt data 0 == 1))

/-- The next segment of an own message on a port. -/
def TxMsg.seg (m : TxMsg) : Port → Option Nat
  | .east => m.segE
  | .west => m.segW

/-- The message waits for this port: decided for it, or still undecided (R154). -/
def TxMsg.waits (m : TxMsg) (p : Port) : Bool := m.undecided || (m.seg p).isSome

/-- Forwarded STRIKE cells that wait on a port. -/
def Device.strikesAhead (d : Device) (p : Port) : Nat :=
  ((d.port p).fwd.filter fun c => (cellFields c.cell.toNat).type == 7).length

/-- A message of the device's own joins those that wait to leave (R148, R154). A beacon of which no
cell has left gives way to the next one. -/
def Device.queueMsg (d : Device) (t : MsgType) (dst : Nat) (data : List Nat) : Device :=
  if d.maySend t data then
    let m : TxMsg := {
      msg := { type := t, addr := dst, data := data }
      segE := if d.isUp .east then some 0 else none
      segW := if d.isUp .west then some 0 else none
      undecided := !d.isUp .east && !d.isUp .west
      aheadE := d.strikesAhead .east
      aheadW := d.strikesAhead .west }
    let q := if t == .beacon then d.ring.txq.filter (fun x => !(x.msg.type == .beacon && x.paid == 0)) else d.ring.txq
    { d with ring := { d.ring with txq := q ++ [m] } }
  else d

/-- A port takes no more part: what waited to leave on it is dropped (R149, R154, R162); it has nothing
left of its exchanges. -/
def Device.portClear (d : Device) (p : Port) : Device :=
  let x := d.port p
  let d := d.setPort p { out := x.out, freeAt := x.freeAt, crcBase := x.crcBase, crcRise := x.crcRise }
  let cut := fun (m : TxMsg) => match p with
    | .east => { m with segE := none }
    | .west => { m with segW := none }
  let q := (d.ring.txq.map cut).filter fun m => m.undecided || m.segE.isSome || m.segW.isSome
  { d with ring := { d.ring with txq := q } }

/-- LSTAT.CHAIN and ISOLATED (R162). -/
def Device.chainFlags (d : Device) : Device :=
  let n := (d.isUp .east).toNat + (d.isUp .west).toNat
  (d.setFlag RING.LSTAT_CHAIN (n == 1)).setFlag RING.LSTAT_ISOLATED (n == 0)

/-- R418: the head window opens at the end of QUIET, with the rigging loaded and a port having been UP
since the present wake; at once where both ports are rigged disabled. -/
def Device.openWindow (d : Device) : Device :=
  let ready := d.ring.upSince || (!d.portEnabled .east && !d.portEnabled .west)
  if d.ring.window.isNone && d.rck.pll && d.rigged && !d.flag RING.LSTAT_QUIET && ready then
    { d with ring := { d.ring with window := some d.now, heard := false } }
  else d

/-- The ports follow LCFG (R165): a disabled one is off, an enabled one starts DOWN. -/
def Device.commitPorts (d : Device) : Device :=
  if !d.rck.pll then d
  else
    let one (d : Device) (p : Port) : Device :=
      let f := RING.PSTAT_STATE (PortIx p)
      if !d.portEnabled p then (if d.portState p == portDisabled then d else (d.setFld f portDisabled).portClear p)
      else if d.portState p == portDisabled then d.setFld f portDown
      else d
    (one (one d .east) .west).chainFlags

end Sys2Proof.Machine
end

