-- ==== Sys2Proof/Machine/Channel.lean ====
section
/-! DEFINITION. Machine/Channel.lean: what every block does to channels and banks: gangs (R66, R99,
R100), holds and the forced off that ends them (R124), outputs on and off (R86–R95), fault-logic
actions (R75), safe states (R110, R111), leaving RUN (R30), STRIKE (R133, R134), bank isolation
(R131, R132) and the release of a bank (R19). -/
namespace Sys2Proof.Machine

/-! ## Gangs and holds -/

def bankOf (n : Nat) : Nat := n / 40
def clusterOf (n : Nat) : Nat := n / 8

/-- A channel that no gang leads (R66). -/
def Device.isLead (d : Device) (n : Nat) : Bool := d.fld (CH.CFG_GANG n) != 3

/-- The lead of a channel's gang (R66, R99); the channel itself outside a gang. -/
def Device.lead (d : Device) (n : Nat) : Nat :=
  if d.isLead n then n
  else if n % 2 == 1 && d.fld (CH.CFG_GANG (n - 1)) == 1 then n - 1
  else n / 4 * 4

/-- The channels of the gang that `l` leads (R99). -/
def Device.gang (d : Device) (l : Nat) : List Nat :=
  if d.fld (CH.CFG_GANG l) == 1 then [l, l + 1]
  else if d.fld (CH.CFG_GANG l) == 2 then [l, l + 1, l + 2, l + 3]
  else [l]

def Device.leads (d : Device) : List Nat := allChans.filter d.isLead
def Device.bankLeads (d : Device) (m : Nat) : List Nat := (bankChans m).filter d.isLead

/-- A channel is held off (R124). -/
def Device.held (d : Device) (n : Nat) : Bool :=
  d.fld (CHS.STAT_FAULT n) != 0 || d.flag BANK.STRIKESTAT_ACTIVE || d.flag (BANK.STAT_HELD (bankOf n))

/-- Slot k's target, as the rigging has it (R228, R244). -/
def Device.slotType (d : Device) (k : Nat) : Nat := d.fld (SEQ.SLOTA_TYPE k)
def Device.slotSel (d : Device) (k : Nat) : Nat := d.fld (SEQ.SLOTA_SEL k) % 4
def Device.slotGroup (d : Device) (k : Nat) : Nat := d.fld (SEQ.SLOTA_SEL k)
def allSlots : List Nat := List.range 24
def Device.slotEnabled (d : Device) (k : Nat) : Bool := d.bit SEQ.ENMASK k
def Device.slotQualified (d : Device) (k : Nat) : Bool := d.bit SEQ.QUALMASK k
/-- Channel n lies in the channel group of slot k. -/
def Device.inGroup (d : Device) (k n : Nat) : Bool :=
  d.slotType k == 4 && (d.slotGroup k).testBit (clusterOf n)

/-- The group slot of the channel's cluster, if there is one, is enabled (R228). -/
def Device.groupOpen (d : Device) (n : Nat) : Bool :=
  allSlots.all fun k => !d.inGroup k n || d.slotEnabled k

/-- The output may conduct: RUN (R30), no hold, its group enabled, the device not bypassed (R182). -/
def Device.mayConduct (d : Device) (n : Nat) : Bool :=
  d.inRun && !d.held n && d.groupOpen n && !d.flag RING.RSTAT_BYPASS

/-- The bank die has its supply: the helm is out of KEEP or waking, and the isolator, where one is
fitted, is closed (R412). -/
def Device.bankSupplied (d : Device) (m : Nat) : Bool :=
  (d.bank m).link && ((d.bank m).isoGate || d.flag (BANK.STAT_NOISO m))

/-! ## What the bank senses (R101, R114) -/

/-- A live reading as R114 reports it: refreshed once in a sense-multiplexer cycle of 51.2 µs, and at its Reset value
before the first (R7). What the world gives is a free value by register and cycle (notes/assumptions/3.md). -/
def Device.sensed (d : Device) (r : Reg) : Nat :=
  if d.clk < 5120 then 0 else Config.liveReading r.addr (d.clk / 5120) % 2 ^ r.width

/-- CHS[n].IMEAS (R101): the gang's sum on a lead, a member's own current on a member; 0 without the bank's supply
(R412). -/
def Device.imeas (d : Device) (n : Nat) : Nat :=
  if !d.bankSupplied (bankOf n) then 0
  else if d.isLead n then min 0xFFFF ((d.gang n).foldl (fun t k => t + d.sensed (CHS.IMEAS k)) 0)
  else d.sensed (CHS.IMEAS n)

/-! ## Outputs -/

/-- An output turns off: a pulse, a peak phase, the chopping of a hold phase and an inrush window end with it (R93, R95,
R98, R118), the checks of a turn-on with it (R130), and a turn-on that was being watched for its cusp is not attempted
(R106). -/
def Device.outOff (d : Device) (n : Nat) : Device :=
  let was := d.flag (CHS.STAT_OUT n)
  ((d.lower (CHS.STAT_OUT n)).lower (CHS.STAT_PEAK n)).modChan n fun c =>
    { c with inrush := none, dispatch := none, firstPulse := false, pulse := none, chop := false
             offAt := if was then d.clk else c.offAt
             search := if c.search.any (·.1) then none else c.search }

/-- An output turns on: a turn-off that was being watched for its cusp is not attempted (R106). -/
def Device.outOn (d : Device) (n : Nat) : Device :=
  let was := d.flag (CHS.STAT_OUT n)
  (d.setFlag (CHS.STAT_OUT n) true).modChan n fun c =>
    { c with onAt := if was then c.onAt else d.clk, search := if c.search.any (!·.1) then none else c.search }

def Device.gangOff (d : Device) (l : Nat) : Device := d.each (d.gang l) Device.outOff

/-- The bank turns the gang of lead `l` off and keeps it off until its next ON. -/
def Device.bankTurnOff (d : Device) (l : Nat) : Device := (d.gangOff l).modChan l fun c => { c with bankOn := false }

/-- What a period of duty code `c` produces (R91): nothing, on throughout, or tide ticks of on-time. -/
inductive OnTime where
  | nothing | throughout | ticks (t : Nat)
  deriving DecidableEq, Repr

/-- R91: round(c × PERIOD / 1023) ticks of 40 ns, halves rounded up. -/
def onTime (period c : Nat) : OnTime :=
  let t := (2 * c * period + 1023) / 2046
  if c = 1023 then .throughout
  else if t < 50 then .nothing
  else if period - t < 50 then .throughout
  else .ticks (4 * t)

def Device.period (d : Device) (n : Nat) : Nat := d.fld (BANK.KTB_PERIOD (clusterOf n))
def Device.onTimeOf (d : Device) (n : Nat) : OnTime := onTime (d.period n) (d.fld (CHS.DEFF_DUTY n))

def OnTime.left : OnTime → Option Nat
  | .ticks t => some t
  | _ => none

/-- A pulse that gives R128 its sample: an on-time of 500 µs or more. -/
def OnTime.samples (o : OnTime) (period : Nat) : Bool :=
  match o with
  | .nothing => false
  | .throughout => 50000 ≤ 4 * period
  | .ticks t => 50000 ≤ t

/-- The bank turns the gang of lead `l` on (R86, R93, R95, R118), in PWM for the on-time of duty `duty`; `fired`: by a
fired ON, which is watched for its cusp where the load is learned (R106) and sets the fault timer to 0 (R119);
`checked`: by a fired ON or a retry, which open an inrush window in STATIC and PWM (R118) and are checked by method
G (R130). -/
def Device.turnOn (d : Device) (l : Nat) (fired checked : Bool) (duty : Nat) : Device :=
  let mode := d.fld (CH.CFG_MODE l)
  let pwm := mode == 1 || mode == 3
  let ot := if pwm then onTime (d.period l) duty else .throughout
  if !d.mayConduct l then d
  else
    let d := d.modChan l fun c =>
      { c with bankOn := true, pulses := (pwm && ot.samples (d.period l)).toNat, ftmr := if fired then 0 else c.ftmr }
    if ot == .nothing then d
    else
      let d := d.each (d.gang l) fun d n => (d.outOn n).setFlag (CHS.STAT_PEAK n) (mode ≥ 2)
      d.modChan l fun c =>
        { c with inrush := if checked && mode ≤ 1 then some d.clk else none, firstPulse := pwm, pulse := ot.left
                 dispatch := if checked then some d.clk else none, chop := false
                 search := if fired && d.flag (CH.CFG_LEARN l) then some (true, d.now) else none }

/-- The bank turns the gang of lead `l` off on a command (R93); a fired OFF of a conducting switch is
watched for its cusp (R106). -/
def Device.turnOff (d : Device) (l : Nat) (fired : Bool) : Device :=
  let on := d.flag (CHS.STAT_OUT l) || (d.chan l).chop
  let d := d.bankTurnOff l
  if !on then d
  else d.modChan l fun c =>
    { c with search := if fired && d.flag (CH.CFG_LEARN l) then some (false, d.now) else none }

/-! ## Fault-logic actions -/

/-- The record of R79 for a state-class action. -/
def Device.recordState (d : Device) (l rk : Nat) : Device :=
  d.modChan l fun c => { c with lastState := some ⟨d.reckoning, rk, 0⟩ }

/-- A lead's commands on their way to its bank are void: a later action has taken the commanded state. -/
def Device.dropCmdsOf (d : Device) (l : Nat) : Device :=
  d.modBank (bankOf l) fun b => { b with cmds := b.cmds.filter fun c => c.ch != l }

/-- A fault-logic or STRIKE action that commands a lead channel off (R75): the commanded state goes
off, the output with it, and every state-class entry that reaches the channel in the coming scan is
superseded. Outside RUN the engine makes no scan. -/
def Device.faultOff (d : Device) (l rk : Nat) : Device :=
  let d := (d.each (d.gang l) fun d n => d.lower (CHS.STAT_CMD n)).dropCmdsOf l
  ((d.bankTurnOff l).recordState l rk).modChan l fun c => { c with forced := if d.inRun then some rk else none }

/-- The forced off that ends a hold (R124). -/
def Device.endHold (d : Device) (l rk : Nat) : Device :=
  let d := (d.each (d.gang l) fun d n => d.lower (CHS.STAT_CMD n)).dropCmdsOf l
  (d.bankTurnOff l).recordState l rk

/-- Entries leave the store and are counted in CNTDISC (R63, R64). -/
def Device.discard (d : Device) (which : Entry → Bool) (ev : Nat) : Device :=
  let n := (d.store.filter which).length
  if n = 0 then d
  else
    let d := { d with store := d.store.filter fun e => !which e }
    ((d.count EDGE.CNTDISC n).raise EDGE.STAT_DISCARDED).log ev [n]

/-- The link queues of the banks are emptied. -/
def Device.dropCmds (d : Device) : Device := d.each (List.range 4) fun d m => d.modBank m fun b => { b with cmds := [] }

/-- RUN is left for STANDBY (R30, R317). -/
def Device.leaveRun (d : Device) : Device :=
  let d := { d with sec := { d.sec with runAtScan := false } }
  if d.inRun then
    let d := (d.setFld SEC.PSTAT_STATE stStandby).discard (fun _ => true) Ev.DISCARDED_STATE
    (d.each d.leads fun d l => d.faultOff l 1).dropCmds
  else d

/-! ## Safe states -/

/-- The helm queues a turn-on or turn-off of a lead for its bank, with the effective duty of this moment (R94). -/
def Device.command (d : Device) (l : Nat) (on fired : Bool) : Device :=
  d.modBank (bankOf l) fun b => { b with cmds := b.cmds ++ [⟨l, on, fired, d.fld (CHS.DEFF_DUTY l)⟩] }

/-- The rigged safe state of one lead channel, as a fault-logic action of rank 1 (R110). A safe state
of on does not reach a held channel (R21), and outside RUN no output is driven (R30). -/
def Device.safeOne (d : Device) (l : Nat) : Device :=
  let safe := d.fld (CH.CFG_SAFE l)
  let d := d.each (d.gang l) fun d n => d.raise (CHS.STAT_SAFE n)
  let d := (d.recordState l 1).modChan l fun c => { c with forced := if d.inRun then some 1 else none }
  if safe == 1 || !d.inRun then d
  else if safe == 2 then
    if d.held l then d
    else
      let was := d.flag (CHS.STAT_CMD l)
      let d := d.each (d.gang l) fun d n => d.raise (CHS.STAT_CMD n)
      if was then d else d.command l true false
  else
    let was := d.flag (CHS.STAT_CMD l)
    let d := d.each (d.gang l) fun d n => d.lower (CHS.STAT_CMD n)
    if was then d.command l false false else d

/-- Causes of SAFE_ENTERED (R111): what applied the safe state. -/
inductive SafeCause where
  | watchdog | beaconLoss | sourceLost | seqFault | powerFail | halt
  deriving DecidableEq, Repr

/-- R111 logs the cause and gives it no numbers; these are the model's (DESIGN CHOICE, notes/assumptions/77.md). -/
def SafeCause.code : SafeCause → Nat
  | .watchdog => 0
  | .beaconLoss => 1
  | .sourceLost => 2
  | .seqFault => 3
  | .powerFail => 4
  | .halt => 5

/-- The rigged safe state is applied to every channel, and logged once (R110, R111). -/
def Device.applySafe (d : Device) (cause : SafeCause) : Device :=
  (d.each d.leads Device.safeOne).log Ev.SAFE_ENTERED [cause.code, 160]

/-! ## STRIKE -/

/-- Sources of a STRIKE assertion (R133). -/
inductive StrikeSrc where
  | pin | ring | reg | int
  deriving DecidableEq, Repr

def StrikeSrc.bit : StrikeSrc → Field
  | .pin => BANK.STRIKESTAT_SRC_PIN
  | .ring => BANK.STRIKESTAT_SRC_RING
  | .reg => BANK.STRIKESTAT_SRC_REG
  | .int => BANK.STRIKESTAT_SRC_INT

/-- The origin a STRIKE cell carries (R174): 0, 1 or 2; a STRIKE from the ring sends no cell (R136), and its
number 3 stands in the event alone. -/
def StrikeSrc.origin : StrikeSrc → Nat
  | .pin => 0
  | .reg => 1
  | .int => 2
  | .ring => 3

/-- STRIKE has been asserted in this very cycle (R133, R135). -/
def Device.struckNow (d : Device) : Bool :=
  decide (d.fresh.1 = d.now) && d.fresh.2.contains (BANK.STRIKESTAT.addr, BANK.STRIKESTAT_ACTIVE.lo)

/-- The STRIKE event of this cycle names one source more. -/
def Device.addStrikeSource (d : Device) (src : StrikeSrc) : Device :=
  let add (e : Event) : Event :=
    if e.code = Ev.STRIKE && e.tide = d.now && e.orig = 0 && !e.args.contains src.origin then
      { e with args := e.args ++ [src.origin] } else e
  { d with events := d.events.map add, ring := { d.ring with evq := d.ring.evq.map add } }

/-- STRIKE is asserted (R133, R134, R136, R317). Assertions of one cycle are one: each sets its own source bit, and the
count and the event are those of the first. -/
def Device.strike (d : Device) (src : StrikeSrc) : Device :=
  if d.struckNow then (d.raise src.bit).addStrikeSource src
  else
    let was := d.flag BANK.STRIKESTAT_ACTIVE
    let d := ((d.raise BANK.STRIKESTAT_ACTIVE).raise src.bit).wr BANK.STRIKETIDE d.now
    let d := ((d.countSat BANK.STRIKECNT).raise BANK.PSTAT_STRIKE).log Ev.STRIKE [src.origin]
    if was then d
    else
      let d := d.each d.leads fun d l => d.faultOff l 2
      let d := d.when (d.flag BANK.STRIKECFG_RINGTX && src != .ring) fun d =>
        d.queueMsg .strike 0xFFF (src.origin :: toBytes 8 d.now)
      if d.flag SEC.PCFG_STRIKEDROP then d.leaveRun else d

/-! ## Late entries (R77–R79) -/

/-- The pending entries that `which` names and reckoning has reached are treated as accepted at this
moment (R19, R50): each is late, and R78 discards it or leaves it to fire at the next scan under
R79. One LATE_EDGE or LATE_DROPPED is reported for each edge (R77). -/
def Device.acceptNow (d : Device) (which : Entry → Bool) : Device :=
  let r := d.reckoning
  let lmax := d.fld EDGE.CFG_LMAX
  let hit := d.store.filter fun e => which e && e.feff ≤ r
  let drops := fun (e : Entry) => e.drop || (lmax != 0 && lmax * 256 ≤ r - e.feff)
  let gone := hit.filter drops
  let keys := (hit.map fun e => (e.src, e.seq, e.tgt)).eraseDups
  let kept := d.store.filter fun e => !(which e && e.feff ≤ r && drops e)
  let kept := kept.map fun (e : Entry) => { e with late := e.late || (which e && e.feff ≤ r) }
  let d := { d with store := kept }
  let d := d.when (gone != []) fun d => (d.count EDGE.CNTLDROP gone.length).raise EDGE.STAT_LATE_DROPPED
  let d := d.when (gone.length < hit.length) fun d => d.raise EDGE.STAT_LATE_EDGE
  d.each keys fun d k =>
    let mine := hit.filter fun e => (e.src, e.seq, e.tgt) == k
    let worst := mine.foldl (fun w e => max w (r - e.feff)) 0
    let ch := ((mine.find? fun e => r - e.feff == worst).map (·.ch)).getD 0
    let d := ((d.wr EDGE.LASTLATE (min worst 0xFFFFFFFF)).setFld EDGE.LASTLCH_CH ch).setFld EDGE.LASTLSRC_SRC (srcCode k.1)
    d.log (if mine.all drops then Ev.LATE_DROPPED else Ev.LATE_EDGE) [srcCode k.1, k.2.1, k.2.2, mine.length, worst]

/-! ## Banks -/

/-- One in a counter of a target of page CNT: j is 0–3 for the rails, 4 and 5 for the feeds, 6–9 for
the banks (R242, R245). The change awaits its journalling (R243). -/
def Device.cnt (d : Device) (r : Nat → Reg) (j : Nat) : Device :=
  { (d.countSat (r j)).raise CNT.JSTAT_PENDING with flash := { d.flash with cntDirty := true } }

/-- BANK_UCODE is reported (R16, R242). -/
def Device.ucodeFail (d : Device) (m : Nat) : Device :=
  let d := (d.lower (BANK.STAT_UCODE_OK m)).raise (BANK.STAT_UCODE_FAIL m)
  ((d.raise BANK.PSTAT_BANK_UCODE).log Ev.BANK_UCODE [m]).cnt CNT.TRIP (6 + m)

/-- Every channel of a bank goes off as a fault-logic action. -/
def Device.bankOff (d : Device) (m : Nat) : Device := d.each (d.bankLeads m) fun d l => d.faultOff l 1

/-- A bank is held: its channels stay off, and the commands on their way to it are void (R19). -/
def Device.holdBank (d : Device) (m : Nat) : Device :=
  let d := (d.raise (BANK.STAT_HELD m)).modBank m fun b => { b with cmds := [] }
  d.each (bankChans m) fun d n => (d.outOff n).modChan n fun c => { c with bankOn := false }

/-- A held bank is released (R19): its channels come out off, and its pending entries that reckoning
has reached are treated as accepted now. -/
def Device.releaseBank (d : Device) (m : Nat) : Device :=
  let d := (d.lower (BANK.STAT_HELD m)).modBank m fun b =>
    { b with cmds := [], count := none, lastValid := d.now, validAt := d.clk, tripRec := [], dead := false }
  let d := d.each (d.bankLeads m) fun d l => d.endHold l 1
  d.acceptNow fun e => bankOf e.ch == m

/-- Steps 1 and 2 of a bank isolation (R131): every channel of the bank off, the bank held, ISOm off. -/
def Device.isolate (d : Device) (m : Nat) (fault : Bool) : Device :=
  let d := (d.bankOff m).holdBank m
  d.modBank m fun b => { b with isoGate := false, iso := .opening fault }

/-- ISO_OPENED (R131, R132, R242); `reduced`: the bank has no isolator (R23). -/
def Device.isoOpened (d : Device) (m : Nat) (reduced : Bool) : Device :=
  let d := (d.raise (BANK.STAT_ISO_OPENED m)).raise BANK.PSTAT_ISO_OPENED
  (d.log Ev.ISO_OPENED [m, reduced.toNat]).cnt CNT.TRIP (6 + m)

/-- A channel of the bank holds a latched DAMAGE trip (R132). -/
def Device.bankDamaged (d : Device) (m : Nat) : Bool := (bankChans m).any fun n => d.fld (CHS.STAT_FAULT n) == 5

/-- ISO_REFUSED (R132). -/
def Device.isoRefused (d : Device) (m : Nat) : Device := (d.raise (BANK.STAT_ISO_REFUSED m)).log Ev.ISO_REFUSED [m]

/-- The sequencer closes a bank: ISOm on where fitted, unless a DAMAGE trip is latched (R132, R228).
The restart of R19 follows. -/
def Device.seqCloseBank (d : Device) (m : Nat) : Device :=
  if d.flag (BANK.STAT_NOISO m) then (d.lower (BANK.STAT_ISO m)).modBank m fun b => { b with enabled := true }
  else if d.bankDamaged m then d.isoRefused m
  else (d.lower (BANK.STAT_ISO m)).modBank m fun b => { b with enabled := true, isoGate := true, iso := .none }

/-- The sequencer opens a bank: its channels off, the bank held, ISOm off where fitted; no ISO_OPENED
and no TRIP (R132, R228). An isolation that runs already goes on as what it is. -/
def Device.seqOpenBank (d : Device) (m : Nat) : Device :=
  let d := d.modBank m fun b => { b with enabled := false }
  if d.flag (BANK.STAT_NOISO m) then (d.bankOff m).holdBank m
  else if (d.bank m).iso != .none then d
  else d.isolate m false

end Sys2Proof.Machine
end

