-- ==== Sys2Proof/Machine/Banks.lean ====
section
/-! DEFINITION. Machine/Banks.lean: the bank dies and their private links (R16–R19): BANK_UCODE_LOAD,
LINK_FRAME, BANK_DEADMAN, BANK_RESTART. -/
namespace Sys2Proof.Machine

/-- R16: the bank's microcode is loaded and checked; a failure is reported and holds the bank. A bank
that is not held already runs microcode that passed. -/
def Device.ucodeLoad (d : Device) (m : Nat) (ok : Bool) : Device :=
  if !d.flag (BANK.STAT_HELD m) then d
  else if ok then d.raise (BANK.STAT_UCODE_OK m)
  else (d.ucodeFail m).holdBank m

def execBankUcodeLoad (b : BankId) (ok : Bool) (s : State) : Host.Outcome State Fault Refusal :=
  s.run fun d => d.ucodeLoad b ok

/-- One rated cycle (R112): CYC counts units of 256, and CYC_WARN is set and logged at 9 × 10^9. -/
def Device.ratedCycle (d : Device) (n : Nat) : Device :=
  if d.flag (CH.CFG_FWD (d.lead n)) then d
  else if (d.chan n).cycFrac < 255 then d.modChan n fun c => { c with cycFrac := c.cycFrac + 1 }
  else
    let d := (d.modChan n fun c => { c with cycFrac := 0 }).countSat (CHS.CYC n)
    if d.rd (CHS.CYC n) = 35156250 then (d.raise (CHS.STAT_CYC_WARN n)).log Ev.CYC_WARN [n] else d

/-- A command that a valid frame brings to the bank (R17, R71). -/
def Device.bankExec (d : Device) (c : BankCmd) : Device :=
  if c.on then d.turnOn c.ch c.fired c.fired c.duty else d.turnOff c.ch c.fired

/-- R18, R455: the dead-man expires more than 20.0 µs and at most 21.63 µs after the end of the last valid frame. -/
def Device.deadmanDue (d : Device) (m : Nat) : Bool := decide ((d.bank m).validAt + 2000 < d.clk)
def Device.deadmanPast (d : Device) (m : Nat) : Bool := decide ((d.bank m).validAt + 2163 < d.clk)

/-- R18: the bank drives every one of its channels off and holds them; the helm logs it (R19). -/
def Device.deadman (d : Device) (m : Nat) : Device :=
  if d.flag (BANK.STAT_HELD m) || !d.bankSupplied m || !d.deadmanDue m then d
  else
    let last := (d.bank m).lastValid
    let d := ((d.holdBank m).raise (BANK.STAT_DEADMAN m)).modBank m fun b => { b with dead := true }
    ((d.raise BANK.PSTAT_BANK_DEADMAN).log Ev.BANK_DEADMAN [m, last]).cnt CNT.TRIP (6 + m)

/-- R17: a frame is valid if its CRC is right and its count follows that of the previous valid frame;
a failed frame is counted and its contents come again in the next. A held bank ignores the commands
(R19). A frame that ends later than the dead-man lasts finds the bank tripped (R18). -/
def Device.linkFrame (d : Device) (m : Nat) (crcOk : Bool) (count : Nat) (clamped : List Nat) : Device :=
  if !(d.bank m).link then d
  else
    let d := if d.deadmanPast m then d.deadman m else d
    let b := d.bank m
    if crcOk && b.count.all (fun c => (c + 1) % 16 == count) then
      let d := d.modBank m fun b => { b with count := some count, lastValid := d.now, validAt := d.clk, cmds := [] }
      let d := if d.flag (BANK.STAT_HELD m) then d else d.each b.cmds Device.bankExec
      d.each clamped Device.ratedCycle
    else d.countSat (BANK.LINKERR m)

def execLinkFrame (b : BankId) (crcOk : Bool) (count : BitVec 4) (clamped : List ChanId) (s : State) :
    Host.Outcome State Fault Refusal :=
  s.runIf (clamped.all fun n => bankOf n == b.val) fun d =>
    d.linkFrame b crcOk count.toNat (clamped.map (·.val))

def execBankDeadman (b : BankId) (s : State) : Host.Outcome State Fault Refusal :=
  s.run fun d => d.deadman b

end Sys2Proof.Machine
end

