-- ==== Sys2Proof/Machine/Coding.lean ====
section
/-! DEFINITION. Machine/Coding.lean: the code groups of a Stayline port (R143) and what sync asks of them (R144). The
code tables and running-disparity rules are those of IEEE 802.3 Clause 36, which the spec names and does not print
(notes/assumptions/78.md). -/
namespace Sys2Proof.Machine

/-- The 6-bit block of the low five bits of a byte at negative running disparity, bit a first. -/
def sixBits : List Nat :=
  [0b100111, 0b011101, 0b101101, 0b110001, 0b110101, 0b101001, 0b011001, 0b111000,
   0b111001, 0b100101, 0b010101, 0b110100, 0b001101, 0b101100, 0b011100, 0b010111,
   0b011011, 0b100011, 0b010011, 0b110010, 0b001011, 0b101010, 0b011010, 0b111010,
   0b110011, 0b100110, 0b010110, 0b110110, 0b001110, 0b101110, 0b011110, 0b101011]

/-- The 4-bit block of the high three bits at negative running disparity; entry 8 is the alternate of 7. -/
def fourBits : List Nat := [0b1011, 0b1001, 0b0101, 0b1100, 0b1101, 0b1010, 0b0110, 0b1110, 0b0111]

/-- Number of ones among the low `n` bits. -/
def bitsSet (n x : Nat) : Nat := ((List.range n).filter x.testBit).length

/-- A data code group Dx.y at a running disparity, bit a the most significant of the ten. -/
def dataGroup (plus : Bool) (byte : Nat) : Nat :=
  let x := byte % 32
  let y := byte / 32 % 8
  let six := sixBits.getD x 0
  let uneven := bitsSet 6 six != 3
  let six := if plus && (uneven || x == 7) then 63 - six else six
  let plus := plus != uneven
  let alt := if plus then x == 11 || x == 13 || x == 14 else x == 17 || x == 18 || x == 20
  let four := fourBits.getD (if y = 7 && alt then 8 else y) 0
  let four := if plus && (bitsSet 4 four != 2 || y == 3) then 15 - four else four
  six * 16 + four

/-- K28.5, K27.7, K29.7 and K30.7 at negative running disparity; at positive each is its complement. -/
def controlGroups : List Nat := [0b0011111010, 0b1101101000, 0b1011101000, 0b0111101000]

/-- K28.5, the comma (R143). -/
def isComma (g : BitVec 10) : Bool := g.toNat == 0b0011111010 || g.toNat == 1023 - 0b0011111010

/-- A code group is one of those used, at the running disparity before it (R143). -/
def validGroup (plus : Bool) (g : BitVec 10) : Bool :=
  controlGroups.contains (if plus then 1023 - g.toNat else g.toNat)
    || (List.range 256).any fun b => dataGroup plus b == g.toNat

/-- Running disparity after a block of `n` bits. -/
def blockRd (plus : Bool) (n x : Nat) (neutralPlus neutralMinus : Nat) : Bool :=
  if n < 2 * bitsSet n x || x = neutralPlus then true
  else if 2 * bitsSet n x < n || x = neutralMinus then false
  else plus

/-- Running disparity after a code group. -/
def groupRd (plus : Bool) (g : BitVec 10) : Bool :=
  blockRd (blockRd plus 6 (g.toNat / 16) 0b000111 0b111000) 4 (g.toNat % 16) 0b0011 0b1100

/-- Of each code group of a run, whether it is valid; `plus`: the running disparity before the first. -/
def validRun (plus : Bool) : List (BitVec 10) → List Bool
  | [] => []
  | g :: t => validGroup plus g :: validRun (groupRd plus g) t

/-- R144: a comma and 64 consecutive valid code groups after it, the last received. -/
def acquires (plus : Bool) (gs : List (BitVec 10)) : Bool :=
  (gs[0]?).any isComma && decide (65 ≤ gs.length) && (validRun plus gs).all id

/-- R144: 4 code violations within the last 32 code groups, or 64 without a comma. -/
def loses (plus : Bool) (gs : List (BitVec 10)) : Bool :=
  decide (4 ≤ (((validRun plus gs).reverse.take 32).filter not).length)
    || (decide (64 ≤ gs.length) && !(gs.reverse.take 64).any isComma)

end Sys2Proof.Machine
end

