-- ==== Sys2Proof/Machine/Protect.lean ====
section
/-! DEFINITION. Machine/Protect.lean: trips, holds and restarts (R118–R126), open load (R127, R128),
damage (R129–R131), the bank isolator (R131, R132), the bank restart (R19) and STRIKE (R133–R137). -/
namespace Sys2Proof.Machine

/-! ## Trips -/

/-- The causes of R123, with the FAULT code each sets. -/
inductive Cause where
  | inrushFail | overload | short | thermal | damageO | damageG | window
  deriving DecidableEq, Repr

def Cause.fault : Cause → Nat
  | .inrushFail => 1
  | .overload => 2
  | .short => 3
  | .thermal => 4
  | .damageO | .damageG => 5
  | .window => 6

def Cause.bit : Cause → Field
  | .inrushFail => BANK.PSTAT_INRUSH_FAIL
  | .overload => BANK.PSTAT_OVERLOAD
  | .short => BANK.PSTAT_SHORT
  | .thermal => BANK.PSTAT_THERMAL
  | .damageO => BANK.PSTAT_DAMAGE_O
  | .damageG => BANK.PSTAT_DAMAGE_G
  | .window => BANK.PSTAT_WINDOW_TRIP

def Cause.event : Cause → Nat
  | .inrushFail => Ev.INRUSH_FAIL
  | .overload => Ev.OVERLOAD
  | .short => Ev.SHORT
  | .thermal => Ev.THERMAL
  | .damageO => Ev.DAMAGE_O
  | .damageG => Ev.DAMAGE_G
  | .window => Ev.WINDOW_TRIP

def Cause.damage (c : Cause) : Bool := c.fault == 5

/-- The order of R123 among causes of one step: the lower number comes first. -/
def faultOrder : Nat → Nat
  | 3 => 0
  | 4 => 1
  | 5 => 2
  | 1 => 3
  | 2 => 4
  | 6 => 5
  | _ => 6

/-! ## Limits (R100, R116, R122) -/

/-- The output of n conducts under its bank's control. -/
def Device.out (d : Device) (n : Nat) : Bool := d.flag (CHS.STAT_OUT n)

/-- End of the inrush window that opened at `clk` `t`, and the latest moment at which the bank's timer shows it
(R117). -/
def Device.windowEnd (d : Device) (n t : Nat) : Nat := t + d.fld (CH.PROT_TINR n) * msec

/-- The latest expiry of a bank timer of nominal duration `t`: 1.03 × T + 10.3 µs, excluded (R117). -/
def bankLate (t : Nat) : Nat := t * 103 / 100 + 1030

/-- An inrush window of lead `l` is open (R118). -/
def Device.inInrush (d : Device) (l : Nat) : Bool := (d.chan l).inrush.any fun t => d.clk < d.windowEnd l t

/-- The active limit of the gang of lead `l`, mA (R116, R122). -/
def Device.activeLimit (d : Device) (l : Nat) : Nat :=
  if d.inInrush l then 50 * d.fld (CH.PROT_IINR l) * (d.gang l).length else 50 * d.fld (CH.LIM_ILIM l)

/-- The limit that the bank sets on one channel, mA: the active limit, and 1.25 × A / n on each member of a gang
(R100). -/
def Device.ownLimit (d : Device) (n : Nat) : Nat :=
  let l := d.lead n
  let k := (d.gang l).length
  if k = 1 then d.activeLimit l else 5 * d.activeLimit l / (4 * k)

/-- The short-circuit threshold of one channel, mA (R116, R122). -/
def Device.shortLimit (d : Device) (n : Nat) : Nat := min (2 * d.ownLimit n) 8000

/-- The least current at which a limiter set to `i` mA limits, and at which a comparator set to `i` mA trips (R443). -/
def limitLow (i : Nat) : Nat := 93 * i / 100 - 30
def shortLow (i : Nat) : Nat := 85 * i / 100

/-- The gang of lead `l` is at its limit, as its bank's circuits show it this instant: what the world gives is a free
value (notes/assumptions/3.md). -/
def Device.atLimit (d : Device) (l : Nat) : Bool :=
  decide (limitLow (d.activeLimit l) ≤
    (d.gang l).foldl (fun t k => t + Config.liveReading (CHS.IMEAS k).addr d.clk % 2 ^ 16) 0)

/-- Every channel of the gang goes off in the bank, and the trip is recorded as a fault-logic action
(R75, R123); the commanded state stays. -/
def Device.tripOff (d : Device) (l : Nat) : Device :=
  ((d.bankTurnOff l).recordState l 1).modChan l fun c =>
    { c with forced := if d.inRun then some 1 else none, search := none, ftmr := 0, tripAt := d.clk }

/-- The 1 s interval that follows a retry is still running (R126). -/
def Device.inWatch (d : Device) (l : Nat) : Bool :=
  (d.chan l).watch && decide (d.clk < (d.chan l).retryAt + bankLate second)

/-- How a trip is latched or followed by a retry (R125, R126). -/
def Device.tripFollow (d : Device) (l : Nat) (cause : Cause) : Device :=
  let n := d.fld (CH.PROT_RETRY l)
  let again := d.inWatch l
  if cause.damage || n = 0 then d.modChan l fun c => { c with trip := .latched, watch := false }
  else if again && n ≤ (d.chan l).retries then
    let d := d.modChan l fun c => { c with trip := .latched, watch := false }
    (d.raise BANK.PSTAT_RETRY_EXHAUSTED).log Ev.RETRY_EXHAUSTED [l]
  else d.modChan l fun c => { c with trip := .waiting, watch := false, retries := if again then c.retries else 0 }

/-- What a trip's event carries (R123): the lead, the cause, IMEAS and the member that caused it; a damage
event also records that its reaction is reduced for want of an isolator (R23). -/
def Device.tripArgs (d : Device) (n : Nat) (cause : Cause) (imeas : Nat) : List Nat :=
  let l := d.lead n
  let head := [l, cause.fault, imeas, n]
  if cause.damage then head ++ [(d.flag (CH.PROT_DREACT l) && d.flag (BANK.STAT_NOISO (bankOf l))).toNat] else head

/-- The channel's last trip came in the present step of its bank's timers (R117, R123). -/
def Device.sameStep (d : Device) (l : Nat) : Bool :=
  (d.chan l).trip != .none && decide ((d.bank (bankOf l)).stepAt ≤ (d.chan l).tripAt)

/-- What a trip reports: its PSTAT bit and its event (R123). -/
def Device.reportTrip (d : Device) (n : Nat) (cause : Cause) (imeas : Nat) : Device :=
  (d.raise cause.bit).log cause.event (d.tripArgs n cause imeas)

/-- Channel n trips (R122, R123, R242). Of two causes in one step of the bank's timers FAULT takes the one that comes
first in R123's order; beyond the step a cause once latched stays. -/
def Device.trip (d : Device) (n : Nat) (cause : Cause) (imeas : Nat) : Device :=
  let l := d.lead n
  let old := d.fld (CHS.STAT_FAULT l)
  if old != 0 then
    if d.sameStep l && faultOrder cause.fault < faultOrder old then
      ((d.setFld (CHS.STAT_FAULT l) cause.fault).reportTrip n cause imeas).when cause.damage fun d =>
        d.modChan l fun c => { c with trip := .latched, watch := false, retryPend := false }
    else d
  else
    let d := d.tripOff l
    let d := d.each (d.gang l) fun d k => d.setFld (CHS.STAT_FAULT k) (if k = l then cause.fault else 7)
    let d := (d.raiseBit (BANK.TRIPS (bankOf l)) (l % 40)).reportTrip n cause imeas
    let d := d.when (cause.fault ≤ 3) fun d => d.cnt CNT.OC (6 + bankOf l)
    d.tripFollow l cause

/-- A trip of a channel whose bank is held by the dead-man waits in the bank's trip record for the
helm to read (R19); any other is seen at once. -/
def Device.bankTrip (d : Device) (n : Nat) (cause : Cause) (imeas : Nat) : Device :=
  let m := bankOf n
  if (d.bank m).dead then d.modBank m fun b => { b with tripRec := b.tripRec ++ [(n, cause.fault, imeas)] }
  else d.trip n cause imeas

def causeOf : Nat → Cause
  | 1 => .inrushFail
  | 2 => .overload
  | 3 => .short
  | 4 => .thermal
  | 5 => .damageO
  | _ => .window

/-- R118: at its limit when the inrush timer expires, within the tolerance of R117. PH and PH_PWM have no such window
(R97). -/
def Device.inrushFail (d : Device) (n imeas : Nat) : Device :=
  let t := d.fld (CH.PROT_TINR n) * msec
  if d.isLead n && d.out n && d.fld (CH.CFG_MODE n) ≤ 1
      && (d.chan n).inrush.any (fun t0 => t0 + t ≤ d.clk && decide (d.clk < t0 + bankLate t))
      && limitLow (50 * d.fld (CH.PROT_IINR n) * (d.gang n).length) ≤ imeas then
    d.bankTrip n .inrushFail imeas
  else d

def execInrushFail (n : ChanId) (imeas : BitVec 16) (s : State) : Host.Outcome State Fault Refusal :=
  s.run fun d => d.inrushFail n imeas.toNat

/-- TFLT of lead `l` in steps of its bank's timers (R117, R119). -/
def Device.faultSteps (d : Device) (l : Nat) : Nat := 100 * d.fld (CH.PROT_TFLT l)

/-- R119: one step of the fault timer of lead `l`: up at the limit, down to no less than 0 below it, held while the
output is off, within the inrush window, and in the modes that regulate (R97, R116). -/
def Device.faultStep (d : Device) (l : Nat) : Device :=
  if !d.out l || d.inInrush l || 2 ≤ d.fld (CH.CFG_MODE l) then d
  else if d.atLimit l then d.modChan l fun c => { c with ftmr := c.ftmr + 1 }
  else d.modChan l fun c => { c with ftmr := c.ftmr - 1 }

/-- R119: the fault timer has reached TFLT. -/
def Device.overload (d : Device) (n imeas : Nat) : Device :=
  if d.isLead n && d.out n && !d.inInrush n && d.fld (CH.CFG_MODE n) ≤ 1 && d.faultSteps n ≤ (d.chan n).ftmr then
    d.bankTrip n .overload imeas
  else d

def execOverload (n : ChanId) (imeas : BitVec 16) (s : State) : Host.Outcome State Fault Refusal :=
  s.run fun d => d.overload n imeas.toNat

/-- R120: the comparator acts on each member of a gang, in every mode, when the current crosses its threshold, within
the tolerance of R443. -/
def Device.shortTrip (d : Device) (n imeas : Nat) : Device :=
  if d.out n && shortLow (d.shortLimit n) ≤ imeas then d.bankTrip n .short imeas else d

def execShort (n : ChanId) (imeas : BitVec 16) (s : State) : Host.Outcome State Fault Refusal :=
  s.run fun d => d.shortTrip n imeas.toNat

/-- R121: the sensor of each channel reads 165 °C or above, while its bank die has its supply. -/
def Device.thermalTrip (d : Device) (n imeas temp : Nat) : Device :=
  if d.bankSupplied (bankOf n) && 165 ≤ temp then
    (d.modChan n fun c => { c with hot := true }).bankTrip n .thermal imeas
  else d

def execThermal (n : ChanId) (imeas : BitVec 16) (temp : Nat) (s : State) : Host.Outcome State Fault Refusal :=
  s.run fun d => d.thermalTrip n imeas.toNat temp

/-! ## Clear and retry -/

/-- A sensor of the gang still reads 150 °C or more after a THERMAL trip (R121). -/
def Device.gangHot (d : Device) (l : Nat) : Bool := (d.gang l).any fun n => (d.chan n).hot

/-- FAULT and the TRIPS bit clear over the gang. -/
def Device.untrip (d : Device) (l : Nat) : Device :=
  (d.each (d.gang l) fun d k => d.setFld (CHS.STAT_FAULT k) 0).setBit (BANK.TRIPS (bankOf l)) (l % 40) false

/-- R125: a trip is cleared, ends its hold, and its retries are forgotten; a THERMAL clear waits for
the sensor (R121). -/
def Device.clearTrip (d : Device) (l : Nat) : Device :=
  if (d.chan l).trip == .none then d
  else if d.gangHot l then d.modChan l fun c => { c with clearPend := true }
  else
    let d := (d.untrip l).endHold l 1
    d.modChan l fun c =>
      { c with trip := .none, retries := 0, watch := false, clearPend := false, retryPend := false }

/-- R125: each bit of `v` that is 1 clears the trip of its channel, but for a trip of this very cycle (R6). -/
def Device.clearTrips (d : Device) (m v : Nat) : Device :=
  let fresh := d.freshBits (BANK.TRIPS m)
  d.each (List.range 40) fun d i => if v.testBit i && !fresh.testBit i then d.clearTrip (40 * m + i) else d

/-- R126: the retry is carried out: a commanded channel turns on again, another clears without a
turn-on. -/
def Device.doRetry (d : Device) (l : Nat) : Device :=
  let d := d.untrip l
  let on := d.flag (CHS.STAT_CMD l)
  let d := d.modChan l fun c =>
    { c with trip := .none, clearPend := false, retryPend := false, retryAt := d.clk
             retries := if on then c.retries + 1 else 0, watch := on }
  if on then d.turnOn l false true (d.fld (CHS.DEFF_DUTY l)) else d

/-- A hold other than the trip's applies to the channel (R126). -/
def Device.otherHold (d : Device) (l : Nat) : Bool :=
  d.flag BANK.STRIKESTAT_ACTIVE || d.flag (BANK.STAT_HELD (bankOf l))

/-- Retry k falls due B × 2^(k−1) after the trip that preceded it (R126). -/
def Device.retryDue (d : Device) (l : Nat) : Bool :=
  decide ((d.chan l).tripAt + d.rd BANK.RETRYBASE * msec * 2 ^ (d.chan l).retries ≤ d.clk)

/-- R126: a retry instant waits for the sensor (R121) and for every other hold. -/
def Device.retry (d : Device) (l : Nat) : Device :=
  if (d.chan l).trip != .waiting || !d.retryDue l then d
  else if d.gangHot l || d.otherHold l then d.modChan l fun c => { c with retryPend := true }
  else d.doRetry l

def execRetry (n : ChanId) (s : State) : Host.Outcome State Fault Refusal := s.run fun d => d.retry n

/-- R126: a postponed retry is carried out at the first step of the bank's timers after the other holds have ended. -/
def Device.postponedRetry (d : Device) (l : Nat) : Device :=
  if (d.chan l).retryPend && (d.chan l).trip == .waiting && !d.gangHot l && !d.otherHold l then d.doRetry l else d

/-- R126: no trip in the second after a retry. -/
def Device.retryReset (d : Device) (l : Nat) : Device :=
  if (d.chan l).watch && decide ((d.chan l).retryAt + second ≤ d.clk) then
    d.modChan l fun c => { c with watch := false, retries := 0 }
  else d

def execRetryCountReset (n : ChanId) (s : State) : Host.Outcome State Fault Refusal := s.run fun d => d.retryReset n

/-- R121: the sensor of n reads below 150 °C; a clear, else a retry, that waited takes effect. -/
def Device.thermalRecovery (d : Device) (n temp : Nat) : Device :=
  if 150 ≤ temp then d
  else
    let d := d.modChan n fun c => { c with hot := false }
    let l := d.lead n
    if d.gangHot l then d
    else if (d.chan l).clearPend then d.clearTrip l
    else if (d.chan l).retryPend then d.retry l
    else d

def execThermalRecovery (n : ChanId) (temp : Nat) (s : State) : Host.Outcome State Fault Refusal :=
  s.run fun d => d.thermalRecovery n temp

/-! ## One step of a bank's timers (R117) -/

/-- A step of the bank's timers, 10.00–10.30 µs after the last: the fault timers count and postponed retries are
carried out. Its length is a free value within R455's limits. -/
def Device.bankStep (d : Device) (m : Nat) : Device :=
  let b := d.bank m
  if !d.bankSupplied m || d.clk < b.stepAt + b.stepLen then d
  else
    let len := 1000 + d.freeVal 32 % 31
    let d := d.nextFree.modBank m fun b => { b with stepAt := d.clk, stepLen := len }
    d.each (d.bankLeads m) fun d l => (d.faultStep l).postponedRetry l

/-! ## Open load -/

/-- The output has been off for the `held` ticks before now and for `before` ticks before those. -/
def Device.offFor (d : Device) (n held before : Nat) : Bool :=
  !d.out n && decide ((d.chan n).offAt + before + held ≤ d.clk)

/-- The 80 µA source of R127 stands on OUTn: after 5 ms off, until the bank dispatch of a turn-on. -/
def Device.openSource (d : Device) (n : Nat) : Bool :=
  d.flag (CH.PROT_OLOFF n) && d.bankSupplied (bankOf n) && d.offFor n 0 (5 * msec)

/-- VBUS_Bm in 10 mV lies in its operating range (R127, R441). -/
def vbusOperating (vbus : Nat) : Bool := 600 ≤ vbus && vbus ≤ 3200

/-- R127: VMEAS (2 mV units) has been 1.5 V or more for `held` ticks, with the source connected and the bank's supply
at `vbus` in its operating range throughout. -/
def Device.openOff (d : Device) (n vmeas held vbus : Nat) : Device :=
  if d.openSource n && 750 ≤ vmeas && 10 * msec ≤ held && d.offFor n held (5 * msec) && vbusOperating vbus then
    ((d.raiseBit (BANK.OPEN (bankOf n)) (n % 40)).raise BANK.PSTAT_OPEN_OFF).log Ev.OPEN_OFF [n]
  else d

def execOpenOff (n : ChanId) (vmeas : BitVec 16) (held vbus : Nat) (s : State) : Host.Outcome State Fault Refusal :=
  s.run fun d => d.openOff n vmeas.toInt.toNat held vbus

/-- The undercurrent threshold of lead `n`, for its gang's sum, mA (R128). -/
def Device.ucLimit (d : Device) (n : Nat) : Nat := (d.gang n).length * d.rd (BANK.UCTHR (bankOf n))

/-- What R128 asks of its mode: in STATIC, and in the hold phase of PH, an IMEAS below the threshold for 20 ms that begin
no earlier than 5 ms after turn-on; in PWM and PH_PWM 8 consecutive samples below it, one for each pulse of 500 µs or
more since the channel was turned on. -/
def Device.undercurrent (d : Device) (n : Nat) (u : Undercurrent) : Bool :=
  let c := d.chan n
  let mode := d.fld (CH.CFG_MODE n)
  match u with
  | .level i held =>
    decide (i < d.ucLimit n) && 20 * msec ≤ held && c.onAt + 5 * msec + held ≤ d.clk
      && ((mode == 0 && d.out n) || (mode == 2 && c.chop && decide (c.holdAt + held ≤ d.clk)))
  | .pulses is =>
    (mode == 1 || mode == 3) && 8 ≤ is.length && (is.take 8).all (fun i => decide (i < d.ucLimit n))
      && is.length ≤ c.pulses

/-- R128: for a gang, the lead alone is checked. PWM samples are taken pulse by pulse, so the output
need not conduct at the instant of the report. -/
def Device.openOn (d : Device) (n : Nat) (u : Undercurrent) : Device :=
  if d.flag (CH.PROT_OLON n) && d.isLead n && d.flag (CHS.STAT_CMD n) && d.mayConduct n && d.undercurrent n u then
    ((d.raiseBit (BANK.OPEN (bankOf n)) (n % 40)).raise BANK.PSTAT_OPEN_ON).log Ev.OPEN_ON [n]
  else d

def execOpenOn (n : ChanId) (u : Undercurrent) (s : State) : Host.Outcome State Fault Refusal :=
  s.run fun d => d.openOn n u

/-! ## Damage -/

/-- R131: damage is recognised: it latches without retry, and with DREACT = 1 the bank is isolated
where it has an isolator. A trip that only waits for its retry gives way to it; where another cause is latched already,
FAULT keeps that (R123). -/
def Device.damage (d : Device) (n : Nat) (cause : Cause) : Device :=
  let l := d.lead n
  let m := bankOf n
  let old := d.fld (CHS.STAT_FAULT l)
  let i := d.imeas n
  if old == 5 then d
  else
    let d :=
      if old == 0 then d.trip n cause i
      else
        let d := if (d.chan l).trip == .waiting || d.sameStep l then d.setFld (CHS.STAT_FAULT l) 5 else d
        (d.reportTrip n cause i).modChan l fun c => { c with trip := .latched, watch := false, retryPend := false }
    if d.flag (CH.PROT_DREACT l) && !d.flag (BANK.STAT_NOISO m) && (d.bank m).iso == .none && !d.flag (BANK.STAT_ISO m)
    then d.isolate m true else d

/-- Damage during a dead-man hold waits in the bank's record (R19). -/
def Device.bankDamage (d : Device) (n : Nat) (cause : Cause) : Device :=
  let m := bankOf n
  if (d.bank m).dead then d.modBank m fun b => { b with tripRec := b.tripRec ++ [(n, 5, d.imeas n)] }
  else d.damage n cause

/-- R129: method O, on the lead's output alone: VMEAS (2 mV units) has been above 50 % of VBUS_Bm (10 mV units) for
2 ms, the output off throughout. -/
def Device.damageO (d : Device) (n vmeas vbus held : Nat) : Device :=
  if d.fld (CH.PROT_DMG n) % 2 == 1 && d.isLead n && d.bankSupplied (bankOf n) && d.offFor n held 0
      && 5 * vbus < 2 * vmeas && 2 * msec ≤ held then
    d.bankDamage n .damageO
  else d

def execDamageO (n : ChanId) (vmeas : BitVec 16) (vbus held : Nat) (s : State) : Host.Outcome State Fault Refusal :=
  s.run fun d => d.damageO n vmeas.toInt.toNat vbus held

/-- R130: method G, on each member: its gate has not reached the on-threshold when the timer of 200 µs that a turn-on
by a fired ON or a retry started expires (R117). -/
def Device.damageG (d : Device) (n : Nat) : Device :=
  let l := d.lead n
  if d.fld (CH.PROT_DMG l) / 2 == 1 && d.out n
      && (d.chan l).dispatch.any (fun t => t + 20000 ≤ d.clk && decide (d.clk < t + bankLate 20000)) then
    d.bankDamage n .damageG
  else d

def execDamageG (n : ChanId) (s : State) : Host.Outcome State Fault Refusal := s.run fun d => d.damageG n

/-! ## Restart and isolator -/

/-- The helm reads the trip record of a bank (R19): each trip of the hold takes its effect. -/
def Device.readTripRec (d : Device) (m : Nat) : Device :=
  let rec_ := (d.bank m).tripRec
  let d := d.modBank m fun b => { b with tripRec := [], dead := false }
  d.each rec_ fun d t => if t.2.1 = 5 then d.damage t.1 .damageO else d.trip t.1 (causeOf t.2.1) t.2.2

/-- R19: the helm restarts a held bank: link, microcode check, trip record, release. A microcode
failure leaves it held (R16), and so does damage in the record whose reaction isolates the bank (R131). -/
def Device.restartBank (d : Device) (m : Nat) (ucodeOk : Bool) : Device :=
  if !d.bankSupplied m then d
  else if !ucodeOk then d.ucodeFail m
  else
    let d := (d.raise (BANK.STAT_UCODE_OK m)).readTripRec m
    if (d.bank m).iso != .none then d else d.releaseBank m

def execBankRestart (b : BankId) (ucodeOk : Bool) (s : State) : Host.Outcome State Fault Refusal :=
  s.run fun d =>
    if d.flag (BANK.STAT_HELD b) && !d.flag (BANK.STAT_ISO b) && (d.bank b).iso == .none && (d.bank b).enabled then
      d.restartBank b ucodeOk
    else d

/-- R132: CLOSE on an isolated bank. -/
def Device.isoClose (d : Device) (m : Nat) (ucodeOk : Bool) : Device :=
  if (d.bank m).iso != .none then d.modBank m fun b => { b with closePend := some ucodeOk }
  else if !d.flag (BANK.STAT_ISO m) || !(d.bank m).link then d
  else if !d.flag (BANK.STAT_NOISO m) && d.bankDamaged m then d.isoRefused m
  else
    let d := (d.lower (BANK.STAT_ISO m)).modBank m fun b => { b with isoGate := true, enabled := true }
    d.restartBank m ucodeOk

/-- R131, steps 3 and 4. -/
def Device.isoVerify (d : Device) (m : Nat) (off : Bool) : Device :=
  match (d.bank m).iso with
  | .none => d
  | .opening fault =>
    let d := if off then d else (d.raise (BANK.STAT_ISO_FAIL m)).log Ev.ISO_FAIL [m]
    let d := d.raise (BANK.STAT_ISO m)
    let d := if fault then d.isoOpened m false else d
    let pend := (d.bank m).closePend
    let d := d.modBank m fun b => { b with iso := .none, closePend := none }
    match pend with
    | some u => d.isoClose m u
    | none => d

def execIsoVerify (b : BankId) (off : Bool) (s : State) : Host.Outcome State Fault Refusal :=
  s.run fun d => d.isoVerify b off

/-- R132: OPEN isolates the bank; with NOISO = 1 the bank is held and marked alone. -/
def Device.isoOpen (d : Device) (m : Nat) : Device :=
  if d.flag (BANK.STAT_ISO m) || (d.bank m).iso != .none then d
  else if d.flag (BANK.STAT_NOISO m) then
    (((d.bankOff m).holdBank m).raise (BANK.STAT_ISO m)).isoOpened m true
  else d.isolate m true

/-- A register write; by the service port it needs maintenance mode (R374). A write may end an attention
(R396). -/
def Device.asWriter (d : Device) (w : Writer) (f : Device → Device) : Device :=
  if w == .service && !d.flag UPD.CTL_MAINT then d else (f d).attSettle

/-- A write to a register that is protected at Hand (R281): made at Hand it has no effect and is
logged. -/
def Device.asWright (d : Device) (w : Writer) (page off : Nat) (f : Device → Device) : Device :=
  if w == .hand then d.log Ev.PRIV_FAULT [page, off] else d.asWriter w f

def execTripClear (w : Writer) (b : BankId) (v : BitVec 64) (s : State) : Host.Outcome State Fault Refusal :=
  s.run fun d => d.asWriter w fun d => d.clearTrips b v.toNat

def execIsoOpen (w : Writer) (b : BankId) (s : State) : Host.Outcome State Fault Refusal :=
  s.run fun d => d.asWriter w fun d => d.isoOpen b

def execIsoClose (w : Writer) (b : BankId) (ucodeOk : Bool) (s : State) : Host.Outcome State Fault Refusal :=
  s.run fun d => d.asWriter w fun d => d.isoClose b ucodeOk

/-! ## STRIKE -/

/-- R133, R137: the filtered level of STRIKE_N. -/
def Device.strikePin (d : Device) (low : Bool) : Device :=
  if low then
    if d.flag BANK.STRIKESTAT_PIN then d else (d.raise BANK.STRIKESTAT_PIN).strike .pin
  else d.lower BANK.STRIKESTAT_PIN

def execStrikePin (low : Bool) (s : State) : Host.Outcome State Fault Refusal := s.run fun d => d.strikePin low

def execStrikeAssert (w : Writer) (s : State) : Host.Outcome State Fault Refusal :=
  s.run fun d => d.asWriter w fun d => d.strike .reg

/-- R135: every channel's STRIKE hold ends, unless STRIKE_N is low; an assertion of the same cycle prevails. -/
def Device.strikeRelease (d : Device) : Device :=
  if d.flag BANK.STRIKESTAT_PIN then d.raise BANK.STRIKESTAT_RELREF
  else if !d.flag BANK.STRIKESTAT_ACTIVE || d.struckNow then d
  else
    let d := d.lower BANK.STRIKESTAT_ACTIVE
    d.each d.leads fun d l => d.endHold l 2

def execStrikeRelease (w : Writer) (s : State) : Host.Outcome State Fault Refusal :=
  s.run fun d => d.asWriter w fun d => d.strikeRelease

end Sys2Proof.Machine
end

