-- ==== Sys2Proof/Machine/Drive.lean ====
section
/-! DEFINITION. Machine/Drive.lean: the effective fire mark (R68, R69), turn compensation (R102,
R103), PWM periods (R91–R94), peak-and-hold (R95, R98), latency learning (R105–R109) and the release
of safe states (R111). -/
namespace Sys2Proof.Machine

/-! ## The effective fire mark -/

/-- The latency of an action of lead `l` in 10 ns (R68): learned for a learned load, rigged otherwise;
0 for DUTY, MODE and HOLD. -/
def Device.latency (d : Device) (l : Nat) : Action → Nat
  | .on => if d.flag (CH.CFG_LEARN l) then (d.chan l).learnOn.lat else (d.chan l).ldefOn * 100
  | .off => if d.flag (CH.CFG_LEARN l) then (d.chan l).learnOff.lat else (d.chan l).ldefOff * 100
  | _ => 0

/-- The lead term (L + DC) × v / (MARK × 10^6) in 1/256 mark, to the nearest, halves up (R68). Times
in 10 ns, v in µm/s, MARK in µm. -/
def leadTerm (lat dc v mark : Nat) : Int := roundDiv (((lat + dc) * v * 256 : Nat) : Int) (mark * 100000000)

/-- The speed that R68 uses: that of the beacon in force, 0 while STANDSTILL is set. -/
def Device.edgeSpeed (d : Device) : Nat := if d.flag RCK.STAT_STANDSTILL then 0 else d.rck.bSpeed

/-- F_eff (R68): below 0 it is taken as 0. -/
def Device.feffOf (d : Device) (l fire : Nat) (a : Action) : Nat :=
  ((fire : Int) + (d.chan l).stag - leadTerm (d.latency l a) (d.rd EDGE.DC) d.edgeSpeed (d.rd RCK.MARK)).toNat

/-- R69: F_eff of every pending entry is recomputed. -/
def Device.recompute (d : Device) : Device :=
  { d with store := d.store.map fun e => { e with feff := d.feffOf e.ch e.fire e.act } }

/-! ## Turn compensation -/

/-- The effective duty of lead `l` for the k in force (R102), before the limit. -/
def Device.dutyRaw (d : Device) (l : Nat) : Nat :=
  let c := d.chan l
  let base := d.fld (CH.DUTY_BASE l)
  if d.flag (CH.CFG_TCEN l) then (roundDiv (base * c.kNum) c.kDen).toNat else base

/-- duty_eff and COMP_CLAMP of lead `l` (R102). -/
def Device.setDuty (d : Device) (l : Nat) : Device :=
  let raw := d.dutyRaw l
  let eff := min (max raw (d.fld (CH.DUTY_DMIN l))) (d.fld (CH.DUTY_DMAX l))
  (d.setFld (CHS.DEFF_DUTY l) eff).setFlag (CHS.STAT_COMP_CLAMP l) (eff != raw)

/-- R102, R103: k of lead `l` from the beacon in force; below 138 889 µm/s, while FLYWHEEL is set, and in a safe state
of LAST or ON (R110), it is frozen. -/
def Device.setK (d : Device) (l : Nat) : Device :=
  if d.rck.bSpeed < 138889 || d.flag RCK.STAT_FLYWHEEL || !d.flag (CH.CFG_TCEN l)
      || (d.flag (CHS.STAT_SAFE l) && d.fld (CH.CFG_SAFE l) != 0) then d
  else
    let den : Nat := d.rck.bSpeed * 1000
    d.modChan l fun c => { c with kNum := (den : Int) + d.rck.bYaw * c.lat, kDen := den }

/-- R69 and R102 at each accepted beacon, and on the head at the due tide of each sent. -/
def Device.onBeacon (d : Device) : Device :=
  d.recompute.each d.leads fun d l => (d.setK l).setDuty l

/-! ## The cluster timebases (R90, R92) -/

/-- The count of a channel's cluster timebase, in ticks of 40 ns of its bank's link clock, modulo PERIOD. It counts from
0 when the link starts: R90 gives no starting point (DESIGN CHOICE, notes/assumptions/13.md). -/
def Device.tbCount (d : Device) (n : Nat) : Nat := (d.clk - (d.bank (bankOf n)).linkAt) / 4 % d.period n

/-- The count at which the periods of lead `n` begin (R92). -/
def Device.slotCount (d : Device) (n : Nat) : Nat := d.fld (CH.CFG_PHASE n) * d.period n / 8

/-- Now is a slot start of lead `n` that has not been taken. -/
def Device.slotNow (d : Device) (n : Nat) : Bool :=
  (d.bank (bankOf n)).link && d.tbCount n == d.slotCount n && (d.chan n).slotAt.all (fun t => decide (t + 4 ≤ d.clk))

/-! ## PWM and peak-and-hold -/

/-- The longer of what is left of a first pulse and the on-time of the period that begins (R93). -/
def extend (left : Option Nat) (t : Nat) : Option Nat :=
  match left with
  | none => some t
  | some r => some (max r t)

/-- A pulse of lead `l` begins at its slot start (R92–R94, R98); `peak`: with a peak phase. A first pulse that still
runs is extended to the end of this period's on-time, and has had its peak phase. -/
def Device.pulse (d : Device) (l : Nat) (peak : Bool) : Device :=
  let c := d.chan l
  let running := d.out l && c.firstPulse
  let ot := d.onTimeOf l
  let begin_ (d : Device) (left : Option Nat) : Device :=
    let d := d.each (d.gang l) fun d n =>
      let d := d.outOn n
      if peak && !running then d.setFlag (CHS.STAT_PEAK n) true else d
    d.modChan l fun c =>
      { c with firstPulse := false, pulse := left, onAt := if running then c.onAt else d.clk
               chop := if running then c.chop else d.fld (CH.CFG_MODE l) == 3 && !peak
               pulses := c.pulses + (ot.samples (d.period l)).toNat }
  match ot with
  | .nothing =>
    -- a first pulse that still runs is cut by no period without on-time (R93)
    if running then d.modChan l fun c => { c with firstPulse := false } else d.gangOff l
  | .throughout => begin_ d none
  | .ticks t => begin_ d (if running then extend c.pulse t else some t)

/-- A waiting MODE takes effect (R88): PH and PH_PWM entered in this way begin in the hold phase, and outside PWM and
STATIC no inrush window runs (R97, R118). -/
def Device.takeMode (d : Device) (n m : Nat) : Device :=
  let was := d.fld (CH.CFG_MODE n)
  let d := (d.setFld (CH.CFG_MODE n) m).modChan n fun c => { c with pendMode := none }
  if m = was then d
  else
    let d := d.each (d.gang n) fun d k => d.lower (CHS.STAT_PEAK k)
    d.modChan n fun c =>
      { c with inrush := if 2 ≤ m then none else c.inrush, chop := 2 ≤ m && (d.out n || c.chop), holdAt := d.clk }

/-- R88, R92, R94: a channel's slot start. A waiting MODE takes effect, then, on a channel whose ON the bank has carried
out, the period begins with the effective duty in force. -/
def Device.slotStart (d : Device) (n : Nat) : Device :=
  if !d.isLead n || !d.slotNow n then d
  else
    let was := d.fld (CH.CFG_MODE n)
    let moved := (d.chan n).pendMode
    let d := d.modChan n fun c => { c with slotAt := some d.clk }
    let d := match moved with
      | some m => d.takeMode n m
      | none => d
    let mode := d.fld (CH.CFG_MODE n)
    if !d.flag (CHS.STAT_CMD n) || !d.mayConduct n || !(d.chan n).bankOn then d
    else if mode == 1 then d.pulse n false
    else if mode == 3 then d.pulse n (moved.isNone || was == 3)
    else if moved.isSome && was != mode then
      -- STATIC conducts throughout; PH goes on in its hold phase
      (d.each (d.gang n) Device.outOn).modChan n fun c =>
        { c with firstPulse := false, pulse := none, chop := mode == 2, inrush := if mode == 0 then c.inrush else none }
    else d

def execSlotStart (n : ChanId) (s : State) : Host.Outcome State Fault Refusal := s.run fun d => d.slotStart n

/-- R95: TPEAK after the turn-on the peak phase gives way to the hold phase, which chops. -/
def Device.peakEnd (d : Device) (n : Nat) : Device :=
  let l := d.lead n
  if d.flag (CHS.STAT_PEAK l) && (d.chan l).onAt + d.fld (CH.LIM_TPEAK l) * 10000 ≤ d.clk then
    (d.each (d.gang l) fun d k => d.lower (CHS.STAT_PEAK k)).modChan l fun c => { c with chop := true, holdAt := d.clk }
  else d

def execPeakEnd (n : ChanId) (s : State) : Host.Outcome State Fault Refusal := s.run fun d => d.peakEnd n

/-- The place of now within the chop period of lead `l`, in clock periods of 10 ns, from its own offset (R95). -/
def Device.chopPlace (d : Device) (l : Nat) : Nat :=
  (d.clk - (d.bank (bankOf l)).linkAt + 5000 - 4 * (d.fld (CH.CFG_PHASE l) * 1250 / 8)) % 5000

/-- The gang's current has reached IHOLD (25 mA units): what the world gives is a free value. -/
def Device.atHold (d : Device) (l : Nat) : Bool :=
  decide (25 * d.fld (CH.LIM_IHOLD l) ≤
    (d.gang l).foldl (fun t k => t + Config.liveReading (CHS.IMEAS k).addr d.clk % 2 ^ 16) 0)

/-- R95: in the hold phase the switch turns on at the offset of its chop period, and off when the current reaches IHOLD
or at 95 % of the period. -/
def Device.chopTick (d : Device) (l : Nat) : Device :=
  if !(d.chan l).chop then d
  else if d.out l then
    if 4750 ≤ d.chopPlace l || d.atHold l then
      d.each (d.gang l) fun d k => (d.lower (CHS.STAT_OUT k)).modChan k fun c => { c with offAt := d.clk }
    else d
  else if d.chopPlace l = 0 && d.mayConduct l then d.each (d.gang l) fun d k => d.setFlag (CHS.STAT_OUT k) true
  else d

/-- The leads whose hold phase runs. -/
def Device.chopping (d : Device) : List Nat := d.leads.filter fun n => (d.chan n).chop

/-! ## Latency -/

/-- The code of an action in R55: 0 ON, 1 OFF. R108 logs the action and gives it no number; it is taken from there
(DEDUCED, notes/assumptions/77.md). -/
def actionCode (on : Bool) : Nat := (!on).toNat

/-- The learning of one action of a channel. -/
def Device.learnOf (d : Device) (n : Nat) (on : Bool) : Learn :=
  if on then (d.chan n).learnOn else (d.chan n).learnOff
def Device.setLearn (d : Device) (n : Nat) (on : Bool) (x : Learn) : Device :=
  let d := d.modChan n fun c => if on then { c with learnOn := x } else { c with learnOff := x }
  d.wr (if on then CHS.LON n else CHS.LOFF n) (x.lat / 100)
def unlField (n : Nat) (on : Bool) : Field := if on then CHS.STAT_UNL_ON n else CHS.STAT_UNL_OFF n

/-- R107: L + (s − L)/8 to the nearest 10 ns, halves up, within [LMIN, LMAX]. -/
def learnStep (l s lo hi : Nat) : Nat := clamp lo hi (roundDiv (8 * (l : Int) + ((s : Int) - l)) 8).toNat

/-- R108: the mean of four samples to the nearest 10 ns, halves up. -/
def learnMean (xs : List Nat) (lo hi : Nat) : Nat := clamp lo hi (roundDiv ((xs.foldl (· + ·) 0 : Nat) : Int) 4).toNat

/-- R107, R108: a successful sample (10 ns). -/
def Device.learnHit (d : Device) (n : Nat) (on : Bool) (s : Nat) : Device :=
  let c := d.chan n
  let x := d.learnOf n on
  let lo := (if on then c.lminOn else c.lminOff) * 100
  let hi := (if on then c.lmaxOn else c.lmaxOff) * 100
  if d.flag (unlField n on) then
    let xs := (s :: x.samples).take 4
    if xs.length = 4 then
      let d := (d.lower (unlField n on)).log Ev.LATENCY_LEARNED [n, actionCode on]
      d.setLearn n on { lat := learnMean xs lo hi, fails := 0, samples := [] }
    else d.setLearn n on { x with fails := 0, samples := xs }
  else d.setLearn n on { lat := learnStep x.lat s lo hi, fails := 0, samples := [] }

/-- R108: a failed detection. -/
def Device.learnMiss (d : Device) (n : Nat) (on : Bool) : Device :=
  let c := d.chan n
  let x := d.learnOf n on
  if d.flag (unlField n on) then d.setLearn n on { x with fails := 0, samples := [] }
  else if x.fails < 7 then d.setLearn n on { x with fails := x.fails + 1 }
  else
    let d := (d.raise (unlField n on)).log Ev.LATENCY_UNLEARNED [n, actionCode on]
    d.setLearn n on { lat := (if on then c.ldefOn else c.ldefOff) * 100, fails := 0, samples := [] }

/-- R106, R107: a search window [dispatch, dispatch + 2 × LMAX) ends; a cusp outside it is none. -/
def Device.latencySample (d : Device) (n : Nat) (on : Bool) (cusp : Option Nat) : Device :=
  match (d.chan n).search with
  | none => d
  | some (o, t0) =>
    let c := d.chan n
    let win := 2 * (if on then c.lmaxOn else c.lmaxOff) * 100
    if o != on || d.now < t0 + win then d
    else
      let d := d.modChan n fun c => { c with search := none }
      match cusp.filter (· < win) with
      | some s => d.learnHit n on s
      | none => d.learnMiss n on

def execLatencySample (n : ChanId) (on : Bool) (cusp : Option Nat) (s : State) : Host.Outcome State Fault Refusal :=
  s.run fun d => d.latencySample n on cusp

/-! ## Safe states -/

/-- While a halt in DEPLOYED lasts, SAFE holds (R312). -/
def Device.safeHeld (d : Device) : Bool := d.flag SEC.DBG_HALTED && d.fld SEC.LIFE_STATE == 2

/-- W1C bits of CHS[n].STAT (R111, R112); one that hardware sets in this cycle stays 1 (R6). -/
def Device.clearChanStat (d : Device) (n v : Nat) : Device :=
  let v := lacking v (d.freshBits (CHS.STAT n))
  let d := if v.testBit 2 && !d.safeHeld then d.lower (CHS.STAT_SAFE n) else d
  if v.testBit 7 then d.lower (CHS.STAT_CYC_WARN n) else d

def execSafeClear (w : Writer) (n : ChanId) (v : BitVec 16) (s : State) : Host.Outcome State Fault Refusal :=
  s.run fun d => d.asWriter w fun d => d.clearChanStat n v.toNat

/-- R111: SAFEREL.ALL releases every channel's safe state. -/
def Device.safeRelease (d : Device) (v : Nat) : Device :=
  if v.testBit 0 && !d.safeHeld then d.each allChans fun d n => d.clearChanStat n 4 else d

def execSaferel (w : Writer) (v : BitVec 8) (s : State) : Host.Outcome State Fault Refusal :=
  s.run fun d => d.asWriter w fun d => d.safeRelease v.toNat

end Sys2Proof.Machine
end

