-- ==== Sys2Proof/Machine/Edges.lean ====
section
/-! DEFINITION. Machine/Edges.lean: judging and entering edges (R54–R66, R77, R78), the scan and the
order at one mark (R70–R75, R79), FLUSH (R64). -/
namespace Sys2Proof.Machine

/-! ## Result codes (R84) -/

inductive Code where
  | accepted | acceptedLate | lateDropped | unmapped
  | badCheck | badTarget | badAction | gangMember | storeFull | chFull | unrigged | notRun | notMaint | duplicate
  deriving DecidableEq, Repr

def Code.num : Code → Nat
  | .accepted => 0
  | .acceptedLate => 1
  | .lateDropped => 2
  | .unmapped => 3
  | .badCheck => 0x10
  | .badTarget => 0x11
  | .badAction => 0x12
  | .gangMember => 0x13
  | .storeFull => 0x14
  | .chFull => 0x15
  | .unrigged => 0x16
  | .notRun => 0x17
  | .notMaint => 0x18
  | .duplicate => 0x19

/-- What EDGE.WRES and EDGE.WLATE say of a submission. -/
structure EdgeResult where
  code : Code
  entries : Nat := 0
  nlate : Nat := 0
  worst : Nat := 0
  deriving DecidableEq, Repr

/-! ## Targets -/

/-- Member mask of a local section; 0 where it is not rigged. -/
def Device.sectMask (d : Device) (s : Nat) : Nat := (look d.sects s).getD 0

/-- Lead channels that a mask of channels reaches, each once (R66). -/
def Device.maskLeads (d : Device) (mask : Nat) : List Nat :=
  d.leads.filter fun l => (d.gang l).any fun n => mask.testBit n

/-- Lead channels an edge reaches (R65, R66); none where a ring section maps to no local section. -/
def Device.targets (d : Device) (e : EdgeReq) : List Nat :=
  if e.ttype = 0 then (if e.index < 160 && d.isLead e.index then [e.index] else [])
  else if e.ttype = 1 then d.maskLeads (d.sectMask e.index)
  else match look d.ringMap e.index with
    | some s => d.maskLeads (d.sectMask s)
    | none => []

/-- The target exists (check 5 of R61). -/
def Device.targetOk (d : Device) (e : EdgeReq) : Bool :=
  e.rsv == 0 && (
    if e.ttype = 0 then decide (e.index < 160)
    else if e.ttype = 1 then decide (e.index < 64) && d.sectMask e.index != 0
    else e.ttype == 2)

/-- The MODEMASK test of check 6 (R87). -/
def Device.modeOk (d : Device) (e : EdgeReq) : Bool :=
  match edgeAction e with
  | some (.mode m) => m < 4 && (d.targets e).all fun l => (d.fld (CH.CFG_MODEMASK l)).testBit m
  | _ => true

/-- Checks 1 to 6 of R61, in order; `modes`: with the MODEMASK test. -/
def Device.check6 (d : Device) (src : Source) (e : EdgeReq) (modes : Bool) : Option Code :=
  if src == .svc && !d.flag UPD.CTL_MAINT then some .notMaint
  else if !d.rigged then some .unrigged
  else if !d.inRun then some .notRun
  else if !e.chkOk then some .badCheck
  else if !d.targetOk e then some .badTarget
  else if (edgeAction e).isNone || e.late == 3 || (modes && !d.modeOk e) then some .badAction
  else if !modes && (match edgeAction e with | some (.mode m) => decide (4 ≤ m) | _ => false) then some .badAction
  else none

/-- A ring-section edge whose ID maps to no local section here (R65). -/
def Device.isUnmapped (d : Device) (e : EdgeReq) : Bool := e.ttype == 2 && (look d.ringMap e.index).isNone

def Device.pendingOn (d : Device) (l : Nat) : List Entry := d.store.filter fun e => e.ch == l

/-- Checks 7 to 10 of R61. -/
def Device.check10 (d : Device) (src : Source) (e : EdgeReq) : Option Code :=
  let ts := d.targets e
  if e.ttype == 0 && !d.isLead e.index then some .gangMember
  else if d.store.any fun x => x.src == src && x.seq == e.seq && ts.contains x.ch then some .duplicate
  else if ts.any fun l => 16 ≤ (d.pendingOn l).length then some .chFull
  else if 2048 < d.store.length + ts.length then some .storeFull
  else none

/-! ## Refusal -/

/-- A channel an edge would reach that already holds 16 entries (R62). -/
def Device.fullCh (d : Device) (e : EdgeReq) : Nat :=
  ((d.targets e).find? fun l => 16 ≤ (d.pendingOn l).length).getD ((d.targets e).headD 0)

/-- A refused edge leaves no entry (R61): it is counted, and logged under R460; a ring edge's refusal
goes to the head every time (R58). -/
def Device.refuse (d : Device) (src : Source) (e : EdgeReq) (c : Code) : Device :=
  let d := d.count EDGE.CNTREF
  let ring := src == .head
  match c with
  | .chFull => (d.raise EDGE.STAT_CH_FULL).log Ev.CH_FULL [d.fullCh e, srcCode src]
  | .storeFull => (d.raise EDGE.STAT_STORE_FULL).log Ev.STORE_FULL [(d.targets e).headD 0, srcCode src]
  | _ => (d.raise EDGE.STAT_EDGE_REFUSED).logFirst Ev.EDGE_REFUSED 0 [c.num, srcCode src, e.seq] ring

/-! ## Entry -/

/-- The late policy of an edge is LATE_DROP (R78). -/
def Device.dropPolicy (d : Device) (src : Source) (e : EdgeReq) : Bool :=
  if e.late = 1 then false
  else if e.late = 2 then true
  else match src with
    | .head => d.fld EDGE.CFG_LP_RING == 1
    | .core => d.fld EDGE.CFG_LP_CORE == 1
    | .host => d.fld EDGE.CFG_LP_HOST == 1
    | .svc => d.fld EDGE.CFG_LP_SVC == 1
    | .fault | .strike => false

/-- An entry that is late at its acceptance and that R78 discards. -/
def Device.lateDrop (d : Device) (drop : Bool) (lateness : Nat) : Bool :=
  drop || (d.fld EDGE.CFG_LMAX != 0 && d.fld EDGE.CFG_LMAX * 256 ≤ lateness)

/-- R77: what an edge's late entries leave behind: counts, LAST registers and one event. -/
def Device.reportLate (d : Device) (src : Source) (seq tgt : Nat) (late gone : List Entry) : Device :=
  if late = [] then d
  else
    let r := d.reckoning
    let worst := late.foldl (fun w e => max w (r - e.feff)) 0
    let ch := ((late.find? fun e => r - e.feff == worst).map (·.ch)).getD 0
    let d := ((d.wr EDGE.LASTLATE (min worst 0xFFFFFFFF)).setFld EDGE.LASTLCH_CH ch).setFld EDGE.LASTLSRC_SRC (srcCode src)
    let d := d.when (gone != []) fun d => (d.count EDGE.CNTLDROP gone.length).raise EDGE.STAT_LATE_DROPPED
    let d := d.when (gone.length < late.length) fun d => d.raise EDGE.STAT_LATE_EDGE
    d.log (if gone.length = late.length then Ev.LATE_DROPPED else Ev.LATE_EDGE)
      [srcCode src, seq, tgt, late.length, min worst 0xFFFFFFFF]

/-- An edge that passed every check is entered (PEAK takes USED here where that is more; after a write of PEAK it reads
the written value until then, a point that R84 leaves open: DESIGN CHOICE, notes/assumptions/76.md): one entry for each lead it reaches. While SYNC is 0
it is held unjudged (R50); else lateness is judged now (R77, R78). -/
def Device.place (d : Device) (src : Source) (e : EdgeReq) (a : Action) : Device × EdgeResult :=
  let tgt := e.index + e.ttype * 4096
  let drop := d.dropPolicy src e
  let r := d.reckoning
  let sync := d.flag RCK.STAT_SYNC
  let all : List Entry := (d.targets e).map fun l =>
    let f := d.feffOf l e.fire a
    { ch := l, fire := e.fire, seq := e.seq, src := src, act := a, feff := f
      late := sync && f ≤ r, drop := drop, tgt := tgt }
  let late := all.filter (·.late)
  let gone := late.filter fun x => d.lateDrop drop (r - x.feff)
  let kept := all.filter fun x => !(x.late && d.lateDrop drop (r - x.feff))
  let d := { d with store := d.store ++ kept }
  let d := d.wr EDGE.PEAK (max (d.rd EDGE.PEAK) d.store.length)
  let d := d.reportLate src e.seq tgt late gone
  let worst := late.foldl (fun w x => max w (r - x.feff)) 0
  let code := if late = [] then .accepted else if gone.length = all.length then .lateDropped else .acceptedLate
  (d, { code := code, entries := kept.length, nlate := min late.length 255, worst := min worst 0xFFFFFFFF })

/-- R61, R65: an edge is judged with its source and entered here. -/
def Device.enter (d : Device) (src : Source) (e : EdgeReq) : Device × EdgeResult :=
  match d.check6 src e true with
  | some c => (d.refuse src e c, { code := c })
  | none =>
    if d.isUnmapped e then (d.count SECT.UNMAPCNT, { code := .unmapped })
    else match d.check10 src e with
      | some c => (d.refuse src e c, { code := c })
      | none =>
        match edgeAction e with
        | some a => d.place src e a
        | none => (d, { code := .badAction })

/-- R59: a ring-section edge that enters at the head from its core, its host or its service port is
judged by checks 1 to 6, goes round the ring, and is entered here as a ring edge; every other edge is
entered here alone. -/
def Device.submit (d : Device) (src : Source) (x : Nat) : Device × EdgeResult :=
  let e := edgeReq x
  if d.isHead && e.ttype == 2 && src != .head then
    match d.check6 src e false with
    | some c => (d.refuse src e c, { code := c })
    | none => (d.queueMsg .edge 0xFFF (1 :: toBytes 16 x)).enter .head e
  else d.enter src e

/-- EDGE.WRES and EDGE.WLATE take a result (R84). -/
def Device.putResult (d : Device) (r : EdgeResult) : Device :=
  (((d.setFld EDGE.WRES_CODE r.code.num).setFld EDGE.WRES_ENTRIES r.entries).setFld EDGE.WRES_NLATE r.nlate).wr
    EDGE.WLATE r.worst

/-- R60: the sixteen bytes in the window are submitted with the source of the writer. -/
def Device.submitWindow (d : Device) (w : Writer) : Device :=
  let p := d.submit (writerSource w) (d.rd EDGE.WIN)
  p.1.putResult p.2

def execEdgeSubmit (w : Writer) (v : BitVec 8) (s : State) : Host.Outcome State Fault Refusal :=
  s.run fun d => d.asWriter w fun d => (d.setFld ⟨EDGE.WIN, 120, 8⟩ v.toNat).submitWindow w

/-- The result of a submission as numbers (R84). -/
def EdgeResult.reply (r : EdgeResult) : EdgeReply :=
  { code := r.code.num, entries := r.entries, nlate := r.nlate, worst := r.worst }

/-- R58: the core writes an edge into its queue; both levels may (R281 protects no edge). The result
is a return code to firmware. -/
def Device.coreEdge (d : Device) (x : Nat) : Device :=
  let p := d.submit .core x
  { p.1 with coreRes := some p.2.reply }

def execCoreEdge (_hand : Bool) (e : EdgeBits) (s : State) : Host.Outcome State Fault Refusal :=
  s.run fun d => d.coreEdge e.toNat

/-! ## FLUSH -/

/-- Bits of FLUSH.SRCMASK (R84). -/
def srcMaskBit : Source → Option Nat
  | .head => some 0
  | .core => some 1
  | .host => some 2
  | .svc => some 3
  | .fault | .strike => none

/-- R64: pending entries that match the target and the source mask are discarded. What it is to match a target R64 leaves
open: an entry matches where its channel is one that an edge with this target would reach, whatever target its own
edge named, and a channel that is no lead stands for its gang's (DESIGN CHOICE, notes/assumptions/76.md). -/
def Device.flush (d : Device) (v : Nat) : Device :=
  let idx := bitsOf v 0 10
  let ty := bitsOf v 10 2
  let mask := bitsOf v 16 4
  let chans :=
    if ty = 0 then [d.lead idx]
    else if ty = 1 then d.maskLeads (d.sectMask idx)
    else if ty = 2 then d.maskLeads (((look d.ringMap idx).map d.sectMask).getD 0)
    else allChans
  d.discard (fun e => chans.contains e.ch && ((srcMaskBit e.src).map mask.testBit).getD false) Ev.FLUSHED

def execEdgeFlush (w : Writer) (v : BitVec 32) (s : State) : Host.Outcome State Fault Refusal :=
  s.run fun d => d.asWriter w fun d => d.flush v.toNat

/-! ## The scan -/

/-- R72: entry `a` prevails over an action of the given rank and SEQ at the same F_eff. -/
def prevails (rkA seqA rkB seqB : Nat) : Bool := rkA < rkB || (rkA == rkB && (seqNewer 32 seqA seqB))

/-- The record of R79 for a class. -/
def Chan.last (c : Chan) : Class → Option LastAct
  | .state => c.lastState
  | .duty => c.lastDuty
  | .mode => c.lastMode

def Chan.setLast (c : Chan) (k : Class) (x : LastAct) : Chan :=
  match k with
  | .state => { c with lastState := some x }
  | .duty => { c with lastDuty := some x }
  | .mode => { c with lastMode := some x }

def Device.superseded (d : Device) (l n : Nat) : Device :=
  if n = 0 then d
  else ((d.count EDGE.CNTSUP n).raise EDGE.STAT_SUPERSEDED).logFirst Ev.SUPERSEDED 0 [l, n]

def Device.overtaken (d : Device) (e : Entry) : Device :=
  ((d.count EDGE.CNTOVT).raise EDGE.STAT_OVERTAKEN).log Ev.OVERTAKEN [e.ch, srcCode e.src, e.seq]

/-- How R79 stands to an entry: a late one may be overtaken by, or lose to, the last action. -/
inductive Standing where
  | fires | overtaken | loses
  deriving DecidableEq, Repr

def standing (c : Chan) (e : Entry) : Standing :=
  if !e.late then .fires
  else match c.last (actClass e.act) with
    | none => .fires
    | some r =>
      if e.feff < r.feff then .overtaken
      else if e.feff = r.feff && !prevails (rank e.src) e.seq r.rank r.seq then .loses
      else .fires

/-- R74: an open HOLD window of equal or higher rank covers the entry. -/
def inHold (c : Chan) (e : Entry) : Bool :=
  actClass e.act == .state && c.holds.any fun h => h.start ≤ e.feff && e.feff < h.stop && h.rank ≤ rank e.src

/-- The larger of two entries by rank, then by SEQ as a number. -/
def upper (a b : Entry) : Entry := if rank a.src < rank b.src || (rank a.src == rank b.src && a.seq < b.seq) then b else a

/-- The entry that prevails among those of one class at one F_eff (R72): the one that prevails over each of the others.
Three SEQs of one rank can prevail over each other in a ring, where R72 names none; the largest SEQ of the highest
rank is taken there, so that arrival never decides (DESIGN CHOICE, notes/assumptions/76.md). -/
def winner : List Entry → Option Entry
  | [] => none
  | e :: t =>
    let all := e :: t
    some ((all.find? fun a => all.all fun b => a == b || prevails (rank a.src) a.seq (rank b.src) b.seq).getD
      (t.foldl upper e))

/-- An entry fires (R71, R73, R74, R88, R89, R102): `l` is its lead channel. -/
def Device.fire (d : Device) (e : Entry) : Device :=
  let l := e.ch
  let d := (d.count EDGE.CNTFIRED).when e.late fun d => d.count EDGE.CNTLATE
  let d := d.modChan l fun c => c.setLast (actClass e.act) ⟨e.feff, rank e.src, e.seq⟩
  match e.act with
  | .on =>
    if d.flag (CHS.STAT_CMD l) then d
    else (d.each (d.gang l) fun d n => d.raise (CHS.STAT_CMD n)).command l true true
  | .off =>
    if !d.flag (CHS.STAT_CMD l) then d
    else (d.each (d.gang l) fun d n => d.lower (CHS.STAT_CMD n)).command l false true
  | .duty c => (d.setFld (CH.DUTY_BASE l) c).setDuty l
  | .mode m =>
    if d.flag (CHS.STAT_CMD l) then d.modChan l fun c => { c with pendMode := some m }
    else (d.setFld (CH.CFG_MODE l) m).modChan l fun c => { c with pendMode := none }
  | .hold n => d.modChan l fun c => { c with holds := ⟨e.feff, e.feff + 256 * n, rank e.src⟩ :: c.holds }

/-- The entries of one class of one channel at one F_eff (R72–R75, R79): `forced` is the rank of a
fault-logic or STRIKE action of this scan. -/
def Device.resolve (d : Device) (l : Nat) (set : List Entry) (forced : Option Nat) (k : Class) : Device :=
  let mine := set.filter fun e => actClass e.act == k
  if k == .state && forced.isSome then d.superseded l mine.length
  else
    let c := d.chan l
    let ovt := mine.filter fun e => standing c e == .overtaken
    let lost := mine.filter fun e => standing c e == .loses
    let live := mine.filter fun e => standing c e == .fires
    let open_ := live.filter fun e => !inHold c e
    let d := ((d.each ovt Device.overtaken).superseded l lost.length).superseded l (live.length - open_.length)
    match winner open_ with
    | none => d
    | some e => (d.superseded l (open_.length - 1)).fire e

/-- All entries of channel `l` at F_eff `f` (R70, R73); in a safe state they are discarded (R111). -/
def Device.fireMark (d : Device) (l f : Nat) (forced : Option Nat) : Device :=
  let set := (d.pendingOn l).filter fun e => e.feff == f
  let d := { d with store := d.store.filter fun e => !(e.ch == l && e.feff == f) }
  if d.flag (CHS.STAT_SAFE l) then d.superseded l set.length
  else ((d.resolve l set forced .mode).resolve l set forced .duty).resolve l set forced .state

/-- The F_eff of channel `l`'s entries that reckoning has reached, in ascending order, each once. -/
def Device.marksDue (d : Device) (l : Nat) : List Nat :=
  sortNat (((d.pendingOn l).map (·.feff)).filter (· ≤ d.reckoning)).eraseDups

/-- R70 for one lead channel. A fault-logic or STRIKE action of this scan is recorded first (R75).
Entries of a held bank stay (R19), and nothing fires while SYNC is 0 (R50). -/
def Device.scanChannel (d : Device) (l : Nat) : Device :=
  let forced := (d.chan l).forced
  let d := match forced with
    | some rk => (d.recordState l rk).modChan l fun c => { c with forced := none }
    | none => d
  if d.flag (BANK.STAT_HELD (bankOf l)) || !d.flag RCK.STAT_SYNC then d
  else d.each (d.marksDue l) fun d f => d.fireMark l f forced

/-- R70: the engine visits every channel once, in channel order. -/
def Device.scan (d : Device) : Device := d.each d.leads Device.scanChannel

end Sys2Proof.Machine
end

