-- ==== Sys2Proof/Machine/Reckon.lean ====
section
/-! DEFINITION. Machine/Reckon.lean: counts, sources and speed (R31–R40), reverse travel (R41–R43), yaw
(R44), captures (R45), beacons sent and received (R46–R50, R167), flywheel, loss and takeover
(R49, R51, R52). Reckoning and count positions stand in 2^-32 mark (R34). -/
namespace Sys2Proof.Machine

def Device.modRck (d : Device) (f : Rck → Rck) : Device := { d with rck := f d.rck }

/-- One mark in 2^-32 mark. -/
def oneMark : Nat := 2 ^ 32

/-- The ends of the operating window (R39), µm/s. -/
def vMin : Nat := 27778
def vMax : Nat := 16666668

/-! ## Speed (R38, R39, R44) -/

/-- `dist` (2^-32 mark) over `dt` ticks in µm/s: R38 gives the quotient and no rounding; the fraction is dropped
(DESIGN CHOICE, notes/assumptions/20.md). -/
def speedOver (dist dt mark : Nat) : Nat := dist * mark * second / (oneMark * dt)

/-- n of R38, less one: the index of stamp[n], stamp[1] standing first. -/
def stampIndex (l : List Stamp) (t : Nat) : Nat :=
  match ((List.range (min 256 l.length)).filter fun i => 1 ≤ i && 250 * usec ≤ t - ((l[i]?).map (·.tide)).getD t).head? with
  | some i => i
  | none => max 2 (min 256 (l.filter fun s => t ≤ s.tide + 100 * msec).length) - 1

/-- v at a count at tide `t` (R38): none where the rule divides by no elapsed time. -/
def estimate (l : List Stamp) (t mark : Nat) : Option Nat :=
  if l.length < 2 then some 0
  else
    let i := stampIndex l t
    let dt := t - ((l[i]?).map (·.tide)).getD t
    if dt = 0 then none
    else some (speedOver ((l.take i).foldl (fun a s => a + s.dist) 0) dt mark)

/-- v_now of R38: the estimate, never above one count's distance over the time since the last count. -/
def decayed (v : Nat) (l : List Stamp) (now mark : Nat) : Nat :=
  match l with
  | [] => 0
  | s :: _ => if now ≤ s.tide then v else min v (speedOver s.dist (now - s.tide) mark)

def Device.mark (d : Device) : Nat := d.rd RCK.MARK

/-- The speed of a wheel as R38 estimates it. -/
def Device.encSpeed (d : Device) (e : Nat) : Nat :=
  if e = 0 then decayed d.rck.vEnc0 d.rck.stamps0 d.now d.mark else decayed d.rck.vEnc1 d.rck.stamps1 d.now d.mark

/-- The speed of a wheel for the yaw rate: R38 reads it as 0 below the operating window (R44). -/
def Device.wheelSpeed (d : Device) (e : Nat) : Nat := if d.encSpeed e < vMin then 0 else d.encSpeed e

/-- The speed of the device's own source, before the operating window. -/
def Device.ownSpeed (d : Device) : Nat :=
  if d.rck.srcLost then 0
  else match d.rck.src with
    | .mean => (d.encSpeed 0 + d.encSpeed 1 + 1) / 2
    | .enc e | .solo e => d.encSpeed e
    | .radar => decayed d.rck.vEst d.rck.stamps d.now d.mark
    | .host => d.rck.vEst
    | .none => 0

/-- RCK.SPEED (R39): on the head its own, on every other device that of the beacon in force. A head
without a source of its own flywheels at the last beacon speed (R52). -/
def Device.speedNow (d : Device) : Nat :=
  let v := if d.isHead && !d.flag RCK.STAT_FLYWHEEL then d.ownSpeed else d.rck.bSpeed
  if v < vMin then 0 else v

/-- RCK.YAW (R44), µrad/s: on every device but the head, that of the beacon in force. R44 gives the quotient of WHEELS
and no rounding; it is rounded to the nearest (DESIGN CHOICE, notes/assumptions/20.md). -/
def Device.yawNow (d : Device) : Int :=
  if !d.isHead then d.rck.bYaw
  else if d.fld RCK.CFG_YAWSRC = 1 then
    let side := d.flag RCK.CFG_ENCSIDE
    let left := d.wheelSpeed (if side then 1 else 0)
    let right := d.wheelSpeed (if side then 0 else 1)
    roundDiv (((right : Int) - left) * 1000) (d.rd RCK.TRACK)
  else if d.fld RCK.CFG_YAWSRC = 2 then
    if d.flag RCK.STAT_YAW_STALE then 0 else signed 32 (d.rd RCK.HYAW)
  else 0

/-! ## Rate (R40) -/

/-- v × 2^32 / (MARK × 10^8). -/
def speedTerm (v mark : Nat) : Int := roundDiv ((v * oneMark : Nat) : Int) (mark * 100000000)

/-- The speed term's v: 0 after a reverse count and while a deficit remains (R40). -/
def Device.termSpeed (d : Device) : Nat := if d.rck.fwd && d.rck.revDef = 0 then d.speedNow else 0

/-- RATE for speed `v` and the correction in force, floored at 0 (R40). -/
def Device.rerate (d : Device) (v : Nat) : Device :=
  d.wr RCK.RATE (min (speedTerm v d.mark + d.rck.corr).toNat 0xFFFFFFFF)

/-- R40: the rate for speed `v` and error `e` (2^-32 mark); ERR takes e in 1/256 mark. The correction of `e` stays in
force until the next count or beacon. -/
def Device.setRate (d : Device) (v : Nat) (e : Int) : Device :=
  let err := max (-32767) (min 32767 (roundDiv e (2 ^ 24)))
  let d := d.modRck fun r => { r with corr := roundDiv e (d.rd RCK.TSLEW * 100) }
  (d.rerate v).wr RCK.ERR (unsigned 16 err)

/-- STANDSTILL and OVERSPEED for speed `v` (R39). -/
def Device.speedFlags (d : Device) (v : Nat) : Device :=
  let fast := decide (vMax ≤ v)
  let d := if fast && !d.flag RCK.STAT_OVERSPEED then d.log Ev.OVERSPEED [v] else d
  (d.setFlag RCK.STAT_STANDSTILL (v < vMin)).setFlag RCK.STAT_OVERSPEED fast

/-- The device follows a source of its own: a head that does not flywheel for want of one (R52) and whose source
is not lost (R36, R37). -/
def Device.driven (d : Device) : Bool := d.isHead && !d.flag RCK.STAT_FLYWHEEL && !d.rck.srcLost

/-- The rate and flags of a head at a count, or at a new target: its error is taken afresh (R40). -/
def Device.ownRate (d : Device) : Device :=
  let d := d.modRck fun r => { r with holding := false }
  (d.speedFlags d.speedNow).setRate d.termSpeed (d.rck.pos - d.rck.reck)

/-- The speed in use has changed between counts (R36, R39): the flags and the speed term follow, the correction
stays. -/
def Device.newSpeed (d : Device) : Device :=
  let d := d.modRck fun r => { r with holding := false }
  (d.speedFlags d.speedNow).rerate d.termSpeed

/-- A head whose source is lost has speed 0 and holds reckoning (R36, R37). -/
def Device.holdReckoning (d : Device) : Device :=
  let d := (d.speedFlags d.speedNow).modRck fun r => { r with holding := true }
  d.wr RCK.RATE 0

/-- The rate of a head that takes up its own source, lost or not (R37, R40). -/
def Device.takeUp (d : Device) : Device := if d.rck.srcLost then d.holdReckoning else d.ownRate

/-- R39 between counts: OVERSPEED clears by itself, and a speed that has fallen below the window sets STANDSTILL and
stops extrapolation. -/
def Device.speedTick (d : Device) : Device :=
  if !d.isHead then d
  else
    let stop := d.speedNow = 0 && !d.flag RCK.STAT_STANDSTILL && !d.rck.holding
    let d := d.speedFlags d.speedNow
    if stop then d.rerate 0 else d

/-! ## Reverse travel (R41–R43) -/

/-- REVERSE follows the deficit (R43). -/
def Device.revFlag (d : Device) : Device :=
  if d.rck.revDef = 0 then d.lower RCK.STAT_REVERSE
  else if d.rd RCK.REVTHR * oneMark ≤ d.rck.revDef then d.raise RCK.STAT_REVERSE
  else d

/-- A distance counted (2^-32 mark) in the direction given: what of it advances the count position. -/
def Device.travel (d : Device) (dist : Nat) (fwd : Bool) : Device :=
  let d := d.modRck fun r =>
    if !fwd then { r with rev := (r.rev + dist) % 2 ^ 72, revDef := r.revDef + dist, fwd := false }
    else
      let paid := min r.revDef dist
      let deficit := if d.flag RCK.CFG_REVMODE then 0 else r.revDef - paid
      let adv : Nat := if d.flag RCK.CFG_REVMODE then dist else dist - paid
      let r := { r with revDef := deficit, fwd := true }
      if d.isHead then { r with pos := r.pos + adv } else { r with pOwn := r.pOwn + adv }
  d.revFlag

/-! ## Counts -/

/-- The source named by a code of R35. -/
def sourceOf : Nat → RckSource
  | 0 => .mean
  | 1 => .enc 0
  | 2 => .enc 1
  | 3 => .radar
  | 4 => .host
  | _ => .none

/-- The device counts its own source: the head, and a standby for its shadow position (R35). -/
def Device.counting (d : Device) : Bool := d.isHead || d.isStandby

/-- Distance of a count of encoder `e` under the source in use, none where it does not count it. -/
def Device.encDist (d : Device) (e : Nat) : Option Nat :=
  let k := if e = 0 then d.rd RCK.KENC0 else d.rd RCK.KENC1
  match d.rck.src with
  | .mean => some (k * 128)
  | .enc i | .solo i => if i.val = e then some (k * 256) else none
  | _ => none

def Device.kenc (d : Device) (e : Nat) : Nat := if e = 0 then d.rd RCK.KENC0 else d.rd RCK.KENC1

/-- The estimate at the newest count listed; one whose value the rule does not give is a free value. -/
def Device.estimateOr (d : Device) (l : List Stamp) : Nat × Device :=
  match estimate l ((l.head?.map (·.tide)).getD d.now) d.mark with
  | some v => (min v 0xFFFFFFFF, d)
  | none => (d.freeVal 32, d.nextFree)

/-- 1 km/h in µm/s, rounded up (R36). -/
def vFail : Nat := 277778

/-- Since when a wheel has indicated 1 km/h, after a count: `before` and `after` are its speeds just before it and
at it (R36). -/
def fastSince (since : Option Nat) (before after now : Nat) : Option Nat :=
  if after < vFail then none else if before < vFail then some now else since.or (some now)

/-- R32, R33, R38, R40: an accepted count of an encoder. A source that is lost counts no distance until it is
restored (R36, R37). -/
def Device.encCount (d : Device) (e : Nat) (fwd : Bool) : Device :=
  let stamps := if e = 0 then d.rck.stamps0 else d.rck.stamps1
  let d := d.when (stamps.head?.any fun s => d.now < s.tide + 50) fun d =>
    (d.raise RCK.STAT_COUNT_OVERRUN).log Ev.COUNT_OVERRUN [e]
  let cnt := if e = 0 then RCK.CNT0 else RCK.CNT1
  let d := d.wr cnt (unsigned 32 ((d.rd cnt : Int) + (if fwd then 1 else -1)))
  let before := d.encSpeed e
  let stamps := (⟨d.now, d.kenc e * 256⟩ :: stamps).take 256
  let p := d.estimateOr stamps
  let now := d.now
  let d := p.2.modRck fun r =>
    let r :=
      if e = 0 then { r with stamps0 := stamps, vEnc0 := p.1, fast0 := fastSince r.fast0 before p.1 now }
      else { r with stamps1 := stamps, vEnc1 := p.1, fast1 := fastSince r.fast1 before p.1 now }
    { r with encFwd := fwd, resumed := r.resumed || r.failed.any (·.val == e) }
  match d.encDist e with
  | none => d
  | some dist =>
    if !d.counting || d.rck.srcLost then d
    else
      let d := d.travel dist fwd
      if d.driven then d.ownRate else d

/-- Filter time of an encoder pair in samples of 10 ns (R31). -/
def Device.encFilter (d : Device) (e : Nat) : Nat := if e = 0 then d.fld RCK.FILT_TF0 else d.fld RCK.FILT_TF1

/-- R31, R32: the step of an encoder pair, whose new levels have stood for `stable` samples: a pulse shorter than the
filter time is ignored. A leads B is forward while ENCSIDE is 0. -/
def Device.encoderStep (d : Device) (e : Nat) (step : EncStep) (stable : Nat) : Device :=
  if stable < d.encFilter e then d
  else match step with
  | .illegal => ((d.countSat RCK.ILLCNT).raise RCK.STAT_ENC_ILLEGAL).log Ev.ENC_ILLEGAL [e]
  | .aLeadsB => d.encCount e (!d.flag RCK.CFG_ENCSIDE)
  | .bLeadsA => d.encCount e (d.flag RCK.CFG_ENCSIDE)

def execEncoderCount (enc : Fin 2) (step : EncStep) (stable : Nat) (s : State) : Host.Outcome State Fault Refusal :=
  s.run fun d => d.encoderStep enc step stable

/-- R33, R35: an accepted RADAR edge. -/
def Device.radarCount (d : Device) : Device :=
  let d := d.when (d.rck.stamps.head?.any fun s => d.now < s.tide + 2000) fun d =>
    (d.raise RCK.STAT_COUNT_OVERRUN).log Ev.COUNT_OVERRUN [2]
  let d := d.count RCK.CNTR
  let dist := d.rd RCK.KRAD * 256
  let stamps := (⟨d.now, dist⟩ :: d.rck.stamps).take 256
  let d := d.modRck fun r => { r with stamps := stamps }
  if d.rck.src != .radar || !d.counting || d.rck.srcLost then d
  else
    let p := d.estimateOr stamps
    let d := p.2.modRck fun r => { r with vEst := p.1 }
    let fwd := if d.flag RCK.CFG_RADDIR then !d.flag RCK.HDIR_REVERSE else d.rck.encFwd
    let d := d.travel dist fwd
    if d.driven then d.ownRate else d

/-- R31: a high level of RADAR that has stood for `stable` samples is accepted once that is its filter time. -/
def Device.radarPulse (d : Device) (stable : Nat) : Device :=
  if stable < d.fld RCK.FILT_TFR then d else d.radarCount

def execRadarPulse (stable : Nat) (s : State) : Host.Outcome State Fault Refusal := s.run fun d => d.radarPulse stable

/-- R39: between counts the head's speed has fallen below the operating window. -/
def Device.standstill (d : Device) : Device :=
  if d.speedNow = 0 then d.speedTick else d

def execStandstill (s : State) : Host.Outcome State Fault Refusal := s.run fun d => d.standstill

/-! ## Loss of a source (R36, R37) -/

/-- The reaction of LOSSACT on the device's own channels (R49). -/
def Device.lossAct (d : Device) (cause : SafeCause) : Device :=
  if d.flag RCK.CFG_LOSSACT then d.strike .int else d.applySafe cause

/-- A source comes into use: HOST with the last value written since the rigging load, RADAR with the estimate at
its last pulse (R37, R38). -/
def Device.useSource (d : Device) (s : RckSource) : Device :=
  let d := d.modRck fun r => { r with src := s }
  if s == .host then
    let d := d.modRck fun r =>
      { r with vEst := if r.hspeedAt.isSome then d.rd RCK.HSPEED else 0, fwd := !d.flag RCK.HDIR_REVERSE }
    d.when d.rck.hspeedAt.isNone fun d => d.raise RCK.STAT_SPEED_STALE
  else if s == .radar then
    let p := d.estimateOr d.rck.stamps
    p.2.modRck fun r => { r with vEst := p.1 }
  else d

/-- The source in use is lost: a fallback takes over, or the head holds reckoning (R36, R37). A fallback that is
itself the source lost is none. -/
def Device.loseSource (d : Device) : Device :=
  let fb := d.fld RCK.CFG_FALLBK
  if fb ≤ 4 && sourceOf fb != d.rck.src then
    let d := d.useSource (sourceOf fb)
    if d.driven then d.newSpeed else d
  else
    let d := d.modRck fun r => { r with srcLost := true }
    if d.isHead then
      d.holdReckoning.lossAct .sourceLost
    else d

/-- The earliest instant at which the interval of R36 may begin for encoder `e`: after its last count, after the
rigging load, and with the other wheel at 1 km/h ever since; none while that wheel is slower. -/
def Device.silentFrom (d : Device) (e : Fin 2) : Option Nat :=
  let other : Nat := if e = 0 then 1 else 0
  let stamps := if e = 0 then d.rck.stamps0 else d.rck.stamps1
  let fast := if e = 0 then d.rck.fast1 else d.rck.fast0
  if d.encSpeed other < vFail then none
  else fast.map fun t => max (max d.rck.loadedAt t) ((stamps.head?.map (·.tide + 1)).getD 0)

/-- R36: encoder `e` has failed. -/
def Device.srcFail (d : Device) (e : Fin 2) : Device :=
  if !d.rigged || d.rck.failed == some e || !(d.silentFrom e).any (fun t => t + 500 * msec ≤ d.now) then d
  else
    let d := (d.raise RCK.STAT_SRC_FAIL).log Ev.SRC_FAIL [e]
    let d := d.modRck fun r => { r with failed := some e, resumed := false }
    if (d.encDist e).isNone || d.rck.srcLost then d
    else if d.rck.src == .mean && 4 < d.fld RCK.CFG_FALLBK then
      let d := d.modRck fun r => { r with src := .solo (if e = 0 then 1 else 0) }
      if d.driven then d.newSpeed else d
    else d.loseSource

def execSrcFail (enc : Fin 2) (s : State) : Host.Outcome State Fault Refusal := s.run fun d => d.srcFail enc

/-- The rigged source is HOST (R35). -/
def Device.hostSource (d : Device) : Bool := d.fld RCK.CFG_SRC == 4

/-- R36: SRCRST restores the failed source once its encoder has counted again: the rigged source, or, where that
is HOST, which a write of HSPEED restores (R37), the encoder as its fallback. -/
def Device.srcRestore (d : Device) (v : Nat) : Device :=
  if !v.testBit 0 || d.rck.failed.isNone || !d.rck.resumed then d
  else
    let stay := d.hostSource && d.rck.src == .host
    let d := d.modRck fun r => { r with failed := none, resumed := false, srcLost := r.srcLost && stay }
    if stay then d
    else
      let d := d.useSource (sourceOf (if d.hostSource then d.fld RCK.CFG_FALLBK else d.fld RCK.CFG_SRC))
      if d.driven then d.newSpeed else d

def execSrcrst (w : Writer) (v : BitVec 8) (s : State) : Host.Outcome State Fault Refusal :=
  s.run fun d => d.asWriter w fun d => d.srcRestore v.toNat

/-- SYNC is set, and held edges whose marks have been reached are accepted now (R49, R50). -/
def Device.setSync (d : Device) : Device :=
  if d.flag RCK.STAT_SYNC then d
  else (d.raise RCK.STAT_SYNC).acceptNow fun e => !d.flag (BANK.STAT_HELD (bankOf e.ch))

/-- R37, R52: a write of HSPEED takes effect with its highest byte (`top`). It restores a lost HOST source; a head
that flywheels without a source of its own goes on from its present reckoning. While another source is rigged and in
use, it is stored alone. -/
def Device.writeHspeed (d : Device) (v : Nat) (top : Bool := true) : Device :=
  let d := d.wr RCK.HSPEED v
  if !d.rigged || !top then d
  else if !d.hostSource && d.rck.src != .host then d.modRck fun r => { r with hspeedAt := some r.tide }
  else
    let fly := d.isHead && d.flag RCK.STAT_FLYWHEEL
    let d := d.lower RCK.STAT_SPEED_STALE
    let d := d.modRck fun r =>
      { r with hspeedAt := some r.tide, src := .host, srcLost := false, vEst := v
               fwd := !d.flag RCK.HDIR_REVERSE, pos := if fly then r.reck else r.pos }
    if d.isHead then (d.lower RCK.STAT_FLYWHEEL).ownRate.setSync else d

def execHspeedWrite (w : Writer) (v : BitVec 32) (s : State) : Host.Outcome State Fault Refusal :=
  s.run fun d => d.asWriter w fun d => d.writeHspeed v.toNat

/-- R37: a write of HDIR gives the direction of HOST, and of RADAR with RADDIR = 1. -/
def Device.writeHdir (d : Device) (v : Nat) : Device :=
  let d := d.setFld RCK.HDIR_REVERSE (v % 2)
  if d.rck.src == .host && d.isHead then
    let d := d.modRck fun r => { r with fwd := v % 2 == 0 }
    if d.driven then d.ownRate else d
  else d

def execHdirWrite (w : Writer) (v : BitVec 8) (s : State) : Host.Outcome State Fault Refusal :=
  s.run fun d => d.asWriter w fun d => d.writeHdir v.toNat

/-- R44: a write of HYAW, which counts with its highest byte. -/
def Device.writeHyaw (d : Device) (v : Nat) (top : Bool := true) : Device :=
  let d := d.wr RCK.HYAW v
  if d.fld RCK.CFG_YAWSRC = 2 && d.rigged && top then
    (d.lower RCK.STAT_YAW_STALE).modRck fun r => { r with hyawAt := some r.tide }
  else d

def execHyawWrite (w : Writer) (v : BitVec 32) (s : State) : Host.Outcome State Fault Refusal :=
  s.run fun d => d.asWriter w fun d => d.writeHyaw v.toNat

/-- A limit counted from a host write has run out. -/
def Device.past (d : Device) (t0 : Option Nat) (ticks : Nat) : Bool := t0.any fun t => t + ticks ≤ d.now

/-- R37: HTO passes without a write of HSPEED; the speed is held. -/
def Device.speedStale (d : Device) : Device :=
  if (d.hostSource || d.rck.src == .host) && d.past d.rck.hspeedAt (d.rd RCK.HTO * msec) && !d.flag RCK.STAT_SPEED_STALE then
    (d.raise RCK.STAT_SPEED_STALE).log Ev.SPEED_STALE []
  else d

def execSpeedStale (s : State) : Host.Outcome State Fault Refusal := s.run fun d => d.speedStale

/-- R44: HTO passes without a write of HYAW; yaw falls to 0. -/
def Device.yawStale (d : Device) : Device :=
  if d.fld RCK.CFG_YAWSRC = 2 && d.past d.rck.hyawAt (d.rd RCK.HTO * msec) && !d.flag RCK.STAT_YAW_STALE then
    (d.raise RCK.STAT_YAW_STALE).log Ev.YAW_STALE []
  else d

def execYawStale (s : State) : Host.Outcome State Fault Refusal := s.run fun d => d.yawStale

/-- R37: the host source is lost HTO + FLYTO after its last write. -/
def Device.srcLost (d : Device) : Device :=
  if d.rck.src == .host && !d.rck.srcLost && d.past d.rck.hspeedAt ((d.rd RCK.HTO + d.rd RCK.FLYTO) * msec) then
    ((d.raise RCK.STAT_SRC_FAIL).log Ev.SRC_FAIL [4]).loseSource
  else d

def execSrcLost (s : State) : Host.Outcome State Fault Refusal := s.run fun d => d.srcLost

/-- R45: CAP copies both counters on one tick. -/
def Device.capture (d : Device) (v : Nat) : Device :=
  if v.testBit 0 then (d.wr RCK.CAPRECK d.reckoning).wr RCK.CAPTIDE d.now else d

def execCap (w : Writer) (v : BitVec 8) (s : State) : Host.Outcome State Fault Refusal :=
  s.run fun d => d.asWriter w fun d => d.capture v.toNat

/-! ## Beacons -/

/-- Ticks between beacons. -/
def beaconTicks : Nat := 250 * usec

/-- A new send interval begins (R183). -/
def Device.newInterval (d : Device) : Device := { d with ring := { d.ring with begun := 0, interval := d.now } }

/-- R167: the beacon that falls due now is queued; Reckoning, Tide and AGE are filled as its first
SOC leaves a port. Its speed and yaw rule the head's own recomputations (R69, R102). -/
def Device.beaconSend (d : Device) : Device :=
  if !d.isHead || d.now < d.rck.due then d
  else
    let v := d.termSpeed
    let yaw := d.yawNow
    let still := d.flag RCK.STAT_STANDSTILL
    let flags := flagByte [d.flag RCK.STAT_REVERSE, still, d.flag RCK.STAT_OVERSPEED, d.flag RCK.STAT_SRC_FAIL,
      d.flag RCK.STAT_YAW_STALE, d.rck.srcLost]
    let d := d.modRck fun r =>
      { r with bSpeed := v, bYaw := yaw, bLost := r.srcLost, due := r.due + beaconTicks }
    let pay := toBytes 2 0 ++ toBytes 2 (d.rd RCK.EPOCH) ++ [flags] ++ toBytes 14 0 ++ toBytes 4 v ++ toBytes 4 (unsigned 32 yaw)
    (d.newInterval.queueMsg .beacon 0xFFF pay).onBeacon

def execBeaconSend (s : State) : Host.Outcome State Fault Refusal := s.run fun d => d.beaconSend

/-- The oldest delivered message of a type, and the rest. -/
def Device.takeMsg (d : Device) (t : MsgType) : Option (Msg × Device) :=
  match d.ring.inbox.find? fun m => m.type == t with
  | none => none
  | some m => some (m, { d with ring := { d.ring with inbox := d.ring.inbox.erase m } })

/-- A former head becomes a member (R52, takeover timeline). It slews to the new head (R180), so its
tide counts as locked. -/
def Device.depose (d : Device) : Device :=
  let d := ((d.setFld RCK.CFG_ROLE 0).lower RING.RSTAT_LOAD_OVER).raise RCK.STAT_HEAD_DEPOSED
  let q := d.ring.txq.filter fun m => !(m.msg.type == .beacon)
  let d := { d with ring := { d.ring with table := [], txq := q } }
  (d.raise RCK.STAT_TIDE_LOCK).log Ev.HEAD_DEPOSED []

/-- Tide against the head's (R46, R47, R49): `th` is the head's tide now. The approach of an acquisition goes on until
it has reached the head's tide; from then on an error of 20 µs or more is a slip, a run at half rate among it. -/
def Device.followTide (d : Device) (th : Nat) : Device :=
  let t := d.now
  if d.rck.approach && th < t then d.modRck fun r => { r with ahead := t - th }
  else
    let d := d.modRck fun r => { r with approach := false }
    if t + 2000 ≤ th then
      ((d.modRck fun r => { r with tide := th, ahead := 0, steerErr := 0 }).raise RCK.STAT_TIDE_SLIP).log Ev.TIDE_SLIP [th - t]
    else if th + 2000 ≤ t then
      ((d.modRck fun r => { r with ahead := t - th, steerErr := 0 }).raise RCK.STAT_TIDE_SLIP).log Ev.TIDE_SLIP [t - th]
    else if 0 < d.rck.ahead then d.modRck fun r => { r with ahead := t - th, steerErr := if t < th then (th : Int) - t else 0 }
    else d.modRck fun r => { r with steerErr := (th : Int) - t }

/-- R46, R49: a valid beacon is applied. The order within the step is the model's: at the beacon that sets SYNC the
held entries are judged for lateness (R50) before F_eff is computed anew with that beacon's speed (R69); the spec gives
none (DESIGN CHOICE, notes/assumptions/76.md). `age` includes the incoming link (R167); `since`: ticks from
the moment of receipt to now. -/
def Device.applyBeacon (d : Device) (m : Msg) : Device :=
  let pay := m.data
  let since := d.now - m.stamp
  let v := fieldAt pay 19 4
  let flags := byteAt pay 4
  let th := fieldAt pay 11 8 + m.age + since
  let target : Int := (fieldAt pay 5 6 * 2 ^ 24 : Nat) + speedTerm v d.mark * (m.age + since : Nat)
  let lostNew := flags.testBit 5 && !d.rck.bLost
  let d := (((d.wr RCK.EPOCH (fieldAt pay 2 2)).setFld RCK.HEAD_ADDR m.addr).wr RCK.BAGE m.age).lower RCK.STAT_FLYWHEEL
  let d := d.modRck fun r =>
    { r with tL := fieldAt pay 11 8, missing := 0, bSpeed := v, bYaw := signed 32 (fieldAt pay 23 4)
             bLost := flags.testBit 5, holding := false }
  let d := ((d.setFlag RCK.STAT_REVERSE (flags.testBit 0)).setFlag RCK.STAT_STANDSTILL (flags.testBit 1)).setFlag
    RCK.STAT_OVERSPEED (flags.testBit 2)
  let d :=
    if d.flag RCK.STAT_TIDE_LOCK then
      let e := target - d.rck.reck
      let d := (d.setRate v e).followTide th
      let ok := decide (e.natAbs * 20 < oneMark)
      let d := d.modRck fun r => { r with agree := if ok then r.agree + 1 else 0 }
      if 4 ≤ d.rck.agree then d.setSync else d
    else
      let t := d.now
      let d := d.modRck fun r =>
        { r with reck := target.toNat, tide := max t th, ahead := t - th, approach := decide (th < t), steerErr := 0, agree := 0 }
      (d.raise RCK.STAT_TIDE_LOCK).setRate v 0
  let d := d.modRck fun r => { r with tRecv := r.tide - since, offs := r.reck - r.pOwn }
  let d := d.newInterval.onBeacon
  if lostNew then d.lossAct .sourceLost else d

/-- A standby has a source of its own (R52). -/
def Device.ownSource (d : Device) : Bool :=
  if d.hostSource then d.rck.hspeedAt.isSome && d.rck.src == .host && !d.rck.srcLost else true

/-- R51, R52: the standby becomes head: epoch + 1, its present reckoning and tide kept, its target
P_own + O. Without a source of its own it flywheels on. Its first beacon falls due at once, and it
asks for an enumeration (R177). -/
def Device.takeover (d : Device) : Device :=
  let own := d.ownSource
  let speed := d.rck.bSpeed
  let d := ((d.setFld RCK.CFG_ROLE 1).count RCK.EPOCH).raise RCK.STAT_HEAD_TAKEOVER
  let d := (d.setFld RCK.HEAD_ADDR d.addr).log Ev.HEAD_TAKEOVER [d.rd RCK.EPOCH]
  let d := { d with ring := { d.ring with queryPend := true, table := [] } }
  let d := d.modRck fun r =>
    { r with pos := if d.hostSource then r.reck else r.pOwn + r.offs, due := r.tide, missing := 0
             srcLost := r.srcLost && own, fwd := if d.hostSource then !d.flag RCK.HDIR_REVERSE else r.fwd }
  let d := if own then (d.lower RCK.STAT_FLYWHEEL).takeUp else d.setRate speed 0
  d.setSync

/-- R383: the 40 ms from the epoch of a received ACTIVATE. -/
def Device.suspended (d : Device) : Bool := d.upd.suspend.any fun e => e ≤ d.now && decide (d.now < e + 40 * msec)

/-- R49, R51: a beacon is missing: the device goes on at its last rate, which stands until the next beacon (R40).
Takeover waits while an activation suspends it (R383). -/
def Device.beaconMissing (d : Device) : Device :=
  let k := d.rck.missing + 1
  if d.isHead || !d.flag RCK.STAT_TIDE_LOCK || d.now < d.rck.tL + k * beaconTicks + d.rd RCK.AMAX * usec then d
  else
    let d := d.modRck fun r => { r with missing := k, agree := if d.flag RCK.STAT_SYNC then r.agree else 0 }
    let d := d.raise RCK.STAT_FLYWHEEL
    if d.isStandby && 4 ≤ k && !d.suspended then d.takeover else d

def execBeaconMissing (s : State) : Host.Outcome State Fault Refusal := s.run fun d => d.beaconMissing

/-- R49: the flywheel limit runs out. -/
def Device.beaconLoss (d : Device) : Device :=
  if !d.flag RCK.STAT_TIDE_LOCK || !d.flag RCK.STAT_FLYWHEEL || d.suspended
      || d.now < d.rck.tRecv + d.rd RCK.FLYTO * msec then d
  else
    let d := ((d.raise RCK.STAT_BEACON_LOSS).lower RCK.STAT_SYNC).lower RCK.STAT_TIDE_LOCK
    let d := d.log Ev.BEACON_LOSS []
    let d := d.modRck fun r => { r with bSpeed := 0, holding := true, agree := 0, missing := 0 }
    let d := ((d.raise RCK.STAT_STANDSTILL).lower RCK.STAT_OVERSPEED).wr RCK.RATE 0
    (d.lossAct .beaconLoss).discard (fun _ => true) Ev.DISCARDED_SYNC

def execBeaconLoss (s : State) : Host.Outcome State Fault Refusal := s.run fun d => d.beaconLoss

/-- What has run out before a beacon of this tide arrives: the missing beacons and the flywheel limit (R49, R51). -/
def Device.overdue (d : Device) : Device := (d.each (List.range 4) fun d _ => d.beaconMissing).beaconLoss

/-- R46–R49, R52: the oldest beacon delivered. One that comes at the very tide at which it counts as missing, or at
which the flywheel limit ends, comes after that (R51). -/
def Device.beaconReceive (d : Device) : Device :=
  let d := d.overdue
  match d.takeMsg .beacon with
  | none => d
  | some (m, d) =>
    let epoch := fieldAt m.data 2 2
    if d.rd RCK.AMAX * usec ≤ m.age then
      ((d.countSat RCK.STALECNT).raise RCK.STAT_BEACON_STALE).log Ev.BEACON_STALE [m.addr, m.age]
    else if epoch < d.rd RCK.EPOCH then d
    else
      let d := { d with ring := { d.ring with heard := true } }
      if d.isHead then
        if d.rd RCK.EPOCH < epoch then d.depose.applyBeacon m else d
      else d.applyBeacon m

def execBeaconReceive (s : State) : Host.Outcome State Fault Refusal := s.run fun d => d.beaconReceive

end Sys2Proof.Machine
end

