-- ==== Sys2Proof/Machine/Measure.lean ====
section
/-! DEFINITION. Machine/Measure.lean: the Measurement Subsystem (R246–R261): loops, conversions,
filters, windows, urgent requests and the cross-check. -/
namespace Sys2Proof.Machine

/-! ## Input space (R248) -/

/-- An address of the input space that is not reserved. -/
def inputOk (i : Nat) : Bool :=
  i ≤ 0x158 || (0x160 ≤ i && i ≤ 0x163) || (0x168 ≤ i && i ≤ 0x178) || (0x180 ≤ i && i ≤ 0x186)

/-- The signed inputs. -/
def inputSigned (i : Nat) : Bool :=
  (0x0A0 ≤ i && i ≤ 0x13F) || (0x144 ≤ i && i ≤ 0x153) || i == 0x155 || i == 0x157 || i == 0x172 || i == 0x186

/-- The keep-domain inputs. -/
def inputKeep (i : Nat) : Bool := (0x170 ≤ i && i ≤ 0x178) || (0x180 ≤ i && i ≤ 0x186)

/-- The bank die through which an input is reached (R249). -/
def inputBank (i : Nat) : Option Nat :=
  if i ≤ 0x09F then some (bankOf i)
  else if i ≤ 0x13F then some (bankOf (i - 0x0A0))
  else if i ≤ 0x143 then some (i - 0x140)
  else if i ≤ 0x153 then some ((i - 0x144) / 4)
  else none

/-- The input can be measured: its bank die has its supply (R249). -/
def Device.measurable (d : Device) (i : Nat) : Bool := (inputBank i).all fun m => d.bankSupplied m

/-- A result unit value of an input: the 16 bits read with the input's sign (R247). -/
def resultOf (i v : Nat) : Int := if inputSigned i then signed 16 v else (v % 65536 : Nat)

/-! ## Table entries (R250) -/

def Device.entryBits (d : Device) (e : Nat) : Nat := (look d.adc.table e).getD 0
def Device.entryField (d : Device) (e lo w : Nat) : Nat := bitsOf (d.entryBits e) lo w
def Device.entryInput (d : Device) (e : Nat) : Nat := d.entryField e 0 9
def Device.entryRep (d : Device) (e : Nat) : Nat := d.entryField e 10 8
def Device.entryDly (d : Device) (e : Nat) : Nat := d.entryField e 18 16
def Device.entrySlot (d : Device) (e : Nat) : Nat := d.entryField e 34 4
def Device.entryFen (d : Device) (e : Nat) : Bool := d.entryField e 38 1 == 1
def Device.entryXid (d : Device) (e : Nat) : Nat := d.entryField e 39 4
def Device.entryAct (d : Device) (e : Nat) : Nat := d.entryField e 43 2
def Device.entryWen (d : Device) (e : Nat) : Bool := d.entryField e 45 1 == 1
def Device.entryWin (d : Device) (e : Nat) : Bool := d.entryField e 46 1 == 1
def Device.entryWcnt (d : Device) (e : Nat) : Nat := d.entryField e 47 4
def Device.entryTch (d : Device) (e : Nat) : Nat := d.entryField e 51 8
def Device.entryLo (d : Device) (e : Nat) : Nat := d.entryField e 64 16
def Device.entryHi (d : Device) (e : Nat) : Nat := d.entryField e 80 16
def Device.entryXtol (d : Device) (e : Nat) : Nat := d.entryField e 96 16
def Device.entryXn (d : Device) (e : Nat) : Nat := d.entryField e 112 4

/-! ## Converters -/

def Device.modAdc (d : Device) (f : Adc → Adc) : Device := { d with adc := f d.adc }
def Device.conv (d : Device) : AdcId → Converter
  | .a => d.adc.a
  | .b => d.adc.b
def Device.modConv (d : Device) (c : AdcId) (f : Converter → Converter) : Device :=
  match c with
  | .a => d.modAdc fun x => { x with a := f x.a }
  | .b => d.modAdc fun x => { x with b := f x.b }
def Device.modLoop (d : Device) (c : AdcId) (f : Loop → Loop) : Device :=
  d.modConv c fun x => { x with loop := f x.loop }
def otherAdc : AdcId → AdcId
  | .a => .b
  | .b => .a

def loopStart : AdcId → Field
  | .a => ADC.LOOPA_START
  | .b => ADC.LOOPB_START
def loopEnd : AdcId → Field
  | .a => ADC.LOOPA_END
  | .b => ADC.LOOPB_END
def runBit : AdcId → Field
  | .a => ADCD.STAT_RUNA
  | .b => ADCD.STAT_RUNB
def convReg : AdcId → Reg
  | .a => ADCD.CONVA
  | .b => ADCD.CONVB
def slipReg : AdcId → Reg
  | .a => ADCD.SLIPA
  | .b => ADCD.SLIPB

/-- The code of CONV in ADC.URG that names a converter. -/
def convCode : AdcId → Nat
  | .a => 1
  | .b => 2

/-- The oldest urgent request the converter can serve (R256). -/
def Device.urgentFor (d : Device) (c : AdcId) : Option Urgent :=
  d.adc.tags.find? fun u => u.waiting && (u.conv == 0 || u.conv == convCode c)

def Device.idle (d : Device) (c : AdcId) : Bool := (d.conv c).job == .idle

/-- A converter begins a conversion now; it ends acquisition, the sample instant, 120 ns later (R246). -/
def Device.begin (d : Device) (c : AdcId) (j : AdcJob) : Device :=
  d.modConv c fun x => { x with job := j, began := d.clk, stamp := d.now + 12 }

/-- Rank 1 of R257: an idle converter starts the oldest urgent request it can serve. -/
def Device.startUrgent (d : Device) (c : AdcId) : Device :=
  if !d.idle c then d
  else match d.urgentFor c with
    | none => d
    | some u =>
      let tags := d.adc.tags.map fun x => if x.tag = u.tag then { x with waiting := false } else x
      (d.modAdc fun a => { a with tags := tags }).begin c (.urgent u.tag)

/-- The rendezvous identifier a loop waits for. -/
def Device.waitsFor (d : Device) (c : AdcId) : Option Nat :=
  match (d.conv c).loop.phase with
  | .waiting _ => some (d.entryXid (d.conv c).loop.entry)
  | _ => none

/-- The conversion that a loop's phase makes due. -/
def dueLeft : LoopPhase → Option Nat
  | .due n => some n
  | _ => none

/-- Rank 2 of R257: both converters idle, and both loops at one rendezvous, or in step at one. -/
def Device.startPair (d : Device) : Device :=
  if !d.idle .a || !d.idle .b then d
  else
    let la := (d.conv .a).loop
    let lb := (d.conv .b).loop
    let go := fun (d : Device) (na nb : Nat) =>
      let d := d.modLoop .a fun l => { l with phase := .conv na, paired := true, slipped := false }
      let d := d.modLoop .b fun l => { l with phase := .conv nb, paired := true, slipped := false }
      (d.begin .a .pair).begin .b .pair
    match d.waitsFor .a, d.waitsFor .b with
    | some x, some y => if x == y then go d (d.entryRep la.entry) (d.entryRep lb.entry) else d
    | _, _ =>
      match dueLeft la.phase, dueLeft lb.phase with
      | some na, some nb => if la.paired && lb.paired then go d na nb else d
      | _, _ => d

/-- Rank 3 of R257: the next conversion of the loop. -/
def Device.startLoop (d : Device) (c : AdcId) : Device :=
  let l := (d.conv c).loop
  match dueLeft l.phase with
  | some n => if d.idle c && !l.paired then (d.modLoop c fun l => { l with phase := .conv n, slipped := false }).begin c .loop else d
  | none => d

def Device.urgentRuns (d : Device) (c : AdcId) : Bool :=
  match (d.conv c).job with
  | .urgent _ => true
  | _ => false

/-- R257: an urgent conversion stands in the way of the loop's next conversion. A rendezvous that is ready, or a step
of one, is delayed by an urgent conversion of either converter (notes/assumptions/82.md). -/
def Device.delayed (d : Device) (c : AdcId) : Bool :=
  match (d.conv c).loop.phase with
  | .due _ => d.urgentRuns c || ((d.conv c).loop.paired && d.urgentRuns (otherAdc c))
  | .waiting _ => d.waitsFor (otherAdc c) == d.waitsFor c && (d.urgentRuns c || d.urgentRuns (otherAdc c))
  | _ => false

/-- Each delayed loop conversion counts one. -/
def Device.slip (d : Device) (c : AdcId) : Device :=
  if d.delayed c && !(d.conv c).loop.slipped then
    (d.count (slipReg c)).modLoop c fun l => { l with slipped := true }
  else d

/-- R257: what idle converters start now; a request for either goes to ADC_A first (R256). -/
def Device.adcStart (d : Device) : Device :=
  ((((((d.startUrgent .a).startUrgent .b).startPair).startLoop .a).startLoop .b).slip .a).slip .b

/-- R258: a loop has waited XWAIT without the other: it converts its entry alone. -/
def Device.alone (d : Device) (c : AdcId) : Device :=
  ((d.countSat ADCD.XMISSCNT).raise ADCD.STAT_XMISS).modLoop c fun l =>
    { l with phase := .due (d.entryRep l.entry), paired := false }

/-- The end of a loop's wait at a rendezvous. -/
def Device.waitTill (d : Device) (c : AdcId) : Option Nat :=
  match (d.conv c).loop.phase with
  | .waiting t => some (t + d.fld ADC.CFG_XWAIT * usec)
  | _ => none

/-- A loop arrives at its entry: it waits at a rendezvous, else its first conversion is due. Another loop whose wait
ended before is not there any more (R258). -/
def Device.arrive (d : Device) (c : AdcId) (e : Nat) : Device :=
  let late := (d.waitTill (otherAdc c)).any fun t => t < d.clk
  let d := if d.entryXid e != 0 && late then d.alone (otherAdc c) else d
  d.modLoop c fun l =>
    { l with entry := e, paired := false
             phase := if d.entryXid e != 0 then .waiting d.clk else .due (d.entryRep e) }

/-- The entry after `e` in the loop (R251). -/
def Device.nextEntry (d : Device) (c : AdcId) (e : Nat) : Nat :=
  if e + 1 = d.fld (loopEnd c) then d.fld (loopStart c) else e + 1

/-- R251: both loops start at START, with every filter slot reset: FOUT and FSET read 0 (R411). -/
def Device.startLoops (d : Device) : Device :=
  let d := d.modAdc fun a => { a with filters := [] }
  let d := (d.each (List.range 16) fun d k => d.wr (ADCD.FOUT k) 0).wr ADCD.FSET 0
  let one := fun (d : Device) (c : AdcId) =>
    let d := d.modConv c fun x => { x with pairRes := none, job := match x.job with | .urgent t => .urgent t | _ => .idle }
    if d.fld (loopStart c) < d.fld (loopEnd c) then (d.raise (runBit c)).arrive c (d.fld (loopStart c))
    else (d.lower (runBit c)).modLoop c fun l => { l with phase := .off, paired := false }
  (one (one d .a) .b).adcStart

/-- R251: the loops stop on entry into KEEP. -/
def Device.stopLoops (d : Device) : Device :=
  let one := fun (d : Device) (c : AdcId) =>
    (d.lower (runBit c)).modConv c fun x =>
      { x with pairRes := none, loop := { x.loop with phase := .off, paired := false }
               job := match x.job with | .urgent t => .urgent t | _ => .idle }
  one (one d .a) .b

/-! ## Delivery -/

/-- R255: what an entry's window does when it acts. -/
def Device.windowAct (d : Device) (e : Nat) (v : Int) : Device :=
  let act := d.entryAct e
  let d := d.raiseBit ADCD.WSTAT e
  if act = 0 then d
  else
    let d := (d.raise ADCD.STAT_ADC_WINDOW).logFirst Ev.ADC_WINDOW e [e, d.entryInput e, unsigned 16 v]
    if act = 2 then d.strike .int
    else if act = 3 then d.trip (d.entryTch e) .window (d.imeas (d.entryTch e))
    else d

/-- R255: the actions that are due take effect, oldest first. -/
def Device.windowActs (d : Device) : Device :=
  let l := d.adc.acting.filter fun w => decide (w.due ≤ d.clk)
  (d.modAdc fun a => { a with acting := a.acting.filter fun w => decide (d.clk < w.due) }).each l fun d w =>
    d.windowAct w.entry w.value

/-- R254: a value is tested against the entry's window; the action takes effect 50 ns after the end of the conversion
(R255). -/
def Device.windowTest (d : Device) (e : Nat) (v : Int) : Device :=
  if !d.entryWen e then d
  else
    let i := d.entryInput e
    let inside := resultOf i (d.entryLo e) ≤ v && v < resultOf i (d.entryHi e)
    let meets := inside == d.entryWin e
    let n := if meets then (look d.adc.wcount e).getD 0 + 1 else 0
    if n = d.entryWcnt e + 1 then
      d.modAdc fun a => { a with wcount := del a.wcount e, acting := a.acting ++ [⟨d.clk + 5, e, v⟩] }
    else d.modAdc fun a => { a with wcount := putD a.wcount e n 0 }

/-- Sums of D consecutive values, from each position on. -/
def boxcar (dn : Nat) : List Int → List Int
  | [] => []
  | x :: t => (x :: t.take (dn - 1)).foldl (· + ·) 0 :: boxcar dn t

/-- The order-K sinc sum over samples, newest first (R252). -/
def sincSum (dn : Nat) : Nat → List Int → Int
  | 0, l => l.headD 0
  | k + 1, l => sincSum dn k (boxcar dn l)

/-- R252: a result is a sample of the entry's filter slot; every D samples a settled slot writes an
output, which the entry's window tests (R254). -/
def Device.sample (d : Device) (e : Nat) (v : Int) : Device :=
  let s := d.entrySlot e
  let k := d.fld (ADC.FCFG_ORDER s) + 1
  let dn := d.fld (ADC.FCFG_DM1 s) + 1
  let f := (look d.adc.filters s).getD {}
  let f : Filter := { samples := (v :: f.samples).take (k * dn), taken := min (f.taken + 1) (k * dn), phase := f.phase + 1 }
  let settled := f.taken = k * dn
  let d := if settled then d.setBit ADCD.FSET s true else d
  if f.phase < dn then d.modAdc fun a => { a with filters := put a.filters s f }
  else
    let d := d.modAdc fun a => { a with filters := put a.filters s { f with phase := 0 } }
    if settled then
      let y := roundDiv (sincSum dn k f.samples) (dn ^ k)
      ((d.wr (ADCD.FOUT s) (unsigned 16 y)).raiseBit ADCD.FNEW s).windowTest e y
    else d

/-- The one entry of loop A's range with cross-check identifier `p` (R250): its XTOL and XN are used. -/
def Device.pairEntry (d : Device) (p : Nat) : Nat :=
  ((List.range (d.fld ADC.LOOPA_END)).find? fun e =>
    decide (d.fld ADC.LOOPA_START ≤ e) && d.entryXid e == p).getD 0

/-- R259: the results A and B of pair `p`, taken on the same tick. -/
def Device.crossCheck (d : Device) (p : Nat) (a b : Int) : Device :=
  let e := d.pairEntry p
  let diff := (a - b).natAbs
  let d := d.wr (ADCD.XDIFF p) (min diff 0xFFFF)
  let n := (look d.adc.xcount p).getD 0
  if diff < d.entryXtol e then d.modAdc fun x => { x with xcount := del x.xcount p }
  else if d.entryXn e ≤ n then d
  else
    let d := d.modAdc fun x => { x with xcount := put x.xcount p (n + 1) }
    if n + 1 < d.entryXn e then d
    else
      let d := ((d.raiseBit ADCD.XSTAT p).raise ADCD.STAT_PLAUSIBILITY).countSat ADCD.PLAUSCNT
      let d := d.log Ev.PLAUSIBILITY [p, d.entryInput e, unsigned 16 a, unsigned 16 b]
      if d.flag ADC.CFG_XACT then d.strike .int else d

/-- R252, R254, R249: the result of a loop conversion of entry `e` is delivered; `t` is its sample
tide. -/
def Device.deliver (d : Device) (e v t : Nat) : Device :=
  let i := d.entryInput e
  if !d.measurable i then
    let d := d.count ADCD.SKIPCNT
    if d.adc.skipped.contains e then d
    else (d.raise ADCD.STAT_ADC_SKIP).modAdc fun a => { a with skipped := e :: a.skipped }
  else
    let d := d.modAdc fun a => { a with skipped := a.skipped.filter (· != e), raw := put a.raw e (v, t) }
    if d.entryFen e then d.sample e (resultOf i v) else d.windowTest e (resultOf i v)

/-- R256: an urgent result goes to its tag. A bank that lost its supply in the meantime gives no
result (R249): the value is free. -/
def Device.urgentDone (d : Device) (c : AdcId) (tag v t : Nat) : Device :=
  match d.adc.tags.find? fun u => u.tag == tag with
  | none => d
  | some u =>
    let ok := d.measurable u.input
    let v := if ok then v else d.freeVal 16
    let d := if ok then d else d.nextFree.count ADCD.SKIPCNT
    let d := ((d.setFld (ADCD.URES_VALUE tag) v).setFld (ADCD.URES_INPUT tag) u.input).setFlag (ADCD.URES_CONV tag) (c == .b)
    (d.wr (ADCD.URTIDE tag) t).raise (ADCD.URES_DONE tag)

/-- A loop conversion of the converter has ended: the next of its entry is due, or the delay begins
(R251). -/
def Device.afterConv (d : Device) (c : AdcId) : Device :=
  let l := (d.conv c).loop
  match l.phase with
  | .conv 0 =>
    let dly := d.entryDly l.entry
    if dly = 0 then d.arrive c (d.nextEntry c l.entry)
    else d.modLoop c fun l => { l with phase := .delay (d.clk + dly * usec), paired := false }
  | .conv (n + 1) => d.modLoop c fun l => { l with phase := .due n }
  | _ => d

/-- R246: a conversion ends 40 ticks after it began, with the 14-bit code given. -/
def Device.conversion (d : Device) (c : AdcId) (code : Nat) : Device :=
  let x := d.conv c
  if x.job == .idle || d.clk < x.began + 40 then d
  else
    let v := code * 4
    let t := x.stamp
    let d := (d.count (convReg c)).modConv c fun x => { x with job := .idle }
    let d := match x.job with
      | .idle => d
      | .urgent tag => d.urgentDone c tag v t
      | .loop => (d.deliver x.loop.entry v t).afterConv c
      | .pair =>
        let i := d.entryInput x.loop.entry
        let d := d.deliver x.loop.entry v t
        let mine := resultOf i v
        let d := match (d.conv (otherAdc c)).pairRes with
          | some other =>
            let d := d.modConv (otherAdc c) fun y => { y with pairRes := none }
            if !d.measurable i then d
            else match c with
              | .a => d.crossCheck (d.entryXid x.loop.entry) mine other
              | .b => d.crossCheck (d.entryXid x.loop.entry) other mine
          | none => d.modConv c fun y => { y with pairRes := some mine }
        d.afterConv c
    d.adcStart

def execAdcConversion (c : AdcId) (code : BitVec 14) (s : State) : Host.Outcome State Fault Refusal :=
  s.run fun d => d.conversion c code.toNat

/-- R251, R257: the delay of an entry ends; an urgent conversion that runs past it delays the loop. -/
def Device.delayEnd (d : Device) (c : AdcId) : Device :=
  let x := d.conv c
  match x.loop.phase with
  | .delay t => if d.clk < t then d else (d.arrive c (d.nextEntry c x.loop.entry)).adcStart
  | _ => d

def execLoopDelayEnd (c : AdcId) (s : State) : Host.Outcome State Fault Refusal := s.run fun d => d.delayEnd c

/-- R258: the other loop has not come to the rendezvous within XWAIT; the entry is converted alone. -/
def Device.xmiss (d : Device) (c : AdcId) : Device :=
  match d.waitTill c with
  | some t => if d.clk < t || d.waitsFor (otherAdc c) == d.waitsFor c then d else (d.alone c).adcStart
  | none => d

def execXmiss (c : AdcId) (s : State) : Host.Outcome State Fault Refusal := s.run fun d => d.xmiss c

/-! ## Urgent requests -/

/-- R256: a request is accepted, with the lowest free tag, or refused with its code. -/
def Device.urgent (d : Device) (v : Nat) : Device :=
  let i := bitsOf v 0 9
  let cv := bitsOf v 9 2
  match (List.range 4).find? fun t => d.adc.tags.all fun u => u.tag != t with
  | none => (d.setFld ADC.URGRES_CODE 1).raise ADCD.STAT_URG_FULL
  | some t =>
    if !inputOk i || cv = 3 then d.setFld ADC.URGRES_CODE 3
    else if (d.inKeep && !inputKeep i) || !d.measurable i then d.setFld ADC.URGRES_CODE 2
    else
      let d := (d.setFld ADC.URGRES_CODE 0).setFld ADC.URGRES_TAG t
      (d.modAdc fun a => { a with tags := a.tags ++ [⟨t, i, cv, true⟩] }).adcStart

/-- Only the core and the two-wire host request (R256). -/
def execAdcUrgent (w : Writer) (v : BitVec 16) (s : State) : Host.Outcome State Fault Refusal :=
  s.run fun d => if isCore w || w == .host then d.urgent v.toNat else d

/-- R256: clearing DONE frees the tag. -/
def Device.freeTag (d : Device) (t : Nat) : Device :=
  if d.flag (ADCD.URES_DONE t) then
    (d.lower (ADCD.URES_DONE t)).modAdc fun a => { a with tags := a.tags.filter (·.tag != t) }
  else d

def execUrgTagFree (w : Writer) (t : Fin 4) (s : State) : Host.Outcome State Fault Refusal :=
  s.run fun d => d.asWriter w fun d => d.freeTag t

end Sys2Proof.Machine
end

