-- ==== Sys2Proof/Machine/Rails.lean ====
section
/-! DEFINITION. Machine/Rails.lean: the controlled rails (R208–R221) and the internal regulators
(R222–R225). REF stands in µV, feedback operands in mV. -/
namespace Sys2Proof.Machine

/-! ## States and phases (R209, R226) -/

def cvOff : Nat := 0
def cvStart : Nat := 1
def cvRun : Nat := 2
def cvSlew : Nat := 3
def cvStop : Nat := 4
def cvFault : Nat := 5

def Device.cvState (d : Device) (r : Nat) : Nat := d.fld (CV.STAT_STATE r)
def Device.setCv (d : Device) (r st : Nat) : Device := d.setFld (CV.STAT_STATE r) st

/-- REF_T in µV (R211). -/
def Device.refT (d : Device) (r : Nat) : Nat := d.rd (CV.VREF r) * 1000

/-- The phases of rail r (R209). -/
def Device.phases (d : Device) (r : Nat) : List Nat :=
  (List.range 8).filter fun n => d.fld (CV.CFG_FIRST r) ≤ n && n < d.fld (CV.CFG_FIRST r) + d.fld (CV.CFG_NPH r)

/-- The active phases of rail r, ascending. -/
def Device.active (d : Device) (r : Nat) : List Nat := (d.phases r).filter fun n => d.bit CV.PHACT n

/-- NACT follows PHACT. -/
def Device.countPhases (d : Device) (r : Nat) : Device := d.wr (CV.NACT r) (d.active r).length

/-- Every assigned phase is made active, or none. -/
def Device.setPhases (d : Device) (r : Nat) (on : Bool) : Device :=
  ((d.each (d.phases r) fun d n => d.setBit CV.PHACT n on).modRail r fun x => { x with joining := [] }).countPhases r

/-- Every assigned phase is made active at the next period start (R220, R221). -/
def Device.joinAll (d : Device) (r : Nat) : Device := d.modRail r fun x => { x with joining := d.phases r }

/-- The clamp of R218 runs. -/
def Device.clamping (d : Device) (r : Nat) : Bool := (d.rail r).clampAt.isSome

/-- A rail has tripped: in FAULT, or in the clamp that ends there (R218, R241). -/
def Device.cvFaulted (d : Device) (r : Nat) : Bool := d.cvState r == cvFault || d.clamping r

/-! ## Power good (R215) -/

/-- The feedback lies in [REF_T × (1 − PGW/100), REF_T × (1 + PGW/100)). -/
def Device.pgLow (d : Device) (r vfb : Nat) : Bool := vfb * 100 < d.rd (CV.VREF r) * (100 - d.fld (CV.CFG_PGW r))
def Device.pgHigh (d : Device) (r vfb : Nat) : Bool := d.rd (CV.VREF r) * (100 + d.fld (CV.CFG_PGW r)) ≤ vfb * 100

/-- PGOUT as the state has it: PG in RUN, what it was in SLEW, else 0. -/
def Device.pgOut (d : Device) (r : Nat) : Device :=
  let st := d.cvState r
  if st = cvRun then d.setFlag (CV.STAT_PGOUT r) (d.flag (CV.STAT_PG r))
  else if st = cvSlew then d
  else d.lower (CV.STAT_PGOUT r)

/-- A feedback reading: VFB, PG and since when it has been 1, and PGOUT. -/
def Device.readVfb (d : Device) (r vfb : Nat) : Device :=
  let pg := !d.pgLow r vfb && !d.pgHigh r vfb
  let d := (d.wr (CV.VFB r) vfb).setFlag (CV.STAT_PG r) pg
  (d.modRail r fun x => { x with pgSince := if pg then x.pgSince <|> some d.rck.tide else none }).pgOut r

/-! ## What a phase's balls show (R208, R209, R213, R214, R217–R219, R221) -/

inductive PwmLevel where
  | high | low | mid
  deriving DecidableEq, Repr

/-- The rail to which the phase is assigned. -/
def Device.railOf (d : Device) (n : Nat) : Option Nat := (List.range 4).find? fun r => (d.phases r).contains n

/-- PHn_EN is high: from the enable of its rail until it is OFF or in FAULT, the clamp included. -/
def Device.phaseEn (d : Device) (n : Nat) : Bool :=
  (d.railOf n).any fun r => d.clamping r || (d.cvState r != cvOff && d.cvState r != cvFault)

/-- Diode emulation (R213, step 4). -/
def Device.diode (d : Device) (r : Nat) : Bool := d.cvState r == cvStart && (d.rail r).sampled && !(d.rail r).waiting

/-- What a switching phase drives in the present 10 ns: the loop's free value, high or low; in diode emulation mid, too,
once the low-side switch has turned off. -/
def Device.switched (d : Device) (r n : Nat) : PwmLevel :=
  let v := Config.loopDrive (d.rd (CV.COMP r)) n d.clk % 3
  if v = 0 then .high else if v = 1 && d.diode r then .mid else .low

/-- PHn_PWM. One level in each 10 ns (R208): mid with EN low, before the sample of a start, in the wait above REF_T, in
a brake, and on a phase that is shed; low in the clamp. -/
def Device.phasePwm (d : Device) (n : Nat) : PwmLevel :=
  match d.railOf n with
  | none => .mid
  | some r =>
    if !d.phaseEn n then .mid
    else if d.clamping r then .low
    else if d.flag (CV.STAT_BRAKE r) || !d.bit CV.PHACT n then .mid
    else d.switched r n

/-! ## Start and stop (R213, R214) -/

/-- A shed ends with nothing else (R221). -/
def Device.dropShed (d : Device) (r : Nat) : Device :=
  (d.lower (CV.STAT_SHEDDING r)).modRail r fun x => { x with shedding := none }

/-- Mask, power good, brake and shed of a rail that leaves regulation. -/
def Device.cvQuiet (d : Device) (r : Nat) : Device :=
  (((d.lower (CV.STAT_PGOUT r)).lower (CV.STAT_MASK r)).lower (CV.STAT_BRAKE r)).dropShed r

/-- Step 1 of the start (R213): accepted only in OFF (R214). -/
def Device.railStart (d : Device) (r : Nat) : Device :=
  if d.cvState r != cvOff || (d.rail r).clampAt.isSome then d
  else
    let d := d.each (d.phases r) fun d n => d.setBit CV.PHFLT n false
    (d.setCv r cvStart).modRail r fun x =>
      { x with ref := 0, enAt := d.rck.tide, sampled := false, waiting := false, atTarget := none, useSlew := false
               oc := 0, bad := [], place := 0 }

/-- PWM to mid and EN low at once; the state becomes OFF. -/
def Device.railCoast (d : Device) (r : Nat) : Device :=
  (((d.cvQuiet r).setPhases r false).setCv r cvOff).modRail r fun x =>
    { x with ref := 0, waiting := false, atTarget := none }

/-- R214: a slot disables a rail. In the clamp of R218, which prevails over everything, OFF waits for
its end (notes/assumptions/31.md). -/
def Device.railStop (d : Device) (r : Nat) : Device :=
  let st := d.cvState r
  if d.clamping r then d.modRail r fun x => { x with afterClamp := some false }
  else if st = cvFault then d.setCv r cvOff
  else if st = cvOff || st = cvStop then d
  else if d.flag (CV.CFG_STOP r) then d.railCoast r
  else
    let d := if (d.rail r).waiting then d.setPhases r true else d
    ((d.cvQuiet r).setCv r cvStop).modRail r fun x =>
      { x with waiting := false, atTarget := none, disAt := d.rck.tide }

/-- A rail is disabled as COAST (R313, R369); the clamp of R218 runs to its end first. -/
def Device.railDrop (d : Device) (r : Nat) : Device :=
  if d.clamping r then d.modRail r fun x => { x with afterClamp := some false } else d.railCoast r

/-- R241: a rail in FAULT is disabled and enabled; after the clamp where one runs. -/
def Device.railRestart (d : Device) (r : Nat) : Device :=
  if d.clamping r then d.modRail r fun x => { x with afterClamp := some true }
  else if d.cvState r != cvFault then d
  else (d.setCv r cvOff).railStart r

/-- R213, steps 2 to 4: the feedback is sampled 20 µs after the enable. -/
def Device.prebias (d : Device) (r vpre : Nat) : Device :=
  if d.cvState r != cvStart || (d.rail r).sampled || d.now < (d.rail r).enAt + 20 * usec then d
  else
    let t := d.refT r
    let d := (d.readVfb r (vpre / 1000)).setPhases r true
    if vpre < 20000 then d.modRail r fun x => { x with sampled := true, ref := 0 }
    else if vpre < t then
      ((d.raise (CV.STAT_PREBIAS r)).log Ev.PREBIAS [r]).modRail r fun x =>
        { x with sampled := true, ref := vpre / 1000 * 1000 }
    else (d.setPhases r false).modRail r fun x => { x with sampled := true, ref := t, waiting := true }

def execRailPrebiasSample (r : RailId) (vpre : Nat) (s : State) : Host.Outcome State Fault Refusal :=
  s.run fun d => d.prebias r vpre

/-- R213, step 3: the feedback falls below REF_T × 1.01 and the start goes on. -/
def Device.prebiasWaitEnd (d : Device) (r vfb : Nat) : Device :=
  if d.cvState r == cvStart && (d.rail r).waiting && decide (vfb * 1000 * 100 < d.refT r * 101) then
    ((d.readVfb r vfb).setPhases r true).modRail r fun x => { x with waiting := false }
  else d

def execPrebiasWaitEnd (r : RailId) (vfb : Nat) (s : State) : Host.Outcome State Fault Refusal :=
  s.run fun d => d.prebiasWaitEnd r vfb

/-- R213, step 5: REF = REF_T; in RUN, PGOUT equals PG (R215). -/
def Device.rampDone (d : Device) (r : Nat) : Device :=
  let x := d.rail r
  if d.cvState r == cvStart && x.sampled && !x.waiting && !d.clamping r && x.ref == d.refT r then (d.setCv r cvRun).pgOut r
  else d

def execRailRampDone (r : RailId) (s : State) : Host.Outcome State Fault Refusal := s.run fun d => d.rampDone r

/-! ## Retargeting (R212) -/

/-- VREF or SLEW refused. -/
def Device.vrefRefused (d : Device) (r v : Nat) : Device := (d.raise (CV.STAT_VREF_REF r)).log Ev.VREF_REF [r, v]

def Device.writeVref (d : Device) (r v : Nat) : Device :=
  let d0 := d
  let st := d.cvState r
  if v < d.rd (CV.VMIN r) || d.rd (CV.VMAX r) ≤ v then d.vrefRefused r v
  else if v = d.rd (CV.VREF r) then d
  else
    -- PG is measured against the new REF_T (R215)
    let d := (d.wr (CV.VREF r) v).readVfb r (d.rd (CV.VFB r))
    if d.clamping r then d
    else if st = cvStart then d.modRail r fun x => { x with useSlew := x.sampled }
    else if st = cvRun || st = cvSlew then
      let was := d0.flag (CV.STAT_PGOUT r)
      (((d.setCv r cvSlew).raise (CV.STAT_MASK r)).setFlag (CV.STAT_PGOUT r) was).modRail r fun x =>
        { x with atTarget := if x.ref = v * 1000 then some d.rck.tide else none }
    else d

def execVrefWrite (w : Writer) (r : RailId) (v : BitVec 16) (s : State) : Host.Outcome State Fault Refusal :=
  s.run fun d => d.asWriter w fun d => d.writeVref r v.toNat

def Device.writeSlew (d : Device) (r v : Nat) : Device :=
  if v < 1 || 500 < v then d.vrefRefused r v else d.wr (CV.SLEW r) v

def execSlewWrite (w : Writer) (r : RailId) (v : BitVec 16) (s : State) : Host.Outcome State Fault Refusal :=
  s.run fun d => d.asWriter w fun d => d.writeSlew r v.toNat

/-- SLEW ends (R215). -/
def Device.slewEnd (d : Device) (r vfb : Nat) : Device :=
  ((d.setCv r cvRun).lower (CV.STAT_MASK r)).readVfb r vfb

/-- REF equals REF_T in SLEW. -/
def Device.slewDone (d : Device) (r : Nat) : Bool := d.cvState r == cvSlew && !d.clamping r && (d.rail r).ref == d.refT r

/-- R215: REF = REF_T and PG has been 1 throughout SETTLE. -/
def Device.railSettled (d : Device) (r vfb : Nat) : Device :=
  let d := d.readVfb r vfb
  if d.slewDone r && (d.rail r).pgSince.any fun t => t + d.rd (CV.SETTLE r) * usec ≤ d.now then d.slewEnd r vfb else d

def execRailSettled (r : RailId) (vfb : Nat) (s : State) : Host.Outcome State Fault Refusal :=
  s.run fun d => d.railSettled r vfb

/-- R215: the mask ends anyway after 10 × SETTLE at REF_T. -/
def Device.maskTimeout (d : Device) (r vfb : Nat) : Device :=
  if d.slewDone r && (d.rail r).atTarget.any fun t => t + 10 * d.rd (CV.SETTLE r) * usec ≤ d.now then d.slewEnd r vfb else d

def execRailMaskTimeout (r : RailId) (vfb : Nat) (s : State) : Host.Outcome State Fault Refusal :=
  s.run fun d => d.maskTimeout r vfb

/-! ## Trips (R217, R218) -/

/-- The phases of the rail switch, or have switched since the sample of the start. -/
def Device.regulating (d : Device) (r : Nat) : Bool :=
  let st := d.cvState r
  !d.clamping r && (st == cvRun || st == cvSlew || st == cvStop || (st == cvStart && (d.rail r).sampled))

/-- The rail goes to FAULT with its phases at mid and EN low. -/
def Device.cvTrip (d : Device) (r : Nat) : Device :=
  (((d.cvQuiet r).setPhases r false).setCv r cvFault).modRail r fun x => { x with waiting := false, atTarget := none }

/-- R217: the timer reaches TOC, or a phase's IMON report has been out of range for 10 periods. -/
def Device.cvOc (d : Device) (r : Nat) (cause : OcCause) : Device :=
  let go := fun (d : Device) =>
    ((((d.cvTrip r).raise (CV.STAT_CV_OC r)).log Ev.CV_OC [r]).cnt CNT.OC r).cnt CNT.TRIP r
  if !d.regulating r then d
  else match cause with
    | .timer => if d.rd (CV.TOC r) * d.fld (CV.CFG_FSW r) ≤ (d.rail r).oc then go d else d
    | .imon n =>
      if (d.active r).contains n.val && 10 ≤ (look (d.rail r).bad n.val).getD 0 then go (d.setBit CV.PHFLT n true) else d

def execCvOc (r : RailId) (cause : OcCause) (s : State) : Host.Outcome State Fault Refusal :=
  s.run fun d => d.cvOc r cause

/-- R218: after 1 µs at or above the threshold the rail trips and drives its phases low; STATE stays until the clamp
ends. -/
def Device.cvOv (d : Device) (r vfb held : Nat) : Device :=
  if d.regulating r && usec ≤ held
      && decide (max (d.rail r).ref (d.refT r) * (100 + d.fld (CV.CFG_OVF r)) ≤ vfb * 1000 * 100) then
    let d := (((d.readVfb r vfb).lower (CV.STAT_BRAKE r)).dropShed r).setPhases r false
    let d := (d.raise (CV.STAT_CV_OV r)).log Ev.CV_OV [r]
    ((d.modRail r fun x => { x with clampAt := some d.rck.tide, afterClamp := none }).cnt CNT.OV r).cnt CNT.TRIP r
  else d

def execCvOv (r : RailId) (vfb held : Nat) (s : State) : Host.Outcome State Fault Refusal :=
  s.run fun d => d.cvOv r vfb held

/-- R218: the clamp ends, below 0.1 × REF_T or after 10 ms, in FAULT; a disable, or a restart, that waited for it
follows. -/
def Device.clampEnd (d : Device) (r vfb : Nat) : Device :=
  match (d.rail r).clampAt with
  | none => d
  | some t =>
    if d.refT r ≤ vfb * 1000 * 10 && d.now < t + 10 * msec then d
    else
      let next := (d.rail r).afterClamp
      let d := ((d.modRail r fun x => { x with clampAt := none, afterClamp := none }).cvTrip r).readVfb r vfb
      match next with
      | none => d
      | some false => d.setCv r cvOff
      | some true => d.railRestart r

/-! ## Brake and phases (R219–R221) -/

/-- R221: a load step aborts a shed; every assigned phase is active from the next period start, and the hold-off starts. -/
def Device.shedAbort (d : Device) (r : Nat) : Device :=
  let d := ((d.dropShed r).joinAll r).modRail r fun x => { x with holdoff := d.rck.tide + d.rd (CV.SHOLD r) * msec }
  ((d.raise (CV.STAT_SHED_ABORT r)).countSat (CV.ABORTCNT r)).log Ev.SHED_ABORT [r]

/-- R219. -/
def Device.brake (d : Device) (r vfb : Nat) : Device :=
  let st := d.cvState r
  if (st == cvRun || st == cvSlew) && !d.clamping r && !d.flag (CV.STAT_BRAKE r)
      && decide ((d.rail r).ref * (100 + d.fld (CV.CFG_BRK r)) ≤ vfb * 1000 * 100) then
    let d := (d.readVfb r vfb).raise (CV.STAT_BRAKE r)
    if d.flag (CV.STAT_SHEDDING r) then d.shedAbort r else d
  else d

def execRailBrake (r : RailId) (vfb : Nat) (s : State) : Host.Outcome State Fault Refusal :=
  s.run fun d => d.brake r vfb

/-- R219: switching resumes. -/
def Device.brakeEnd (d : Device) (r vfb : Nat) : Device :=
  if d.flag (CV.STAT_BRAKE r) && decide (vfb * 1000 * 100 < (d.rail r).ref * 101) then
    ((d.readVfb r vfb).lower (CV.STAT_BRAKE r)).countSat (CV.BRKCNT r)
  else d

def execRailBrakeEnd (r : RailId) (vfb : Nat) (s : State) : Host.Outcome State Fault Refusal :=
  s.run fun d => d.brakeEnd r vfb

/-- Phase management acts on a rail that switches synchronously. -/
def Device.managed (d : Device) (r : Nat) : Bool :=
  let st := d.cvState r
  (st == cvRun || st == cvSlew || st == cvStop) && !d.clamping r && !d.flag (CV.STAT_BRAKE r)

/-- R220: the shed condition has held for SHOLD. -/
def Device.shed (d : Device) (r itot held : Nat) : Device :=
  let m := (d.active r).length
  if d.managed r && !d.flag (CV.STAT_SHEDDING r) && decide (d.fld (CV.CFG_MINPH r) < m)
      && decide (itot < d.rd (CV.ISHED r) * (m - 1)) && decide ((d.rail r).holdoff ≤ d.now)
      && decide (d.rd (CV.SHOLD r) * msec ≤ held) then
    ((d.wr (CV.ITOT r) itot).raise (CV.STAT_SHEDDING r)).modRail r fun x =>
      { x with shedding := some ((d.active r).foldl max 0, x.periods) }
  else d

def execPhaseShed (r : RailId) (itot : BitVec 16) (held : Nat) (s : State) : Host.Outcome State Fault Refusal :=
  s.run fun d => d.shed r itot.toNat held

/-- Sixteenths of its share that a departing phase still carries (R221). -/
def Device.shedShare (d : Device) (r : Nat) : Nat :=
  match (d.rail r).shedding with
  | none => 16
  | some (_, p) => 16 - ((d.rail r).periods - p)

/-- The hold-off of R220 starts. -/
def Device.startHoldoff (d : Device) (r : Nat) : Device :=
  d.modRail r fun x => { x with holdoff := d.rck.tide + d.rd (CV.SHOLD r) * msec }

/-- R220, R221: current per phase reaches IADD, and a phase joins at the next period start; during a shed, that of the
phases that stay. -/
def Device.addPhase (d : Device) (r itot : Nat) : Device :=
  let m := (d.active r).length
  if !d.managed r then d
  else if d.flag (CV.STAT_SHEDDING r) then
    if d.rd (CV.IADD r) * (m - 1) ≤ itot then (d.wr (CV.ITOT r) itot).shedAbort r else d
  else if itot < d.rd (CV.IADD r) * m then d
  else match (d.phases r).find? fun n => !d.bit CV.PHACT n with
    | none => d
    | some n => ((d.wr (CV.ITOT r) itot).modRail r fun x => { x with joining := n :: x.joining.filter (· != n) }).startHoldoff r

def execPhaseAdd (r : RailId) (itot : BitVec 16) (s : State) : Host.Outcome State Fault Refusal :=
  s.run fun d => d.addPhase r itot.toNat

/-- R220, R221: the feedback falls below REF × 0.98. -/
def Device.fastAdd (d : Device) (r vfb : Nat) : Device :=
  if d.managed r && decide (vfb * 1000 * 100 < (d.rail r).ref * 98) then
    let d := d.readVfb r vfb
    if d.flag (CV.STAT_SHEDDING r) then d.shedAbort r else (d.joinAll r).startHoldoff r
  else d

def execFastAdd (r : RailId) (vfb : Nat) (s : State) : Host.Outcome State Fault Refusal :=
  s.run fun d => d.fastAdd r vfb

/-- R221: the 16 periods of a shed have passed. -/
def Device.shedDone (d : Device) (r : Nat) : Device :=
  match (d.rail r).shedding with
  | none => d
  | some (n, _) => if d.shedShare r = 0 then ((d.setBit CV.PHACT n false).countPhases r).dropShed r else d

def execShedComplete (r : RailId) (s : State) : Host.Outcome State Fault Refusal := s.run fun d => d.shedDone r

/-! ## The switching period (R210, R216, R217) -/

/-- What a phase's IMON report, mV, says of its current, 0.1 A signed (R216). The rule gives no rounding: the model drops
the fraction (notes/assumptions/80.md). -/
def Device.phaseAmps (d : Device) (r mv : Nat) : Int := ((mv : Int) - 800) * 10000 / d.rd (CV.IMGAIN r)

/-- IMON reaches I_lim: ILIM at or above 0.9 × REF, below it ILIM × (0.3 + 0.7 × V_fb / (0.9 × REF)) (R216). -/
def Device.inLimit (d : Device) (r mv : Nat) : Bool :=
  let ref := (d.rail r).ref
  let vfb := d.rd (CV.VFB r) * 1000
  let amps : Int := ((mv : Int) - 800) * 10000
  let full : Int := d.rd (CV.IMGAIN r) * d.rd (CV.ILIM r)
  if 9 * ref ≤ 10 * vfb then full ≤ amps else full * (27 * ref + 70 * vfb : Nat) ≤ amps * (90 * ref : Nat)

/-- The report lies in [0.300 V, 2.300 V) (R217). -/
def imonValid (mv : Nat) : Bool := 300 ≤ mv && mv < 2300

/-- One phase in one period: PHI, PHLIM and the count of reports out of range. -/
def Device.phasePeriod (d : Device) (r n : Nat) : Device :=
  let mv := Config.imonReading n d.clk
  let d := (d.wr (CV.PHI n) (unsigned 16 (d.phaseAmps r mv))).setBit CV.PHLIM n (d.inLimit r mv)
  d.modRail r fun x => { x with bad := put x.bad n (if imonValid mv then 0 else (look x.bad n).getD 0 + 1) }

/-- I_tot of a period (R220). -/
def Device.sumPhases (d : Device) (r : Nat) : Int := (d.active r).foldl (fun t n => t + signed 16 (d.rd (CV.PHI n))) 0

/-- The phases that join become active. -/
def Device.joinPhases (d : Device) (r : Nat) : Device :=
  let l := (d.rail r).joining
  if l = [] then d
  else (((d.each l fun d n => d.setBit CV.PHACT n true).modRail r fun x => { x with joining := [] }).countPhases r)

/-- A period of rail r ends and the next starts. -/
def Device.railPeriod (d : Device) (r : Nat) : Device :=
  let d := d.each (d.active r) fun d n => d.phasePeriod r n
  let any := (d.active r).any fun n => d.bit CV.PHLIM n
  let d := d.wr (CV.ITOT r) (min 0xFFFF (d.sumPhases r).toNat)
  let d := d.modRail r fun x => { x with periods := x.periods + 1, oc := if any then x.oc + 1 else x.oc - 1 }
  let d := if any && d.flag (CV.STAT_SHEDDING r) then d.shedAbort r else d
  (d.joinPhases r).modRail r fun x => { x with spacing := (d.joinPhases r |>.active r).length }

/-- One tick of the PWM generator: FSW × 10 kHz, by the PLL's clock (R210). -/
def Device.pwmTick (d : Device) (r : Nat) : Device :=
  if !d.regulating r then d
  else
    let p := (d.rail r).place + d.fld (CV.CFG_FSW r)
    let d := d.modRail r fun x => { x with place := p % 10000 }
    if p < 10000 then d else d.railPeriod r

/-- Where in its rail's period phase n begins, in ten-thousandths: k × period / m for the k-th of m (R210). -/
def Device.phaseBegin (d : Device) (r n : Nat) : Nat :=
  ((d.active r).filter (· < n)).length * 10000 / (d.rail r).spacing

/-! ## Internal regulators (R223–R225) -/

def Device.modInt (d : Device) (f : IntReg → IntReg) : Device := { d with int := f d.int }

/-- R225: a write of INT.IB0V. -/
def Device.writeIb0v (d : Device) (v : Nat) : Device :=
  if v < 90 || 180 < v then (d.raise INT.STAT_IB0V_REF).log Ev.IB0V_REF [v] else d.wr INT.IB0V v

def execIb0vWrite (w : Writer) (v : BitVec 16) (s : State) : Host.Outcome State Fault Refusal :=
  s.run fun d => d.asWriter w fun d => d.writeIb0v v.toNat

/-- The system clock and, with it, the centring term DC (R68, R225). -/
def Device.setClock (d : Device) (slow : Bool) : Device :=
  (d.setFlag INT.STAT_CLK slow).wr EDGE.DC (if slow then 140 else 100)

/-- 1.00 V in µV. -/
def oneVolt : Nat := 1000000

/-- R225: at a scan boundary the clock switches where the rules call for it. In KEEP the PLL is off
and there is no scan. -/
def Device.clockSwitch (d : Device) : Device :=
  if !d.rck.pll then d
  else if !d.flag INT.STAT_CLK then (if d.rd INT.IB0V < 100 then d.setClock true else d)
  else if oneVolt ≤ d.int.ib0 && d.int.above + 20 * usec ≤ d.now then
    (if d.rd INT.IB0V < 100 then d else d.setClock false)
  else d

def execClockSwitch (s : State) : Host.Outcome State Fault Refusal := s.run fun d => d.clockSwitch

/-- R224: VIO, 10 mV, below 90 % of its setting throughout 100 µs. -/
def Device.ioUv (d : Device) (vio held : Nat) : Device :=
  if 10 * vio < 9 * d.rd INT.IB1V && 100 * usec ≤ held then (d.raise INT.STAT_IO_UV).log Ev.IO_UV [] else d

def execIoUv (vio : BitVec 16) (held : Nat) (s : State) : Host.Outcome State Fault Refusal :=
  s.run fun d => d.ioUv vio.toNat held

/-- A sequence slot names LD(k+1), k from 0 (R223). -/
def Device.ldSlot (d : Device) (k : Nat) : Bool := allSlots.any fun n => d.slotType n == 5 && d.slotSel n == k + 1

/-- IB0, IB1 and LD0 run in KEEP, STANDBY and RUN (R223). -/
def Device.mainOn (d : Device) : Bool := d.powered

/-- LD(k+1) is switched on (R223): in KEEP by its KEEP bit; else, and from its slot's enable in a power-up on, by its
slot where one names it; else by EN. No regulator runs in SHIP and OFF. -/
def Device.ldEnabled (d : Device) (k : Nat) : Bool :=
  d.mainOn && ((d.inKeep && (d.fld INT.LDCFG_KEEP).testBit k)
    || (if d.ldSlot k then d.int.slotOn.contains k else !d.inKeep && (d.fld INT.LDCFG_EN).testBit k))

/-- LD(k+1) delivers: switched on and not latched off (R224). -/
def Device.ldOn (d : Device) (k : Nat) : Bool := d.ldEnabled k && !(d.fld INT.STAT_LDOFF).testBit k

/-- R224: a limit held for 10 ms turns the LDO off and latches it. -/
def Device.ldOc (d : Device) (k held : Nat) : Device :=
  if d.ldOn k && 10 * msec ≤ held then
    ((d.setFlag ⟨INT.STAT, 5 + k, 1⟩ true).raise INT.STAT_LD_OC).log Ev.LD_OC [k + 1]
  else d

def execLdOc (k : Fin 3) (held : Nat) (s : State) : Host.Outcome State Fault Refusal := s.run fun d => d.ldOc k held

/-- R224: bit k of INT.LDCLR, k = 1–3, clears the latch of LDk. -/
def Device.ldClear (d : Device) (v : Nat) : Device :=
  d.each (List.range 3) fun d k => if v.testBit (k + 1) then d.setFlag ⟨INT.STAT, 5 + k, 1⟩ false else d

def execLdclr (w : Writer) (v : BitVec 8) (s : State) : Host.Outcome State Fault Refusal :=
  s.run fun d => d.asWriter w fun d => d.ldClear v.toNat

end Sys2Proof.Machine
end

