-- ==== Sys2Proof/Machine/Sequence.lean ====
section
/-! DEFINITION. Machine/Sequence.lean: the sequencer (R228–R242), entry into KEEP (R317) and the wake
(R315). -/
namespace Sys2Proof.Machine

/-! ## States and slots -/

def seqDown : Nat := 0
def seqWait : Nat := 1
def seqUp : Nat := 2
def seqOn : Nat := 3
def seqPowerDown : Nat := 4

def Device.seqState (d : Device) : Nat := d.fld SEQ.STAT_STATE
def Device.setSeq (d : Device) (st : Nat) : Device := d.setFld SEQ.STAT_STATE st
def Device.modSeq (d : Device) (f : Seq → Seq) : Device := { d with seq := f d.seq }

/-- The slot names a target (R228). -/
def Device.slotUsed (d : Device) (k : Nat) : Bool := 1 ≤ d.slotType k && d.slotType k ≤ 5
def Device.slotSt (d : Device) (k : Nat) : SlotSt := (look d.seq.slots k).getD {}
def Device.modSlot (d : Device) (k : Nat) (f : SlotSt → SlotSt) : Device :=
  d.modSeq fun s => { s with slots := put s.slots k (f ((look s.slots k).getD {})) }

/-- The banks that hold a channel of the group of slot k. -/
def Device.groupBanks (d : Device) (k : Nat) : List Nat :=
  (List.range 4).filter fun m => (List.range 5).any fun i => (d.slotGroup k).testBit (5 * m + i)

/-- Deglitched power good of slot k's target (R229). -/
def Device.slotPg (d : Device) (k : Nat) : Bool :=
  let t := d.slotType k
  if t = 1 then d.seq.pgRail.contains (d.slotSel k)
  else if t = 2 then d.seq.pgFeed
  else if t = 3 then d.seq.pgBank.contains (d.slotSel k)
  else if t = 4 then d.seq.pgGroup.contains k
  else d.seq.pgLdo.contains (d.slotSel k - 1)

/-- The active feed (R207). -/
def Device.activeFeed (d : Device) : Option FeedId :=
  if d.fld FEED.STAT_ACTIVE = 1 then some .fa else if d.fld FEED.STAT_ACTIVE = 2 then some .fb else none
def Device.priFeed (d : Device) : FeedId := if d.flag FEED.CFG_PRI then .fb else .fa

/-- Feed power good (R194). -/
def Device.feedGood (d : Device) : Bool := d.activeFeed.any fun f => (d.feed f).good

/-- The target of a slot in page CNT, by the feed a feed slot counts on (R242); none for groups and
LDOs. -/
def Device.slotCounter (d : Device) (k : Nat) (f : FeedId) : Option Nat :=
  let t := d.slotType k
  if t = 1 then some (d.slotSel k)
  else if t = 2 then some (4 + FeedIx f)
  else if t = 3 then some (6 + d.slotSel k)
  else none

def Device.countSlot (d : Device) (k : Nat) (f : FeedId) (r : Nat → Reg) : Device :=
  match d.slotCounter k f with
  | some j => d.cnt r j
  | none => d

/-- The slot of a feed fault (R239); none where no slot supervises the feeds. -/
def Device.feedSlot (d : Device) : Option Nat := allSlots.find? fun k => d.slotType k == 2

/-! ## Entry into KEEP (R317) -/

/-- A bank without supply: link stopped, in reset, held (R317, R412). An isolation under way is still verified (R131,
R132). -/
def Device.bankDark (d : Device) (m : Nat) : Device :=
  (d.holdBank m).modBank m fun b => { iso := b.iso, closePend := b.closePend }

/-- The device enters KEEP (R317). -/
def Device.enterKeep (d : Device) : Device :=
  let d := (d.setFld SEC.PSTAT_STATE stKeep).lower SEC.PSTAT_TRANS
  let d := d.each (List.range 4) Device.bankDark
  let d := (d.setFld (RING.PSTAT_STATE 0) portDisabled).setFld (RING.PSTAT_STATE 1) portDisabled
  let d := ((d.portClear .east).portClear .west).chainFlags
  let d := { d with ring := { d.ring with
    inbox := [], parts := [], table := [], queryPend := false, window := none, windowDone := false
    heard := false, upSince := false, wantStandby := false, enumOpen := false, standbySeen := false } }
  let d := (((d.setFld RCK.CFG_ROLE 0).lower RING.RSTAT_LOAD_OVER).lower RCK.STAT_SYNC).lower RCK.STAT_TIDE_LOCK
  let d := (d.lower RCK.STAT_FLYWHEEL).wr RCK.RATE 0
  let d := d.modRck fun r =>
    { r with pll := false, ahead := 0, approach := false, steerErr := 0, missing := 0, agree := 0, holding := false }
  d.stopLoops

/-! ## Wake (R315) -/

/-- Step 1 of a wake begins: the PLL starts to lock. -/
def Device.beginWake (d : Device) : Device := (d.raise SEC.PSTAT_TRANS).lower SEC.PSTAT_WAKEPEND

/-- A wake is requested in KEEP; without feed power good it waits (R315). -/
def Device.requestWake (d : Device) : Device :=
  if !d.inKeep || d.flag SEC.PSTAT_TRANS then d
  else if d.feedGood then d.beginWake
  else d.raise SEC.PSTAT_WAKEPEND

/-- R315: a pending wake begins when feed power good arrives. -/
def Device.wakeStart (d : Device) : Device :=
  if d.flag SEC.PSTAT_WAKEPEND && d.inKeep && d.feedGood then d.beginWake else d

def execWakeStart (s : State) : Host.Outcome State Fault Refusal := s.run fun d => d.wakeStart

/-! ## Power-up -/

/-- A bank that a slot names. -/
def Device.bankSlotted (d : Device) (m : Nat) : Bool := allSlots.any fun k => d.slotType k == 3 && d.slotSel k == m

/-- R234: every used slot is qualified: ON, and the device enters STANDBY with its converter loops
started (R251). -/
def Device.checkDone (d : Device) : Device :=
  if d.seqState == seqUp && (allSlots.all fun k => !d.slotUsed k || d.slotQualified k) then
    let d := ((d.setSeq seqOn).raise SEQ.STAT_SEQ_DONE).log Ev.SEQ_DONE []
    ((d.setFld SEC.PSTAT_STATE stStandby).lower SEC.PSTAT_TRANS).startLoops
  else d

/-- R230, R228: the power-up begins at its common start; banks that no slot names are released. -/
def Device.powerUp (d : Device) : Device :=
  let d := ((d.setSeq seqUp).wr SEQ.TSTART d.now).modSeq fun s =>
    { s with slots := [], downAt := [], railsDown := [], faulted := [], restarted := [], pfwN := true }
  let d := (d.wr SEQ.ENMASK 0).wr SEQ.QUALMASK 0
  let d := d.each (List.range 4) fun d m => if d.bankSlotted m then d else d.seqCloseBank m
  d.checkDone

/-- The minimum off time has passed, or none applies (R230). -/
def Device.offTimePast (d : Device) : Bool :=
  !d.seq.everDown || d.rd SEQ.TDONE + d.fld SEQ.CFG_TMINOFF * 10 * msec ≤ d.now

/-- R230: power-up from DOWN, held in WAIT while the minimum off time runs. -/
def Device.seqBegin (d : Device) : Device :=
  if d.seqState != seqDown then d
  else if d.offTimePast then d.powerUp
  else d.setSeq seqWait

/-- R230: the minimum off time ends. -/
def Device.waitEnd (d : Device) : Device := if d.seqState == seqWait && d.offTimePast then d.powerUp else d

def execSeqWaitEnd (s : State) : Host.Outcome State Fault Refusal := s.run fun d => d.waitEnd

/-- R315: the PLL locks in a wake: clock by IB0REF (R225), ports start DOWN (R158, R160), the bank
links start with every bank held, and the power-up begins. -/
def Device.pllLock (d : Device) : Device :=
  if !d.flag SEC.PSTAT_TRANS || d.rck.pll then d
  else
    let d := (d.modRck fun r => { r with pll := true }).setClock (d.int.ib0 < oneVolt)
    let port := fun (d : Device) (p : Port) =>
      if d.portEnabled p then d.setFld (RING.PSTAT_STATE (PortIx p)) portDown else d
    let d := (port (port d .east) .west).chainFlags
    let d := d.each (List.range 4) fun d m =>
      (d.raise (BANK.STAT_HELD m)).modBank m fun b => { b with link := true, lastValid := d.rck.tide, validAt := d.clk, linkAt := d.clk, stepAt := d.clk }
    d.openWindow.seqBegin

def execPllLock (s : State) : Host.Outcome State Fault Refusal := s.run fun d => d.pllLock

/-- R231: slot k falls due: its on-delay has passed and its predecessor, if any, is qualified. -/
def Device.slotDue (d : Device) (k : Nat) : Bool :=
  let dep := d.fld (SEQ.SLOTA_DEP k)
  d.slotUsed k && !d.slotEnabled k && decide (d.rd SEQ.TSTART + d.fld (SEQ.SLOTB_ONDLY k) * 10000 ≤ d.now)
    && (dep == 0x1F || d.slotQualified dep)

/-- What enabling means for each target (R228). -/
def Device.enableTarget (d : Device) (k : Nat) : Device :=
  let t := d.slotType k
  if t = 1 then d.railStart (d.slotSel k)
  else if t = 3 then d.seqCloseBank (d.slotSel k)
  else if t = 5 then d.modInt fun x => { x with slotOn := (d.slotSel k - 1) :: x.slotOn }
  else d

/-- R231: slots due in one tide are enabled in ascending number. -/
def Device.slotEnable (d : Device) (k : Nat) : Device :=
  if d.seqState != seqUp || !d.slotDue k || (List.range k).any d.slotDue then d
  else
    let d := (d.setBit SEQ.ENMASK k true).enableTarget k
    d.modSlot k fun x => { x with enAt := d.now, qualFrom := if d.slotPg k then some d.now else none }

def execSlotEnable (k : SeqSlot) (s : State) : Host.Outcome State Fault Refusal := s.run fun d => d.slotEnable k

/-! ## Power-down -/

/-- R237: the power-down is complete: DOWN, its tide recorded, journals due (R243, R109, R346), KEEP;
a queued ON is taken up (R238). -/
def Device.downDone (d : Device) : Device :=
  let d := ((d.setSeq seqDown).wr SEQ.TDONE d.now).raise CNT.JSTAT_PENDING
  let d := d.modSeq fun s => { s with everDown := true, railsDown := [] }
  let d := { d with flash := { d.flash with latDue := true, clockDue := true } }
  let d := d.enterKeep
  if d.flag SEQ.STAT_PEND then (d.lower SEQ.STAT_PEND).requestWake else d

/-- R237: rails that have reached OFF are done; with every slot disabled, the power-down completes. -/
def Device.checkDown (d : Device) : Device :=
  if d.seqState != seqPowerDown then d
  else
    let left := d.seq.railsDown.filter fun e => d.cvState (d.slotSel e.1) != cvOff
    let d := d.modSeq fun s => { s with railsDown := left }
    if d.seq.downAt = [] && left = [] then d.downDone else d

/-- R235, R236: a power-down begins; its tide is the common start. -/
def Device.startPowerDown (d : Device) : Device :=
  let up := d.seqState == seqUp
  let t := d.now
  let d := (((d.setSeq seqPowerDown).wr SEQ.TSTART t).lower SEQ.STAT_PFWACT).leaveRun
  let due := (allSlots.filter d.slotEnabled).map fun k =>
    (k, if up && !d.slotQualified k then t else t + d.fld (SEQ.SLOTB_OFFDLY k) * 10000)
  let d := d.modSeq fun s => { s with downAt := due }
  let d := d.each (List.range 4) fun d m => if d.bankSlotted m then d else d.seqOpenBank m
  d.checkDown

/-- What disabling means for each target (R228). -/
def Device.disableTarget (d : Device) (k : Nat) : Device :=
  let t := d.slotType k
  if t = 1 then
    let d := d.railStop (d.slotSel k)
    if d.cvState (d.slotSel k) = cvOff then d
    else d.modSeq fun s => { s with railsDown := (k, d.now) :: s.railsDown }
  else if t = 3 then d.seqOpenBank (d.slotSel k)
  else if t = 4 then d.each (d.leads.filter (d.inGroup k)) fun d l => d.faultOff l 1
  else if t = 5 then d.modInt fun x => { x with slotOn := x.slotOn.filter (· != d.slotSel k - 1) }
  else d

/-- R235: slots due in one tide are disabled in descending number. -/
def Device.slotDisable (d : Device) (k : Nat) : Device :=
  match look d.seq.downAt k with
  | none => d
  | some t =>
    if d.seqState != seqPowerDown || d.now < t
        || (d.seq.downAt.any fun e => e.2 < t || (e.2 == t && k < e.1)) then d
    else
      let d := ((d.setBit SEQ.ENMASK k false).setBit SEQ.QUALMASK k false).disableTarget k
      (d.modSeq fun s => { s with downAt := del s.downAt k, slots := del s.slots k }).checkDown

def execSlotDisable (k : SeqSlot) (s : State) : Host.Outcome State Fault Refusal := s.run fun d => d.slotDisable k

/-- R214: REF reaches 0 in STOP. -/
def Device.railStopDone (d : Device) (r : Nat) : Device :=
  if d.cvState r == cvStop && !d.clamping r && (d.rail r).ref == 0 then (d.railCoast r).checkDown else d

def execRailStopDone (r : RailId) (s : State) : Host.Outcome State Fault Refusal := s.run fun d => d.railStopDone r

/-- R218: the end of the clamp, after which a power-down may complete. -/
def execCvOvClampEnd (r : RailId) (vfb : Nat) (s : State) : Host.Outcome State Fault Refusal :=
  s.run fun d => (d.clampEnd r vfb).checkDown

/-- R237: a rail has not reached OFF within 2^TO ms of its disable; power-down goes on without it. -/
def Device.offTimeout (d : Device) (k : Nat) : Device :=
  match look d.seq.railsDown k with
  | none => d
  | some t =>
    let r := d.slotSel k
    if d.seqState != seqPowerDown || d.cvState r == cvOff || d.now < t + 2 ^ d.fld (SEQ.SLOTB_TO k) * msec then d
    else
      let d := (d.raise SEQ.STAT_SEQ_OFF_TIMEOUT).log Ev.SEQ_OFF_TIMEOUT [k]
      let d := (((d.wr SEQ.FSLOT k).wr SEQ.FCAUSE 4).cnt CNT.STO r).railCoast r
      (d.modRail r fun x => { x with clampAt := none, afterClamp := none }).checkDown

def execSeqOffTimeout (k : SeqSlot) (s : State) : Host.Outcome State Fault Refusal := s.run fun d => d.offTimeout k

/-! ## Requests (R238) -/

/-- ON in each state. In DOWN the device is in KEEP, and a wake carries the power-up (R315). -/
def Device.requestOn (d : Device) : Device :=
  if d.seqState == seqDown then d.requestWake
  else if d.seqState == seqPowerDown then d.raise SEQ.STAT_PEND
  else d

/-- OFF in each state. -/
def Device.requestOff (d : Device) : Device :=
  let st := d.seqState
  if st = seqWait then (d.setSeq seqDown).enterKeep
  else if st = seqUp || st = seqOn then d.startPowerDown
  else if st = seqPowerDown then d.lower SEQ.STAT_PEND
  else d

def execSeqOn (w : Writer) (s : State) : Host.Outcome State Fault Refusal :=
  s.run fun d => d.asWriter w Device.requestOn

def execSeqOff (w : Writer) (s : State) : Host.Outcome State Fault Refusal :=
  s.run fun d => d.asWriter w Device.requestOff

/-- SEQ.CMD written whole: ON and OFF together are OFF (R238). -/
def Device.seqCmd (d : Device) (v : Nat) : Device :=
  if v.testBit 1 then d.requestOff else if v.testBit 0 then d.requestOn else d

/-! ## Power-fail warning (R239–R241) -/

/-- Causes of SEQ.FCAUSE (R244). -/
def causeTimeout : Nat := 1
def causePgLoss : Nat := 2
def causeFeed : Nat := 3

/-- The rigged reaction (R239; R110 for SEQ_FAULT). -/
def Device.seqReact (d : Device) (why : SafeCause) : Device :=
  if d.fld SEQ.CFG_FACT = 1 then d.applySafe why
  else if d.fld SEQ.CFG_FACT = 2 then d.strike .int
  else d

/-- R241: what the sequencer does at a running fault to give its slot the chance to recover: it must
qualify again, and a rail in FAULT is restarted once. -/
def Device.chance (d : Device) (k : Nat) : Device :=
  let d := (d.setBit SEQ.QUALMASK k false).modSlot k fun x =>
    { x with qualFrom := if d.slotPg k then some d.rck.tide else none }
  if d.slotType k == 1 && d.cvFaulted (d.slotSel k) && !d.seq.restarted.contains k then
    (d.modSeq fun s => { s with restarted := k :: s.restarted }).railRestart (d.slotSel k)
  else d

/-- R239, R240: a running fault of a slot; `none`: a feed fault where no slot supervises the feeds. -/
def Device.runningFault (d : Device) (slot : Option Nat) (cause : Nat) : Device :=
  let k := slot.getD 0xFF
  if d.seqState != seqOn then
    -- before the power-up begins or after the power-down there is no sequence to fault
    if d.seqState == seqUp || d.seqState == seqPowerDown then d.log Ev.POWER_FAIL [k, cause] else d
  else
    let was := d.flag SEQ.STAT_PFWACT
    let d :=
      if was then d.log Ev.POWER_FAIL [k, cause]
      else
        let d := d.modSeq fun s => { s with pfwN := false, faulted := [], restarted := [] }
        let d := ((d.raise SEQ.STAT_PFWACT).raise SEQ.STAT_PFW).log Ev.POWER_FAIL [k, cause] true
        (((d.wr SEQ.FSLOT k).wr SEQ.FCAUSE cause).wr SEQ.PFWT d.now).seqReact .powerFail
    let d := d.modSeq fun s => { s with faulted := k :: s.faulted.filter (· != k) }
    match slot with
    | some k => d.chance k
    | none => d

/-- The tide at which the warning expires (R240). -/
def Device.pfwEnd (d : Device) : Nat := d.rd SEQ.PFWT + d.fld SEQ.CFG_TPFW * msec

/-- A slot's target carries a fault condition (R241). -/
def Device.faultCond (d : Device) (k : Nat) : Bool :=
  let t := d.slotType k
  if t = 1 then d.cvFaulted (d.slotSel k)
  else if t = 2 then
    match d.activeFeed with
    | none => !d.flag FEED.STAT_SWITCHING
    | some f => (d.feed f).uv
  else if t = 3 then d.flag (BANK.STAT_HELD (d.slotSel k))
  else false

/-- R241: the warning is cancelled once every faulted slot is recoverable and has recovered. -/
def Device.checkCancel (d : Device) : Device :=
  if d.flag SEQ.STAT_PFWACT && decide (d.now < d.pfwEnd) && (d.seq.faulted.all fun k =>
      k < 24 && d.flag (SEQ.SLOTA_REC k) && d.slotQualified k && !d.faultCond k) then
    let d := ((d.lower SEQ.STAT_PFWACT).raise SEQ.STAT_PFW_CANCEL).log Ev.PFW_CANCEL []
    d.modSeq fun s => { s with pfwN := true, faulted := [], restarted := [] }
  else d

/-- R240: the warning expires. -/
def Device.pfwExpiry (d : Device) : Device :=
  if d.flag SEQ.STAT_PFWACT && d.seqState == seqOn && decide (d.pfwEnd ≤ d.now) then d.startPowerDown else d

def execPfwExpiry (s : State) : Host.Outcome State Fault Refusal := s.run fun d => d.pfwExpiry

/-- The tide at which a slot is qualified if its power good stays (R232), and the one at which it times out (R233). -/
def Device.qualTide (d : Device) (k : Nat) : Option Nat :=
  (d.slotSt k).qualFrom.map fun q => q + d.fld (SEQ.SLOTB_QUAL k) * msec
def Device.timeoutTide (d : Device) (k : Nat) : Nat := (d.slotSt k).enAt + 2 ^ d.fld (SEQ.SLOTB_TO k) * msec

/-- R232: deglitched power good has held for QUAL. A slot whose qualification would complete with its
timeout has timed out (R233). -/
def Device.slotQualify (d : Device) (k : Nat) : Device :=
  if d.slotEnabled k && !d.slotQualified k && d.slotPg k
      && ((d.qualTide k).any fun t => t ≤ d.now && (d.seqState == seqOn || (d.seqState == seqUp && t < d.timeoutTide k))) then
    (d.setBit SEQ.QUALMASK k true).checkDone.checkCancel
  else d

def execSlotQualified (k : SeqSlot) (s : State) : Host.Outcome State Fault Refusal := s.run fun d => d.slotQualify k

/-- R233: a slot is unqualified at its timeout; the power-up is aborted. -/
def Device.slotTimeout (d : Device) (k : Nat) : Device :=
  if d.seqState == seqUp && d.slotEnabled k && !d.slotQualified k && decide (d.timeoutTide k ≤ d.now)
      && !(d.slotPg k && (d.qualTide k).any fun t => t < d.timeoutTide k) then
    let d := (d.raise SEQ.STAT_SEQ_FAULT).log Ev.SEQ_FAULT [k, causeTimeout]
    let d := ((d.wr SEQ.FSLOT k).wr SEQ.FCAUSE causeTimeout).countSlot k d.priFeed CNT.STO
    (d.seqReact .seqFault).startPowerDown
  else d

def execSlotTimeout (k : SeqSlot) (s : State) : Host.Outcome State Fault Refusal := s.run fun d => d.slotTimeout k

/-! ## Power good (R229) -/

/-- Deglitched power good of slot k's target has changed: qualification begins, restarts with a
chatter (R232), or a qualified slot has a running fault (R239). -/
def Device.slotPgChange (d : Device) (k : Nat) (pg : Bool) : Device :=
  if !d.slotEnabled k then d
  else if pg then
    if d.slotQualified k then d else d.modSlot k fun x => { x with qualFrom := some d.rck.tide }
  else if d.slotQualified k then d.runningFault (some k) causePgLoss
  else if (d.slotSt k).qualFrom.isSome then
    (d.countSlot k (d.activeFeed.getD d.priFeed) CNT.CHAT).modSlot k fun x => { x with qualFrom := none }
  else d

/-- A list with or without a member. -/
def setMember (l : List Nat) (n : Nat) (on : Bool) : List Nat :=
  if on then n :: l.filter (· != n) else l.filter (· != n)

/-- Raw power good of a target (R228, R215, R194). -/
def Device.rawPg (d : Device) : PgTarget → Bool
  | .rail r _ => d.flag (CV.STAT_PGOUT r)
  | .feed => d.feedGood || d.flag FEED.STAT_SWITCHING
  | .bank m v => !d.flag (BANK.STAT_HELD m) && decide (d.rd SEQ.BUV ≤ v) && decide (v < d.rd SEQ.BOV)
  | .group k => (d.groupBanks k).all fun m => !d.flag (BANK.STAT_HELD m)
  | .ldo k => d.ldOn k

/-- The slots whose target it is, and the deglitched value with its update. -/
def Device.pgSlots (d : Device) : PgTarget → List Nat
  | .rail r _ => allSlots.filter fun k => d.slotType k == 1 && d.slotSel k == r
  | .feed => allSlots.filter fun k => d.slotType k == 2
  | .bank m _ => allSlots.filter fun k => d.slotType k == 3 && d.slotSel k == m
  | .group k => if d.slotType k == 4 then [k.val] else []
  | .ldo j => allSlots.filter fun k => d.slotType k == 5 && d.slotSel k == j + 1

def Device.pgNow (d : Device) : PgTarget → Bool
  | .rail r _ => d.seq.pgRail.contains r
  | .feed => d.seq.pgFeed
  | .bank m _ => d.seq.pgBank.contains m
  | .group k => d.seq.pgGroup.contains k
  | .ldo k => d.seq.pgLdo.contains k

def Device.setPg (d : Device) (t : PgTarget) (pg : Bool) : Device :=
  d.modSeq fun s => match t with
    | .rail r _ => { s with pgRail := setMember s.pgRail r pg }
    | .feed => { s with pgFeed := pg }
    | .bank m _ => { s with pgBank := setMember s.pgBank m pg }
    | .group k => { s with pgGroup := setMember s.pgGroup k pg }
    | .ldo k => { s with pgLdo := setMember s.pgLdo k pg }

/-- A rail's feedback reading comes with its report. -/
def Device.pgReading (d : Device) : PgTarget → Device
  | .rail r v => d.readVfb r v
  | _ => d

/-- R242: a rail's deglitched PGOUT falls below or above its window. -/
def Device.pgCount (d : Device) : PgTarget → Device
  | .rail r v => if d.pgLow r v then d.cnt CNT.UV r else if d.pgHigh r v then d.cnt CNT.OV r else d
  | _ => d

/-- A level has stood for the 20 µs of R229 and R242. -/
def deglitched (held : Nat) : Bool := 20 * usec ≤ held

/-- R229: raw power good has held a new level for 20 µs. -/
def Device.pgDeglitch (d : Device) (t : PgTarget) (held : Nat) : Device :=
  let d := d.pgReading t
  let pg := d.rawPg t
  if pg == d.pgNow t || !deglitched held then d
  else
    let d := d.setPg t pg
    let d := d.when (!pg) fun d => d.pgCount t
    d.each (d.pgSlots t) fun d k => d.slotPgChange k pg

def execPgDeglitch (t : PgTarget) (held : Nat) (s : State) : Host.Outcome State Fault Refusal :=
  s.run fun d => d.pgDeglitch t held

/-- R242: VBUS_Bm below BUV for 20 µs. -/
def Device.bankUv (d : Device) (m vbus held : Nat) : Device :=
  if (d.bank m).link && deglitched held && decide (vbus < d.rd SEQ.BUV) then d.cnt CNT.UV (6 + m) else d

def execBankUv (b : BankId) (vbus held : Nat) (s : State) : Host.Outcome State Fault Refusal :=
  s.run fun d => d.bankUv b vbus held

/-- R242: VBUS_Bm at or above BOV for 20 µs. -/
def Device.bankOv (d : Device) (m vbus held : Nat) : Device :=
  if (d.bank m).link && deglitched held && decide (d.rd SEQ.BOV ≤ vbus) then d.cnt CNT.OV (6 + m) else d

def execBankOv (b : BankId) (vbus held : Nat) (s : State) : Host.Outcome State Fault Refusal :=
  s.run fun d => d.bankOv b vbus held

end Sys2Proof.Machine
end

