-- ==== Sys2Proof/Machine/Feeds.lean ====
section
/-! DEFINITION. Machine/Feeds.lean: the feeds (R188–R207): qualification, turn-on, trips, damage,
selection and the break-before-make switchover. Voltages in 10 mV, currents in 10 mA. -/
namespace Sys2Proof.Machine

def Device.modFeed (d : Device) (f : FeedId) (g : Feed → Feed) : Device := d.setFeed f (g (d.feed f))

def feedCode : FeedId → Nat
  | .fa => 1
  | .fb => 2

/-- Codes of a switchover's cause in FEED_SWITCH (R203, R205). -/
def SwitchCause.code : SwitchCause → Nat
  | .uv => 0
  | .ov => 1
  | .reverse => 2
  | .trip => 3
  | .damage => 4
  | .revert => 5
  | .manual => 6
def abortCode : Nat := 7

def Device.feedOn (d : Device) (f : FeedId) : Bool := d.flag (FEED.FSTAT_ON (FeedIx f))
def Device.feedQual (d : Device) (f : FeedId) : Bool := d.flag (FEED.FSTAT_QUALIFIED (FeedIx f))

/-- AVAIL and LATCHED follow the latched trip and the out-of-service mark (R193, R198, R200). -/
def Device.feedAvail (d : Device) (f : FeedId) : Device :=
  let l := (d.feed f).tripped || (d.feed f).outOfService
  (d.setFlag (FEED.FSTAT_LATCHED (FeedIx f)) l).setFlag (FEED.FSTAT_AVAIL (FeedIx f)) (!l)

/-- The feed may be turned on: qualified and available (R193), and the other not left unverified
(R201, R204). -/
def Device.usable (d : Device) (f : FeedId) : Bool :=
  d.feedQual f && d.flag (FEED.FSTAT_AVAIL (FeedIx f)) && !(d.feed (otherFeed f)).unverified

/-- VIN lies in the qualification window (R191). -/
def Device.inWindow (d : Device) (f : FeedId) (vin : Nat) : Bool :=
  let i := FeedIx f
  d.rd (FEED.UV i) + d.rd (FEED.HYS i) ≤ vin && vin + d.rd (FEED.HYS i) < d.rd (FEED.OV i)

/-- The active limit, µV across the shunt (R193, R196). -/
def Device.shuntLimit (d : Device) (f : FeedId) : Nat :=
  let i := FeedIx f
  50 * (if d.flag (FEED.FSTAT_INRUSH i) then d.fld ⟨FEED.VINR i, 0, 10⟩ else d.fld ⟨FEED.VLIM i, 0, 10⟩)

/-- Current from a shunt voltage, 10 mA, signed (R190): µV over µΩ. The rule gives no rounding: the model drops the
fraction (notes/assumptions/79.md). -/
def Device.shuntAmps (d : Device) (f : FeedId) (shunt : Int) : Nat :=
  unsigned 16 (max (-32768) (min 32767 (shunt * 100 / d.rd (FEED.RSH (FeedIx f)))))

/-- R193: a feed turns on with its inrush window. -/
def Device.turnFeedOn (d : Device) (f : FeedId) : Device :=
  let i := FeedIx f
  let d := (d.raise (FEED.FSTAT_ON i)).raise (FEED.FSTAT_INRUSH i)
  (d.setFld FEED.STAT_ACTIVE (feedCode f)).modFeed f fun x =>
    { x with onAt := d.feedClk, good := false, uv := false, ftmr := 0 }

/-- A gate is driven off. A manually selected feed that leaves service ends MANUAL (R201). -/
def Device.gateOff (d : Device) (f : FeedId) : Device :=
  let i := FeedIx f
  let was := d.feedOn f
  let d := ((d.lower (FEED.FSTAT_ON i)).lower (FEED.FSTAT_INRUSH i)).lower (FEED.FSTAT_LIMIT i)
  let d := d.modFeed f fun x => { x with good := false, uv := false, offAt := if was then d.feedClk else x.offAt }
  if d.activeFeed = some f then (d.setFld FEED.STAT_ACTIVE 0).lower FEED.STAT_MANUAL else d

/-- R201, at each tick: with no feed on, the preferred usable feed turns on. -/
def Device.selectFeed (d : Device) : Device :=
  if d.activeFeed.isSome || d.flag FEED.STAT_SWITCHING then d
  else if d.usable d.priFeed then d.turnFeedOn d.priFeed
  else if d.usable (otherFeed d.priFeed) then d.turnFeedOn (otherFeed d.priFeed)
  else d

/-- R203, step 1: a switchover to the other feed begins. -/
def Device.startSwitch (d : Device) (incoming : FeedId) (cause : SwitchCause) : Device :=
  let d := (d.gateOff (otherFeed incoming)).raise FEED.STAT_SWITCHING
  { d with switch := some { t0 := d.feedClk, incoming := incoming, cause := cause, verified := false } }

def Device.selRefused (d : Device) : Device := (d.raise FEED.STAT_SELREF).log Ev.FEED_SELREF []

/-- A switchover that a command or a revert began, not a trigger (R202). -/
def SwitchCause.own (c : SwitchCause) : Bool := c == .revert || c == .manual

/-- The byte of CMD that selects a feed. -/
def selByte : FeedId → Nat
  | .fa => 1
  | .fb => 2

/-- R201: SELA and SELB. A selection in the tick of a trigger waits for the end of its sequence (R202). -/
def Device.feedSelect (d : Device) (v : Nat) : Device :=
  if !v.testBit 0 && !v.testBit 1 then d
  else if v.testBit 0 && v.testBit 1 then d.selRefused
  else
    match d.switch with
    | some x =>
      if x.t0 = d.feedClk && !x.cause.own then { d with switch := some { x with again := some v } } else d.selRefused
    | none =>
      let f := if v.testBit 0 then FeedId.fa else FeedId.fb
      if d.activeFeed = some f then d
      else if !d.usable f then d.selRefused
      else if d.activeFeed.isNone then (d.turnFeedOn f).raise FEED.STAT_MANUAL
      else (d.startSwitch f .manual).raise FEED.STAT_MANUAL

def execFeedSelect (w : Writer) (v : BitVec 8) (s : State) : Host.Outcome State Fault Refusal :=
  s.run fun d => d.asWriter w fun d => d.feedSelect v.toNat

/-- The sequence has ended: a selection that a trigger put off is evaluated again (R202). -/
def Device.selectAgain (d : Device) (x : Switchover) : Device :=
  match x.again with
  | some v => d.feedSelect v
  | none => d

/-- R205: the incoming feed has a trigger before step 5: both gates stay off. An outgoing feed that was not verified
off goes on to inhibit the other's gate (R201; notes/assumptions/79.md). -/
def Device.abortSwitch (d : Device) (x : Switchover) : Device :=
  let d := { (d.gateOff x.incoming).lower FEED.STAT_SWITCHING with switch := none }
  let d := d.modFeed (otherFeed x.incoming) fun y => { y with unverified := y.unverified || !x.verified }
  let d := ((d.lower FEED.STAT_MANUAL).raise FEED.STAT_FEED_SWITCH).log Ev.FEED_SWITCH [abortCode, d.feedClk - x.t0]
  (d.runningFault d.feedSlot causeFeed).selectAgain x

/-- R202: a switchover trigger on feed f; `stays`: an undervoltage, which leaves an active feed on
where no other can serve. A trigger prevails over a revert or a selection of the same tick. -/
def Device.trigger (d : Device) (f : FeedId) (cause : SwitchCause) (stays : Bool) : Device :=
  match d.switch with
  | some x =>
    if x.incoming = f then d.abortSwitch x
    else if x.t0 = d.feedClk && x.cause.own then
      let again := if x.cause == .manual then some (selByte x.incoming) else none
      { (d.gateOff f).lower FEED.STAT_MANUAL with switch := some { x with cause := cause, again := again } }
    else d.gateOff f
  | none =>
    if d.activeFeed ≠ some f then d.gateOff f
    else if d.usable (otherFeed f) then d.startSwitch (otherFeed f) cause
    else if stays then
      (d.modFeed f fun x => { x with uv := true }).runningFault d.feedSlot causeFeed
    else (d.gateOff f).runningFault d.feedSlot causeFeed

/-- The feed is on, or comes in by a switchover (R205). -/
def Device.feedLive (d : Device) (f : FeedId) : Bool := d.feedOn f || d.switch.any fun x => x.incoming == f

/-! ## Qualification (R191) -/

/-- A report of VIN: from UV upwards the undervoltage that kept the warning going has ended (R191, R241). -/
def Device.seeVin (d : Device) (f : FeedId) (vin : Nat) : Device :=
  let d := d.wr (FEED.VIN (FeedIx f)) vin
  if (d.feed f).uv && d.rd (FEED.UV (FeedIx f)) ≤ vin then (d.modFeed f fun x => { x with uv := false }).checkCancel else d

/-- The feed is no longer qualified: a later stretch in the window counts anew. -/
def Device.disqualify (d : Device) (f : FeedId) : Device :=
  (d.lower (FEED.FSTAT_QUALIFIED (FeedIx f))).modFeed f fun x => { x with lostAt := d.feedClk }

/-- R191: VIN has lain in the window for QUAL ms, all of them since the feed last had to qualify again. -/
def Device.feedQualified (d : Device) (f : FeedId) (vin held : Nat) : Device :=
  let ok := d.fld (FEED.FCFG_QUAL (FeedIx f)) * msec ≤ held && (d.feed f).lostAt + held ≤ d.feedClk
  if d.feedQual f || !d.inWindow f vin || !ok then d
  else
    let d := d.raise (FEED.FSTAT_QUALIFIED (FeedIx f))
    (d.modFeed f fun x => { x with qualAt := d.feedClk }).seeVin f vin

def execFeedQualified (f : FeedId) (vin : BitVec 16) (held : Nat) (s : State) : Host.Outcome State Fault Refusal :=
  s.runFeed fun d => d.feedQualified f vin.toNat held

/-- R191: VIN leaves the window of a feed that has no undervoltage or overvoltage to report. -/
def Device.qualLost (d : Device) (f : FeedId) (vin : Nat) : Device :=
  if d.inWindow f vin then d else (d.disqualify f).seeVin f vin

def execFeedQualificationLost (f : FeedId) (vin : BitVec 16) (s : State) : Host.Outcome State Fault Refusal :=
  s.runFeed fun d => d.qualLost f vin.toNat

/-- A condition on VIN counts once it has stood for FILT µs (R191). -/
def Device.filtered (d : Device) (f : FeedId) (held : Nat) : Bool := d.rd (FEED.FILT (FeedIx f)) * usec ≤ held

/-- R191, R202: undervoltage of a feed that is on. -/
def Device.feedUv (d : Device) (f : FeedId) (vin held : Nat) : Device :=
  let i := FeedIx f
  if !d.feedLive f || d.rd (FEED.UV i) ≤ vin || !d.filtered f held then d
  else
    let d := ((d.qualLost f vin).raise (FEED.FSTAT_FEED_UV i)).log Ev.FEED_UV [i, vin]
    (d.cnt CNT.UV (4 + i)).trigger f .uv true

def execFeedUv (f : FeedId) (vin : BitVec 16) (held : Nat) (s : State) : Host.Outcome State Fault Refusal :=
  s.runFeed fun d => d.feedUv f vin.toNat held

/-- R191, R202: overvoltage of a feed that is on. -/
def Device.feedOv (d : Device) (f : FeedId) (vin held : Nat) : Device :=
  let i := FeedIx f
  if !d.feedLive f || vin < d.rd (FEED.OV i) || !d.filtered f held then d
  else
    let d := ((d.qualLost f vin).raise (FEED.FSTAT_FEED_OV i)).log Ev.FEED_OV [i, vin]
    (d.cnt CNT.OV (4 + i)).trigger f .ov false

def execFeedOv (f : FeedId) (vin : BitVec 16) (held : Nat) (s : State) : Host.Outcome State Fault Refusal :=
  s.runFeed fun d => d.feedOv f vin.toNat held

/-! ## Inrush and trips (R193–R198) -/

/-- End of the inrush window that turn-on opened. -/
def Device.inrushEnd (d : Device) (f : FeedId) : Nat := (d.feed f).onAt + d.fld (FEED.FCFG_TINR (FeedIx f)) * msec

/-- R193: VBUS lies within 0.5 V of VIN, [VIN − 0.5 V, VIN + 0.5 V) by R9, and the feed is not at its limit, before
the window ends. -/
def Device.inrushDone (d : Device) (f : FeedId) (vin vbus : Nat) : Device :=
  let i := FeedIx f
  if d.feedOn f && d.flag (FEED.FSTAT_INRUSH i) && decide (d.feedClk < d.inrushEnd f) && !d.flag (FEED.FSTAT_LIMIT i)
      && decide (vin ≤ vbus + 50) && decide (vbus < vin + 50) then
    let d := ((d.lower (FEED.FSTAT_INRUSH i)).wr FEED.VBUS vbus).seeVin f vin
    (d.modFeed f fun x => { x with good := true }).checkCancel
  else d

def execFeedInrushComplete (f : FeedId) (vin vbus : BitVec 16) (s : State) : Host.Outcome State Fault Refusal :=
  s.runFeed fun d => d.inrushDone f vin.toNat vbus.toNat

/-- R198, R202: a trip turns the feed off and latches it; the feed must then qualify again. -/
def Device.feedTrip (d : Device) (f : FeedId) (bit : Field) (ev : Nat) (shunt : Int) : Device :=
  let i := FeedIx f
  let imeas := d.shuntAmps f shunt
  let d := ((d.raise bit).log ev [i, imeas]).wr (FEED.IMEAS i) imeas
  let d := (d.disqualify f).modFeed f fun x => { x with tripped := true, tripAt := d.feedClk }
  let d := ((d.feedAvail f).cnt CNT.OC (4 + i)).cnt CNT.TRIP (4 + i)
  d.trigger f .trip false

/-- R193: the window ends before inrush is complete. -/
def Device.feedInrushFail (d : Device) (f : FeedId) (shunt : Int) : Device :=
  if d.feedOn f && d.flag (FEED.FSTAT_INRUSH (FeedIx f)) && decide (d.inrushEnd f ≤ d.feedClk) then
    d.feedTrip f (FEED.FSTAT_FEED_INRUSH_FAIL (FeedIx f)) Ev.FEED_INRUSH_FAIL shunt
  else d

def execFeedInrushFail (f : FeedId) (shunt : Int) (s : State) : Host.Outcome State Fault Refusal :=
  s.runFeed fun d => d.feedInrushFail f shunt

/-- R196: `n` ticks of the fault timer: up at the limit, down to no less than 0 below it; held in the inrush window.
What the shunt shows is a free value (notes/assumptions/3.md). -/
def Device.feedTick (d : Device) (n : Nat) (f : FeedId) : Device :=
  let i := FeedIx f
  if !d.feedOn f then d
  else
    let limit := decide ((d.shuntLimit f : Int) ≤ Config.shuntReading i d.feedClk)
    let d := d.setFlag (FEED.FSTAT_LIMIT i) limit
    if d.flag (FEED.FSTAT_INRUSH i) then d
    else d.modFeed f fun x => { x with ftmr := if limit then x.ftmr + n else x.ftmr - n }

/-- R196: outside the inrush window the fault timer has reached TFLT. -/
def Device.feedOverload (d : Device) (f : FeedId) (shunt : Int) : Device :=
  let i := FeedIx f
  if d.feedOn f && !d.flag (FEED.FSTAT_INRUSH i) && decide (d.fld (FEED.FCFG_TFLT i) * msec ≤ (d.feed f).ftmr) then
    d.feedTrip f (FEED.FSTAT_FEED_OVERLOAD i) Ev.FEED_OVERLOAD shunt
  else d

def execFeedOverload (f : FeedId) (shunt : Int) (s : State) : Host.Outcome State Fault Refusal :=
  s.runFeed fun d => d.feedOverload f shunt

/-- R197: the shunt voltage reaches twice the active limit. -/
def Device.feedShort (d : Device) (f : FeedId) (shunt : Int) : Device :=
  if d.feedLive f && decide (2 * (d.shuntLimit f : Int) ≤ shunt) then
    d.feedTrip f (FEED.FSTAT_FEED_SHORT (FeedIx f)) Ev.FEED_SHORT shunt
  else d

def execFeedShort (f : FeedId) (shunt : Int) (s : State) : Host.Outcome State Fault Refusal :=
  s.runFeed fun d => d.feedShort f shunt

/-- R197: −0.5 mV or below: a trigger, no trip: the feed stays available. -/
def Device.feedReverse (d : Device) (f : FeedId) (shunt : Int) : Device :=
  if d.feedLive f && decide (shunt ≤ -500) then
    ((d.raise (FEED.FSTAT_FEED_REVERSE (FeedIx f))).log Ev.FEED_REVERSE [FeedIx f]).trigger f .reverse false
  else d

def execFeedReverse (f : FeedId) (shunt : Int) (s : State) : Host.Outcome State Fault Refusal :=
  s.runFeed fun d => d.feedReverse f shunt

/-- R198: with RETRY = 1 a trip clears by itself after 1 s; the feed must then qualify again. -/
def Device.feedRetry (d : Device) (f : FeedId) : Device :=
  if d.flag (FEED.FCFG_RETRY (FeedIx f)) && (d.feed f).tripped && decide ((d.feed f).tripAt + second ≤ d.feedClk) then
    ((d.modFeed f fun x => { x with tripped := false }).feedAvail f).disqualify f
  else d

def execFeedRetryClear (f : FeedId) (s : State) : Host.Outcome State Fault Refusal := s.runFeed fun d => d.feedRetry f

/-- R198, R200: CLR.TRIP clears a latched trip and the out-of-service mark; after a trip the feed must qualify
again. -/
def Device.feedClear (d : Device) (f : FeedId) (v : Nat) : Device :=
  if v.testBit 0 && ((d.feed f).tripped || (d.feed f).outOfService) then
    let d := d.when (d.feed f).tripped fun d => d.disqualify f
    (d.modFeed f fun x =>
      { x with tripped := false, outOfService := false, unverified := false, qualAt := d.feedClk }).feedAvail f
  else d

def execFeedClrTrip (w : Writer) (f : FeedId) (v : BitVec 8) (s : State) : Host.Outcome State Fault Refusal :=
  s.run fun d => d.asWriter w fun d => d.feedClear f v.toNat

/-! ## Damage (R199, R200) -/

/-- Recognised damage: logged and counted; with DREACT = 1 the feed goes out of service. -/
def Device.feedDamage (d : Device) (f : FeedId) (bit : Field) (ev : Nat) : Device :=
  let i := FeedIx f
  let d := ((d.raise bit).log ev [i]).cnt CNT.TRIP (4 + i)
  if d.flag (FEED.FCFG_DREACT i) then (d.modFeed f fun x => { x with outOfService := true }).feedAvail f else d

/-- Method O: the common source above half of VBUS throughout 2 ms with the gate commanded off. -/
def Device.feedDamageO (d : Device) (f : FeedId) (src vbus held : Nat) : Device :=
  let i := FeedIx f
  if (d.fld (FEED.FCFG_DMG i)).testBit 0 && !d.feedOn f && vbus < 2 * src && 2 * msec ≤ held
      && decide ((d.feed f).offAt + held ≤ d.feedClk) then
    d.feedDamage f (FEED.FSTAT_FEED_DAMAGE_O i) Ev.FEED_DAMAGE_O
  else d

def execFeedDamageO (f : FeedId) (src vbus : BitVec 16) (held : Nat) (s : State) : Host.Outcome State Fault Refusal :=
  s.runFeed fun d => d.feedDamageO f src.toNat vbus.toNat held

/-- Method G: 200 µs after a turn-on, within the tolerance of R192, V_GS below 2.0 V and less than 10 % of VINR
across the shunt: the gate goes off, a switchover trigger. -/
def Device.feedDamageG (d : Device) (f : FeedId) (vgs : Nat) (shunt : Int) : Device :=
  let i := FeedIx f
  let t := (d.feed f).onAt + 200 * usec
  if (d.fld (FEED.FCFG_DMG i)).testBit 1 && d.feedOn f && decide (t ≤ d.feedClk) && decide (d.feedClk < t + 10 * usec)
      && vgs < 20 && decide (10 * shunt < 50 * (d.fld ⟨FEED.VINR i, 0, 10⟩ : Int)) then
    (d.feedDamage f (FEED.FSTAT_FEED_DAMAGE_G i) Ev.FEED_DAMAGE_G).trigger f .damage false
  else d

def execFeedDamageG (f : FeedId) (vgs : BitVec 8) (shunt : Int) (s : State) : Host.Outcome State Fault Refusal :=
  s.runFeed fun d => d.feedDamageG f vgs.toNat shunt

/-! ## Revert, selection, switchover (R201–R205) -/

/-- R201: the PRI feed has stayed qualified and available for RVT. -/
def Device.feedRevert (d : Device) : Device :=
  let p := d.priFeed
  if d.flag FEED.CFG_REVERT && !d.flag FEED.STAT_MANUAL && d.switch.isNone && d.activeFeed = some (otherFeed p)
      && d.usable p && decide ((d.feed p).qualAt + d.fld FEED.CFG_RVT * 100 * msec ≤ d.feedClk) then
    d.startSwitch p .revert
  else d

def execFeedRevert (s : State) : Host.Outcome State Fault Refusal := s.runFeed fun d => d.feedRevert

/-- R203, step 4: the second consecutive true sample, from t0 + 3 µs to t0 + 8 µs; the incoming gate
drive is released. After an abandoned sequence the samples go on, and the outgoing feed no longer inhibits the other. -/
def Device.feedVerified (d : Device) : Device :=
  match d.switch with
  | none =>
    let ok := fun (x : Feed) => if x.outOfService then x else { x with unverified := false }
    (d.modFeed .fa ok).modFeed .fb ok
  | some x =>
    if x.verified || d.feedClk < x.t0 + 300 || x.t0 + 800 < d.feedClk then d
    else
      let d := (d.raise (FEED.FSTAT_ON (FeedIx x.incoming))).modFeed x.incoming fun y => { y with onAt := d.feedClk, ftmr := 0 }
      { d with switch := some { x with verified := true } }

def execFeedVerified (s : State) : Host.Outcome State Fault Refusal := s.runFeed fun d => d.feedVerified

/-- R204: no verification by t0 + 8 µs: the outgoing feed is out of service and the incoming one is
withheld. -/
def Device.verifyFail (d : Device) (gateTest : Bool) : Device :=
  match d.switch with
  | none => d
  | some x =>
    if x.verified || d.feedClk < x.t0 + 800 then d
    else
      let out := otherFeed x.incoming
      let d := { d.lower FEED.STAT_SWITCHING with switch := none }
      let d := ((d.raise FEED.STAT_VERIFY_FAIL).lower FEED.STAT_MANUAL).log Ev.FEED_VERIFY_FAIL [FeedIx out, gateTest.toNat]
      let d := (d.modFeed out fun x => { x with outOfService := true, unverified := true }).feedAvail out
      (d.runningFault d.feedSlot causeFeed).selectAgain x

def execFeedVerifyFail (gateTest : Bool) (s : State) : Host.Outcome State Fault Refusal :=
  s.runFeed fun d => d.verifyFail gateTest

/-- R203, steps 5 and 6: the gap ends; the incoming feed runs without an inrush window. -/
def Device.feedSwitch (d : Device) : Device :=
  match d.switch with
  | none => d
  | some x =>
    if !x.verified then d
    else
      let gap := min (d.feedClk - x.t0) 0xFFFF
      let d := { d.lower FEED.STAT_SWITCHING with switch := none }
      let d := ((d.setFld FEED.STAT_ACTIVE (feedCode x.incoming)).wr FEED.LASTGAP gap).countSat FEED.SWCNT
      let d := d.modFeed x.incoming fun y => { y with good := true, uv := false, ftmr := 0 }
      (((d.raise FEED.STAT_FEED_SWITCH).log Ev.FEED_SWITCH [x.cause.code, gap]).checkCancel).selectAgain x

def execFeedSwitch (s : State) : Host.Outcome State Fault Refusal := s.runFeed fun d => d.feedSwitch

end Sys2Proof.Machine
end

