-- ==== Sys2Proof/Machine/Power.lean ====
section
/-! DEFINITION. Machine/Power.lean: the edge-engine scan with what happens at its boundary (R70, R312,
R316), and the power commands (R315–R319). -/
namespace Sys2Proof.Machine

/-- The core is halted, or its halt ends; the watchdog is frozen meanwhile (R299, R312). -/
def Device.setHalted (d : Device) (b : Bool) : Device :=
  { (d.setFlag SEC.DBG_HALTED b).setFlag WDT.STAT_FROZEN b with wdt := { d.wdt with resumedAt := d.clk } }

/-- R70: a scan, in RUN (R30). At the scan boundary an accepted RUN begins (R316), and a debug halt
that waited for the safe states takes hold (R312). -/
def Device.edgeScan (d : Device) : Device :=
  let d := if d.inRun then d.scan else d
  let d :=
    if d.sec.runAtScan && d.fld SEC.PSTAT_STATE == stStandby then
      { d.setFld SEC.PSTAT_STATE stRun with sec := { d.sec with runAtScan := false } }
    else d
  if d.sec.haltAtScan then
    { (d.setHalted true).log Ev.DBG_HALT_SAFE [] with sec := { d.sec with haltAtScan := false } }
  else d

def execEdgeScan (s : State) : Host.Outcome State Fault Refusal := s.run fun d => d.edgeScan

/-- Results in SEC.PWRRES (R322). -/
def pwrOk : Nat := 0
def pwrNotRigged : Nat := 1
def pwrNotOn : Nat := 2
def pwrHalted : Nat := 3
def pwrBypassed : Nat := 4
def pwrNoFeed : Nat := 5
def pwrWrongState : Nat := 6

/-- R315: PWRCMD.WAKE; one that waits for feed power good reports NO_FEED. -/
def Device.pwrWake (d : Device) : Device :=
  if !d.inKeep || d.flag SEC.PSTAT_TRANS then d
  else d.requestWake.wr SEC.PWRRES (if d.feedGood then pwrOk else pwrNoFeed)

def Device.pwrRefused (d : Device) (why : Nat) : Device :=
  ((d.wr SEC.PWRRES why).raise SEC.STAT_PWR_REFUSED).log Ev.PWR_REFUSED [why]

/-- R316: PWRCMD.RUN. A STRIKE in force with STRIKEDROP prevails (R319). -/
def Device.pwrRun (d : Device) : Device :=
  if d.fld SEC.PSTAT_STATE != stStandby then d.pwrRefused pwrWrongState
  else if !d.rigged then d.pwrRefused pwrNotRigged
  else if d.seqState != seqOn then d.pwrRefused pwrNotOn
  else if d.flag RING.RSTAT_BYPASS then d.pwrRefused pwrBypassed
  else if d.flag SEC.DBG_HALTED then d.pwrRefused pwrHalted
  else if d.flag SEC.PCFG_STRIKEDROP && d.flag BANK.STRIKESTAT_ACTIVE then d.pwrRefused pwrWrongState
  else { d.wr SEC.PWRRES pwrOk with sec := { d.sec with runAtScan := true } }

/-- R315, R317: PWRCMD.KEEP cancels a wake that has not begun its power-up, and starts a power-down. -/
def Device.pwrKeep (d : Device) : Device :=
  let d := d.lower SEC.PSTAT_WAKEPEND
  let d := if d.inKeep && !d.rck.pll then d.lower SEC.PSTAT_TRANS else d
  d.requestOff

/-- SEC.PWRCMD written whole: one bit per write, otherwise no effect (R322). -/
def Device.pwrCmd (d : Device) (v : Nat) : Device :=
  if v % 16 = 1 then d.pwrWake
  else if v % 16 = 2 then d.pwrRun
  else if v % 16 = 4 then d.leaveRun
  else if v % 16 = 8 then d.pwrKeep
  else d

def execPwrWake (w : Writer) (s : State) : Host.Outcome State Fault Refusal :=
  s.run fun d => d.asWright w 0x11 0x06 Device.pwrWake

def execPwrRun (w : Writer) (s : State) : Host.Outcome State Fault Refusal :=
  s.run fun d => d.asWright w 0x11 0x06 Device.pwrRun

def execPwrStandby (w : Writer) (s : State) : Host.Outcome State Fault Refusal :=
  s.run fun d => d.asWright w 0x11 0x06 Device.leaveRun

def execPwrKeep (w : Writer) (s : State) : Host.Outcome State Fault Refusal :=
  s.run fun d => d.asWright w 0x11 0x06 Device.pwrKeep

end Sys2Proof.Machine
end

