-- ==== Sys2Proof/Machine/Link.lean ====
section
/-! DEFINITION. Machine/Link.lean: the Stayline link layer: sync and training (R144, R158–R161), breaks
(R162, R163), cells forwarded, received and aborted (R147–R151, R154–R157). -/
namespace Sys2Proof.Machine

def Device.modPort (d : Device) (p : Port) (f : PortSt → PortSt) : Device := d.setPort p (f (d.port p))
def Device.modRing (d : Device) (f : Ring → Ring) : Device := { d with ring := f d.ring }

/-- The highest supported and the running protocol version. -/
def Device.ver (d : Device) : Nat := d.fld RING.VRUN_V

/-! ## Breaks (R160, R162) -/

/-- The head enumerates after a break or heal that it logs or receives (R177). -/
def Device.askQuery (d : Device) : Device :=
  if d.isHead then d.modRing fun r => { r with queryPend := true } else d

/-- The copy of the cell that still arrives on port `p`, waiting or on its way out: `f` of it and of its forwarding
delay; the cell has arrived or will not. -/
def Device.modLive (d : Device) (p : Port) (f : Nat → CellBits → CellBits) : Device :=
  d.modPort (otherPort p) fun x =>
    { x with
      fwd := x.fwd.map fun e => match e.live with
        | some k => { cell := f k e.cell, live := none }
        | none => e
      out := match x.outLive with
        | some k => f k x.out
        | none => x.out
      outLive := none }

/-- The cell with its CRC computed anew (R147), or the stomped form of that (R150). -/
def sealCell (stomped : Bool) (x : Nat) : CellBits :=
  let crc := crc16 (toBytes 17 (x / 256))
  BitVec.ofNat 160 (setBits x 144 16 (if stomped then crc ^^^ 0xFFFF else crc))

/-- An UP or SYNC port goes DOWN (R160, R162); a cell that was passing through ends early (R150). -/
def Device.goDown (d : Device) (p : Port) (report : Bool) : Device :=
  let i := PortIx p
  if d.portState p != portSync && d.portState p != portUp then d
  else
    let d := (d.setFld (RING.PSTAT_STATE i) portDown).countSat (RING.DOWNCNT i)
    let d := d.when report fun d => (d.raise (RING.PSTAT_LINK_DOWN i)).log Ev.LINK_DOWN [i]
    let d := ((d.modLive p fun _ c => sealCell true c.toNat).portClear p).chainFlags
    ((d.raise RING.LSTAT_RING_BREAK).log Ev.RING_BREAK [i]).askQuery

/-- R144, R165: sync is lost; the code violations since the last cell count. -/
def Device.syncLost (d : Device) (p : Port) (plus : Bool) (gs : List (BitVec 10)) (violations : Nat) : Device :=
  if (d.portState p == portSync || d.isUp p) && loses plus gs then
    (d.count (RING.CVCNT (PortIx p)) violations).goDown p true
  else d

def execSyncLost (p : Port) (plus : Bool) (gs : List (BitVec 10)) (violations : Nat) (s : State) :
    Host.Outcome State Fault Refusal :=
  s.run fun d => d.syncLost p plus gs violations
def execLossOfSignal (p : Port) (s : State) : Host.Outcome State Fault Refusal := s.run fun d => d.goDown p true

/-- R158: RETRE and RETRW force a port DOWN; R160 logs LINK_DOWN for its own four causes alone. -/
def Device.retrain (d : Device) (v : Nat) : Device :=
  let d := if v.testBit 0 then d.goDown .east false else d
  if v.testBit 1 then d.goDown .west false else d

def execLinkRetrain (w : Writer) (v : BitVec 8) (s : State) : Host.Outcome State Fault Refusal :=
  s.run fun d => d.asWriter w fun d => d.retrain v.toNat

/-! ## Training (R158, R159) -/

/-- R144, R158: sync is acquired on an enabled port that is DOWN. R160 counts its 1 ms from the last HELLO received;
before any has come the model counts it from this tide (notes/assumptions/78.md). -/
def Device.syncAcquired (d : Device) (p : Port) (plus : Bool) (gs : List (BitVec 10)) : Device :=
  if d.portState p == portDown && d.rck.pll && d.portEnabled p && acquires plus gs then
    (d.setFld (RING.PSTAT_STATE (PortIx p)) portSync).modPort p fun x =>
      { x with rx := [], linkq := [], helloOk := false, helloRx := d.now, helloTx := 0, badRx := 0
               pingT1 := none, pingOut := none, results := [], pingAt := 0, pingTx := 0 }
  else d

def execSyncAcquired (p : Port) (plus : Bool) (gs : List (BitVec 10)) (s : State) : Host.Outcome State Fault Refusal :=
  s.run fun d => d.syncAcquired p plus gs

/-- Ticks of a cell (R145), of the two idle code groups after it, and of one (R144). -/
def cellTicks : Nat := 640
def idleTicks : Nat := 32

/-- A cell leaves on a port: the next own one begins two idle code groups after its end. The cell 0 ends with K30.7
after its SOC. -/
def Device.cellOut (d : Device) (p : Port) (c : CellBits) (live : Option Nat) : Device :=
  let long := if c = 0 then 2 * idleTicks else cellTicks
  (d.modPort p fun x => { x with out := c, outLive := live, freeAt := d.clk + long + 2 * idleTicks }).count
    (RING.TXCELLS (PortIx p))

/-- A LINK cell leaves on the port (R161). The rule fixes its TYPE, DST, HOP and SEQ; the model sends SEG 0 and LAST 1
(notes/assumptions/78.md). -/
def Device.sendLink (d : Device) (p : Port) (pay : List Nat) : Device :=
  d.cellOut p (BitVec.ofNat 160 (cellBytes true d.addr 0 0 true 0 0 0 d.ver pay)) none

/-- The instant at which a PING falls due (R158, step 4; R159): in UP not within 250 µs of the last PING or ECHO. The
rounds of sixteen begin once every second. -/
def Device.pingDue (d : Device) (p : Port) : Nat :=
  let x := d.port p
  if d.isUp p then
    max (x.pingAt + 250 * usec) (if x.results = [] && x.pingOut.isNone then x.roundAt + second else x.pingTx + 2 * msec)
  else x.pingTx + 10 * usec

/-- A waiting LINK cell may leave now: an ECHO in UP not within 250 µs of the last PING or ECHO (R159). -/
def Device.linkReady (d : Device) (p : Port) : LinkOut → Bool
  | .hello => true
  | .ping => (d.port p).pingTx == 0 || decide (d.pingDue p ≤ d.now)
  | .echo _ _ => !d.isUp p || decide ((d.port p).pingAt + 250 * usec ≤ d.now)

/-- A LINK cell leaves with what it says of this instant. RXOK: the receiver is in sync. An exchange without ECHO is
made again with its number. -/
def Device.linkOut (d : Device) (p : Port) : LinkOut → Device
  | .hello =>
    (d.sendLink p ([0, 1 + 2 * PortIx p] ++ toBytes 2 d.addr ++ [d.rd RING.VERSUP])).modPort p fun x =>
      { x with helloTx := d.now }
  | .ping =>
    let x := d.port p
    let num := x.results.length
    (d.sendLink p [1, num]).modPort p fun x =>
      { x with pingNum := num, pingT1 := some d.now, pingOut := some num, pingAt := d.now, pingTx := d.now
               roundAt := if x.results = [] && x.pingOut.isNone then d.now else x.roundAt }
  | .echo n t2 => (d.sendLink p ([2, n] ++ toBytes 3 (d.now - t2))).modPort p fun x => { x with pingAt := d.now }

/-- R152: an own cell may begin: a cell boundary, nothing to forward, no STRIKE that waits. -/
def Device.ownTurn (d : Device) (p : Port) (incoming : Bool) : Bool :=
  let x := d.port p
  decide (x.freeAt ≤ d.clk) && x.fwd.isEmpty && !incoming
    && (d.flag RING.LSTAT_QUIET || d.ring.txq.all fun m => m.msg.type != .strike || !m.waits p)

/-- The first LINK cell that waits and may leave goes, before the device's own messages (R185; notes/assumptions/78.md). -/
def Device.startLink (d : Device) (p : Port) (incoming : Bool) : Device :=
  if !d.ownTurn p incoming then d
  else
    match (d.port p).linkq.find? (d.linkReady p) with
    | none => d
    | some o => (d.modPort p fun x => { x with linkq := x.linkq.erase o }).linkOut p o

/-- A LINK cell joins those that wait, and begins where it may. -/
def Device.askLink (d : Device) (p : Port) (o : LinkOut) (incoming : Bool) : Device :=
  (if (d.port p).linkq.contains o then d else d.modPort p fun x => { x with linkq := x.linkq ++ [o] }).startLink p incoming

/-- R158, R161: a HELLO, every 10 µs in SYNC and at the first cell boundary at least 250 µs after the last in UP. -/
def Device.helloSend (d : Device) (p : Port) (incoming : Bool) : Device :=
  let x := d.port p
  let gap := if d.isUp p then 250 * usec else 10 * usec
  if (d.portState p == portSync || d.isUp p) && (x.helloTx == 0 || decide (x.helloTx + gap ≤ d.now)) then
    d.askLink p .hello incoming
  else d

def execHelloSend (p : Port) (incoming : Bool) (s : State) : Host.Outcome State Fault Refusal :=
  s.run fun d => d.helloSend p incoming

/-- The oldest LINK cell received that `f` takes, and the port without it. -/
def takeLink {α : Type} (f : LinkMsg → Option α) : List LinkMsg → Option (α × List LinkMsg)
  | [] => none
  | m :: t => match f m with
    | some a => some (a, t)
    | none => (takeLink f t).map fun r => (r.1, m :: r.2)

/-- R158, R160: a HELLO is read: peer, versions, and three with RXOK = 0 in succession. -/
def Device.helloReceive (d : Device) (p : Port) : Device :=
  let i := PortIx p
  match takeLink (fun m => match m with | .hello ok pp a lo hi => some (ok, pp, a, lo, hi) | _ => none) (d.port p).rx with
  | none => d
  | some ((ok, pp, a, lo, hi), rest) =>
    let d := (d.modPort p fun x =>
      { x with rx := rest, helloRx := d.now, helloOk := x.helloOk || ok, badRx := if ok then 0 else x.badRx + 1 }).setFlag
      (RING.PSTAT_PEERRX i) ok
    if ok then
      (((d.setFld (RING.PEER_ADDR i) a).setFld (RING.PEER_PORT i) pp).setFld (RING.PEERVER_LO i) lo).setFld
        (RING.PEERVER_HI i) hi
    else if 3 ≤ (d.port p).badRx then d.goDown p true
    else d

def execLinkHelloReceive (p : Port) (s : State) : Host.Outcome State Fault Refusal := s.run fun d => d.helloReceive p

/-- R160: no valid HELLO for 1 ms. -/
def Device.helloTimeout (d : Device) (p : Port) : Device :=
  if (d.port p).helloRx + msec ≤ d.now then d.goDown p true else d

def execHelloTimeout (p : Port) (s : State) : Host.Outcome State Fault Refusal := s.run fun d => d.helloTimeout p

/-- R158, step 4, R159: a PING falls due. -/
def Device.pingSend (d : Device) (p : Port) (incoming : Bool) : Device :=
  let ready := d.isUp p || (d.portState p == portSync && (d.port p).helloOk)
  if ready && d.linkReady p .ping then d.askLink p .ping incoming else d

def execPingSend (p : Port) (incoming : Bool) (s : State) : Host.Outcome State Fault Refusal :=
  s.run fun d => d.pingSend p incoming

/-- R159: the oldest PING draws an ECHO. -/
def Device.pingReceive (d : Device) (p : Port) (incoming : Bool) : Device :=
  match takeLink (fun m => match m with | .ping n t2 => some (n, t2) | _ => none) (d.port p).rx with
  | none => d
  | some ((n, t2), rest) => (d.modPort p fun x => { x with rx := rest }).askLink p (.echo n t2) incoming

def execPingReceive (p : Port) (incoming : Bool) (s : State) : Host.Outcome State Fault Refusal :=
  s.run fun d => d.pingReceive p incoming

/-- R158, step 5, R163: a port comes UP. -/
def Device.portRises (d : Device) (p : Port) : Device :=
  let i := PortIx p
  let heal := d.isUp (otherPort p)
  let d := ((d.setFld (RING.PSTAT_STATE i) portUp).raise (RING.PSTAT_LINK_UP i)).log Ev.LINK_UP [i, d.rd (RING.LDLY i)]
  let d := (d.chainFlags.modRing fun r => { r with upSince := true }).modPort p fun x => { x with upAt := d.clk }
  let d := if heal then ((d.raise RING.LSTAT_RING_HEAL).log Ev.RING_HEAL [i]).askQuery else d
  d.openWindow

/-- R159: 16 results are in, each 2 × d: LDLY is their mean, if the spread is at most 40 ns. R165 gives LDSPRD's unit
and saturation and no rounding: the model rounds an odd number of half ticks up (notes/assumptions/78.md). -/
def Device.measured (d : Device) (p : Port) (rs : List Int) : Device :=
  let i := PortIx p
  let hi := rs.foldl max (rs.headD 0)
  let lo := rs.foldl min (rs.headD 0)
  let spread := (hi - lo).toNat
  let d := (d.wr (RING.LDSPRD i) (min 255 (ceilDiv spread 2))).modPort p fun x =>
    { x with results := [] }
  if spread ≤ 8 then
    let d := d.wr (RING.LDLY i) (unsigned 16 (roundDiv (rs.foldl (· + ·) 0) 32))
    if d.isUp p then d else d.portRises p
  else d

/-- R159: an ECHO ends the exchange under way: 2 d = (t4 − t1) − (t3 − t2). -/
def Device.echoReceive (d : Device) (p : Port) : Device :=
  match takeLink (fun m => match m with | .echo n h t4 => some (n, h, t4) | _ => none) (d.port p).rx with
  | none => d
  | some ((n, hold, t4), rest) =>
    let x := d.port p
    let d := d.modPort p fun x => { x with rx := rest }
    match x.pingT1 with
    | none => d
    | some t1 =>
      if x.pingOut ≠ some n then d
      else
        let rs := ((t4 : Int) - t1 - hold) :: x.results
        let d := d.modPort p fun x => { x with pingT1 := none, pingOut := none, results := rs }
        if rs.length < 16 then d else d.measured p rs

def execEchoReceive (p : Port) (s : State) : Host.Outcome State Fault Refusal := s.run fun d => d.echoReceive p

/-- R161: the rise of CRCCNT in the last whole second of tide is compared with DEGTHR. -/
def Device.degrade (d : Device) (p : Port) : Device :=
  let i := PortIx p
  let rise := (d.port p).crcRise
  let bad := decide (d.fld RING.LCFG_DEGTHR < rise)
  let d := d.when (bad && !d.flag (RING.PSTAT_DEGRADED i)) fun d =>
    (d.raise (RING.PSTAT_LINK_DEGRADED i)).log Ev.LINK_DEGRADED [i, rise]
  d.setFlag (RING.PSTAT_DEGRADED i) bad

/-- The last whole second is judged, once. -/
def Device.linkDegraded (d : Device) : Device :=
  if d.ring.second ≤ d.ring.degSec then d
  else ((d.degrade .east).degrade .west).modRing fun r => { r with degSec := r.second }

/-- A second of tide ends: the rise of CRCCNT in it is kept; that of the second before, if it was not judged yet, is
judged first. -/
def Device.secondTick (d : Device) : Device :=
  let k := d.now / second
  if k = d.ring.second then d
  else
    let note := fun (d : Device) (p : Port) =>
      let c := d.rd (RING.CRCCNT (PortIx p))
      d.modPort p fun x => { x with crcRise := (c + 2 ^ 32 - x.crcBase) % 2 ^ 32, crcBase := c }
    (note (note d.linkDegraded .east) .west).modRing fun r => { r with second := k, degSec := k - 1 }

def execLinkDegraded (s : State) : Host.Outcome State Fault Refusal := s.run fun d => d.linkDegraded

/-! ## Forwarding (R149–R151) -/

/-- SRC is this device's own, or the one it used until less than 10 ms ago (R149). -/
def Device.ownSrc (d : Device) (src : Nat) : Bool :=
  (src == d.addr && d.addr != 0)
    || (src == d.ring.prevAddr && d.ring.prevAddr != 0 && decide (d.clk < d.ring.addrAt + 10 * msec))

/-- A returned ENUM report cell that carries another device's serial (R178): bytes 3–8 of the serial
stand in segment 0, bytes 9–10 in segment 1 (R177). -/
def Device.foreignSerial (d : Device) (f : Cell) : Bool :=
  f.crc == f.crcCalc && f.type == 9 &&
    ((f.seg == 0 && byteAt f.payload 0 == 1 && fieldAt f.payload 3 6 != d.rd SYS.SERIAL % 2 ^ 48)
      || (f.seg == 1 && fieldAt f.payload 0 2 != d.rd SYS.SERIAL / 2 ^ 48))

/-- The outgoing copy (R150): HOP + 1, the age of a BEACON's segment 0, a new CRC, and every other bit as it
arrived; stomped where the incoming CRC fails. -/
def Device.copyOf (d : Device) (p : Port) (c : CellBits) (fwdDelay : Nat) : CellBits :=
  let f := cellFields c.toNat
  let x := setBits c.toNat 56 12 (f.hop + 1)
  let x :=
    if f.type = 1 && f.seg = 0 then
      setBits x 72 16 (min 0xFFFF (fieldAt f.payload 0 2 + d.rd (RING.LDLY (PortIx p)) + fwdDelay))
    else x
  sealCell (f.crc != f.crcCalc) x

/-- Byte 0 is one of the two start-of-cell code groups (R143, R145). -/
def startsCell (c : CellBits) : Bool := c.toNat % 256 == socCell || c.toNat % 256 == socLink

/-- Ticks from a SOC to the end of byte 2 (R149, R153). -/
def decideTicks : Nat := 3 * idleTicks

/-- R149: the port is UP, and a cell whose SOC came `ago` ticks ago came after it rose. -/
def Device.upFor (d : Device) (p : Port) (ago : Nat) : Bool := d.isUp p && decide ((d.port p).upAt + ago < d.clk)

/-- R149–R151: the forwarding decision on a cell that arrives on port `p`. At the hop limit the copy begins, and ends
with K30.7. -/
def Device.cellForward (d : Device) (p : Port) (c : CellBits) (fwdDelay : Nat) : Device :=
  let f := cellFields c.toNat
  if !d.upFor p decideTicks || !startsCell c || f.link then d
  else if d.ownSrc f.src then
    let d := d.count RING.OWNRM
    if f.src == d.addr && d.foreignSerial f && !d.flag RING.RSTAT_CONFLICT then
      (d.raise RING.RSTAT_CONFLICT).log Ev.ADDR_CONFLICT [d.addr]
    else d
  else if !d.isUp (otherPort p) then d
  else if d.rd RING.HOPLIM ≤ f.hop + 1 then
    (d.count RING.HLIMCNT).modPort (otherPort p) fun x => { x with fwd := x.fwd ++ [{ cell := 0 }] }
  else d.modPort (otherPort p) fun x => { x with fwd := x.fwd ++ [{ cell := d.copyOf p c fwdDelay, live := some fwdDelay }] }

def execCellForward (p : Port) (c : CellBits) (fwdDelay : Nat) (s : State) : Host.Outcome State Fault Refusal :=
  s.run fun d => d.cellForward p c fwdDelay

/-- R151: K30.7 arrives on a cell. A copy that has not begun is dropped; one that has ends with K30.7. -/
def Device.cellAbort (d : Device) (p : Port) : Device :=
  if d.portState p != portSync && !d.isUp p then d
  else
    (d.countSat (RING.ABORTCNT (PortIx p))).modPort (otherPort p) fun x =>
      { x with fwd := x.fwd.filter fun e => e.live.isNone
               out := if x.outLive.isSome then 0 else x.out
               freeAt := if x.outLive.isSome then d.clk + 3 * idleTicks else x.freeAt
               outLive := none }

def execCellAbort (p : Port) (s : State) : Host.Outcome State Fault Refusal := s.run fun d => d.cellAbort p

/-! ## Delivery (R154–R157, R166, R168) -/

/-- A message a receiver discards: head-only, from a device that is not the current head (R166). -/
def Device.notHead (d : Device) (m : Msg) : Bool :=
  (match m.type with
    | .edge | .activate => true
    | .enum => byteAt m.data 0 == 0
    | _ => false) && m.addr != d.fld RCK.HEAD_ADDR

/-- Of messages delivered in one tick, that of the East port comes first (R156). -/
def inOrder (l : List Msg) (m : Msg) : List Msg :=
  if m.port == .west then l ++ [m]
  else
    let early := fun (x : Msg) => !(x.took == m.took && x.port == .west)
    l.filter early ++ m :: l.filter fun x => !early x

/-- A complete message is delivered. -/
def Device.deliverMsg (d : Device) (m : Msg) : Device :=
  if d.notHead m then d.countSat RING.NOTHEADCNT
  else if (m.type == .event || (m.type == .enum && byteAt m.data 0 != 0)) && !d.isHead then d
  else d.modRing fun r => { r with inbox := inOrder r.inbox { m with took := d.clk } }

/-- Payload of a complete partial message, its segments in order. -/
def Partial.payload (x : Partial) : List Nat :=
  ((List.range 4).map fun i => ((look x.segs i).map fun l => (List.range 9).map (byteAt l)).getD []).flatten

def Partial.complete (x : Partial) : Bool :=
  match x.last with
  | none => false
  | some n => (List.range (n + 1)).all fun i => (look x.segs i).isSome

/-- The record of a source, with a newer SEQ where the present one is newer (R155). -/
def Device.srcRec (d : Device) (src : Nat) : Option SrcRec := d.ring.srcs.find? fun r => r.src == src

def Device.putSrc (d : Device) (x : SrcRec) : Device :=
  d.modRing fun r => { r with srcs := x :: r.srcs.filter fun y => y.src != x.src }

/-- How far `seq` lies behind `newest`. -/
def behind (newest seq : Nat) : Nat := (newest + 2 ^ 16 - seq % 2 ^ 16) % 2 ^ 16

/-- A segment is accepted: the newest SEQ and what has been seen of the 64 before it (R155). -/
def Device.noteSeg (d : Device) (src seq seg : Nat) (port : Option Port) : Device :=
  match d.srcRec src with
  | none => d.putSrc { src := src, newest := seq, seen := [(seq, seg, port)], lastCell := d.clk }
  | some x =>
    let newest := if seqNewer 16 seq x.newest then seq else x.newest
    let seen := ((seq, seg, port) :: x.seen).filter fun e => behind newest e.1 < 64
    d.putSrc { x with newest := newest, seen := seen, lastCell := d.clk }

/-- The mark that a beacon's message has been delivered (R168). -/
def doneSeg : Nat := 4

/-- The segment repeats one already delivered, or lies outside the window (R154, R155, R168). -/
inductive SegFate where
  | fresh | dup | old
  deriving DecidableEq, Repr

def Device.segFate (d : Device) (f : Cell) (port : Option Port) : SegFate :=
  match d.srcRec f.src with
  | none => .fresh
  | some x =>
    if !seqNewer 16 f.seq x.newest && 64 ≤ behind x.newest f.seq then .old
    else if x.seen.any fun e => e.1 == f.seq && ((e.2.1 == f.seg && e.2.2 == port) || e.2.1 == doneSeg) then .dup
    else .fresh

/-- Room for a new partial message among 16: the oldest is discarded (R155). -/
def Device.roomForPart (d : Device) : Device :=
  if d.ring.parts.length < 16 then d
  else (d.modRing fun r => { r with parts := r.parts.tail }).count RING.RASMTO

/-- A partly assembled message with one more segment. -/
def Device.growPart (d : Device) (p : Port) (f : Cell) (stamp : Nat) (x : Partial) : Partial :=
  { x with segs := put x.segs f.seg f.payload
           last := if f.last then some f.seg else x.last
           stamp := if f.seg = 0 then stamp else x.stamp
           age := if f.seg = 0 then fieldAt f.payload 0 2 + d.rd (RING.LDLY (PortIx p)) else x.age }

/-- R156, R168: the East copy of a beacon is complete in the tick in which the West copy was: it is the one delivered. -/
def Device.eastFirst (d : Device) (p : Port) (f : Cell) (stamp : Nat) : Device :=
  match d.ring.eastCopy with
  | none => d
  | some (t, y) =>
    let x := d.growPart p f stamp y
    if p != .east || t != d.clk || y.src != f.src || y.seq != f.seq || !x.complete then d
    else
      d.modRing fun r =>
        { r with inbox := r.inbox.map fun m =>
            if m.type == .beacon && m.took == t && m.addr == f.src && m.port == .west then
              { m with data := x.payload, port := .east, stamp := x.stamp, age := x.age }
            else m }

/-- R154, R168: a valid, fresh segment is assembled; the message is delivered when it is complete. -/
def Device.assemble (d : Device) (p : Port) (f : Cell) (t : MsgType) (stamp : Nat) : Device :=
  let port := if t == .beacon then some p else none
  let d := d.noteSeg f.src f.seq f.seg port
  let isMine := fun (x : Partial) => x.src == f.src && x.seq == f.seq && x.port == port
  let d := if d.ring.parts.any isMine then d
    else d.roomForPart.modRing fun r =>
      { r with parts := r.parts ++ [{ src := f.src, seq := f.seq, type := t, port := port, segs := [], last := none, since := d.now }] }
  let grow := fun x => d.growPart p f stamp x
  let d := d.modRing fun r => { r with parts := r.parts.map fun x => if isMine x then grow x else x }
  match d.ring.parts.find? isMine with
  | none => d
  | some x =>
    if !x.complete then d
    else
      -- of a beacon, every segment of the other copy counts as a duplicate (R168)
      let other := fun (y : Partial) => t == .beacon && y.src == f.src && y.seq == f.seq && y.port != port
      let dups := (d.ring.parts.filter other).foldl (fun n y => n + y.segs.length) 0
      let d := d.modRing fun r =>
        { r with parts := r.parts.filter fun y => !(isMine y) && !(other y)
                 eastCopy := if t == .beacon && p == .west then (r.parts.find? other).map fun y => (d.clk, y) else r.eastCopy }
      let d := if t == .beacon then (d.noteSeg f.src f.seq doneSeg none).count RING.DUPCNT dups else d
      d.deliverMsg { type := x.type, addr := f.src, data := x.payload, port := p, bcast := f.dst == 0xFFF
                     stamp := x.stamp, age := x.age }

/-- Another device's report of the standby role, in an ENUM report that passes (R179). -/
def Device.snoop (d : Device) (f : Cell) : Device :=
  if f.type == 9 && f.seg == 1 && byteAt f.payload 2 == 2 && d.ring.enumOpen then
    d.modRing fun r => { r with standbySeen := true }
  else d

/-- R177: hops of each copy of an ENUM query. -/
def Device.noteHops (d : Device) (p : Port) (f : Cell) : Device :=
  if f.type == 9 && f.seg == 0 && byteAt f.payload 0 == 0 && f.src == d.fld RCK.HEAD_ADDR then
    let q := fieldAt f.payload 1 2
    d.modRing fun r =>
      let r := if r.hopQ == q then r else { r with hopQ := q, hopE := 0xFFFF, hopW := 0xFFFF }
      match p with
      | .east => { r with hopE := f.hop + 1 }
      | .west => { r with hopW := f.hop + 1 }
  else d

/-- A valid LINK cell joins those the port has received (R161). -/
def Device.linkCell (d : Device) (p : Port) (f : Cell) (soc : Nat) : Device :=
  let b := byteAt f.payload
  let m : Option LinkMsg :=
    if b 0 = 0 then some (.hello ((b 1).testBit 0) (bitsOf (b 1) 1 1) (fieldAt f.payload 2 2 % 4096) (b 4 % 16) (b 4 / 16 % 16))
    else if b 0 = 1 then some (.ping (b 1) soc)
    else if b 0 = 2 then some (.echo (b 1) (fieldAt f.payload 2 3) soc)
    else none
  match m with
  | some m => d.modPort p fun x => { x with rx := x.rx ++ [m] }
  | none => d

/-- A valid cell other than a LINK cell, on an UP port. One of another version counts, of a reserved type too, but for
ENUM (R181). -/
def Device.dataCell (d : Device) (p : Port) (f : Cell) (soc : Nat) : Device :=
  let d := match d.srcRec f.src with
    | some x => d.putSrc { x with lastCell := d.clk }
    | none => d
  let d := (d.snoop f).noteHops p f
  if d.ownSrc f.src then d
  else if f.ver != d.ver && f.type != 9 then d.count RING.VERCNT
  else
    match msgType f.type with
    | none => d
    | some t =>
      if !(f.dst == 0xFFF || (f.dst == d.addr && d.addr != 0)) then d
      else match d.segFate f (if t == .beacon then some p else none) with
        | .old => d.count RING.OLDCNT
        | .dup => (if t == .beacon then d.eastFirst p f soc else d).count RING.DUPCNT
        | .fresh => d.assemble p f t soc

/-- R150: what the end of the incoming cell makes of its copy. -/
def Device.endCopy (d : Device) (p : Port) (c : CellBits) (a : Arrival) : Device :=
  d.modLive p fun delay copy =>
    if a.missing != 0 then sealCell true (d.copyOf p c delay).toNat
    else if a.violations != 0 then sealCell true copy.toNat
    else copy

/-- R147, R149, R161: a cell completes on a port. One with a code violation, or that ends early, is delivered nowhere
and its copy is stomped (R150); which counter an early end moves the rules do not say: the model counts it with the CRC
failures (notes/assumptions/36.md). -/
def Device.cellReceive (d : Device) (p : Port) (c : CellBits) (a : Arrival) : Device :=
  let i := PortIx p
  if (d.portState p != portSync && !d.isUp p) || !startsCell c then d
  else
    let d := (d.endCopy p c a).count (RING.CVCNT i) (a.violations + a.outside)
    let f := cellFields c.toNat
    if a.violations != 0 then d
    else if a.missing != 0 then d.count (RING.CRCCNT i)
    else if f.crc == f.crcCalc ^^^ 0xFFFF then d.count (RING.STOMPCNT i)
    else if f.crc != f.crcCalc || (f.link && f.type != 0) || (!f.link && f.type == 0) then d.count (RING.CRCCNT i)
    else
      let d := d.count (RING.RXCELLS i)
      if f.link then d.linkCell p f (d.now - a.sinceSoc)
      else if d.upFor p a.sinceSoc then d.dataCell p f (d.now - a.sinceSoc)
      else d

def execCellReceive (p : Port) (c : CellBits) (a : Arrival) (s : State) : Host.Outcome State Fault Refusal :=
  s.run fun d => d.cellReceive p c a

/-- R155: messages still incomplete 2 ms after their first segment are discarded. -/
def Device.rasmTimeout (d : Device) : Device :=
  let late := fun (x : Partial) => x.since + 2 * msec ≤ d.now
  let n := (d.ring.parts.filter late).length
  if n = 0 then d
  else (d.modRing fun r => { r with parts := r.parts.filter fun x => !late x }).count RING.RASMTO n

def execRasmTimeout (s : State) : Host.Outcome State Fault Refusal := s.run fun d => d.rasmTimeout

/-- R157, R171: 40 ms without a cell from a source: its record, and the RESPONSE kept for it, go. -/
def Device.forget (d : Device) (src : Nat) : Device :=
  match d.srcRec src with
  | none => d
  | some x =>
    if d.clk < x.lastCell + 40 * msec then d
    else d.modRing fun r =>
      { r with srcs := r.srcs.filter fun y => y.src != src, kept := r.kept.filter fun y => y.src != src }

def execSourceForget (src : BitVec 12) (s : State) : Host.Outcome State Fault Refusal := s.run fun d => d.forget src.toNat

/-- R157: the quiet time after power-on reset ends. -/
def Device.quietEnd (d : Device) : Device :=
  if d.flag RING.LSTAT_QUIET && decide (d.ring.quietTo ≤ d.clk) then
    (d.lower RING.LSTAT_QUIET).openWindow
  else d

def execQuietEnd (s : State) : Host.Outcome State Fault Refusal := s.run fun d => d.quietEnd

/-! ## Own transactions (R171, R172) -/

/-- Results in RING.TRES (R187). -/
def tresOk : Nat := 0
def tresTimeout : Nat := 1
def tresNotHead : Nat := 2
def tresBadRange : Nat := 3
def tresNoAddr : Nat := 5

def Device.tres (d : Device) (st : Nat) : Device := (d.setFld RING.TRES_STATUS st).lower RING.TRES_BUSY

/-- A request is queued with its TID; a retry keeps the TID (R171). -/
def Device.sendTrans (d : Device) (t : Trans) : Device :=
  d.queueMsg (if t.write then .write else .read) t.dst t.data

/-- R171, R172, R187: a write of 1 to TCTL.READ or TCTL.WRITE. A broadcast WRITE draws no RESPONSE. -/
def Device.startTrans (d : Device) (write : Bool) : Device :=
  let dst := d.rd RING.TDST % 4096
  if d.flag RING.TRES_BUSY then d
  else if d.addr = 0 || d.flag RING.RSTAT_BYPASS || d.flag RING.RSTAT_CONFLICT then d.tres tresNoAddr
  else if dst = 0 || (dst = 0xFFF && !write) then d.tres tresBadRange
  else
    let tid := ((look d.ring.tids dst).getD 0 + 1) % 256
    let head := [tid, d.rd RING.TPAGE, d.rd RING.TOFF, d.rd RING.TLEN]
    let data := if write then head ++ toBytes (min 32 (d.rd RING.TLEN)) (d.rd RING.TDATA) else head
    let t : Trans := { dst := dst, write := write, tid := tid, data := data, tries := 0, queued := d.now }
    let d := (d.modRing fun r => { r with tids := put r.tids dst tid }).sendTrans t
    if dst = 0xFFF then d.tres tresOk
    else ((d.setFld RING.TRES_STATUS tresOk).raise RING.TRES_BUSY).modRing fun r => { r with trans := r.trans ++ [t] }

def execRingRead (w : Writer) (s : State) : Host.Outcome State Fault Refusal :=
  s.run fun d => d.asWriter w fun d => d.startTrans false

def execRingWrite (w : Writer) (s : State) : Host.Outcome State Fault Refusal :=
  s.run fun d => d.asWriter w fun d => d.startTrans true

/-- TCTL written whole: both bits 1 have no effect (R187). -/
def Device.tctl (d : Device) (v : Nat) : Device :=
  if v % 4 = 1 then d.startTrans false else if v % 4 = 2 then d.startTrans true else d

/-- TTO has run out on a transaction: from the tide at which its request left; a request that will never leave, since
its ports went DOWN, from that at which it was queued. -/
def Device.transLate (d : Device) (t : Trans) : Bool :=
  let tto := d.rd RING.TTO * usec
  match t.sent with
  | some at' => decide (at' + tto ≤ d.now)
  | none =>
    (d.ring.txq.all fun m => !(m.msg.addr == t.dst && m.msg.data == t.data)) && decide (t.queued + tto ≤ d.now)

/-- R171: TTO has run out: the request goes again, or is abandoned after TRETRY retries. -/
def Device.transTimeout (d : Device) : Device :=
  match d.ring.trans.find? d.transLate with
  | none => d
  | some t =>
    let rest := d.ring.trans.filter fun x => x.dst != t.dst
    if t.tries < d.rd RING.TRETRY then
      (d.modRing fun r =>
        { r with trans := rest ++ [{ t with tries := t.tries + 1, queued := d.now, sent := none }] }).sendTrans t
    else
      let d := (d.modRing fun r => { r with trans := rest }).tres tresTimeout
      ((d.raise RING.RSTAT_TRANS_TIMEOUT).countSat RING.TTOCNT).log Ev.TRANS_TIMEOUT [t.dst]

def execTransTimeout (s : State) : Host.Outcome State Fault Refusal := s.run fun d => d.transTimeout

/-- R171: a RESPONSE ends the transaction whose TID it carries. -/
def Device.responseReceive (d : Device) : Device :=
  match d.takeMsg .response with
  | none => d
  | some (m, d) =>
    match d.ring.trans.find? fun t => t.dst == m.addr && t.tid == byteAt m.data 0 with
    | none => d
    | some t =>
      let d := (d.modRing fun r => { r with trans := r.trans.filter fun x => x.dst != t.dst }).tres (byteAt m.data 1)
      if t.write || byteAt m.data 1 != tresOk then d
      else
        let n := min 32 (byteAt m.data 2)
        d.setFld ⟨RING.TDATA, 0, 8 * n⟩ (fieldAt m.data 4 n)

def execResponseReceive (s : State) : Host.Outcome State Fault Refusal := s.run fun d => d.responseReceive

end Sys2Proof.Machine
end

