-- ==== Sys2Proof/Machine/Charger.lean ====
section
/-! DEFINITION. Machine/Charger.lean: the power path and the charger (R262–R275), and ship requests
(R276). VBAT operands in mV, IBAT in mA. -/
namespace Sys2Proof.Machine

def Device.modChg (d : Device) (f : Charger → Charger) : Device := { d with chg := f d.chg }

/-! ## Phases and thresholds (R265, R278) -/

def chgIdle : Nat := 0
def chgDetect : Nat := 1
def chgPre : Nat := 2
def chgCc : Nat := 3
def chgCv : Nat := 4
def chgTop : Nat := 5
def chgDone : Nat := 6
def chgFault : Nat := 7

def Device.phase (d : Device) : Nat := d.fld CHG.STAT_PHASE

/-- A phase is entered. -/
def Device.setPhase (d : Device) (p : Nat) : Device :=
  (d.setFld CHG.STAT_PHASE p).modChg fun c => { c with phaseAt := d.rck.tide, checkAt := d.rck.tide }

def Device.cells (d : Device) : Nat := 1 + d.fld CHG.CFG_CELLS
def Device.floatMv (d : Device) : Nat := 3400 + 5 * d.fld CHG.CFG_VFLT
def Device.ceiling (d : Device) : Nat := d.floatMv * d.cells
def Device.recharge (d : Device) : Nat := (d.floatMv - 25 * d.fld CHG.CFG_VRDROP) * d.cells
def Device.preMv (d : Device) : Nat := d.rd CHG.VPRE * 20 * d.cells

/-- A report of VBAT. -/
def Device.noteVbat (d : Device) (vbat : Nat) : Device := d.modChg fun c => { c with vbat := vbat }

/-- R275: HEALTHY, on VBAT as last reported. -/
def Device.healthy (d : Device) : Bool :=
  d.flag CHG.STAT_PRESENT && d.flag CHG.STAT_FETON && d.phase != chgFault
    && decide (d.rd CHG.BATOK * 20 * d.cells ≤ d.chg.vbat)

/-- The phase of a charge cycle under way, and the timer limits it is held to (R270). -/
def Device.cycling (d : Device) : Bool := d.phase == chgPre || d.phase == chgCc || d.phase == chgCv

/-- R270: the safety timer has reached one of its limits. -/
def Device.timerOut (d : Device) : Bool :=
  (d.phase == chgPre && decide (2 * d.rd CHG.TPRE * 60 * second ≤ d.chg.pre2))
    || (d.cycling && decide (2 * d.rd CHG.TSAFE * 360 * second ≤ d.chg.safe2))

/-- R270: the safety timer runs from the start of a cycle to its end and never stops within it; FAULT belongs to the
cycle (R272; notes/assumptions/83.md). -/
def Device.inCycle (d : Device) : Bool := decide (chgPre ≤ d.phase)

/-! ## What the charger does (R266–R273) -/

/-- The 10 mA sink on VBAT: the first step of a detection, and 20 ms every 10 s in TOPOFF and DONE (R267, R273). -/
def Device.sinking (d : Device) : Bool :=
  (d.phase == chgDetect && !d.chg.sourcing && !d.chg.absent)
    || ((d.phase == chgTop || d.phase == chgDone) && decide (d.chg.checkAt + 10 * second ≤ d.now))

/-- The charger delivers: not in DONE or FAULT, not while the NTC pauses it or the sink is applied (R268–R273). -/
def Device.charging (d : Device) : Bool :=
  !d.flag CHG.STAT_NTCSUSP && !d.sinking
    && (d.cycling || d.phase == chgTop || (d.phase == chgDetect && d.chg.sourcing))

/-- The most it delivers, in mA: 10 in detection, 50 in the first 100 ms of precharge, then IPRE, and ICHG from CC on. Its
voltage is limited to the ceiling throughout (R267, R268). -/
def Device.chargeLimit (d : Device) : Nat :=
  if !d.charging then 0
  else if d.phase = chgDetect then 10
  else if d.phase = chgPre then (if d.now < d.chg.phaseAt + 100 * msec then 50 else d.rd CHG.IPRE * 10)
  else d.rd CHG.ICHG * 10

/-- R263: the current in mA that VHOLD is charged with from VSYS; the switch is open in SHIP and OFF. -/
def Device.holdCurrent (d : Device) : Nat := if d.powered then 50 * 2 ^ d.fld CHG.HOLD_HICHG else 0

/-- The registers of the charger take a status and a cycle count again. -/
def Device.chgRegs (d : Device) (stat cycles : Nat) : Device := (d.wr CHG.STAT stat).wr CHG.CYCNT cycles

/-- An event is taken back: the charger and its bits as they were before it, and no log of it. -/
def Device.chgTakeBack (d : Device) (x : ChgDone) : Device :=
  let kept := fun e : Event => !(e.tide == d.now && x.code == some e.code)
  { d.chgRegs (setBits (setBits (d.rd CHG.STAT) 0 4 (bitsOf x.stat 0 4)) 16 5 (bitsOf x.stat 16 5)) x.cycles with
    chg := { x.before with vbat := d.chg.vbat }, chgLast := none
    events := d.events.filter kept, ring := { d.ring with evq := d.ring.evq.filter kept } }

/-- R274: whether an event of this rank may still apply in this tick, and the charger it applies to: an event of a
lower rank that came first is taken back. -/
def Device.chgTurn (d : Device) (rank : Nat) : Device × Bool :=
  match d.chgLast with
  | some x => if x.tick = d.clk then (if rank < x.rank then d.chgTakeBack x else d, decide (rank < x.rank)) else (d, true)
  | none => (d, true)

/-- R274: of the events of one tick only the first in rank applies: 1 removal, 2 expiry, 3 BAT_OV, 4 a transition. -/
def Device.chgEvent (d : Device) (rank : Nat) (code : Option Nat) (holds : Device → Bool) (f : Device → Device) : Device :=
  if (d.chgTurn rank).2 && holds (d.chgTurn rank).1 then
    { f (d.chgTurn rank).1 with
      chgLast := some ⟨d.clk, rank, (d.chgTurn rank).1.rd CHG.STAT, (d.chgTurn rank).1.rd CHG.CYCNT,
        (d.chgTurn rank).1.chg, code⟩ }
  else d

/-! ## Input and detection (R264, R266, R267) -/

/-- Detection begins. -/
def Device.enterDetect (d : Device) : Device :=
  (d.setPhase chgDetect).modChg fun c => { c with sourcing := false, absent := false }

/-- The charger starts where input is available and CFG.EN is 1. -/
def Device.chargerGo (d : Device) : Device :=
  if d.flag CHG.CFG_EN && d.flag CHG.STAT_CHGIN then (if d.phase = chgIdle then d.enterDetect else d)
  else if d.phase = chgIdle then d
  else d.setPhase chgIdle

/-- R266, R264: charger input becomes available, and the battery FET closes; or it goes, and the charge
cycle ends. -/
def Device.chgin (d : Device) (avail : Bool) : Device :=
  if d.flag CHG.STAT_CHGIN == avail then d
  else
    let d := d.setFlag CHG.STAT_CHGIN avail
    (d.when avail fun d => d.raise CHG.STAT_FETON).chargerGo

/-- R266: the comparator: VBUS is at least the larger of 6.0 V and VBAT + 2.0 V. -/
def chginAt (vbus vbat : Nat) : Bool := decide (max 6000 (vbat + 2000) ≤ vbus)

def execChginChange (vbus vbat : Nat) (s : State) : Host.Outcome State Fault Refusal :=
  s.run fun d => d.chgin (chginAt vbus vbat)

/-- A new cycle begins in the phase that VBAT gives (R267, step 4; R268). -/
def Device.newCycle (d : Device) (vbat : Nat) (mayBeDone : Bool) : Device :=
  let p := if mayBeDone && decide (d.recharge ≤ vbat) then chgDone else if vbat < d.preMv then chgPre else chgCc
  ((d.setPhase p).countSat CHG.CYCNT).modChg fun c => { c with safe2 := 0, pre2 := 0 }

/-- R267, step 2. -/
def Device.detectSample (d : Device) (vbat : Nat) : Device :=
  let c := d.chg
  if d.phase != chgDetect || c.sourcing || c.absent || d.now < c.phaseAt + 20 * msec then d
  else
    let d := d.noteVbat vbat
    if vbat < 1000 then d.modChg fun c => { c with sourcing := true }
    else (d.raise CHG.STAT_PRESENT).newCycle vbat true

def execDetectSample (vbat : Nat) (s : State) : Host.Outcome State Fault Refusal := s.run fun d => d.detectSample vbat

/-- R267, steps 3 and 4: the ceiling − 50 mV is reached before t0 + 70 ms, or it is not. -/
def Device.detectResult (d : Device) (vbat : Nat) : Device :=
  let c := d.chg
  if d.phase != chgDetect || !c.sourcing then d
  else if decide (d.ceiling ≤ vbat + 50) && decide (d.now < c.phaseAt + 70 * msec) then
    (((d.noteVbat vbat).lower CHG.STAT_PRESENT)).modChg fun c => { c with sourcing := false, absent := true }
  else if d.now < c.phaseAt + 70 * msec then d
  else
    (((d.noteVbat vbat).raise CHG.STAT_PRESENT).modChg fun c => { c with sourcing := false }).newCycle vbat true

def execDetectResult (vbat : Nat) (s : State) : Host.Outcome State Fault Refusal :=
  s.run fun d => d.detectResult vbat

/-- R267: detection again at t0 + 1 s. -/
def Device.detectRepeat (d : Device) : Device :=
  if d.phase == chgDetect && d.chg.absent && decide (d.chg.phaseAt + second ≤ d.now) then d.enterDetect else d

def execDetectRepeat (s : State) : Host.Outcome State Fault Refusal := s.run fun d => d.detectRepeat

/-! ## Phases (R268–R271) -/

/-- R268: a condition has held for 16 ms, all of it in the phase. -/
def Device.held16 (d : Device) (held : Nat) : Bool :=
  decide (16 * msec ≤ held) && decide (d.chg.phaseAt + 16 * msec ≤ d.now)

/-- R268: the condition on which the phase is left. -/
def Device.phaseOver (d : Device) (vbat ibat held : Nat) (vloop : Bool) : Bool :=
  let p := d.phase
  (p == chgPre && decide (d.preMv ≤ vbat) && d.held16 held)
    || (p == chgCc && vloop)
    || (p == chgCv && decide (ibat < d.rd CHG.ITERM * 10) && d.held16 held)
    || (p == chgTop && decide (d.chg.phaseAt + d.fld CHG.CFG_TOPOFF * 60 * second ≤ d.now))
    || (p == chgDone && decide (vbat < d.recharge) && d.held16 held)

/-- The phase after it. -/
def Device.nextPhase (d : Device) (vbat : Nat) : Device :=
  let p := d.phase
  if p = chgPre then d.setPhase chgCc
  else if p = chgCc then d.setPhase chgCv
  else if p = chgCv then
    ((d.raise CHG.STAT_BAT_DONE).log Ev.BAT_DONE []).setPhase (if d.fld CHG.CFG_TOPOFF = 0 then chgDone else chgTop)
  else if p = chgTop then d.setPhase chgDone
  else d.newCycle vbat false

/-- R268: a transition; it waits while the NTC pauses the charger (R269), and an expiry comes before
it (R274). -/
def Device.phaseChange (d : Device) (vbat ibat held : Nat) (vloop : Bool) : Device :=
  (d.noteVbat vbat).chgEvent 4 (if d.phase = chgCv then some Ev.BAT_DONE else none)
    (fun d => !d.flag CHG.STAT_NTCSUSP && !d.timerOut && d.phaseOver vbat ibat held vloop) fun d => d.nextPhase vbat

def execChargePhaseChange (vbat ibat held : Nat) (vloop : Bool) (s : State) : Host.Outcome State Fault Refusal :=
  s.run fun d => d.phaseChange vbat ibat held vloop

/-- The charger turns off in FAULT (R272). -/
def Device.chgTrip (d : Device) (bit : Field) (ev : Nat) (args : List Nat) : Device :=
  ((d.raise bit).log ev args).setPhase chgFault

/-- R268: VBAT below 1.0 V 100 ms after entry into precharge: sampled once, within the LFRC period in which the 100 ms
end. An expiry comes before it (R274), and an NTC pause holds the phase (R269). -/
def Device.batShort (d : Device) (vbat : Nat) : Device :=
  (d.noteVbat vbat).chgEvent 4 (some Ev.BAT_SHORT)
    (fun d => !d.flag CHG.STAT_NTCSUSP && !d.timerOut && d.phase == chgPre && decide (vbat < 1000)
      && decide (d.chg.phaseAt + 100 * msec ≤ d.now) && decide (d.now < d.chg.phaseAt + 100 * msec + 3052))
    fun d => d.chgTrip CHG.STAT_BAT_SHORT Ev.BAT_SHORT []

def execBatShort (vbat : Nat) (s : State) : Host.Outcome State Fault Refusal := s.run fun d => d.batShort vbat

/-- R269: the NTC ratio lies in [NTCLO, NTCHI). -/
def Device.ntcIn (d : Device) (ratio : Nat) : Bool := d.rd CHG.NTCLO ≤ ratio && ratio < d.rd CHG.NTCHI

/-- R269: outside the window throughout 1 s. -/
def execNtcSuspend (ratio : BitVec 16) (held : Nat) (s : State) : Host.Outcome State Fault Refusal :=
  s.run fun d => if d.ntcIn ratio.toNat || decide (held < second) then d else d.raise CHG.STAT_NTCSUSP

/-- R269: inside the window throughout 1 s. -/
def execNtcResume (ratio : BitVec 16) (held : Nat) (s : State) : Host.Outcome State Fault Refusal :=
  s.run fun d => if d.ntcIn ratio.toNat && decide (second ≤ held) then d.lower CHG.STAT_NTCSUSP else d

/-- R270. -/
def execBatTimeout (s : State) : Host.Outcome State Fault Refusal :=
  s.run fun d => d.chgEvent 2 (some Ev.BAT_TIMEOUT) Device.timerOut fun d =>
    d.chgTrip CHG.STAT_BAT_TIMEOUT Ev.BAT_TIMEOUT [d.phase]

/-- R271: throughout 1 ms in any phase with the charger on; an expiry comes before it (R274). -/
def Device.batOv (d : Device) (vbat held : Nat) : Device :=
  (d.noteVbat vbat).chgEvent 3 (some Ev.BAT_OV)
    (fun d => !d.timerOut && d.charging && decide (d.ceiling + 100 * d.cells ≤ vbat) && decide (msec ≤ held))
    fun d => d.chgTrip CHG.STAT_BAT_OV Ev.BAT_OV [vbat]

def execBatOv (vbat held : Nat) (s : State) : Host.Outcome State Fault Refusal := s.run fun d => d.batOv vbat held

/-! ## Removal and cut-off (R264, R273) -/

def Device.removed (d : Device) : Device :=
  (((d.raise CHG.STAT_BAT_REMOVED).log Ev.BAT_REMOVED []).lower CHG.STAT_PRESENT).enterDetect

/-- R273, in PRECHARGE, CC and CV. -/
def Device.batRemoved (d : Device) (ibat0 ibat1 vbat : Nat) : Device :=
  (d.noteVbat vbat).chgEvent 1 (some Ev.BAT_REMOVED)
    (fun d => d.cycling && decide (20 ≤ ibat0) && decide (ibat1 < 10) && decide (d.ceiling ≤ vbat + 20 * d.cells))
    Device.removed

def execBatRemoved (ibat0 ibat1 vbat : Nat) (s : State) : Host.Outcome State Fault Refusal :=
  s.run fun d => d.batRemoved ibat0 ibat1 vbat

/-- R273, in TOPOFF and DONE: the sink of every 10 s ends, 20 ms after it began. -/
def Device.removalCheck (d : Device) (vbat : Nat) : Device :=
  if (d.phase == chgTop || d.phase == chgDone) && decide (d.chg.checkAt + 10 * second + 20 * msec ≤ d.now) then
    ((d.noteVbat vbat).modChg fun c => { c with checkAt := c.checkAt + 10 * second }).chgEvent 1 (some Ev.BAT_REMOVED)
      (fun _ => decide (vbat < 1000)) Device.removed
  else d

def execRemovalCheck (vbat : Nat) (s : State) : Host.Outcome State Fault Refusal := s.run fun d => d.removalCheck vbat

/-- R264: the battery alone has stayed below VCUT × cells for 100 ms. -/
def Device.batCutoff (d : Device) (vbat held : Nat) : Device :=
  let d := d.noteVbat vbat
  if d.flag CHG.STAT_FETON && !d.flag CHG.STAT_CHGIN && decide (vbat < d.rd CHG.VCUT * 20 * d.cells)
      && decide (100 * msec ≤ held) then
    ((d.raise CHG.STAT_BAT_CUTOFF).log Ev.BAT_CUTOFF [vbat]).lower CHG.STAT_FETON
  else d

def execBatCutoff (vbat held : Nat) (s : State) : Host.Outcome State Fault Refusal :=
  s.run fun d => d.batCutoff vbat held

/-! ## Commands (R272, R276) -/

/-- R272: CLR leaves FAULT alone. -/
def Device.chgClr (d : Device) : Device := if d.phase = chgFault then d.enterDetect else d

def execChgClr (w : Writer) (s : State) : Host.Outcome State Fault Refusal := s.run fun d => d.asWriter w Device.chgClr

def execShipRequest (w : Writer) (s : State) : Host.Outcome State Fault Refusal :=
  s.run fun d => d.asWriter w fun d => d.raise CHG.STAT_SHIPPEND

def execShipCancel (w : Writer) (s : State) : Host.Outcome State Fault Refusal :=
  s.run fun d => d.asWriter w fun d => d.lower CHG.STAT_SHIPPEND

/-- CHG.CMD written whole: SHIP with SHIPCANCEL cancels (R276). -/
def Device.chgCmd (d : Device) (v : Nat) : Device :=
  let d := if v.testBit 1 then d.lower CHG.STAT_SHIPPEND else if v.testBit 0 then d.raise CHG.STAT_SHIPPEND else d
  if v.testBit 2 then d.chgClr else d

end Sys2Proof.Machine
end

