-- ==== Sys2Proof/Machine/Watchdog.lean ====
section
/-! DEFINITION. Machine/Watchdog.lean: the watchdog (R283–R300), SRAM errors (R280), and what a core
reset does to the registers (R409–R411). -/
namespace Sys2Proof.Machine

def Device.modWdt (d : Device) (f : Wdt → Wdt) : Device := { d with wdt := f d.wdt }

/-- Every register of the CORE domain takes its Reset value (R409); the core's write buffer goes with it. -/
def Device.coreDomain (d : Device) : Device :=
  let d := { d with coreBuf := none }
  d.each [0, 11, 14, 16, 17, 19] fun d p =>
    d.each ((pageRegs p).filter fun r => r.core != 0) fun d r =>
      let keep := d.rd r - (d.rd r &&& r.core)
      d.wr r (keep + (r.reset &&& r.core))

/-! ## Period (R286, R294) -/

/-- Milliseconds in ticks of the selected clock, a thousandth each: 32.768 or 1000 ticks/ms. -/
def wdtTicks1000 (fast : Bool) (ms : Nat) : Nat := if fast then ms * 1000000 else ms * 32768

/-- A rigged period starts (R286): the clock, T_MAX, T_MIN and T_WARN of the registers come into use. -/
def Device.newPeriod (d : Device) : Device :=
  let fast := d.flag WDT.CFG_CLKSEL
  let tmax := ceilDiv (wdtTicks1000 fast (d.rd WDT.PERIOD)) 1000
  let d := (d.wr WDT.TMAXT tmax).wr WDT.TMINT (tmax * d.fld WDT.CFG_WMIN / 16)
  let d := ((d.wr WDT.CNT 0).wr WDT.CHK 0).lower WDT.STAT_BOOT
  d.modWdt fun w => { w with fast := fast, warn := wdtTicks1000 fast (d.rd WDT.PWARN) / 1000, warned := false }

/-- The boot period starts (R294). -/
def Device.bootPeriod (d : Device) : Device :=
  let fast := d.flag WDT.CFG_CLKSEL
  let d := ((d.wr WDT.CNT 0).wr WDT.CHK 0).raise WDT.STAT_BOOT
  d.modWdt fun w =>
    { w with fast := fast, boot := ceilDiv (wdtTicks1000 fast (d.rd WDT.BOOTP)) 1000
             warn := wdtTicks1000 fast (d.rd WDT.PWARN) / 1000, warned := false }

/-- The count at which the present period expires. -/
def Device.wdtLimit (d : Device) : Nat := if d.flag WDT.STAT_BOOT then d.wdt.boot else d.rd WDT.TMAXT

def Device.frozen (d : Device) : Bool := d.flag WDT.STAT_FROZEN
/-- The core is held in reset after an expiry: there is no period (R296). -/
def Device.coreHeld (d : Device) : Bool := d.wdt.resetTo.isSome

/-! ## Expiry (R296, R297) -/

def wdtLateCause : Nat := 1
def wdtEarly : Nat := 2
def wdtClkstop : Nat := 3
def wdtSurplus : Nat := 4
def wdtEcc : Nat := 5

/-- R296, steps 1 to 3. The core's program counter is no part of this model: LPC takes a free value.
In KEEP every channel is off already, and no scan runs to apply a safe state (R297). -/
def Device.expire (d : Device) (cause : Nat) : Device :=
  let d := ((d.wr WDT.LPC (d.freeVal 32)).nextFree).wr WDT.LSVC (d.rd WDT.SVCT)
  let d := ((d.wr WDT.LEXP d.now).wr WDT.LCAUSE cause).wr WDT.LSLOTS (d.rd WDT.CHK)
  let d := (d.countSat WDT.EXPCNT).coreDomain.raise WDT.STAT_EXPIRED
  let d := d.modWdt fun w =>
    { w with resetTo := some (d.now + 100 * usec), wdxTo := some (d.now + d.rd WDT.WDXLEN * msec), toLog := true }
  if d.inKeep then d else d.applySafe .watchdog

/-! ## Services and check-ins (R287–R293, R299) -/

/-- A service or check-in that counts for nothing. -/
def Device.svcBad (d : Device) (counted : Bool) : Device :=
  let d := (d.raise WDT.STAT_SVC_BAD).log Ev.WDT_BAD []
  d.when counted fun d => d.countSat WDT.REFCNT

/-- R289: Wright, and the external master named by GRANT. -/
def Device.mayServe (d : Device) : Writer → Bool
  | .wright => true
  | .host => d.fld WDT.CFG_GRANT == 1
  | .ring => d.fld WDT.CFG_GRANT == 2
  | .hand | .service => false

/-- Enabled slots that have not checked in (R292). -/
def Device.missingSlots (d : Device) : Nat :=
  ((List.range 8).filter fun k => d.bit WDT.SLOTEN k && !d.bit WDT.CHK k).foldl (fun m k => m + 2 ^ k) 0

/-- A valid service (R287, R294): a new period starts; the ended one's check-ins are kept for those of the same cycle. -/
def Device.served (d : Device) : Device :=
  ((d.modWdt fun w => { w with servedAt := some d.clk, ended := d.rd WDT.CHK }).wr WDT.SVCT d.now).newPeriod

/-- R287, R292, R294: a write of 0x5A by a permitted writer. -/
def Device.service (d : Device) : Device :=
  let n := d.rd WDT.CNT
  if d.wdtLimit ≤ n then d.expire wdtLateCause
  else if d.flag WDT.STAT_BOOT then d.served
  else if n < d.rd WDT.TMINT then d.expire wdtEarly
  else if d.missingSlots != 0 then
    ((d.raise WDT.STAT_SVC_REFUSED).countSat WDT.REFCNT).log Ev.WDT_REFUSED [d.missingSlots]
  else d.served

/-- A write of WDT.SVC (R281, R287, R289, R299). -/
def Device.wdtWrite (d : Device) (w : Writer) (v : Nat) : Device :=
  if w == .hand then (d.log Ev.PRIV_FAULT [0x0B, 0x0C]).raise WDT.STAT_SVC_BAD
  else if d.frozen || d.coreHeld then d.svcBad false
  else if !d.mayServe w || v != 0x5A then d.svcBad true
  else d.service

def execWdtService (w : Writer) (v : BitVec 8) (s : State) : Host.Outcome State Fault Refusal :=
  s.run fun d => d.asWriter w fun d => d.wdtWrite w v.toNat

/-- R291: owner of a slot. -/
def Device.ownsSlot (d : Device) (w : Writer) (k : Nat) : Bool :=
  let o := d.fld ⟨WDT.SLOTOWN, 2 * k, 2⟩
  match w with
  | .wright | .hand => o == 0
  | .host => o == 1
  | .ring => o == 2
  | .service => false

/-- R291: slot `k` has checked in, in the period that a check-in now belongs to: in the cycle of a valid service, the one
that it ended. -/
def Device.checkedIn (d : Device) (k : Nat) : Bool :=
  if d.wdt.servedAt = some d.clk then d.wdt.ended.testBit k else d.bit WDT.CHK k

/-- R291, R293: a check-in of one slot. -/
def Device.checkinOne (d : Device) (w : Writer) (k : Nat) : Device :=
  if !d.bit WDT.SLOTEN k then d
  else if !d.ownsSlot w k then d.svcBad false
  else if !d.checkedIn k then
    if d.wdt.servedAt = some d.clk then d.modWdt fun w => { w with ended := w.ended + 2 ^ k } else d.setBit WDT.CHK k true
  else
    let d := ((d.raise WDT.STAT_SURPLUS).countSat WDT.SURPCNT).log Ev.WDT_SURPLUS [k]
    if d.bit WDT.SURPF k then d.expire wdtSurplus else d

/-- A write of WDT.CHECKIN. -/
def Device.checkin (d : Device) (w : Writer) (v : Nat) : Device :=
  d.each (List.range 8) fun d k =>
    if !v.testBit k then d
    else if d.frozen || d.coreHeld then d.svcBad false
    else d.checkinOne w k

def execWdtCheckin (w : Writer) (v : BitVec 8) (s : State) : Host.Outcome State Fault Refusal :=
  s.run fun d => d.asWriter w fun d => d.checkin w v.toNat

/-! ## Time and clocks (R284, R285, R287, R290) -/

/-- R287: CNT reaches T_MAX, or T_BOOT. -/
def Device.wdtLate (d : Device) : Device :=
  if !d.frozen && !d.coreHeld && decide (d.wdtLimit ≤ d.rd WDT.CNT) then d.expire wdtLateCause else d

def execWdtLate (s : State) : Host.Outcome State Fault Refusal := s.run fun d => d.wdtLate

/-- R290: once per period, T_WARN before its end. -/
def Device.prewarn (d : Device) : Device :=
  if !d.frozen && !d.coreHeld && !d.wdt.warned && d.wdt.warn != 0 && decide (d.wdtLimit ≤ d.rd WDT.CNT + d.wdt.warn) then
    ((d.raise WDT.STAT_PREWARN).log Ev.WDT_PREWARN []).modWdt fun w => { w with warned := true }
  else d

def execWdtPrewarn (s : State) : Host.Outcome State Fault Refusal := s.run fun d => d.prewarn

/-- R284: a monitor period in ticks: 64 µs of the 1 MHz clock with the LFRC selected, else one LFRC period. -/
def Device.monitorPeriod (d : Device) : Nat := if d.wdt.fast then 3051 else 6400

/-- R284: four consecutive monitor periods without an edge, counted afresh from the end of a halt (R299); not while the
monitoring clock has stopped (R285). -/
def Device.clkstop (d : Device) (periods : Nat) : Device :=
  if d.frozen || d.coreHeld || d.flag WDT.STAT_MONSTOP || decide (periods < 4)
      || decide (d.clk < d.wdt.resumedAt + 4 * d.monitorPeriod) then d
  else d.expire wdtClkstop

def execWdtClkstop (periods : Nat) (s : State) : Host.Outcome State Fault Refusal := s.run fun d => d.clkstop periods

/-- R285: the comparison of 32 LFRC periods. -/
def Device.clkdev (d : Device) (edges : Nat) (monStopped : Bool) : Device :=
  let dev := edges < 879 || 1075 ≤ edges
  let d := d.when (dev && !d.flag WDT.STAT_CLKDEV) fun d => d.log Ev.WDT_CLKDEV [edges]
  let d := d.when (monStopped && !d.flag WDT.STAT_MONSTOP) fun d => d.log Ev.WDT_MONSTOP []
  (d.setFlag WDT.STAT_CLKDEV dev).setFlag WDT.STAT_MONSTOP monStopped

def execWdtClkdev (edges : Nat) (monStopped : Bool) (s : State) : Host.Outcome State Fault Refusal :=
  s.run fun d => d.clkdev edges monStopped

/-- R296, step 6. -/
def Device.wdxEnd (d : Device) : Device :=
  match d.wdt.wdxTo with
  | some t => if t ≤ d.now then d.modWdt fun w => { w with wdxTo := none } else d
  | none => d

def execWdxEnd (s : State) : Host.Outcome State Fault Refusal := s.run fun d => d.wdxEnd

/-- R280: an uncorrectable SRAM error, an expiry also while frozen (R299). -/
def execEccError (s : State) : Host.Outcome State Fault Refusal := s.run fun d => d.expire wdtEcc

/-- R280: a corrected one. -/
def execEccCorr (s : State) : Host.Outcome State Fault Refusal :=
  s.run fun d => (d.countSat WDT.ECCCNT).raise WDT.STAT_ECC_CORR

/-- R296, step 4: the core reset is released; the boot period begins and the cause is recorded
(R294, R413). -/
def Device.resetRelease (d : Device) : Device :=
  match d.wdt.resetTo with
  | none => d
  | some t =>
    if d.now < t then d
    else
      let d := (d.modWdt fun w => { w with resetTo := none }).countSat SYS.CORERST
      let d := { d with sec := { d.sec with bootDue := true } }
      ((d.setFld SYS.RSTCAUSE_KIND 1).setFld SYS.RSTCAUSE_PORSRC 0).bootPeriod

def execCoreResetRelease (s : State) : Host.Outcome State Fault Refusal := s.run fun d => d.resetRelease

end Sys2Proof.Machine
end

