-- ==== Sys2Proof/Machine/Otp.lean ====
section
/-! DEFINITION. Machine/Otp.lean: the OTP array (R323, R324), its headers, digests and finalisation
(R325–R328), the start-up check (R329, R330), locks (R331), re-burn and repair (R332, R333), and the
programming conditions (R334, R335). -/
namespace Sys2Proof.Machine

/-! ## Organisation -/

/-- A region: its first logical word, its words, its copies, the physical address of copy 0 and the
distance between copies, and whether its value is the OR of its copies; else it is their majority. -/
structure OtpRegion where
  log : Nat
  n : Nat
  copies : Nat
  phys : Nat
  stride : Nat
  anyCopy : Bool
  deriving DecidableEq, Repr

/-- The regions by code (R323); 6 stands for DIG. -/
def otpRegion : Nat → OtpRegion
  | 0 => ⟨0x000, 128, 2, 0x000, 128, true⟩
  | 1 => ⟨0x080, 64, 2, 0x100, 64, true⟩
  | 2 => ⟨0x0C0, 8, 4, 0x180, 8, true⟩
  | 3 => ⟨0x0C8, 64, 3, 0x1A0, 64, false⟩
  | 4 => ⟨0x108, 448, 3, 0x260, 896, false⟩
  | 5 => ⟨0x2C8, 448, 3, 0x420, 896, false⟩
  | _ => ⟨0x488, 40, 3, 0xCE0, 40, false⟩

def rTrim : Nat := 0
def rIdent : Nat := 1
def rLife : Nat := 2
def rKeys : Nat := 3
def rCusta : Nat := 4
def rCustb : Nat := 5
def rDig : Nat := 6

/-- The finalisable regions, in the order of their digests (R325). -/
def finalisable : List Nat := [0, 1, 3, 4, 5]

/-- One past the last logical word, and the first and one past the last spare record word. -/
def otpWords : Nat := 0x4B0
def spareBase : Nat := 0xD58
def otpEnd : Nat := 0x1000

/-- The region of a logical word. -/
def regionOf (l : Nat) : Nat :=
  if l < 0x080 then 0 else if l < 0x0C0 then 1 else if l < 0x0C8 then 2 else if l < 0x108 then 3
  else if l < 0x2C8 then 4 else if l < 0x488 then 5 else 6

/-- The physical addresses of a logical word's copies. -/
def copiesOf (l : Nat) : List Nat :=
  let r := otpRegion (regionOf l)
  (List.range r.copies).map fun c => r.phys + c * r.stride + (l - r.log)

/-- The logical word a physical word below the spares is a copy of. -/
def logicalOf (p : Nat) : Nat :=
  if p < 0x100 then p % 128
  else if p < 0x180 then 0x080 + (p - 0x100) % 64
  else if p < 0x1A0 then 0x0C0 + (p - 0x180) % 8
  else if p < 0x260 then 0x0C8 + (p - 0x1A0) % 64
  else if p < 0xCE0 then 0x108 + (p - 0x260) % 896
  else 0x488 + (p - 0xCE0) % 40

/-- Bitwise majority of three words. -/
def majority (a b c : Nat) : Nat := (a &&& b) ||| (a &&& c) ||| (b &&& c)

/-- How many of the 32 bits of a word are 1. -/
def onesIn (a : Nat) : Nat := (List.range 32).foldl (fun n i => n + a / 2 ^ i % 2) 0

/-- A physical word at normal or tight margin; an unburned bit reads 0. -/
def Otp.phys (o : Otp) (tight : Bool) (p : Nat) : Nat := (look (if tight then o.tight else o.norm) p).getD 0

/-! ## Repair records (R333) -/

def recordBase (k : Nat) : Nat := spareBase + 4 * k

/-- A map word's marker. -/
def mapMarker (w : Nat) : Bool := w / 65536 == 0xA5C3

/-- The address that record k repairs, where the majority of its map copies carries the marker. -/
def Otp.record (o : Otp) (k : Nat) : Option Nat :=
  let a := o.phys false (recordBase k)
  let b := o.phys false (recordBase k + 1)
  let c := o.phys false (recordBase k + 2)
  if (mapMarker a).toNat + (mapMarker b).toNat + (mapMarker c).toNat ≥ 2 then some (majority a b c % 4096) else none

def Otp.recordBlank (o : Otp) (k : Nat) : Bool := (List.range 4).all fun i => o.phys false (recordBase k + i) == 0

/-- Every valid record, as (repaired address, k), the highest k first. Without a burned spare word there is none. -/
def Otp.records (o : Otp) : List (Nat × Nat) :=
  if o.norm.all fun e => e.1 < spareBase then []
  else ((List.range 170).filterMap fun k => (o.record k).map fun a => (a, k)).reverse

/-- Where a copy is read and burned: the data word of the highest valid record that names it (R324,
R333), which a further record may name in turn. -/
def home (recs : List (Nat × Nat)) : Nat → Nat → Nat
  | 0, p => p
  | fuel + 1, p =>
    match look recs p with
    | some k => home recs fuel (recordBase k + 3)
    | none => p

def Otp.homeOf (o : Otp) (p : Nat) : Nat := let rs := o.records; home rs rs.length p

/-- A copy at a margin. -/
def Otp.copy (o : Otp) (tight : Bool) (p : Nat) : Nat := o.phys tight (o.homeOf p)

/-- The value of a logical word at a margin (R324). -/
def Otp.value (o : Otp) (tight : Bool) (l : Nat) : Nat :=
  match (copiesOf l).map (o.copy tight) with
  | [a, b, c] => majority a b c
  | cs => cs.foldl (· ||| ·) 0

abbrev Otp.normal (o : Otp) (l : Nat) : Nat := o.value false l

/-! ## Headers, digests and region states (R325, R328, R329) -/

def headerOf (r : Nat) : Nat := (otpRegion r).log
def digestBase (r : Nat) : Nat := 0x488 + 8 * ((finalisable.findIdx? (· == r)).getD 0)
def Otp.length (o : Otp) (r : Nat) : Nat := o.normal (headerOf r) % 1024
def Otp.final (o : Otp) (r : Nat) : Bool := (o.normal (headerOf r)).testBit 31
def Otp.digestWord (o : Otp) (r w : Nat) : Nat := o.normal (digestBase r + w)
def Otp.digestBlank (o : Otp) (r : Nat) : Bool := (List.range 8).all fun w => o.digestWord r w == 0

/-- SHA-256 over a region at normal margin, its header's bit 31 taken as 0, as a number. -/
def Otp.digest (o : Otp) (r : Nat) : Nat :=
  let ws := (List.range (otpRegion r).n).map fun i =>
    if i = 0 then o.normal (headerOf r) % 2 ^ 31 else o.normal (headerOf r + i)
  (Config.sha256 (ws.flatMap fun w => (toBytes 4 w).map (BitVec.ofNat 8))).toNat

def digestBits (x w : Nat) : Nat := bitsOf x (32 * w) 32

/-- State of a region in RSTAT: 0 OPEN, 1 FINALISED, 2 PENDING, 3 FAIL. -/
def Otp.state (o : Otp) (r : Nat) : Nat :=
  if r = rLife || o.digestBlank r then 0
  else
    let x := o.digest r
    if o.final r then (if (List.range 8).all fun w => o.digestWord r w == digestBits x w then 1 else 3)
    else if (List.range 8).all fun w => lacking (o.digestWord r w) (digestBits x w) == 0 then 2
    else 3

/-! ## Weak and at-risk words (R329) -/

/-- Copies that can read otherwise at the two margins: those with a burned bit, and repaired ones. -/
def Otp.touched (o : Otp) : List Nat :=
  (sortNat (((o.norm.map (·.1)).filter (· < spareBase)) ++ (o.records.map (·.1)).filter (· < spareBase))).eraseDups

def Otp.weakCopies (o : Otp) : List Nat := o.touched.filter fun p => o.copy false p != o.copy true p

/-- Logical words whose value differs between the margins. -/
def Otp.atRisk (o : Otp) : List Nat :=
  ((o.weakCopies.map logicalOf).eraseDups).filter fun l => o.value false l != o.value true l

/-! ## Registers -/

def Device.modOtp (d : Device) (f : Otp → Otp) : Device := { d with otp := f d.otp }
def Device.regionState (d : Device) (r : Nat) : Nat := d.fld (OTP.RSTAT_STATE r)

/-- WEAKCNT, ATRISK and SPARES as the array stands. -/
def Device.otpCounts (d : Device) : Device :=
  let risk := d.otp.atRisk
  let d := d.each (List.range 6) fun d r =>
    let n := (d.otp.weak.filter fun p => regionOf (logicalOf p) == r).length
    (d.setFld (OTP.RSTAT_WEAKCNT r) (min n 255)).setFlag (OTP.RSTAT_ATRISK r) (risk.any fun l => regionOf l == r)
  d.wr OTP.SPARES ((List.range 170).filter d.otp.recordBlank).length

/-- R329: the start-up check, with OTP_DIGEST and OTP_WEAK. -/
def Device.otpCheck (d : Device) : Device :=
  let weak := d.otp.weakCopies
  let d := (d.modOtp fun o => { o with weak := weak }).wr OTP.WEAKTOT weak.length
  let d := d.each (List.range 6) fun d r =>
    let st := d.otp.state r
    let d := d.setFld (OTP.RSTAT_STATE r) st
    if st = 3 then (d.raise OTP.STAT_OTP_DIGEST).log Ev.OTP_DIGEST [r] else d
  let d := d.otpCounts
  if weak.isEmpty then d
  else (d.raise OTP.STAT_OTP_WEAK).log Ev.OTP_WEAK (weak.length :: d.otp.atRisk)

/-! ## Lifecycle words (R301, R302) -/

def lifeWord (i : Nat) : Nat := 0x0C0 + i

def Otp.life (o : Otp) (i : Nat) : Nat := o.normal (lifeWord i)

/-- 0 BLANK, 1 PROVISIONED, 2 DEPLOYED, 3 RETURNED. -/
def Otp.lifecycle (o : Otp) : Nat :=
  if o.life 2 != 0 then 3 else if o.life 1 != 0 then 2 else if o.life 0 != 0 then 1 else 0

/-- A marker that counts as burned has fewer than 32 bits at 1. -/
def partMarker (w : Nat) : Bool := w != 0 && onesIn w < 32
def Otp.partial (o : Otp) : Bool := (List.range 4).any fun i => partMarker (o.life i)

/-- Floors: the bits at 1 in the thermometer words. -/
def Otp.fwFloor (o : Otp) : Nat := onesIn (o.life 5) + onesIn (o.life 6)
def Otp.rgFloor (o : Otp) : Nat := onesIn (o.life 7)
def Otp.revoked (o : Otp) : Nat := o.life 4 % 256

def Device.floorRegs (d : Device) : Device :=
  ((d.wr SEC.FWFLOOR d.otp.fwFloor).wr SEC.RGFLOOR d.otp.rgFloor).wr SEC.REVOKED d.otp.revoked

/-- The state after the next power-on reset. -/
def Device.burnedReg (d : Device) : Device := d.setFld SEC.LIFE_BURNED d.otp.lifecycle

/-! ## Burning (R326) -/

/-- The bits of a physical word that fail at tight margin after three pulses. -/
def badBits (bad : BurnFailures) (p : Nat) : Nat :=
  (bad.filter fun e => e.1 == p).foldl (fun m e => m ||| e.2.toNat) 0

/-- Bits burned in one physical word: each reads 1 at normal margin, and at tight margin too unless it
fails there. -/
def Otp.burnWord (o : Otp) (bad : BurnFailures) (h bits : Nat) : Otp :=
  { o with norm := putD o.norm h (o.phys false h ||| bits) 0
           tight := putD o.tight h (o.phys true h ||| lacking bits (badBits bad h)) 0 }

/-- A copy whose margins differ is flagged weak; one whose margins agree is not. -/
def Otp.flagCopy (o : Otp) (p : Nat) : Otp :=
  let rest := o.weak.filter (· != p)
  { o with weak := if o.copy false p != o.copy true p then insNat rest p else rest }

/-- Bits burned in every copy of a logical word. -/
def Otp.burnLogical (o : Otp) (bad : BurnFailures) (l bits : Nat) : Otp :=
  (copiesOf l).foldl (fun o p => (o.burnWord bad (o.homeOf p) bits).flagCopy p) o

/-- The physical bits of that, and how many they are. -/
def Otp.burnsOf (o : Otp) (l bits : Nat) : List (Nat × Nat) := (copiesOf l).map fun p => (o.homeOf p, bits)
def burnCount (bs : List (Nat × Nat)) : Nat := bs.foldl (fun n b => n + onesIn b.2) 0

/-- The word's value at tight margin has every bit asked for. -/
def Otp.holds (o : Otp) (l bits : Nat) : Bool := lacking bits (o.value true l) == 0

/-! ## Programming conditions (R334, R347) -/

def otpOk : Nat := 0
def otpSource : Nat := 1
def otpState : Nat := 2
def otpEnergy : Nat := 3
def otpLocked : Nat := 4
def otpFinalised : Nat := 5
def otpNoHeader : Nat := 6
def otpHeader : Nat := 7
def otpRange : Nat := 8
def otpVerify : Nat := 9
def otpNoSpare : Nat := 10
def otpNotWeak : Nat := 11
def otpBusy : Nat := 12

/-- 2 × 10^6 times the hold-up energy in µJ: C_HOLD (µF) × (V_HOLD² − V_MIN²) (mV²), 0 where
V_HOLD ≤ V_MIN (R347). -/
def Device.holdup (d : Device) (env : EnergyEnv) : Nat :=
  let vmin := 3000 + d.rd STORE.VMARG
  d.rd STORE.CHOLD * (env.vhold ^ 2 - vmin ^ 2)

/-- Twice E_op = 2.0 mJ + 0.7 µJ × P is there, P being three pulses a bit; or the battery is healthy. -/
def Device.otpEnergyOk (d : Device) (env : EnergyEnv) (bits : Nat) : Bool :=
  d.healthy || decide (2 * (20000 + 7 * (3 * bits)) * 2000000 ≤ 10 * d.holdup env)

/-- The other conditions of R334: source, power state, one command at a time, supply and temperature. -/
def Device.otpMayStart (d : Device) (w : Writer) (env : EnergyEnv) : Option Nat :=
  if w == .ring || w == .host then some otpSource
  else if d.inRun then some otpState
  else if d.flag OTP.STAT_BUSY then some otpBusy
  else if env.vsys < 4500 || env.temp < -20 * 128 || 105 * 128 ≤ env.temp then some otpState
  else none

def Device.otpRefused (d : Device) (why : Nat) : Device := (d.wr OTP.CRES why).raise OTP.STAT_OTP_REFUSED

/-- What burns would add to an array at a margin: a bit that already reads 1 there is not among it. -/
def Otp.fresh (o : Otp) (tight : Bool) (bs : List (Nat × Nat)) : List (Nat × Nat) :=
  bs.map fun b => (b.1, lacking b.2 (o.phys tight b.1))

/-- A command starts: BUSY until OTP_COMMAND_DONE. What it adds to the array is kept, for a collapse (R335). -/
def Device.otpRun (d : Device) (run : OtpRun) (f : Otp → Otp) : Device :=
  let kept := { run with burns := d.otp.fresh false run.burns, tightBurns := d.otp.fresh true run.burns }
  ((d.modOtp fun o => { f o with run := some kept }).raise OTP.STAT_BUSY).otpCounts

/-- A write of OTP.CMD (R334): the commands' conditions, then the command's own. -/
def Device.otpCommand (d : Device) (w : Writer) (env : EnergyEnv) (f : Device → Device) : Device :=
  d.asWright w 0x10 0x00 fun d =>
    match d.otpMayStart w env with
    | some why => d.otpRefused why
    | none => f d

def Device.plock (d : Device) (r : Nat) : Bool := (d.fld OTP.LOCKS_PLOCK).testBit r
def Device.rlock (d : Device) (r : Nat) : Bool := (d.fld OTP.LOCKS_RLOCK).testBit r

def otpAddr (d : Device) : Nat := d.rd OTP.ADDR % 4096

/-- R326. -/
def Device.otpProgram (d : Device) (env : EnergyEnv) (bad : BurnFailures) : Device :=
  let l := otpAddr d
  let r := regionOf l
  let data := d.rd OTP.WDATA
  if otpWords ≤ l || r = rLife || r = rDig || (l = headerOf r && data.testBit 31) then d.otpRefused otpRange
  else if d.regionState r != 0 then d.otpRefused otpFinalised
  else if d.plock r then d.otpRefused otpLocked
  else
    let bits := lacking data (d.otp.normal l)
    let burns := d.otp.burnsOf l bits
    if !d.otpEnergyOk env (burnCount burns) then d.otpRefused otpEnergy
    else
      let o := d.otp.burnLogical bad l bits
      d.otpRun { result := if o.holds l data then otpOk else otpVerify, addr := l, burns := burns } fun _ => o

def execOtpProgram (w : Writer) (env : EnergyEnv) (bad : BurnFailures) (s : State) : Host.Outcome State Fault Refusal :=
  s.run fun d => d.otpCommand w env fun d => d.otpProgram env bad

/-- The digest of a region burned, and FINAL where it verifies (R327, steps 2 and 3; R328). -/
def Otp.finalise (o : Otp) (bad : BurnFailures) (r : Nat) : Otp × Bool :=
  let x := o.digest r
  let o' := (List.range 8).foldl (fun o w => o.burnLogical bad (digestBase r + w) (lacking (digestBits x w) (o.digestWord r w))) o
  if (List.range 8).all fun w => o'.holds (digestBase r + w) (digestBits x w) then
    let o' := o'.burnLogical bad (headerOf r) (2 ^ 31)
    (o', o'.holds (headerOf r) (2 ^ 31))
  else (o', false)

/-- The physical bits that burns. -/
def Otp.finaliseBurns (o : Otp) (r : Nat) : List (Nat × Nat) :=
  let x := o.digest r
  ((List.range 8).flatMap fun w => o.burnsOf (digestBase r + w) (lacking (digestBits x w) (o.digestWord r w)))
    ++ o.burnsOf (headerOf r) (2 ^ 31)

/-- A word at or beyond LENGTH is not blank. -/
def Otp.beyond (o : Otp) (r : Nat) : Bool :=
  (List.range (otpRegion r).n).any fun i => o.length r ≤ i && o.normal (headerOf r + i) != 0

/-- R327. -/
def Device.otpFinalise (d : Device) (env : EnergyEnv) (bad : BurnFailures) : Device :=
  let r := otpAddr d
  if !finalisable.contains r then d.otpRefused otpRange
  else if d.otp.length r = 0 then d.otpRefused otpNoHeader
  else if d.otp.beyond r then d.otpRefused otpHeader
  else if d.regionState r != 0 then d.otpRefused otpFinalised
  else if d.plock r then d.otpRefused otpLocked
  else
    let burns := d.otp.finaliseBurns r
    if !d.otpEnergyOk env (burnCount burns) then d.otpRefused otpEnergy
    else
      let (o, ok) := d.otp.finalise bad r
      (d.setFld (OTP.RSTAT_STATE r) 2).otpRun
        { result := if ok then otpOk else otpVerify, addr := r, final := if ok then some r else none, burns := burns }
        fun _ => o

def execOtpFinalise (w : Writer) (env : EnergyEnv) (bad : BurnFailures) (s : State) : Host.Outcome State Fault Refusal :=
  s.run fun d => d.otpCommand w env fun d => d.otpFinalise env bad

/-- The weak bits of a logical word: each copy's bits that read 1 at normal and 0 at tight margin. -/
def Otp.weakBits (o : Otp) (l : Nat) : List (Nat × Nat) :=
  (copiesOf l).filterMap fun p =>
    let b := lacking (o.copy false p) (o.copy true p)
    if b = 0 then none else some (p, b)

/-- R332: only those bits are pulsed. -/
def Otp.reburn (o : Otp) (bad : BurnFailures) (l : Nat) : Otp :=
  (o.weakBits l).foldl (fun o pb => (o.burnWord bad (o.homeOf pb.1) pb.2).flagCopy pb.1) o

/-- R332. -/
def Device.otpReburn (d : Device) (env : EnergyEnv) (bad : BurnFailures) : Device :=
  let l := otpAddr d
  if otpWords ≤ l then d.otpRefused otpRange
  else if !((copiesOf l).any fun p => d.otp.weak.contains p) then d.otpRefused otpNotWeak
  else
    let burns := (d.otp.weakBits l).map fun pb => (d.otp.homeOf pb.1, pb.2)
    if !d.otpEnergyOk env (burnCount burns) then d.otpRefused otpEnergy
    else
      let o := d.otp.reburn bad l
      d.otpRun { result := if (o.weakBits l).isEmpty then otpOk else otpVerify, addr := l, burns := burns } fun _ => o

def execOtpReburn (w : Writer) (env : EnergyEnv) (bad : BurnFailures) (s : State) : Host.Outcome State Fault Refusal :=
  s.run fun d => d.otpCommand w env fun d => d.otpReburn env bad

/-- What a repair of a physical address burns into record k: the normal-margin value of its logical word
and three copies of the map word (R333). `p` may be the data word of a record in use: its logical word
is that of the address the record names. -/
def Otp.repairTarget (o : Otp) : Nat → Nat → Option Nat
  | 0, _ => none
  | fuel + 1, p =>
    if p < spareBase then some (logicalOf p)
    else if (p - spareBase) % 4 = 3 then
      match o.record ((p - spareBase) / 4) with
      | some a => o.repairTarget fuel a
      | none => none
    else none

def Otp.repairBurns (o : Otp) (p l k : Nat) : List (Nat × Nat) :=
  let map := 0xA5C3 * 65536 + p
  [(recordBase k + 3, o.normal l), (recordBase k, map), (recordBase k + 1, map), (recordBase k + 2, map)]

def Otp.firstBlank (o : Otp) : Option Nat := (List.range 170).find? o.recordBlank

def Otp.repair (o : Otp) (bad : BurnFailures) (p l k : Nat) : Otp :=
  let o := (o.repairBurns p l k).foldl (fun o b => o.burnWord bad b.1 b.2) o
  (copiesOf l).foldl Otp.flagCopy o

/-- Every bit of the record holds at tight margin. -/
def Otp.recordHolds (o : Otp) (bs : List (Nat × Nat)) : Bool := bs.all fun b => lacking b.2 (o.phys true b.1) == 0

/-- R333. -/
def Device.otpRepair (d : Device) (env : EnergyEnv) (bad : BurnFailures) : Device :=
  let p := otpAddr d
  match d.otp.repairTarget 171 p with
  | none => d.otpRefused otpRange
  | some l =>
    match d.otp.firstBlank with
    | none => ((d.otpRefused otpNoSpare).raise OTP.STAT_OTP_NOSPARE).log Ev.OTP_NOSPARE [p]
    | some k =>
      let burns := d.otp.repairBurns p l k
      if !d.otpEnergyOk env (burnCount burns) then d.otpRefused otpEnergy
      else
        let o := d.otp.repair bad p l k
        d.otpRun { result := if o.recordHolds burns then otpOk else otpVerify, addr := p, repair := true, burns := burns }
          fun _ => o

def execOtpRepair (w : Writer) (env : EnergyEnv) (bad : BurnFailures) (s : State) : Host.Outcome State Fault Refusal :=
  s.run fun d => d.otpCommand w env fun d => d.otpRepair env bad

/-- A region becomes FINALISED (R327, step 4). -/
def Device.finalDone (d : Device) (r : Nat) : Device :=
  ((d.setFld (OTP.RSTAT_STATE r) 1).raise OTP.STAT_FINAL_DONE).log Ev.FINAL_DONE [r]

def Device.verifyFailed (d : Device) (a : Nat) : Device := (d.raise OTP.STAT_OTP_VERIFY).log Ev.OTP_VERIFY [a]
def Device.repaired (d : Device) (a : Nat) : Device := (d.raise OTP.STAT_OTP_REPAIRED).log Ev.OTP_REPAIRED [a]

/-- R335: the running command ends with its result. -/
def Device.otpDone (d : Device) : Device :=
  match d.otp.run with
  | none => d
  | some x =>
    let d := ((d.modOtp fun o => { o with run := none }).lower OTP.STAT_BUSY).wr OTP.CRES x.result
    let d := match x.final with
      | some r => d.finalDone r
      | none => d
    if x.result = otpVerify then d.verifyFailed x.addr
    else if x.repair then d.repaired x.addr
    else d

def execOtpCommandDone (s : State) : Host.Outcome State Fault Refusal := s.run fun d => d.otpDone

/-! ## Locks (R331) -/

/-- Regions locked against programming by the boot ROM, as a PLOCK mask. -/
def bootLocks : Nat → Nat
  | 0 => 0
  | 2 => 0x3B
  | _ => 0x09

/-- A core reset clears the locks, and the boot ROM sets them by lifecycle. -/
def Device.otpLocks (d : Device) : Device := d.wr OTP.LOCKS (bootLocks (d.fld SEC.LIFE_STATE))

def Device.lockSet (d : Device) (v : Nat) : Device := d.wr OTP.LOCKS (d.rd OTP.LOCKS ||| (v &&& 0x3F3F))

def execOtpLockset (w : Writer) (v : BitVec 16) (s : State) : Host.Outcome State Fault Refusal :=
  s.run fun d => d.asWright w 0x10 0x22 fun d => d.lockSet v.toNat

/-! ## The programming session (R302, R328, R334) -/

/-- R328: a pending region is completed, or its data have changed. -/
def Device.completeRegion (d : Device) (env : EnergyEnv) (bad : BurnFailures) (r : Nat) : Device :=
  if d.regionState r != 2 then d
  else if d.otp.state r = 3 then ((d.setFld (OTP.RSTAT_STATE r) 3).raise OTP.STAT_OTP_DIGEST).log Ev.OTP_DIGEST [r]
  else if !d.otpEnergyOk env (burnCount (d.otp.finaliseBurns r)) then d.otpRefused otpEnergy
  else
    let (o, ok) := d.otp.finalise bad r
    let d := d.modOtp fun _ => o
    if ok then d.finalDone r else d.verifyFailed r

/-- R302: the remaining bits of an interrupted marker. -/
def Device.completeMarker (d : Device) (env : EnergyEnv) (bad : BurnFailures) (i : Nat) : Device :=
  if !partMarker (d.otp.life i) then d
  else
    let bits := lacking 0xFFFFFFFF (d.otp.life i)
    if !d.otpEnergyOk env (onesIn bits * 4) then d.otpRefused otpEnergy
    else
      let d := d.modOtp fun o => o.burnLogical bad (lifeWord i) bits
      if d.otp.holds (lifeWord i) 0xFFFFFFFF then d else d.verifyFailed (lifeWord i)

def Device.sessionReburn (d : Device) (env : EnergyEnv) (bad : BurnFailures) (l : Nat) : Device :=
  if !d.otpEnergyOk env (burnCount (d.otp.weakBits l)) then d.otpRefused otpEnergy
  else
    let d := d.modOtp fun o => o.reburn bad l
    if (d.otp.weakBits l).isEmpty then d else d.verifyFailed l

def Device.sessionRepair (d : Device) (env : EnergyEnv) (bad : BurnFailures) (p : Nat) : Device :=
  match d.otp.firstBlank with
  | none => ((d.otpRefused otpNoSpare).raise OTP.STAT_OTP_NOSPARE).log Ev.OTP_NOSPARE [p]
  | some k =>
    let burns := d.otp.repairBurns p (logicalOf p) k
    if !d.otpEnergyOk env (burnCount burns) then d.otpRefused otpEnergy
    else
      let d := d.modOtp fun o => o.repair bad p (logicalOf p) k
      if d.otp.recordHolds burns then d.repaired p else d.verifyFailed p

/-- R334: the first time after a start at which firmware finds the programming conditions met. Pending
regions first, then interrupted markers, then weak words, those at risk first, then repairs of the
copies that stay weak. -/
def Device.otpSession (d : Device) (env : EnergyEnv) (bad : BurnFailures) : Device :=
  if d.flag OTP.STAT_SESSION || !d.coreRuns || (d.otpMayStart .wright env).isSome then d
  else
    let d := d.each finalisable fun d r => d.completeRegion env bad r
    let d := d.each (List.range 4) fun d i => d.completeMarker env bad i
    let words := (d.otp.weak.map logicalOf).eraseDups
    let risk := d.otp.atRisk
    let d := d.each (risk ++ words.filter fun l => !risk.contains l) fun d l => d.sessionReburn env bad l
    let d := d.each d.otp.weak fun d p => d.sessionRepair env bad p
    (d.raise OTP.STAT_SESSION).otpCounts.burnedReg

def execOtpSession (env : EnergyEnv) (bad : BurnFailures) (s : State) : Host.Outcome State Fault Refusal :=
  s.run fun d => d.otpSession env bad

/-- A word of an array loses those of `bits` that a free value does not keep. -/
def lose (m : Words) (p bits free : Nat) : Words := putD m p (lacking ((look m p).getD 0) (lacking bits free)) 0

/-- At tight margin a word reads 1 only where it does at normal margin. -/
def Otp.capTight (o : Otp) (p : Nat) : Otp := { o with tight := putD o.tight p (o.phys true p &&& o.phys false p) 0 }

/-- A supply collapse during a burn leaves bits partly burned (R335): each bit that the running command
adds at a margin is there or not by a free value, and at tight margin only if at normal margin. -/
def Device.otpCollapse (d : Device) : Device :=
  match d.otp.run with
  | none => d
  | some x =>
    let d := d.each x.burns fun d b =>
      (d.modOtp fun o => { o with norm := lose o.norm b.1 b.2 (d.freeVal 32) }).nextFree
    let d := d.each x.tightBurns fun d b =>
      (d.modOtp fun o => { o with tight := lose o.tight b.1 b.2 (d.freeVal 32) }.capTight b.1).nextFree
    d.modOtp fun o => { o with run := none }

end Sys2Proof.Machine
end

