-- ==== Sys2Proof/Machine/Image.lean ====
section
/-! DEFINITION. Machine/Image.lean: the bytes of the flash slots (R339), the boot header (R386), image
headers (R358, R375), the firmware bundle's compatibility table, and authentication (R304, R305, R359). -/
namespace Sys2Proof.Machine

/-! ## Flash bytes -/

/-- `n` bytes from address `a` on; an unlisted byte reads 0xFF. -/
def readRun : Nat → Nat → Bytes → List Nat
  | 0, _, _ => []
  | n + 1, a, [] => 0xFF :: readRun n (a + 1) []
  | n + 1, a, (k, v) :: t => if k = a then v.toNat :: readRun n (a + 1) t else 0xFF :: readRun n (a + 1) ((k, v) :: t)

/-- Consecutive bytes from `a` on as cells, those that read as an unlisted byte left out. -/
def asCells : Nat → List Nat → Bytes
  | _, [] => []
  | a, b :: t => if b % 256 = 0xFF then asCells (a + 1) t else (a, BitVec.ofNat 8 b) :: asCells (a + 1) t

/-- `bs` written from address `a` on. -/
def Bytes.write (m : Bytes) (a : Nat) (bs : List Nat) : Bytes :=
  (m.filter fun c => c.1 < a) ++ asCells a bs ++ m.filter fun c => a + bs.length ≤ c.1

/-- `n` bytes from `a` on erased. -/
def Bytes.erase (m : Bytes) (a n : Nat) : Bytes := m.filter fun c => c.1 < a || a + n ≤ c.1

/-- The canonical form of flash contents: addresses strictly rising, no byte that reads 0xFF unlisted. -/
def Memory.wf : Bytes → Bool := canonical fun _ => 0xFF

def Device.flashRead (d : Device) (a n : Nat) : List Nat := readRun n a (d.flash.flash.filter fun c => a ≤ c.1)

def Device.modStore (d : Device) (f : Store → Store) : Device := { d with flash := f d.flash }
def Device.flashWrite (d : Device) (a : Nat) (bs : List Nat) : Device := d.modStore fun s => { s with flash := Bytes.write s.flash a bs }
def Device.flashErase (d : Device) (a n : Nat) : Device := d.modStore fun s => { s with flash := Bytes.erase s.flash a n }

/-! ## Slots (R339) -/

def sectorBytes : Nat := 0x10000
/-- First byte and size of a slot; `rig`: a rigging slot, `b`: slot B. -/
def slotBase (rig : Bool) (b : Nat) : Nat :=
  if rig then (if b = 0 then 0x840000 else 0x940000) else (if b = 0 then 0x40000 else 0x440000)
def slotSize (rig : Bool) : Nat := if rig then 0x100000 else 0x400000
/-- The slots' areas: sectors 4 to 163. -/
def inSlots (a : Nat) : Bool := decide (0x40000 ≤ a ∧ a < 0xA40000)
/-- The slot that holds an address of the slots' areas. -/
def slotOf (a : Nat) : Bool × Nat :=
  if a < 0x440000 then (false, 0) else if a < 0x840000 then (false, 1) else if a < 0x940000 then (true, 0) else (true, 1)

def Device.present (d : Device) : Bool := d.flag STORE.STAT_PRESENT

/-- Trailer of block `b` of a slot: the address of its CRC, followed by its time (R339). -/
def trailerAt (rig : Bool) (slot b : Nat) : Nat := slotBase rig slot + slotSize rig - 0x1000 + 8 * b
def Device.blockCrc (d : Device) (rig : Bool) (slot b : Nat) : Nat := ofBytes (d.flashRead (trailerAt rig slot b) 4)
def Device.blockTime (d : Device) (rig : Bool) (slot b : Nat) : Nat := ofBytes (d.flashRead (trailerAt rig slot b + 4) 4)
/-- The bytes of a block that its CRC covers: all of it, the slot's trailer excepted. -/
def blockBytes (rig : Bool) (b : Nat) : Nat := if (b + 1) * sectorBytes = slotSize rig then sectorBytes - 0x1000 else sectorBytes
def Device.blockOk (d : Device) (rig : Bool) (slot b : Nat) : Bool :=
  crc32c (d.flashRead (slotBase rig slot + b * sectorBytes) (blockBytes rig b)) == d.blockCrc rig slot b

/-! ## Boot header (R386) -/

/-- With no valid record: slot A of both kinds, nothing on trial. -/
def blankHdr : BootHdr := ⟨0, 0, 0, 0, 0, 0, 0⟩

/-- The newer valid copy. -/
def Device.bootHdr (d : Device) : BootHdr :=
  if !d.present then blankHdr
  else
    match d.flash.hdr0, d.flash.hdr1 with
    | some (a, x), some (b, y) => if a < b then y else x
    | some (_, x), none => x
    | none, some (_, y) => y
    | none, none => blankHdr

def Device.activeSlot (d : Device) (rig : Bool) : Nat := if rig then d.bootHdr.rg else d.bootHdr.fw
def Device.inactiveSlot (d : Device) (rig : Bool) : Nat := 1 - d.activeSlot rig

/-! ## Headers (R358, R375) -/

def Device.header (d : Device) (rig : Bool) (slot : Nat) : List Nat := if d.present then d.flashRead (slotBase rig slot) 256 else []

def hMagic (rig : Bool) : Nat := if rig then 0x47495243 else 0x42574643
def hFmt (h : List Nat) : Nat := fieldAt h 4 2
def hType (h : List Nat) : Nat := byteAt h 6
def hKslot (h : List Nat) : Nat := byteAt h 7
def hLength (h : List Nat) : Nat := fieldAt h 8 4
def hImgid (h : List Nat) : Nat := fieldAt h 12 4
def hVersion (h : List Nat) : Nat := fieldAt h 16 4
def hRaise (h : List Nat) : Bool := byteAt h 20 % 2 == 1
def hSvn (h : List Nat) : Nat := byteAt h 21
def hTserial (h : List Nat) : Nat := fieldAt h 24 8
def hNrec (h : List Nat) : Nat := fieldAt h 32 4
def hChver (h : List Nat) : Nat := fieldAt h 36 4

/-- MAGIC and TYPE name an image of the kind; a blank slot or an absent store has neither. -/
def isImage (rig : Bool) (h : List Nat) : Bool := fieldAt h 0 4 == hMagic rig && hType h == (if rig then 2 else 1)

def lengthOk (rig : Bool) (n : Nat) : Bool :=
  if rig then decide (260 ≤ n ∧ n ≤ 1044480) else decide (324 ≤ n ∧ n ≤ 4190208)

/-- Check 1 of R305: well formed, reserved bytes 0, LENGTH and SVN in the range of the kind. -/
def headerOk (rig : Bool) (h : List Nat) : Bool :=
  isImage rig h && lengthOk rig (hLength h) && hSvn h ≤ (if rig then 32 else 64) && byteAt h 20 < 2
    && fieldAt h 22 2 == 0 && fieldAt h 40 24 == 0 && fieldAt h 224 32 == 0
    && (rig || (hTserial h == 0 && hNrec h == 0 && hChver h == 0))

/-- The digest of R359: bytes 0 to LENGTH − 1, DIGEST and SIG taken as 0. -/
def imageDigest (bs : List Nat) : BitVec 256 :=
  let z (n : Nat) := List.replicate n 0
  Config.sha256 ((bs.take 64 ++ z 32 ++ (bs.drop 96).take 64 ++ z 64 ++ bs.drop 224).map (BitVec.ofNat 8))

/-! ## Keys (R304) -/

/-- The hash in a key slot, from the KEYS words at normal margin; blank words hold no hash. -/
def Otp.slotHash (o : Otp) (k : Nat) : BitVec 256 :=
  let ws := (List.range 63).map fun i => o.normal (0x0C9 + i)
  if ws.all (· == 0) then 0 else Config.keyHash (ws.map (BitVec.ofNat 32)) k

/-- Key kill reaches slots 3 to 6. -/
def Device.keyKilled (d : Device) (k : Nat) : Bool := d.flag SEC.LIFE_KILLED && decide (3 ≤ k ∧ k ≤ 6)
def Device.keyRevoked (d : Device) (k : Nat) : Bool := (d.rd SEC.REVOKED).testBit k
/-- A slot that matches some key; in FAIL none does (R330). -/
def Device.keyUsable (d : Device) (k : Nat) : Bool :=
  d.regionState rKeys != 3 && d.otp.slotHash k != 0 && !d.keyKilled k && !d.keyRevoked k

/-- Checks 4 to 7 of R305: 0 passes. The public key and signature are given as the standard's byte
strings, byte i at bits 8i + 7 to 8i. -/
def Device.keyCheck (d : Device) (k : Nat) (pubkey : BitVec 512) (digest : BitVec 256) (sig : BitVec 512) : Nat :=
  if d.keyKilled k then 4
  else if d.keyRevoked k then 5
  else
    let hash := Config.sha256 (4 :: (toBytes 64 pubkey.toNat).map (BitVec.ofNat 8))
    if d.regionState rKeys == 3 || d.otp.slotHash k == 0 || hash != d.otp.slotHash k then 6
    else if Config.ecdsaVerify pubkey digest sig then 0
    else 7

/-! ## Authentication (R305) -/

def lcBlank : Nat := 0
def lcProvisioned : Nat := 1
def lcDeployed : Nat := 2
def lcReturned : Nat := 3
def Device.lifecycle (d : Device) : Nat := d.fld SEC.LIFE_STATE

/-- The first check that fails, or 0. -/
def Device.authReason (d : Device) (rig : Bool) (slot : Nat) : Nat :=
  let h := d.header rig slot
  if !headerOk rig h then 1
  else
    let digest := imageDigest (d.flashRead (slotBase rig slot) (hLength h))
    if digest.toNat != fieldAt h 64 32 then 2
    else
      let k := hKslot h
      let key :=
        if d.lifecycle = lcBlank then 0
        else if k / 3 != (if rig then 1 else 0) then 3
        else d.keyCheck k (BitVec.ofNat 512 (fieldAt h 96 64)) digest (BitVec.ofNat 512 (fieldAt h 160 64))
      if key != 0 then key
      else if hSvn h < (if rig then d.rd SEC.RGFLOOR else d.rd SEC.FWFLOOR) then 8
      else 0

/-- The verdict, with SEC.AUTHRES, AUTH_FAIL and AUTHSKIP. -/
def Device.authenticate (d : Device) (rig : Bool) (slot : Nat) : Device × Bool :=
  let why := d.authReason rig slot
  let d := if d.lifecycle = lcBlank then d.raise SEC.STAT_AUTHSKIP else d
  if why = 0 then (d, true) else (((d.wr SEC.AUTHRES why).raise SEC.STAT_AUTH_FAIL).log Ev.AUTH_FAIL [why], false)

/-! ## The bundle's compatibility table (R375) -/

/-- The 64 bytes at 256 of a bundle in a slot. -/
def Device.compat (d : Device) (slot : Nat) : List Nat := if d.present then d.flashRead (slotBase false slot + 256) 64 else []
def cSteppings (t : List Nat) : List Nat := ((List.range 8).map fun i => fieldAt t (2 * i) 2).filter (· != 0)
def cFormats (t : List Nat) : List Nat := ((List.range 8).map fun i => fieldAt t (16 + 2 * i) 2).filter (· != 0)
def cVerLo (t : List Nat) : Nat := byteAt t 32 % 16
def cVerHi (t : List Nat) : Nat := byteAt t 32 / 16
def cFwOff (t : List Nat) : Nat := fieldAt t 36 4
def cFwLen (t : List Nat) : Nat := fieldAt t 40 4
def cUcOff (t : List Nat) : Nat := fieldAt t 44 4
def cUcLen (t : List Nat) : Nat := fieldAt t 48 4
def cUcCrc (t : List Nat) : Nat := fieldAt t 52 4

/-- The table's layout: reserved bytes 0, a version range, firmware and microcode inside the bundle. -/
def compatOk (t : List Nat) (len : Nat) : Bool :=
  fieldAt t 33 3 == 0 && fieldAt t 56 8 == 0 && cVerLo t ≤ cVerHi t && cFwLen t ≤ 458752
    && cFwOff t + cFwLen t ≤ len && cUcOff t + cUcLen t ≤ len

/-- The running bundle's table; recovery runs none. -/
def Device.runningTable (d : Device) : List Nat := if d.sec.recovery then [] else d.compat (d.fld SEC.BOOT_SLOT)

/-- The stepping and the serial of IDENT (R324). -/
def Otp.stepping (o : Otp) : Nat := o.normal 0x083
def Otp.serial (o : Otp) : Nat := o.normal 0x081 + 2 ^ 32 * o.normal 0x082

end Sys2Proof.Machine
end

