-- ==== Sys2Proof/Machine/Store.lean ====
section
/-! DEFINITION. Machine/Store.lean: records and their queue (R340–R342, R348), the event log (R343–R345), the
counter journal (R346, R109, R243), the energy check (R347), defects and spares (R349, R350), scrub,
rewrite and repair (R351–R354), and the store window (R355). -/
namespace Sys2Proof.Machine

/-! ## Energy (R347) -/

/-- Whether an operation that takes `us` microseconds may start; EHOLD and EREQ record the check. -/
def Device.storeEnergy (d : Device) (env : EnergyEnv) (us : Nat) : Bool × Device :=
  let p := if d.inKeep then d.rd STORE.PKEEP else d.rd STORE.PRUN
  let d := (d.wr STORE.EHOLD (d.holdup env / 2000000)).wr STORE.EREQ (2 * p * us / 1000)
  (decide (4000 * p * us ≤ d.holdup env) || d.healthy, d)

/-- No store operation runs beside another or beside an OTP command. -/
def Device.storeIdle (d : Device) : Bool := d.flash.op.isNone && !d.flag OTP.STAT_BUSY

/-! ## Sectors (R339, R349, R350) -/

def Device.sectors (d : Device) : Nat := d.rd STORE.SIZE * 16
def Device.logSectors (d : Device) : Nat := d.sectors - 64 - 180
def recsPerSector : Nat := 1024

/-- The newest record of a retired sector in the two copies of the defect table (R349). -/
def newestDefect (l : List DefectRec) (k : Nat) : Option DefectRec :=
  l.foldl (fun m r => if r.sector = k && m.all (fun x => decide (x.seq ≤ r.seq)) then some r else m) none

/-- The physical sector in use for a logical one: every access to a retired sector goes to its spare (R349). -/
def Store.place (s : Store) (k : Nat) : Nat := ((newestDefect (s.def2 ++ s.def3) k).map (·.spare)).getD k

/-- The spares that stand for a retired sector now. -/
def Store.inUse (s : Store) : List Nat := (((s.def2 ++ s.def3).map (·.sector)).eraseDups).map s.place

/-- R349: a DEFECT record is written to sector 2 and then to sector 3. -/
def Store.writeDefect (s : Store) (k p cause : Nat) : Store :=
  let r : DefectRec := ⟨s.defSeq, k, p, (look s.erases p).getD 0, cause⟩
  { s with def2 := s.def2 ++ [r], def3 := s.def3 ++ [r], defSeq := s.defSeq + 1 }

/-- Causes of a DEFECT record (notes/assumptions/85.md). -/
def causeFailed : Nat := 0
def causeWorn : Nat := 1
def causeRepair : Nat := 2
def causeRewrite : Nat := 3

/-- QSPI_CLK in kHz (R337). -/
def Device.qspiClk (d : Device) : Nat := if d.inKeep then 12500 else 50000
def Store.eraseCount (s : Store) (phys : Nat) : Nat := (look s.erases phys).getD 0

/-- Free spare sectors, lowest first: neither in use nor retired. -/
def Device.freeSpares (d : Device) : List Nat :=
  let pool := ((List.range 64).map (d.sectors - 64 + ·) ++ d.flash.returned).eraseDups
  (sortNat pool).filter fun p => !d.flash.inUse.contains p && !d.flash.worn.contains p

def Device.spareCount (d : Device) : Device := d.wr STORE.SPARES d.freeSpares.length

/-- R350: a sector is retired onto the lowest free spare; with none it goes on in use, and sectors 0–3 always do. -/
def Device.retire (d : Device) (k cause : Nat) : Device :=
  if k < 4 then d.log Ev.STORE_CRITICAL [k]
  else
    match d.freeSpares with
    | [] => (d.raise STORE.STAT_STORE_NOSPARE).log Ev.STORE_NOSPARE [k]
    | p :: _ =>
      let d := d.modStore fun s => { s with worn := s.place k :: s.worn }.writeDefect k p cause
      ((d.spareCount).raise STORE.STAT_STORE_RETIRED).log Ev.STORE_RETIRED [k, p]

/-- A retirement programs the store: it waits for its own energy check (R347). One that programs nothing is at once. -/
def Device.mustRetire (d : Device) (k cause : Nat) : Device :=
  if k < 4 || d.freeSpares.isEmpty then d.retire k cause
  else d.modStore fun s =>
    { s with retiring := if s.retiring.any fun e => e.1 == k then s.retiring else s.retiring ++ [(k, cause)] }

/-- The oldest retirement that waits, where the energy suffices. -/
def Device.retireNext (d : Device) (env : EnergyEnv) : Device :=
  match d.flash.retiring with
  | [] => d
  | (k, cause) :: rest =>
    let (ok, d) := d.storeEnergy env d.flash.tProg
    if ok then (d.modStore fun s => { s with retiring := rest }).retire k cause else d

/-- A logical sector has been erased: its count rises, and a worn sector is to be retired. -/
def Device.countErase (d : Device) (k : Nat) : Device :=
  let p := d.flash.place k
  let n := d.flash.eraseCount p + 1
  let d := (d.modStore fun s => { s with erases := put s.erases p n }).wr STORE.MAXERASE (max n (d.rd STORE.MAXERASE))
  if n = 90000 then d.mustRetire k causeWorn else d

/-! ## The queue (R348) -/

def Device.queueRegs (d : Device) : Device :=
  (d.wr STORE.QUSED d.flash.queue.length).setFlag STORE.STAT_QUEUED (!d.flash.queue.isEmpty)

/-- The queue with one record more; the oldest goes where it is full. -/
def Device.enqueue (d : Device) (q : List (RecBody × Nat)) : Device :=
  let d :=
    if q.length ≤ 32 then d.modStore fun s => { s with queue := q }
    else
      let d := d.modStore fun s => { s with queue := q.tail, droppedSince := s.droppedSince + 1 }
      (d.countSat STORE.DROPCNT).raise STORE.STAT_LOG_DROPPED
  d.queueRegs

/-- A record that cannot be written waits. -/
def Device.defer (d : Device) (b : RecBody) (t : Nat) : Device :=
  let d := d.enqueue (d.flash.queue ++ [(b, t)])
  if d.flash.deferring then d
  else ((d.modStore fun s => { s with deferring := true }).raise STORE.STAT_STORE_DEFER).log Ev.STORE_DEFER []

/-! ## Areas (R343, R346) -/

def isJournal : RecBody → Bool
  | .event .. => false
  | _ => true

def areaFull (l : List Sector) : Bool := (l.getLast?).all fun s => recsPerSector ≤ s.recs.length

/-- The sectors of the area that hold no records. -/
def Device.erasedLeft (d : Device) (journal : Bool) : Nat :=
  if journal then 16 - d.flash.journal.length else d.logSectors - d.flash.log.length

/-- There is a blank position, in the sector in use or in the next erased one. -/
def Device.areaReady (d : Device) (journal : Bool) : Bool :=
  !areaFull (if journal then d.flash.journal else d.flash.log) || d.erasedLeft journal != 0

/-- The sector after the one in use, in turn. -/
def nextSector (first n : Nat) (l : List Sector) : Nat :=
  match l.getLast? with
  | none => first
  | some s => first + (s.num - first + 1) % n

def addRec (l : List Sector) (r : Record) : List Sector :=
  match l.getLast? with
  | none => l
  | some s => l.dropLast ++ [{ s with recs := s.recs ++ [r] }]

/-! ## Journal parts -/

/-- Counters 20p to 20p + 19 of page CNT in offset order (R245, R340). -/
def cntReg (i : Nat) : Option Reg :=
  let j := i / 6
  if j < 10 then
    some (match i % 6 with
      | 0 => CNT.UV j
      | 1 => CNT.OV j
      | 2 => CNT.OC j
      | 3 => CNT.CHAT j
      | 4 => CNT.STO j
      | _ => CNT.TRIP j)
  else none

def Device.counterPart (d : Device) (p : Nat) : RecBody :=
  .counter p ((List.range 20).map fun i => ((cntReg (20 * p + i)).map d.rd).getD 0)

def Device.latencyGroup (d : Device) (g : Nat) : RecBody :=
  .latency g (((List.range 3).filter fun i => 3 * g + i < 160).map fun i =>
    let n := 3 * g + i
    let c := d.chan n
    ⟨c.learnOn.lat, c.learnOff.lat, d.fld (CHS.STAT_UNL_ON n) + 2 * d.fld (CHS.STAT_UNL_OFF n), d.rd (CHS.CYC n), c.check⟩)

def Device.clockPart (d : Device) : RecBody := .clock (d.rd STORE.SCLK) (d.rd STORE.BOOTCNT) (d.rd STORE.TSCRUB)

/-- The 58 parts that open a journal sector after its SECTOR record, CLOCK among them. -/
def Device.allParts (d : Device) : List RecBody :=
  (List.range 3).map d.counterPart ++ (List.range 54).map d.latencyGroup ++ [d.clockPart]

/-- The area of the log, or of the journal. -/
def Device.area (d : Device) (journal : Bool) : List Sector := if journal then d.flash.journal else d.flash.log

/-- The next sector opens with its SECTOR record; in the journal a copy of every part is then to follow. -/
def Device.openSector (d : Device) (journal intact : Bool) : Device :=
  let sclk := d.rd STORE.SCLK
  let num := if journal then nextSector 164 16 d.flash.journal else nextSector 180 d.logSectors d.flash.log
  let head := RecBody.sector (d.flash.eraseCount (d.flash.place num)) sclk (d.rd STORE.BOOTCNT)
  if journal then
    d.modStore fun s =>
      { s with journal := s.journal ++ [⟨num, sclk, [⟨s.jseq, d.now, head, intact⟩]⟩]
               jseq := s.jseq + intact.toNat, opening := d.allParts }
  else
    let d := d.modStore fun s => { s with log := s.log ++ [⟨num, sclk, [⟨d.rd STORE.NEXTSEQ, d.now, head, intact⟩]⟩] }
    if intact then d.count STORE.NEXTSEQ else d

/-- A record takes its SEQ and its place (R341) in the sector in use. -/
def Device.putRecord (d : Device) (b : RecBody) (t : Nat) (intact : Bool) : Device :=
  if isJournal b then
    d.modStore fun s => { s with journal := addRec s.journal ⟨s.jseq, t, b, intact⟩, jseq := s.jseq + intact.toNat }
  else
    let d := d.modStore fun s => { s with log := addRec s.log ⟨d.rd STORE.NEXTSEQ, t, b, intact⟩ }
    if intact then d.count STORE.NEXTSEQ else d

/-! ## Writing (R341, R343, R348) -/

def Device.startOp (d : Device) (op : StoreOp) : Device :=
  (d.modStore fun s => { s with op := some op }).raise STORE.STAT_BUSY

/-- A record may be programmed now: the store is there, a position is blank, the energy suffices. -/
def Device.mayWrite (d : Device) (env : EnergyEnv) (b : RecBody) : Bool × Device :=
  if !d.present || !d.areaReady (isJournal b) then (false, d) else d.storeEnergy env d.flash.tProg

/-- The LOG_DROPPED record that goes first when writing resumes. -/
def Device.droppedRec (d : Device) : RecBody :=
  .event { code := Ev.LOG_DROPPED, tide := d.now, args := [d.flash.droppedSince] } (d.rd STORE.BOOTCNT) (d.rd STORE.SCLK)

/-- Erasure ahead: the oldest sector of the log where fewer than two are erased, of the journal where it
has no sector left. -/
def Device.eraseAhead (d : Device) (env : EnergyEnv) : Device :=
  let needLog := d.erasedLeft false < 2 && !d.flash.log.isEmpty
  let needJ := d.erasedLeft true = 0 && areaFull d.flash.journal
  if !d.present || !(needLog || needJ) then d
  else
    let (ok, d) := d.storeEnergy env d.flash.tErase
    if ok then d.startOp (if needLog then .eraseLog else .eraseJournal) else d

/-- The oldest record that firmware has still to write, and the device without it: events, what opens a journal sector,
then the journal records that are due. -/
def Device.nextRec (d : Device) : Option (RecBody × Nat × Device) :=
  match d.events, d.flash.opening, d.flash.ready with
  | e :: t, _, _ => some (.event e (d.rd STORE.BOOTCNT) (d.rd STORE.SCLK), e.tide, { d with events := t })
  | [], b :: rest, _ => some (b, d.now, d.modStore fun s => { s with opening := rest })
  | [], [], (b, t) :: rest => some (b, t, d.modStore fun s => { s with ready := rest })
  | [], [], [] => none

/-- The program that a record needs first begins, each program under its own energy check (R347): where the sector in
use is full, that which opens the next one; a LOG_DROPPED record that is due; else its own, with `rest` the device
without it. -/
def Device.startRec (d rest : Device) (b : RecBody) (t : Nat) : Device :=
  if areaFull (d.area (isJournal b)) then d.startOp (.openSector (isJournal b))
  else if d.flash.droppedSince != 0 && !isJournal b then d.startOp (.record d.droppedRec d.now)
  else rest.startOp (.record b t)

/-- R341, R348: the next record is programmed, or joins the queue; a sector that is to be retired goes first (R350). -/
def Device.recordWrite (d : Device) (env : EnergyEnv) : Device :=
  if !d.coreRuns || !d.storeIdle then d
  else if !d.flash.retiring.isEmpty then d.retireNext env
  else
    match d.nextRec with
    | none => d.eraseAhead env
    | some (b, t, rest) =>
      let (ok, d) := d.mayWrite env b
      let rest := { rest with regs := d.regs }
      if ok then d.startRec rest b t else rest.defer b t

def execRecordWrite (env : EnergyEnv) (s : State) : Host.Outcome State Fault Refusal := s.run fun d => d.recordWrite env

/-- R348: while records are deferred the head of the queue is tried at a change of power state and every 100 ms. -/
def Device.retryNow (d : Device) : Bool :=
  !d.flash.deferring || d.flash.triedIn != d.fld SEC.PSTAT_STATE || decide (d.flash.triedAt + 100 * msec ≤ d.clk)

/-- R348: the head of the queue is tried again; in the journal, after what opens its sector. -/
def Device.storeRetry (d : Device) (env : EnergyEnv) : Device :=
  if !d.coreRuns || !d.storeIdle then d
  else if !d.flash.retiring.isEmpty then d.retireNext env
  else
    match d.flash.queue with
    | [] => d.eraseAhead env
    | (b, t) :: rest =>
      if !d.retryNow then d else
      let d := d.modStore fun s => { s with triedAt := d.clk, triedIn := d.fld SEC.PSTAT_STATE }
      let (ok, d) := d.mayWrite env b
      if !ok then (if d.areaReady (isJournal b) then d else d.eraseAhead env)
      else
        match isJournal b, d.flash.opening with
        | true, p :: more => d.startRec (d.modStore fun s => { s with opening := more }) p d.now
        | _, _ => d.startRec ((d.modStore fun s => { s with queue := rest }).queueRegs) b t

def execStoreRetry (env : EnergyEnv) (s : State) : Host.Outcome State Fault Refusal := s.run fun d => d.storeRetry env

/-- The logical sector an operation works in. -/
def Device.opSector (d : Device) : StoreOp → Nat
  | .record b _ => (((d.area (isJournal b)).getLast?).map (·.num)).getD 0
  | .openSector journal =>
    if journal then nextSector 164 16 d.flash.journal else nextSector 180 d.logSectors d.flash.log
  | .eraseLog => ((d.flash.log.head?).map (·.num)).getD 180
  | .eraseJournal => ((d.flash.journal.head?).map (·.num)).getD 164

def isDropped : RecBody → Bool
  | .event e _ _ => e.code == Ev.LOG_DROPPED
  | _ => false

/-- R341: the operation completes and is read back. A failure retires the sector; the record is then
written again, from the head of the queue. -/
def Device.storeDone (d : Device) (ok : Bool) : Device :=
  match d.flash.op with
  | none => d
  | some op =>
    let d := (d.modStore fun s => { s with op := none }).lower STORE.STAT_BUSY
    match op with
    | .record b t =>
      if ok then
        (d.putRecord b t true).modStore fun s =>
          { s with deferring := false, droppedSince := if isDropped b then 0 else s.droppedSince }
      else
        let d := d.mustRetire (d.opSector op) causeFailed
        if isDropped b then d else d.enqueue ((b, t) :: d.flash.queue)
    | .openSector journal => if ok then d.openSector journal true else d.mustRetire (d.opSector op) causeFailed
    | .eraseLog =>
      let k := d.opSector op
      let d := if ok then d.countErase k else d.mustRetire k causeFailed
      d.modStore fun s => { s with log := s.log.tail }
    | .eraseJournal =>
      let k := d.opSector op
      let d := if ok then d.countErase k else d.mustRetire k causeFailed
      d.modStore fun s => { s with journal := s.journal.tail }

def execStoreOpComplete (ok : Bool) (s : State) : Host.Outcome State Fault Refusal := s.run fun d => d.storeDone ok

/-! ## Journalling (R109, R243, R346) -/

def Device.journalDue (d : Device) (bs : List RecBody) : Device :=
  d.modStore fun s => { s with ready := s.ready ++ bs.map fun b => (b, d.now) }

/-- R243: within 1 s of a change. -/
def Device.counterJournal (d : Device) : Device :=
  if !d.flag CNT.JSTAT_PENDING || !d.coreRuns then d
  else ((d.journalDue ((List.range 3).map d.counterPart)).lower CNT.JSTAT_PENDING).modStore fun s => { s with cntDirty := false }

def execCounterJournal (s : State) : Host.Outcome State Fault Refusal := s.run fun d => d.counterJournal

/-- R109: every 10 minutes in RUN, and at each power-down. -/
def Device.latencyJournal (d : Device) : Device :=
  if !d.coreRuns then d
  else if d.flash.latDue || (d.inRun && decide (d.flash.latAt + 600 * second ≤ d.now)) then
    (d.journalDue ((List.range 54).map d.latencyGroup)).modStore fun s => { s with latDue := false, latAt := d.now }
  else d

def execLatencyJournal (s : State) : Host.Outcome State Fault Refusal := s.run fun d => d.latencyJournal

/-- R346: each hour, and at each power-down completion. -/
def Device.clockJournal (d : Device) : Device :=
  if !d.coreRuns then d
  else if d.flash.clockDue || decide (d.flash.clockAt + 3600 * second ≤ d.now) then
    (d.journalDue [d.clockPart]).modStore fun s => { s with clockDue := false, clockAt := d.now }
  else d

def execClockJournal (s : State) : Host.Outcome State Fault Refusal := s.run fun d => d.clockJournal

/-- R245: CNT.CLR clears each counter selected in both masks; the cleared values are journalled (R243). -/
def Device.cntClear (d : Device) (v : Nat) : Device :=
  let hit := (List.range 60).filter fun i => v.testBit (i / 6) && v.testBit (10 + i % 6)
  if hit.isEmpty then d
  else ((d.each hit fun d i => (cntReg i).elim d fun r => d.wr r 0).raise CNT.JSTAT_PENDING).modStore fun s => { s with cntDirty := true }

def execCntClr (w : Writer) (v : BitVec 16) (s : State) : Host.Outcome State Fault Refusal :=
  s.run fun d => d.asWriter w fun d => d.cntClear v.toNat

/-! ## Read-out (R342) -/

def recsOf (l : List Sector) : List Record := l.flatMap (·.recs)

/-- First missing SEQ and length of each gap between valid records in SEQ order. -/
def gaps : List Nat → List (Nat × Nat)
  | a :: b :: t => if a + 1 < b then (a + 1, b - a - 1) :: gaps (b :: t) else gaps (b :: t)
  | _ => []

/-- R342: torn records are counted and logged once per read-out, gaps each. -/
def Device.readOut (d : Device) (l : List Sector) : Device :=
  let rs := recsOf l
  let torn := (rs.filter fun r => !r.intact).length
  let d := if torn = 0 then d
    else ((d.countSat STORE.TORNCNT torn).raise STORE.STAT_STORE_TORN).log Ev.STORE_TORN [torn]
  d.each (gaps ((rs.filter (·.intact)).map (·.seq))) fun d g =>
    ((d.countSat STORE.GAPCNT).raise STORE.STAT_STORE_GAP).log Ev.STORE_GAP [g.1, g.2]

/-- The newest intact journal record that `f` picks. -/
def Device.newest {α : Type} (d : Device) (f : RecBody → Option α) : Option α :=
  ((recsOf d.flash.journal).reverse.filter (·.intact)).findSome? fun r => f r.body

def asClock : RecBody → Option (Nat × Nat × Nat)
  | .clock a b c => some (a, b, c)
  | _ => none
def asCounter (p : Nat) : RecBody → Option (List Nat)
  | .counter q vs => if p = q then some vs else none
  | _ => none
def asLatency (n : Nat) : RecBody → Option LatRec
  | .latency g cs => if g = n / 3 then cs[n % 3]? else none
  | _ => none

/-- SCLK, BOOTCNT and TSCRUB, at every core reset (R411). SCLK never decreases (R351): a journalled value
below the present one leaves it. -/
def Device.restoreClock (d : Device) : Device :=
  match d.newest asClock with
  | some (sclk, boot, ts) =>
    ((d.wr STORE.SCLK (max sclk (d.rd STORE.SCLK))).wr STORE.BOOTCNT (max boot (d.rd STORE.BOOTCNT))).wr STORE.TSCRUB ts
  | none => d

/-- Page CNT and CHS.CYC, at power-on reset (R243, R409). -/
def Device.restoreCounters (d : Device) : Device :=
  let parts := (List.range 3).map fun p => d.newest (asCounter p)
  let d := d.each (List.range 3) fun d p =>
    match (parts[p]?).join with
    | some vs => d.each (List.range 20) fun d i => (cntReg (20 * p + i)).elim d fun r => d.wr r ((vs[i]?).getD 0)
    | none => d
  let found := parts.any Option.isSome
  let d := (d.setFlag CNT.JSTAT_RESTORED found).setFlag CNT.JSTAT_NOREC (!found)
  d.each allChans fun d n => ((d.newest (asLatency n)).elim d fun r => d.wr (CHS.CYC n) r.cyc)

/-! ## Scrub, rewrite and repair (R351–R354) -/

def sixMonths : Nat := 15778800
def eightYears : Nat := 252460800

/-- R351: SCLK never decreases. -/
def Device.writeWall (d : Device) (v : Nat) : Device := if d.rd STORE.SCLK < v then d.wr STORE.SCLK v else d

def execWallWrite (w : Writer) (v : BitVec 32) (s : State) : Host.Outcome State Fault Refusal :=
  s.run fun d => d.asWriter w fun d => d.writeWall v.toNat

def Device.beginScrub (d : Device) : Device := if d.coreRuns && d.present then d.raise STORE.STAT_SCRUBBING else d

def execScrub (w : Writer) (s : State) : Host.Outcome State Fault Refusal := s.run fun d => d.asWriter w Device.beginScrub

/-- R352: six months after the last. -/
def Device.scrubStart (d : Device) : Device :=
  if d.rd STORE.TSCRUB + sixMonths ≤ d.rd STORE.SCLK then d.beginScrub else d

def execScrubStart (s : State) : Host.Outcome State Fault Refusal := s.run fun d => d.scrubStart

/-- A slot holds an image: its identifier is not 0 (R388). -/
def slotIx (rig : Bool) (slot : Nat) : Nat := (if rig then 2 else 0) + slot
def Device.slotId (d : Device) (rig : Bool) (slot : Nat) : Nat := d.rd (UPD.SLOTID (slotIx rig slot))
def Device.holdsImage (d : Device) (rig : Bool) (slot : Nat) : Bool := d.slotId rig slot != 0 && isImage rig (d.header rig slot)

/-- The blocks an image occupies. -/
def Device.imageBlocks (d : Device) (rig : Bool) (slot : Nat) : List Nat :=
  if d.holdsImage rig slot then List.range (min (slotSize rig / sectorBytes) (ceilDiv (hLength (d.header rig slot)) sectorBytes)) else []

def allSlotKinds : List (Bool × Nat) := [(false, 0), (false, 1), (true, 0), (true, 1)]

/-- The logical sector of a block. -/
def blockSector (rig : Bool) (slot b : Nat) : Nat := slotBase rig slot / sectorBytes + b

/-- A block is written into a spare sector (R350), with its trailer time. -/
def Device.putBlock (d : Device) (rig : Bool) (slot b : Nat) (bs : List Nat) : Device :=
  let d := (d.retire (blockSector rig slot b) causeRepair).flashWrite (slotBase rig slot + b * sectorBytes) bs
  d.flashWrite (trailerAt rig slot b + 4) (toBytes 4 (d.rd STORE.SCLK))

/-- Sources that STORE_REPAIRED carries: the twin slot, or a ring peer. -/
def fromTwin : Nat := 0
def fromPeer : Nat := 1

/-- R354: a failed block, from the twin slot where that holds the same image and its block passes. A ring
peer's part comes through the window (R355); a device with no port up has none. -/
def Device.repairBlock (d : Device) (env : EnergyEnv) (rig : Bool) (slot b : Nat) : Device :=
  let twin := 1 - slot
  if d.slotId rig twin == d.slotId rig slot && d.holdsImage rig twin && d.blockOk rig twin b then
    let (ok, d) := d.storeEnergy env d.flash.tProg
    if !ok then d
    else
      let bs := d.flashRead (slotBase rig twin + b * sectorBytes) (blockBytes rig b)
      (d.putBlock rig slot b bs).log Ev.STORE_REPAIRED [slotBase rig slot + b * sectorBytes, fromTwin]
  else if d.isUp .east || d.isUp .west then d
  else d.log Ev.STORE_UNREPAIRED [slotBase rig slot + b * sectorBytes]

def Device.badBlock (d : Device) (a : Nat) : Device := (d.raise STORE.STAT_STORE_BADBLK).log Ev.STORE_BADBLK [a]

/-- Every block of every image against its trailer, and every image against its digest (R352). -/
def Device.scrubSlot (d : Device) (env : EnergyEnv) (rig : Bool) (slot : Nat) : Device :=
  let d := d.each (d.imageBlocks rig slot) fun d b =>
    if d.blockOk rig slot b then d
    else (d.badBlock (slotBase rig slot + b * sectorBytes)).repairBlock env rig slot b
  if d.holdsImage rig slot then
    let h := d.header rig slot
    if (imageDigest (d.flashRead (slotBase rig slot) (hLength h))).toNat == fieldAt h 64 32 then d
    else d.badBlock (slotBase rig slot)
  else d

/-- R353: content moved to a free spare, the old sector erased and returned to the pool. -/
def Device.rewrite (d : Device) (k : Nat) : Device :=
  match d.freeSpares with
  | [] => d
  | p :: _ =>
    let old := d.flash.place k
    let n := d.flash.eraseCount old + 1
    let d := d.modStore fun s =>
      let s := { s with erases := put s.erases old n }.writeDefect k p causeRewrite
      if n < 90000 then { s with returned := insNat s.returned old } else { s with worn := old :: s.worn }
    (d.wr STORE.MAXERASE (max n (d.rd STORE.MAXERASE))).spareCount.log Ev.STORE_REWRITE [k]

def Device.aged (d : Device) (time : Nat) : Bool := time + eightYears ≤ d.rd STORE.SCLK

def renew (now : Nat) (limit : Nat) (l : List Sector) : List Sector :=
  l.map fun s => if s.time + limit ≤ now then { s with time := now } else s

/-- Every sector whose programming time is 8 years or more below SCLK; sectors 0–3 from each other. -/
def Device.rewriteAged (d : Device) (env : EnergyEnv) : Device :=
  let (ok, d) := d.storeEnergy env d.flash.tErase
  if !ok then d
  else
    let now := d.rd STORE.SCLK
    let old := (d.flash.log ++ d.flash.journal).filter fun s => d.aged s.time
    let d := d.each (old.map (·.num)) Device.rewrite
    let d := d.modStore fun s => { s with log := renew now eightYears s.log, journal := renew now eightYears s.journal }
    let d := d.each allSlotKinds fun d x =>
      d.each ((d.imageBlocks x.1 x.2).filter fun b => d.aged (d.blockTime x.1 x.2 b)) fun d b =>
        (d.rewrite (blockSector x.1 x.2 b)).flashWrite (trailerAt x.1 x.2 b + 4) (toBytes 4 now)
    if !d.aged d.flash.critTime then d
    else
      let d := d.each (List.range 4) fun d k => (d.countErase k).log Ev.STORE_REWRITE [k]
      d.modStore fun s => { s with critTime := now }

/-- The addresses of the records that fail (R352). -/
def badRecords (l : List Sector) : List Nat :=
  l.flatMap fun s => (s.recs.zipIdx.filter fun x => !x.1.intact).map fun x => s.num * sectorBytes + 64 * x.2

/-- The part of the journal that a record held, as it stands now: the journal writes it again (R354). -/
def Device.journalPart (d : Device) : RecBody → Option RecBody
  | .counter p _ => some (d.counterPart p)
  | .latency g _ => some (d.latencyGroup g)
  | .clock .. => some d.clockPart
  | .event .. | .sector .. => none

/-- R352: the scrub completes: every sector in use has been read once. -/
def Device.scrubDone (d : Device) (env : EnergyEnv) : Device :=
  if !d.flag STORE.STAT_SCRUBBING || !d.coreRuns then d
  else
    let d := (d.readOut d.flash.log).readOut d.flash.journal
    let d := d.each (badRecords (d.flash.log ++ d.flash.journal)) Device.badBlock
    let d := d.journalDue (((recsOf d.flash.journal).filter fun r => !r.intact).filterMap fun r => d.journalPart r.body)
    let d := d.each allSlotKinds fun d x => d.scrubSlot env x.1 x.2
    let d := d.rewriteAged env
    ((d.lower STORE.STAT_SCRUBBING).wr STORE.TSCRUB (d.rd STORE.SCLK)).log Ev.SCRUB_DONE []

def execScrubDone (env : EnergyEnv) (s : State) : Host.Outcome State Fault Refusal := s.run fun d => d.scrubDone env

/-! ## The window (R355) -/

def xOk : Nat := 0
def xBadAddr : Nat := 1
def xCrc : Nat := 2
def xEnergy : Nat := 3

/-- A write of XADDR: bit 31 opens staging of the block at the address. -/
def Device.writeXaddr (d : Device) (v : Nat) : Device :=
  let a := v % 2 ^ 31
  let d := d.wr STORE.XADDR v
  if !inSlots a then (d.setFld STORE.XSTAT_CODE xBadAddr).lower STORE.XSTAT_STAGING
  else
    let stage := v.testBit 31
    let d := (d.setFld STORE.XSTAT_CODE xOk).setFlag STORE.XSTAT_STAGING stage
    if stage then d.modStore fun s => { s with staged := [], stageBase := a } else d

def execXaddrWrite (w : Writer) (v : BitVec 32) (s : State) : Host.Outcome State Fault Refusal :=
  s.run fun d => d.asWriter w fun d => d.writeXaddr v.toNat

/-- A whole staged block: checked against its trailer CRC and programmed into a spare (R354). -/
def Device.programStaged (d : Device) (env : EnergyEnv) : Device :=
  let bs := d.flash.staged.reverse.flatMap fun x => toBytes 32 x
  let (rig, slot) := slotOf d.flash.stageBase
  let b := (d.flash.stageBase - slotBase rig slot) / sectorBytes
  let bs := bs.take (blockBytes rig b)
  let d := (d.modStore fun s => { s with staged := [] }).lower STORE.XSTAT_STAGING
  if crc32c bs != d.blockCrc rig slot b then d.setFld STORE.XSTAT_CODE xCrc
  else
    let (ok, d) := d.storeEnergy env d.flash.tProg
    if !ok then d.setFld STORE.XSTAT_CODE xEnergy
    else
      let d := (d.putBlock rig slot b bs).log Ev.STORE_REPAIRED [slotBase rig slot + b * sectorBytes, fromPeer]
      (d.setFld STORE.XSTAT_CODE xOk).raise STORE.XSTAT_DONE

/-- 32 bytes staged; the 2048th completes the block. -/
def Device.writeXdata (d : Device) (v : Nat) (env : EnergyEnv) : Device :=
  if !d.flag STORE.XSTAT_STAGING || !inSlots d.flash.stageBase then d
  else
    let d := d.modStore fun s => { s with staged := v :: s.staged }
    if d.flash.staged.length < 2048 then d else d.programStaged env

def execXdataWrite (w : Writer) (v : BitVec 256) (env : EnergyEnv) (s : State) : Host.Outcome State Fault Refusal :=
  s.run fun d => d.asWriter w fun d => d.writeXdata v.toNat env

/-- A read of XDATA: 32 bytes of the slots stand in it, and XADDR advances. -/
def Device.readXdata (d : Device) : Device :=
  let a := d.rd STORE.XADDR % 2 ^ 31
  if !inSlots a || d.flag STORE.XSTAT_STAGING then (d.wr STORE.XDATA 0).setFld STORE.XSTAT_CODE (if inSlots a then xOk else xBadAddr)
  else
    let bs := if d.present then d.flashRead a 32 else List.replicate 32 0xFF
    (d.wr STORE.XDATA (ofBytes bs)).wr STORE.XADDR (d.rd STORE.XADDR + 32)

def execXdataRead (_w : Writer) (s : State) : Host.Outcome State Fault Refusal := s.run Device.readXdata

/-! ## Boot header records (R386) -/

/-- A BOOTHDR record written to the copy that does not hold the newest, each under the energy check: the erase of a full
copy, and the program (R347). -/
def Device.writeHdr (d : Device) (env : EnergyEnv) (h : BootHdr) : Bool × Device :=
  if !d.present || !d.storeIdle then (false, d)
  else
    let s0 := (d.flash.hdr0.map (·.1)).getD 0
    let s1 := (d.flash.hdr1.map (·.1)).getD 0
    let first := d.flash.hdr0.isNone || (d.flash.hdr1.isSome && s0 < s1)
    let full := (if first then d.flash.used0 else d.flash.used1) = recsPerSector
    let (mayErase, d) := if full then d.storeEnergy env d.flash.tErase else (true, d)
    if !mayErase then (false, d)
    else
      let (ok, d) := d.storeEnergy env d.flash.tProg
      if !ok then (false, d)
      else if first then
        let d := if full then (d.countErase 0).modStore fun s => { s with used0 := 0 } else d
        (true, d.modStore fun s => { s with hdr0 := some (max s0 s1 + 1, h), used0 := s.used0 + 1 })
      else
        let d := if full then (d.countErase 1).modStore fun s => { s with used1 := 0 } else d
        (true, d.modStore fun s => { s with hdr1 := some (max s0 s1 + 1, h), used1 := s.used1 + 1 })

/-- TRIES, the trial flags and the slot identifiers, at every core reset (R388, R411). -/
def Device.storeRegs (d : Device) : Device :=
  let h := d.bootHdr
  let d := ((d.wr UPD.TRIES h.tries).setFlag UPD.STAT_FWTRIAL (h.trial.testBit 0)).setFlag UPD.STAT_RGTRIAL (h.trial.testBit 1)
  d.each allSlotKinds fun d x =>
    let hd := d.header x.1 x.2
    let here := isImage x.1 hd
    (d.wr (UPD.SLOTID (slotIx x.1 x.2)) (if here then hImgid hd else 0)).wr (UPD.SLOTVER (slotIx x.1 x.2)) (if here then hVersion hd else 0)

end Sys2Proof.Machine
end

