-- ==== Sys2Proof/Machine/Security.lean ====
section
/-! DEFINITION. Machine/Security.lean: lifecycle transitions (R301–R303), key revocation (R304), floors (R308),
debug access (R309–R312) and scan access (R313). -/
namespace Sys2Proof.Machine

def Device.modSec (d : Device) (f : Security → Security) : Device := { d with sec := f d.sec }

/-! ## Lifecycle (R302, R303) -/

/-- LIFE as a power-on reset reads it. -/
def Device.readLife (d : Device) : Device :=
  let st := d.otp.lifecycle
  let d := (d.setFld SEC.LIFE_STATE st).setFld SEC.LIFE_BURNED st
  (d.setFlag SEC.LIFE_PARTIAL d.otp.partial).setFlag SEC.LIFE_KILLED (d.otp.life 3 != 0)

/-- Results in SEC.LCRES (R322). -/
def lcOk : Nat := 0
def lcBadKey : Nat := 1
def lcOrder : Nat := 2
def lcCondition : Nat := 3
def lcInRun : Nat := 4
def lcEnergy : Nat := 5

def Device.lcRefused (d : Device) (why : Nat) : Device := (d.wr SEC.LCRES why).raise SEC.STAT_LC_REFUSED

/-- The transition stands in the table of R303. -/
def lcInTable (frm tgt : Nat) : Bool :=
  (frm == lcBlank && tgt == lcProvisioned) || (frm == lcProvisioned && tgt == lcDeployed) || (frm != lcReturned && tgt == lcReturned)

def Device.anyKey (d : Device) (ks : List Nat) : Bool := ks.any fun k => d.otp.slotHash k != 0
/-- A finalised region; a pending one is treated as finalised (R328). -/
def Device.finalised (d : Device) (r : Nat) : Bool := d.regionState r == 1 || d.regionState r == 2

/-- Its condition. -/
def Device.lcCond (d : Device) (tgt : Nat) : Bool :=
  if tgt = lcProvisioned then d.finalised rKeys && d.anyKey [0, 1, 2]
  else if tgt = lcDeployed then
    d.finalised rIdent && d.finalised rCusta && d.finalised rCustb && !d.flag SEC.STAT_AUTHSKIP
      && !d.flag SEC.STAT_BOOT_FAIL && d.anyKey [3, 4, 5]
  else d.lifecycle != lcDeployed || d.sec.returnAt.any fun t => d.now < t + 60 * second

/-- LIFE words that a transition burns, in order: for RETURNED the key-kill marker first. -/
def lcMarkers (tgt : Nat) : List Nat := if tgt = lcReturned then [3, 2] else [tgt - 1]

/-- All bits of the words, that they hold at tight margin or not. -/
def Otp.lifeBits (o : Otp) (i mask : Nat) : Nat := lacking mask (o.life i)

def Device.burnLife (d : Device) (bad : BurnFailures) (i mask : Nat) : Device :=
  let d := d.modOtp fun o => o.burnLogical bad (lifeWord i) (o.lifeBits i mask)
  if d.otp.holds (lifeWord i) mask then d else d.verifyFailed (lifeWord i)

/-- R303. -/
def Device.lifecmd (d : Device) (w : Writer) (v : Nat) (env : EnergyEnv) (bad : BurnFailures) : Device :=
  let tgt := v % 4
  if v / 65536 != 0x5EC1 then d.lcRefused lcBadKey
  else if d.inRun then d.lcRefused lcInRun
  else if !lcInTable d.lifecycle tgt then d.lcRefused lcOrder
  else if !d.lcCond tgt then d.lcRefused lcCondition
  else
    match d.otpMayStart w env with
    | some why => (d.otpRefused why).lcRefused lcEnergy
    | none =>
      let bits := (lcMarkers tgt).foldl (fun n i => n + 4 * onesIn (d.otp.lifeBits i 0xFFFFFFFF)) 0
      if !d.otpEnergyOk env bits then (d.otpRefused otpEnergy).lcRefused lcEnergy
      else
        let d := d.each (lcMarkers tgt) fun d i => d.burnLife bad i 0xFFFFFFFF
        ((d.otpCounts.burnedReg.wr SEC.LCRES lcOk).raise SEC.STAT_LC_BURNED).log Ev.LC_BURNED [tgt]

def execLifecmd (w : Writer) (v : BitVec 32) (env : EnergyEnv) (bad : BurnFailures) (s : State) :
    Host.Outcome State Fault Refusal :=
  s.run fun d => d.asWright w 0x11 0x08 fun d => d.lifecmd w v.toNat env bad

/-! ## Keys and floors (R304, R308) -/

/-- Slots of a key slot's class. -/
def classSlots (k : Nat) : List Nat := if k < 3 then [0, 1, 2] else if k < 6 then [3, 4, 5] else [k]

/-- R304. -/
def Device.revoke (d : Device) (w : Writer) (v : Nat) (env : EnergyEnv) (bad : BurnFailures) : Device :=
  let k := v % 8
  if v / 8 % 32 != 0b10110 || !(d.lifecycle == lcProvisioned || d.lifecycle == lcDeployed) then d
  else if !((classSlots k).any fun j => j != k && d.keyUsable j) then d
  else
    match d.otpMayStart w env with
    | some why => d.otpRefused why
    | none =>
      if !d.otpEnergyOk env (4 * onesIn (d.otp.lifeBits 4 (2 ^ k))) then d.otpRefused otpEnergy
      else (d.burnLife bad 4 (2 ^ k)).otpCounts.floorRegs

def execKeyRevoke (w : Writer) (v : BitVec 8) (env : EnergyEnv) (bad : BurnFailures) (s : State) :
    Host.Outcome State Fault Refusal :=
  s.run fun d => d.asWright w 0x11 0x0D fun d => d.revoke w v.toNat env bad

/-- The thermometer words of a floor at `n`: its lowest n bits (R301). -/
def thermo (n : Nat) : Nat := 2 ^ n - 1

/-- R308: a floor raised to an SVN; one at or below it is logged. The burn follows the conditions of
R334 and is left to the next confirmation where they do not hold. -/
def Device.raiseFloor (d : Device) (rig : Bool) (svn : Nat) (env : EnergyEnv) (bad : BurnFailures) : Device :=
  let now := if rig then d.otp.rgFloor else d.otp.fwFloor
  if svn ≤ now then d.log Ev.UPD_CONFIRMED [rig.toNat, svn]
  else
    match d.otpMayStart .wright env with
    | some why => d.otpRefused why
    | none =>
      let words := if rig then [(7, thermo svn)] else [(5, thermo svn % 2 ^ 32), (6, thermo svn / 2 ^ 32)]
      let bits := words.foldl (fun n x => n + 4 * onesIn (d.otp.lifeBits x.1 x.2)) 0
      if !d.otpEnergyOk env bits then d.otpRefused otpEnergy
      else (d.each words fun d x => d.burnLife bad x.1 x.2).otpCounts.floorRegs

/-! ## Debug access (R309–R312) -/

def dbgOpen : Nat := 0
def dbgClosed : Nat := 1
def dbgAuth : Nat := 2

/-- Core debug is available. -/
def Device.dbgCore (d : Device) : Bool := d.fld SEC.DBG_DSTATE != dbgClosed
/-- Scan access is available (R320). -/
def Device.dbgScan (d : Device) : Bool :=
  d.fld SEC.DBG_DSTATE == dbgOpen || (d.fld SEC.DBG_DSTATE == dbgAuth && d.flag SEC.DBG_SCANOK)

/-- A fresh nonce from the random source: a free value. -/
def Device.newNonce (d : Device) : Device := (d.modSec fun x => { x with nonce := d.freeVal 256 }).nextFree

/-- The halt ends; the watchdog counts again (R299). -/
def Device.haltRelease (d : Device) : Device :=
  let d := (d.lower SEC.DBG_HALTREQ).modSec fun x => { x with haltAtScan := false }
  if d.flag SEC.DBG_HALTED then d.setHalted false else d

def execDebugHaltRelease (s : State) : Host.Outcome State Fault Refusal := s.run Device.haltRelease

/-- R311: AUTH ends; a halt in force is released first. -/
def Device.endAuth (d : Device) : Device :=
  if d.fld SEC.DBG_DSTATE != dbgAuth then d
  else (d.haltRelease.setFld SEC.DBG_DSTATE dbgClosed).lower SEC.DBG_SCANOK

def execDebugClose (w : Writer) (s : State) : Host.Outcome State Fault Refusal :=
  s.run fun d => d.asWright w 0x11 0x0E Device.endAuth

/-- The signed message of R310: nonce, IDENT serial, SCOPE. -/
def Device.dbgMessage (d : Device) (scope : Nat) : List (BitVec 8) :=
  (toBytes 32 d.sec.nonce ++ toBytes 8 d.otp.serial ++ [scope]).map (BitVec.ofNat 8)

/-- The response passes: not locked out, a slot and scope the port knows, a nonce read within 60 s, and
checks 4 to 7 of R305. -/
def Device.dbgPasses (d : Device) (slot scope : Nat) (pubkey sig : BitVec 512) (age : Nat) : Bool :=
  !d.flag SEC.DBG_LOCKOUT && (slot == 6 || slot == 7)
    && (scope == 1 || scope == 3 || (scope == 0x80 && slot == 6)) && age ≤ 60 * second
    && d.keyCheck slot pubkey (Config.sha256 (d.dbgMessage scope)) sig == 0

def Device.grant (d : Device) (scope : Nat) : Device :=
  if scope = 0x80 then d.modSec fun x => { x with returnAt := some d.now }
  else if d.fld SEC.DBG_DSTATE == dbgOpen then d
  else (d.setFld SEC.DBG_DSTATE dbgAuth).setFlag SEC.DBG_SCANOK (scope == 3)

/-- R310. -/
def Device.debugAuth (d : Device) (slot scope : Nat) (pubkey sig : BitVec 512) (age : Nat) : Device :=
  if d.dbgPasses slot scope pubkey sig age then
    let d := (d.grant scope).modSec fun x => { x with fails := 0 }
    ((d.raise SEC.STAT_DBG_AUTH).log Ev.DBG_AUTH [slot, scope]).newNonce
  else
    let d := d.modSec fun x => { x with fails := x.fails + 1 }
    let d := ((d.raise SEC.STAT_DBG_FAIL).log Ev.DBG_FAIL [slot, scope]).newNonce
    if 3 ≤ d.sec.fails && !d.flag SEC.DBG_LOCKOUT then (d.raise SEC.DBG_LOCKOUT).log Ev.DBG_LOCKOUT [slot, scope] else d

def execDebugAuth (slot : Fin 8) (scope : BitVec 8) (pubkey sig : BitVec 512) (age : Nat) (s : State) :
    Host.Outcome State Fault Refusal :=
  s.run fun d => d.debugAuth slot scope.toNat pubkey sig age

/-- R312: a halt request. In DEPLOYED the safe states come first, and the halt follows the next scan;
where no scan runs, at once. -/
def Device.debugHalt (d : Device) : Device :=
  if !d.dbgCore || d.flag SEC.DBG_HALTED || d.flag SEC.DBG_HALTREQ then d
  else
    let d := d.raise SEC.DBG_HALTREQ
    if d.lifecycle != lcDeployed then d.setHalted true
    else
      let d := d.applySafe .halt
      if d.inRun then d.modSec fun x => { x with haltAtScan := true }
      else (d.setHalted true).log Ev.DBG_HALT_SAFE []

def execDebugHalt (s : State) : Host.Outcome State Fault Refusal := s.run Device.debugHalt

/-- R313: before a scan instruction takes effect. -/
def Device.scanEnter (d : Device) : Device :=
  if !d.dbgScan || d.flag SEC.DBG_SCAN then d
  else
    let d := d.leaveRun.strike .int
    (d.each (List.range 4) Device.railDrop).raise SEC.DBG_SCAN

def execScanEnter (s : State) : Host.Outcome State Fault Refusal := s.run Device.scanEnter

end Sys2Proof.Machine
end

