-- ==== Sys2Proof/Machine/RigRecords.lean ====
section
/-! DEFINITION. Machine/RigRecords.lean: the records of a rigging image: their layout (R361, R362, R461), the
structure, record and cross-record checks (R364, R365) with the refusals of R34, R87, R90, R96, R99,
R190, R209, R228, R250, R251, R265 and R286. -/
namespace Sys2Proof.Machine

/-! ## Types and layout (R362, R461) -/

def tChannel : Nat := 0x01
def tGang : Nat := 0x02
def tSection : Nat := 0x03
def tRail : Nat := 0x04
def tFeed : Nat := 0x05
def tSeq : Nat := 0x06
def tAdc : Nat := 0x07
def tWdt : Nat := 0x08
def tRing : Nat := 0x09
def tCharger : Nat := 0x0A
def tLimits : Nat := 0x0B
def tEnd : Nat := 0xFF

/-- Registers one after another from a payload offset on, each at its own width. -/
def placed : Nat → List Reg → List (Nat × Reg)
  | _, [] => []
  | o, r :: t => (o, r) :: placed (o + r.width / 8) t

/-- Payload offset of the four NOISO bytes of LIMITS. -/
def noisoAt : Nat := 49

/-- The destination registers of a record with their payload offsets. -/
def layout (t i : Nat) : List (Nat × Reg) :=
  if t = tChannel then placed 0 [CH.CFG i, CH.DUTY i, CH.LIM i, CH.PROT i]
  else if t = tGang then placed 0 [BANK.KTB i]
  else if t = tRail then
    placed 0 [CV.CFG i, CV.VREF i, CV.SLEW i, CV.SSLEW i, CV.VMIN i, CV.VMAX i, CV.SETTLE i, CV.ILIM i, CV.IMGAIN i,
      CV.IADD i, CV.ISHED i, CV.SHOLD i, CV.TOC i, CV.COMP i]
  else if t = tFeed then
    if i = 2 then placed 0 [FEED.CFG]
    else placed 0 [FEED.FCFG i, FEED.VLIM i, FEED.VINR i, FEED.UV i, FEED.OV i, FEED.HYS i, FEED.FILT i, FEED.RSH i]
  else if t = tSeq then
    if i = 0xFF then placed 0 [SEQ.CFG, SEQ.BUV, SEQ.BOV] else placed 0 [SEQ.SLOTA i, SEQ.SLOTB i]
  else if t = tAdc && i = 0 then placed 0 ([ADC.CFG, ADC.LOOPA, ADC.LOOPB] ++ (List.range 16).map ADC.FCFG)
  else if t = tWdt then
    placed 0 [WDT.CFG, WDT.PERIOD, WDT.PWARN, WDT.BOOTP, WDT.WDXLEN, WDT.SLOTEN, WDT.SURPF, WDT.SLOTOWN]
  else if t = tRing then placed 0 [RING.CFG, RING.TTO, RING.TRETRY, RING.ENUMP, RING.LCFG]
  else if t = tCharger then
    placed 0 [CHG.CFG, CHG.ICHG, CHG.IPRE, CHG.ITERM, CHG.VPRE, CHG.BATOK, CHG.VCUT, CHG.TPRE, CHG.TSAFE, CHG.HOLD,
      CHG.NTCLO, CHG.NTCHI]
  else if t = tLimits then
    placed 0 [RCK.CFG, RCK.MARK, RCK.KENC0, RCK.KENC1, RCK.KRAD, RCK.FILT, RCK.TRACK, RCK.TSLEW, RCK.REVTHR, RCK.HTO,
        RCK.AMAX, RCK.FLYTO, EDGE.CFG, BANK.STRIKECFG, BANK.RETRYBASE, BANK.UCTHR 0, BANK.UCTHR 1, BANK.UCTHR 2,
        BANK.UCTHR 3]
      ++ placed (noisoAt + 4) [SEC.PCFG, STORE.CHOLD, STORE.VMARG, STORE.PRUN, STORE.PKEEP, INT.IB0V, INT.IB1V,
        INT.LD1V, INT.LD2V, INT.LD3V, INT.LDCFG]
  else []

def instOk (t i : Nat) : Bool :=
  if t = tChannel then i < 160
  else if t = tGang then i < 20
  else if t = tSection then i < 64
  else if t = tRail then i < 4
  else if t = tFeed then i < 3
  else if t = tSeq then i < 24 || i = 0xFF
  else if t = tAdc then i < 7
  else i = 0

/-- Payload bytes (R461). -/
def plenOk (t i : Nat) (data : List Nat) : Bool :=
  let n := data.length
  if t = tChannel then n = 34
  else if t = tGang then n = 5
  else if t = tSection then 22 ≤ n && n = 22 + 2 * fieldAt data 20 2
  else if t = tRail then n = 32
  else if t = tFeed then n = (if i = 2 then 2 else 16)
  else if t = tSeq then n = 8
  else if t = tAdc then (if i = 0 then n = 44 else n % 16 = 0 && 16 ≤ n && n ≤ 1024)
  else if t = tWdt then n = 16
  else if t = tRing then n = 10
  else if t = tCharger then n = 20
  else if t = tLimits then n = 70
  else n = 0

/-- The codes of SYS.RIGERR (R365). -/
def rigNone : Nat := 0
def rigNoImage : Nat := 1
def rigAuth : Nat := 2
def rigFormat : Nat := 3
def rigTarget : Nat := 4
def rigStructure : Nat := 5
def rigDuplicate : Nat := 6
def rigRange : Nat := 7
def rigCross : Nat := 8
def rigCorruptCode : Nat := 9

/-- A refusal: code, and the record type, instance and payload offset at fault. -/
structure RigErr where
  code : Nat
  type : Nat := 0
  inst : Nat := 0
  off : Nat := 0
  deriving DecidableEq, Repr

/-! ## Structure (R361) -/

def optional (t : Nat) : Bool := decide (0x80 ≤ t ∧ t ≤ 0xFE)
def known (t : Nat) : Bool := decide (0x01 ≤ t ∧ t ≤ 0x0B)

/-- The records in the bytes after the header, in order, END included; every record takes at least 4
bytes. -/
def parseRecs : Nat → List Nat → List RigRec → Except RigErr (List RigRec)
  | 0, _, _ => .error { code := rigStructure }
  | fuel + 1, bs, acc =>
    if bs.length < 4 then .error { code := rigStructure }
    else
      let t := byteAt bs 0
      let i := byteAt bs 1
      let n := fieldAt bs 2 2
      let pad := (4 - n % 4) % 4
      let bad : RigErr := { code := rigStructure, type := t, inst := i }
      if bs.length < 4 + n + pad then .error bad
      else if ((bs.drop (4 + n)).take pad).any (· != 0) then .error bad
      else if acc.any fun r => r.type == t && r.inst == i then .error { bad with code := rigDuplicate }
      else
        let r : RigRec := ⟨t, i, (bs.drop 4).take n⟩
        let rest := bs.drop (4 + n + pad)
        if t = tEnd then (if i = 0 && n = 0 && rest.isEmpty then .ok (acc ++ [r]) else .error bad)
        else if optional t then parseRecs fuel rest (acc ++ [r])
        else if !known t || !plenOk t i r.data then .error bad
        else parseRecs fuel rest (acc ++ [r])

/-! ## Ranges -/

/-- A register taken whole. -/
def whole (r : Reg) : Field := ⟨r, 0, r.width⟩

/-- The fields of a record with the least and the greatest value their tables allow. -/
def ranges (t i : Nat) : List (Field × Nat × Nat) :=
  if t = tChannel then
    [(CH.CFG_MODE i, 0, 3), (CH.CFG_SAFE i, 0, 2), (CH.LIM_ILIM i, 2, 320), (CH.LIM_IPEAK i, 2, 80),
      (CH.LIM_IHOLD i, 4, 60), (CH.LIM_TPEAK i, 1, 500), (CH.PROT_IINR i, 2, 80), (CH.PROT_TINR i, 1, 100),
      (CH.PROT_TFLT i, 1, 63)]
  else if t = tGang then [(BANK.KTB_PERIOD i, 1000, 5000000)]
  else if t = tRail then
    [(CV.CFG_NPH i, 0, 8), (CV.CFG_FSW i, 20, 150), (CV.CFG_BRK i, 2, 10), (CV.CFG_PGW i, 1, 10), (CV.CFG_OVF i, 3, 15),
      (whole (CV.SLEW i), 1, 500), (whole (CV.SSLEW i), 1, 500), (whole (CV.SETTLE i), 10, 1000),
      (whole (CV.ILIM i), 10, 1000), (whole (CV.IMGAIN i), 500, 20000), (whole (CV.SHOLD i), 1, 1000),
      (whole (CV.TOC i), 1, 100)]
  else if t = tFeed then
    if i = 2 then [(FEED.CFG_RVT, 1, 255)]
    else [(FEED.FCFG_FS i, 0, 2), (FEED.FCFG_TINR i, 1, 100), (FEED.FCFG_TFLT i, 1, 255), (FEED.FCFG_QUAL i, 1, 255),
      (whole (FEED.VLIM i), 20, 1000), (whole (FEED.VINR i), 20, 1000), (whole (FEED.UV i), 500, 3200),
      (whole (FEED.OV i), 700, 3800), (whole (FEED.HYS i), 5, 200), (whole (FEED.FILT i), 1, 100),
      (whole (FEED.RSH i), 100, 10000)]
  else if t = tSeq then
    if i = 0xFF then
      [(SEQ.CFG_TPFW, 1, 500), (SEQ.CFG_TMINOFF, 1, 255), (SEQ.CFG_FACT, 0, 2), (whole SEQ.BUV, 500, 3200),
        (whole SEQ.BOV, 700, 3800)]
    else [(SEQ.SLOTA_TYPE i, 0, 5)]
  else if t = tAdc && i = 0 then (ADC.CFG_XWAIT, 1, 1000) :: (List.range 16).map fun s => (ADC.FCFG_DM1 s, 1, 1023)
  else if t = tWdt then
    [(WDT.CFG_WMIN, 1, 15), (WDT.CFG_GRANT, 0, 2), (whole WDT.PERIOD, 1, 16000), (whole WDT.BOOTP, 100, 16000),
      (whole WDT.WDXLEN, 1, 1000)] ++ (List.range 8).map fun k => (⟨WDT.SLOTOWN, 2 * k, 2⟩, 0, 2)
  else if t = tRing then
    [(RING.CFG_ADDR, 0, 0xFFE), (RING.CFG_ROLE, 0, 2), (RING.CFG_TXBUD, 1, 32), (whole RING.TTO, 100, 10000),
      (whole RING.TRETRY, 0, 7), (whole RING.ENUMP, 1, 100), (RING.LCFG_DEGTHR, 1, 255)]
  else if t = tCharger then
    [(CHG.CFG_VRDROP, 2, 12), (CHG.CFG_TOPOFF, 0, 60), (CHG.CFG_TREG, 90, 120), (whole CHG.ICHG, 10, 300),
      (whole CHG.IPRE, 5, 30), (whole CHG.ITERM, 2, 50), (whole CHG.VPRE, 100, 160), (whole CHG.BATOK, 100, 180),
      (whole CHG.VCUT, 100, 160), (whole CHG.TPRE, 5, 120), (whole CHG.TSAFE, 10, 200)]
  else if t = tLimits then
    [(RCK.CFG_SRC, 0, 4), (RCK.CFG_YAWSRC, 0, 2), (whole RCK.MARK, 250, 10000), (RCK.FILT_TF0, 1, 63),
      (RCK.FILT_TF1, 1, 63), (RCK.FILT_TFR, 1, 63), (whole RCK.TSLEW, 100, 10000), (whole RCK.HTO, 1, 1000),
      (whole RCK.AMAX, 10, 600), (whole RCK.FLYTO, 2, 1000), (EDGE.CFG_LP_RING, 0, 1), (EDGE.CFG_LP_CORE, 0, 1),
      (EDGE.CFG_LP_HOST, 0, 1), (EDGE.CFG_LP_SVC, 0, 1), (whole BANK.RETRYBASE, 1, 1000),
      (whole (BANK.UCTHR 0), 10, 4000), (whole (BANK.UCTHR 1), 10, 4000), (whole (BANK.UCTHR 2), 10, 4000),
      (whole (BANK.UCTHR 3), 10, 4000), (whole STORE.CHOLD, 100, 65535), (whole STORE.VMARG, 100, 2000),
      (whole STORE.PRUN, 100, 5000), (whole STORE.PKEEP, 20, 2000), (whole INT.IB0V, 90, 180), (whole INT.IB1V, 180, 360),
      (whole INT.LD1V, 24, 100), (whole INT.LD2V, 24, 100), (whole INT.LD3V, 24, 100)]
  else []

/-- The bits of a record's word that may be 1: the fields the image sets. A CHANNEL record carries the
initial mode, and GANG and BASE as 0 (R362). -/
def recMask (t : Nat) (r : Reg) (o : Nat) : Nat :=
  if t = tChannel && o = 0 then (r.rg ||| 0xF) - 0x300 else r.rg ||| r.rw

/-- The payload word of a register in a record. -/
def wordAt (rec : RigRec) (o : Nat) (r : Reg) : Nat := fieldAt rec.data o (r.width / 8)

/-- A register's value in a record; its Reset value where the record does not carry it. -/
def regIn (rec : RigRec) (r : Reg) : Nat :=
  ((layout rec.type rec.inst).find? fun e => e.2.addr == r.addr).elim r.reset fun e => wordAt rec e.1 r
def fldIn (rec : RigRec) (f : Field) : Nat := bitsOf (regIn rec f.reg) f.lo f.w
def offOf (rec : RigRec) (r : Reg) : Nat :=
  (((layout rec.type rec.inst).find? fun e => e.2.addr == r.addr).map (·.1)).getD 0

/-- The first word with a reserved bit set or a field outside its range: its payload offset. -/
def rangeFault (rec : RigRec) : Option Nat :=
  ((layout rec.type rec.inst).find? fun e =>
    lacking (wordAt rec e.1 e.2) (recMask rec.type e.2 e.1) != 0
      || ((ranges rec.type rec.inst).any fun x =>
        x.1.reg.addr == e.2.addr && (fldIn rec x.1 < x.2.1 || x.2.2 < fldIn rec x.1))).map (·.1)

/-! ## Record checks (R364) -/

/-- SEL by slot type (R244): a rail or bank in [13:12], an LDO 1–3, a cluster mask, 0 for a feed. -/
def selOk (type sel : Nat) : Bool :=
  if type = 1 || type = 3 then sel < 4
  else if type = 2 then sel = 0
  else if type = 5 then 1 ≤ sel && sel ≤ 3
  else true

/-- The refusals of one record beyond its ranges, as payload offsets at fault. -/
def extraFault (rec : RigRec) : Option Nat :=
  let i := rec.inst
  let at_ (c : Bool) (r : Reg) : Option Nat := if c then some (offOf rec r) else none
  if rec.type = tChannel then
    let mask := fldIn rec (CH.CFG_MODEMASK i)
    let peak := mask.testBit 2 || mask.testBit 3
    let ilim := fldIn rec (CH.LIM_ILIM i)
    let ipeak := fldIn rec (CH.LIM_IPEAK i)
    let ihold := fldIn rec (CH.LIM_IHOLD i)
    (at_ (peak && fldIn rec (CH.CFG_FWD i) != 1) (CH.CFG i)) <|>
    (at_ (fldIn rec (CH.DUTY_DMAX i) < fldIn rec (CH.DUTY_DMIN i)) (CH.DUTY i)) <|>
    (at_ (peak && (ilim < ipeak || 2 * ipeak ≤ ihold)) (CH.LIM i))
  else if rec.type = tGang then (if byteAt rec.data 4 < 64 then none else some 4)
  else if rec.type = tSection then
    let c := fieldAt rec.data 20 2
    if 64 < c then some 20
    else ((List.range c).find? fun j => 1023 < fieldAt rec.data (22 + 2 * j) 2).map fun j => 22 + 2 * j
  else if rec.type = tRail then at_ (fldIn rec (CV.CFG_NPH i) != 0 && regIn rec (CV.COMP i) = 0) (CV.COMP i)
  else if rec.type = tSeq then
    if i = 0xFF then at_ (regIn rec SEQ.BOV ≤ regIn rec SEQ.BUV) SEQ.BOV
    else
      let dep := fldIn rec (SEQ.SLOTA_DEP i)
      at_ ((24 ≤ dep && dep != 0x1F) || !selOk (fldIn rec (SEQ.SLOTA_TYPE i)) (fldIn rec (SEQ.SLOTA_SEL i))) (SEQ.SLOTA i)
  else if rec.type = tAdc && i != 0 then
    ((List.range (rec.data.length / 16)).find? fun j =>
      let e := fieldAt rec.data (16 * j) 16
      bitsOf e 9 1 != 0 || bitsOf e 59 5 != 0 || bitsOf e 116 12 != 0).map (16 * ·)
  else if rec.type = tLimits then
    let fb := fldIn rec RCK.CFG_FALLBK
    let mark := regIn rec RCK.MARK
    let coarse (k : Reg) (least : Nat) : Bool := decide (regIn rec k * mark * 100 < least * 2 ^ 24)
    (at_ (fb = 5 || fb = 6 || fb = fldIn rec RCK.CFG_SRC) RCK.CFG) <|>
    (at_ (coarse RCK.KENC0 834) RCK.KENC0) <|> (at_ (coarse RCK.KENC1 834) RCK.KENC1) <|>
    (at_ (coarse RCK.KRAD 34000) RCK.KRAD) <|>
    (if (List.range 4).all fun m => byteAt rec.data (noisoAt + m) < 2 then none else some noisoAt)
  else none

def recordFault (rec : RigRec) : Option RigErr :=
  if optional rec.type || rec.type = tEnd then none
  else if !instOk rec.type rec.inst then some ⟨rigRange, rec.type, rec.inst, 0⟩
  else ((rangeFault rec) <|> (extraFault rec)).map fun o => ⟨rigRange, rec.type, rec.inst, o⟩

/-! ## Cross-record checks -/

def ofType (rs : List RigRec) (t : Nat) : List RigRec := rs.filter fun r => r.type == t
def findRec (rs : List RigRec) (t i : Nat) : Option RigRec := rs.find? fun r => r.type == t && r.inst == i

/-- A register's value under an image: its record's, or Reset. -/
def valueOf (rs : List RigRec) (t i : Nat) (r : Reg) : Nat := (findRec rs t i).elim r.reset fun x => regIn x r
def fieldOf (rs : List RigRec) (t i : Nat) (f : Field) : Nat := bitsOf (valueOf rs t i f.reg) f.lo f.w

def crossAt (t i o : Nat) : Option RigErr := some ⟨rigCross, t, i, o⟩

/-- GANG byte 4 of a cluster: pairs and quads. -/
def gangByte (rs : List RigRec) (c : Nat) : Nat := (findRec rs tGang c).elim 0 fun r => byteAt r.data 4

/-- GANG field of channel n: 0 none, 1 pair lead, 2 quad lead, 3 member. -/
def gangOf (rs : List RigRec) (n : Nat) : Nat :=
  let b := gangByte rs (n / 8)
  let q := n % 8
  if b.testBit (4 + q / 4) then (if q % 4 = 0 then 2 else 3)
  else if b.testBit (q / 2) then (if q % 2 = 0 then 1 else 3)
  else 0

def check1 (rs : List RigRec) : Option RigErr :=
  (ofType rs tChannel).findSome? fun r =>
    if (fldIn r (CH.CFG_MODEMASK r.inst)).testBit (fldIn r (CH.CFG_MODE r.inst)) then none else crossAt tChannel r.inst 0

def check2 (rs : List RigRec) : Option RigErr :=
  (ofType rs tGang).findSome? fun r =>
    let b := byteAt r.data 4
    if (List.range 4).any fun j => b.testBit j && b.testBit (4 + j / 2) then crossAt tGang r.inst 4 else none

def check3 (rs : List RigRec) : Option RigErr :=
  (ofType rs tChannel).findSome? fun r =>
    let n := r.inst
    let g := gangOf rs n
    let most := if g = 1 then 160 else if g = 2 then 320 else 80
    if most < fldIn r (CH.LIM_ILIM n) then (if g = 0 then crossAt tChannel n 8 else crossAt tGang (n / 8) 4)
    else
      let v (o : Nat) := fieldAt r.data o 2
      if v 22 < v 26 || v 30 < v 22 then crossAt tChannel n 22
      else if v 24 < v 28 || v 32 < v 24 then crossAt tChannel n 24
      else none

/-- The ring IDs of a SECTION record. -/
def ringIds (r : RigRec) : List Nat := (List.range (fieldAt r.data 20 2)).map fun j => fieldAt r.data (22 + 2 * j) 2

/-- R65: no ring ID of `r` is mapped by a record before it. -/
def check4 : List RigRec → List RigRec → Option RigErr
  | [], _ => none
  | r :: t, seen =>
    match (ringIds r).findIdx? fun id => seen.any fun x => (ringIds x).contains id with
    | some j => crossAt tSection r.inst (22 + 2 * j)
    | none => check4 t (seen ++ [r])

def railPhases (r : RigRec) : List Nat :=
  (List.range (fldIn r (CV.CFG_NPH r.inst))).map (fldIn r (CV.CFG_FIRST r.inst) + ·)

/-- R209. -/
def check5 : List RigRec → List RigRec → Option RigErr
  | [], _ => none
  | r :: t, seen =>
    let i := r.inst
    let nph := fldIn r (CV.CFG_NPH i)
    let minph := fldIn r (CV.CFG_MINPH i)
    let err (g : Reg) := crossAt tRail i (offOf r g)
    if (railPhases r).any (8 ≤ ·) || (railPhases r).any fun p => seen.any fun x => (railPhases x).contains p then err (CV.CFG i)
    else if nph != 0 && (minph = 0 || nph < minph) then err (CV.CFG i)
    else if regIn r (CV.IADD i) ≤ regIn r (CV.ISHED i) then err (CV.ISHED i)
    else if fldIn r (CV.CFG_OVF i) ≤ fldIn r (CV.CFG_BRK i) then err (CV.CFG i)
    else if regIn r (CV.VMAX i) < regIn r (CV.VMIN i) then err (CV.VMIN i)
    else if regIn r (CV.VREF i) < regIn r (CV.VMIN i) || regIn r (CV.VMAX i) ≤ regIn r (CV.VREF i) then err (CV.VREF i)
    else check5 t (seen ++ [r])

/-- Shunt full scale in units of 50 µV (R190). -/
def fullScale (fs : Nat) : Nat := if fs = 0 then 200 else if fs = 1 then 500 else 1000

def check6 (rs : List RigRec) : Option RigErr :=
  ((ofType rs tFeed).filter fun r => r.inst < 2).findSome? fun r =>
    let i := r.inst
    let vlim := regIn r (FEED.VLIM i)
    if fullScale (fldIn r (FEED.FCFG_FS i)) < vlim then crossAt tFeed i (offOf r (FEED.VLIM i))
    else if vlim < regIn r (FEED.VINR i) then crossAt tFeed i (offOf r (FEED.VINR i))
    else if regIn r (FEED.OV i) ≤ regIn r (FEED.UV i) + 2 * regIn r (FEED.HYS i) then crossAt tFeed i (offOf r (FEED.OV i))
    else none

/-- What a slot names: (type, selection), a channel group by each of its clusters. -/
def slotTargets (r : RigRec) : List (Nat × Nat) :=
  let t := fldIn r (SEQ.SLOTA_TYPE r.inst)
  let sel := fldIn r (SEQ.SLOTA_SEL r.inst)
  if t = 0 then []
  else if t = 4 then ((List.range 20).filter sel.testBit).map fun c => (4, c)
  else [(t, sel)]

/-- Following predecessors from slot `k` comes back to `start`. -/
def depCycle (rs : List RigRec) (start : Nat) : Nat → Nat → Bool
  | 0, _ => false
  | fuel + 1, k =>
    let p := fieldOf rs tSeq k (SEQ.SLOTA_DEP k)
    if 24 ≤ p then false else p == start || depCycle rs start fuel p

def check7 (rs : List RigRec) : List RigRec → List RigRec → Option RigErr
  | [], _ => none
  | r :: t, seen =>
    let ty := fldIn r (SEQ.SLOTA_TYPE r.inst)
    let names := slotTargets r
    let bad :=
      (names.any fun x => seen.any fun y => (slotTargets y).contains x)
        || (ty = 4 && names.isEmpty)
        || (ty = 1 && fieldOf rs tRail (fldIn r (SEQ.SLOTA_SEL r.inst) % 4) (CV.CFG_NPH (fldIn r (SEQ.SLOTA_SEL r.inst) % 4)) = 0)
        || depCycle rs r.inst 25 r.inst
    if bad then crossAt tSeq r.inst 0 else check7 rs t (seen ++ [r])

/-- A table entry of an image (R250). -/
def entryOf (rs : List RigRec) (e : Nat) : Nat :=
  (findRec rs tAdc (e / 64 + 1)).elim 0 fun r => fieldAt r.data (16 * (e % 64)) 16

def entryFault (e : Nat) : Option RigErr := crossAt tAdc (e / 64 + 1) (16 * (e % 64))

/-- R250, R251. -/
def check8 (rs : List RigRec) : Option RigErr :=
  let sa := fieldOf rs tAdc 0 ADC.LOOPA_START
  let ea := fieldOf rs tAdc 0 ADC.LOOPA_END
  let sb := fieldOf rs tAdc 0 ADC.LOOPB_START
  let eb := fieldOf rs tAdc 0 ADC.LOOPB_END
  if 384 < ea || ea < sa then crossAt tAdc 0 4
  else if 384 < eb || eb < sb then crossAt tAdc 0 8
  else if sa < ea && sb < eb && sa < eb && sb < ea then crossAt tAdc 0 8
  else
    let la := (List.range (ea - sa)).map (sa + ·)
    let lb := (List.range (eb - sb)).map (sb + ·)
    let x (e : Nat) := entryOf rs e
    let slotOwners (s : Nat) := (la ++ lb).filter fun e => bitsOf (x e) 38 1 == 1 && bitsOf (x e) 34 4 == s
    let users (l : List Nat) (id : Nat) := l.filter fun e => bitsOf (x e) 39 4 == id
    (la ++ lb).findSome? fun e =>
      let v := x e
      let input := bitsOf v 0 9
      let lo := resultOf input (bitsOf v 64 16)
      let hi := resultOf input (bitsOf v 80 16)
      let id := bitsOf v 39 4
      let pairOk := match users la id, users lb id with
        | [a], [b] => bitsOf (x a) 0 9 == bitsOf (x b) 0 9 && bitsOf (x a) 10 8 == bitsOf (x b) 10 8
        | _, _ => false
      if !inputOk input then entryFault e
      else if bitsOf v 45 1 == 1 && decide (hi ≤ lo) then entryFault e
      else if bitsOf v 43 2 == 3 && 159 < bitsOf v 51 8 then entryFault e
      else if bitsOf v 38 1 == 1 && (slotOwners (bitsOf v 34 4)).head? != some e then entryFault e
      else if id != 0 && (!pairOk || bitsOf v 112 4 == 0 || bitsOf v 96 16 == 0) then entryFault e
      else none

def check9 (rs : List RigRec) : Option RigErr :=
  if valueOf rs tWdt 0 WDT.PERIOD * (16 - fieldOf rs tWdt 0 WDT.CFG_WMIN) < valueOf rs tWdt 0 WDT.PWARN * 16 then
    crossAt tWdt 0 6
  else none

/-- R265. -/
def check10 (rs : List RigRec) : Option RigErr :=
  (ofType rs tCharger).findSome? fun r =>
    let v := fldIn r CHG.CFG_VFLT
    let cells := 1 + fldIn r CHG.CFG_CELLS
    let floatOk := if fldIn r CHG.CFG_CHEM = 0 then 120 ≤ v && v ≤ 160 else v ≤ 50
    if !floatOk then crossAt tCharger 0 0
    else if regIn r CHG.ICHG < regIn r CHG.IPRE then crossAt tCharger 0 (offOf r CHG.IPRE)
    else if regIn r CHG.ICHG ≤ regIn r CHG.ITERM then crossAt tCharger 0 (offOf r CHG.ITERM)
    else if regIn r CHG.BATOK < regIn r CHG.VPRE then crossAt tCharger 0 (offOf r CHG.BATOK)
    else if regIn r CHG.VCUT * 20 * cells < 3100 then crossAt tCharger 0 (offOf r CHG.VCUT)
    else if regIn r CHG.NTCHI ≤ regIn r CHG.NTCLO || 0xFFF0 < regIn r CHG.NTCHI then crossAt tCharger 0 (offOf r CHG.NTCHI)
    else none

def check11 (rs : List RigRec) (identAddr : Nat) : Option RigErr :=
  let role := fieldOf rs tRing 0 RING.CFG_ROLE
  if (role = 1 || role = 2) && fieldOf rs tRing 0 RING.CFG_ADDR = 0 && identAddr = 0 then crossAt tRing 0 0 else none

def byInst (l : List RigRec) : List RigRec := (sortNat (l.map (·.inst))).filterMap fun i => l.find? fun r => r.inst == i

/-- The table of R364, in its order. -/
def crossFault (rs : List RigRec) (identAddr : Nat) : Option RigErr :=
  check1 rs <|> check2 rs <|> check3 rs <|> check4 (byInst (ofType rs tSection)) [] <|>
  check5 (byInst (ofType rs tRail)) [] <|> check6 rs <|>
  check7 rs (byInst ((ofType rs tSeq).filter fun r => r.inst < 24)) [] <|>
  check8 rs <|> check9 rs <|> check10 rs <|> check11 rs identAddr

end Sys2Proof.Machine
end

