-- ==== Sys2Proof/Machine/Rigging.lean ====
section
/-! DEFINITION. Machine/Rigging.lean: the unrigged state (R25, R409), the rigging load with its fallback
(R366, R367), the commit (R368), and configuration errors (R369). -/
namespace Sys2Proof.Machine

/-! ## The RIG domain (R409, R411) -/

/-- The bits of a register that a rigging load sets. -/
def rigMask (r : Reg) : Nat :=
  let p := r.addr / 256
  if 0x20 ≤ p && p < 0x2A then 2 ^ r.width - 1 else r.rg

/-- The pages with registers in the RIG domain, those of powerPages apart. -/
def rigPages : List Nat := [1, 2, 4, 5, 9, 10, 11, 12, 13, 14, 17] ++ (List.range 10).map (0x20 + ·)

/-- The pages that carry on through an activation until its commit (R384): rails, regulators, sequencer. -/
def powerPages : List Nat := [6, 7, 8]

/-- The register of the pages given that stands at an address. -/
def rigRegAt (pages : List Nat) (a : Nat) : Option Reg :=
  if pages.contains (a / 256) then (pageRegs (a / 256)).find? fun r => r.addr == a else none

/-- RIG registers take their Reset values: of each that holds another value, the bits that a load sets. -/
def Device.rigReset (d : Device) (pages : List Nat) : Device :=
  { d with regs := d.regs.filterMap fun e =>
      match rigRegAt pages e.1 with
      | none => some e
      | some r =>
        let v := (lacking e.2 (rigMask r) + (r.reset &&& rigMask r)) % 2 ^ r.width
        if v = r.reset then none else some (e.1, v) }

/-- The address in use and its source change (R149, R176). -/
def Device.setAddr (d : Device) (a : Nat) (rigged : Bool) : Device :=
  let d := if a = d.addr then d else d.modRing fun r => { r with prevAddr := d.addr, addrAt := d.clk }
  (d.setFld RING.ADDR_ADDR a).setFlag RING.ADDR_RIGGED rigged

/-- The ring address in IDENT word 32 (R324). -/
def Otp.ringAddr (o : Otp) : Nat := o.normal 0x0A0 % 4096

/-- A channel's rigged data at their Reset values; k of R103 stays at its last computed value. -/
def Chan.unrig (c : Chan) : Chan :=
  { c with
    stag := 0, lat := 0, ldefOn := 0, ldefOff := 0, lminOn := 0, lminOff := 0, lmaxOn := 0, lmaxOff := 0
    check := 0, search := none, pendMode := none }

/-- R25: the device is unrigged: the RIG registers take their Reset values, the section map and the
converter table are empty, and it holds no role. `carryOn`: an activation's load, in which the
sequencer and rails carry on (R384); else every rail is disabled as COAST (R214, R369). -/
def Device.unrig (d : Device) (carryOn : Bool) : Device :=
  let d := d.leaveRun.lower SYS.RIG_RIGGED
  let d := if carryOn then d else d.each (List.range 4) Device.railDrop
  let d := d.rigReset rigPages
  let d := if carryOn then d
    else ((d.rigReset powerPages).each (List.range 4) fun d r => (d.wr (CV.VREF r) (CV.VREF r).reset).wr (CV.SLEW r) (CV.SLEW r).reset)
  let d := if carryOn then d else d.wr INT.IB0V INT.IB0V.reset
  let chans := d.chans.map Chan.unrig
  let d := { d with chans := chans, sects := [], ringMap := [] }
  let d := (d.modAdc fun a => { a with table := [], wcount := [], xcount := [] }).stopLoops
  let d := (d.setFld RCK.CFG_ROLE 0).lower RING.RSTAT_LOAD_OVER
  let d := d.modRing fun r => { r with table := [], window := none, windowDone := false, heard := false, wantStandby := false }
  ((d.setAddr d.otp.ringAddr false).wr SECT.RIGGED 0).commitPorts.chargerGo

/-! ## The load (R365–R367) -/

/-- The checks of R365 on one slot, in order. -/
def Device.tryRig (d : Device) (slot : Nat) : Device × Except RigErr Shadow :=
  let h := d.header true slot
  if !isImage true h then (d, .error { code := rigNoImage })
  else
    let (d, ok) := d.authenticate true slot
    if !ok then (d, .error { code := rigAuth })
    else if !(cFormats d.runningTable).contains (hFmt h) then (d, .error { code := rigFormat })
    else if hTserial h != 0 && hTserial h != d.otp.serial then (d, .error { code := rigTarget })
    else
      let body := d.flashRead (slotBase true slot + 256) (hLength h - 256)
      match parseRecs (body.length / 4 + 1) body [] with
      | .error e => (d, .error e)
      | .ok rs =>
        if rs.length != hNrec h then (d, .error { code := rigStructure, type := tEnd })
        else
          match (rs.findSome? recordFault) <|> crossFault rs d.otp.ringAddr with
          | some e => (d, .error e)
          | none =>
            (d, .ok {
              slot := slot, fellback := false
              recs := rs.filter fun r => !optional r.type
              skipped := (rs.filter fun r => optional r.type).map (·.type)
              imgid := hImgid h, version := hVersion h, fmt := hFmt h, chver := hChver h })

/-- RIG_FAIL with the slot and code. -/
def Device.rigFail (d : Device) (slot : Nat) (e : RigErr) : Device :=
  let d := ((d.wr SYS.RIGERR e.code).wr SYS.RIGETYPE e.type).wr SYS.RIGEINST e.inst
  ((d.wr SYS.RIGEOFF e.off).raise SYS.RIG_RIG_FAIL).log Ev.RIG_FAIL [slot, e.code]

def Device.setShadow (d : Device) (x : Shadow) : Device :=
  let d := { d with shadow := some x }
  d.each x.skipped fun d t => (d.raise SYS.RIG_RIG_SKIPPED).log Ev.RIG_SKIPPED [t]

/-- An activation's restart completes (R384, step 6): banks released with every channel off. -/
def Device.finishActivation (d : Device) : Device :=
  if !d.sec.activation then d
  else
    let d := d.each (List.range 4) fun d m =>
      if (d.bank m).enabled && d.flag (BANK.STAT_HELD m) && !d.flag (BANK.STAT_ISO m) && d.flag (BANK.STAT_UCODE_OK m) then
        d.restartBank m true
      else d
    let d := d.modSec fun x => { x with activation := false }
    (d.raise UPD.STAT_UPD_ACTIVATED).log Ev.UPD_ACTIVATED [d.bootHdr.fwId, d.bootHdr.rgId]

/-- The rigging slot of this boot: the active one, or the previous where the boot was not counted (R387). -/
def Device.bootRigSlot (d : Device) : Nat :=
  let h := d.bootHdr
  if d.sec.previous && h.trial.testBit 1 then 1 - h.rg else h.rg

/-- The load begins: the device is unrigged and no refusal stands (R25, R366). -/
def Device.loadBegin (d : Device) : Device :=
  let d := (d.modSec fun x => { x with loadDue := false }).unrig d.sec.activation
  let d := { d.raise SYS.RIG_LOADING with shadow := none }
  let d := ((d.wr SYS.RIGERR rigNone).wr SYS.RIGETYPE 0).wr SYS.RIGEINST 0
  (d.wr SYS.RIGEOFF 0).modRck fun r => { r with loadedAt := d.now }

/-- With every rail dropped and no slot rigged the sequencer's power-up is over; a new one follows a wake or
AUTO (R25, R369). -/
def Device.dropSequence (d : Device) : Device :=
  let d := (d.wr SEQ.ENMASK 0).wr SEQ.QUALMASK 0
  let d := d.modInt fun x => { x with slotOn := [] }
  if d.seqState == seqUp || d.seqState == seqOn then d.startPowerDown
  else if d.seqState == seqPowerDown then (d.modSeq fun s => { s with downAt := [], railsDown := [] }).checkDown
  else d

/-- Both slots are refused: the device stays unrigged, and what an activation had carried over ends with it (R25,
R366). -/
def Device.loadRefused (d : Device) : Device :=
  let d := d.lower SYS.RIG_LOADING
  if d.sec.activation then ((d.unrig false).dropSequence).finishActivation else d

/-- R366, steps 1 to 5, R367: the active slot, and on a refusal the other. -/
def Device.riggingLoad (d : Device) : Device :=
  if !d.sec.loadDue || !d.coreRuns then d
  else
    let d := d.loadBegin
    let slot := d.bootRigSlot
    match d.tryRig slot with
    | (d, .ok x) => d.setShadow x
    | (d, .error e1) =>
      let d := d.rigFail slot e1
      match d.tryRig (1 - slot) with
      | (d, .ok x) =>
        ((d.raise SYS.RIG_RIG_FALLBACK).log Ev.RIG_FALLBACK [1 - slot]).setShadow { x with fellback := true }
      | (d, .error e2) => (d.rigFail (1 - slot) e2).loadRefused

def execRiggingLoad (s : State) : Host.Outcome State Fault Refusal := s.run Device.riggingLoad

/-! ## The commit (R368) -/

/-- The registers of one record; VREF and IB0V take their value as a retarget (R212, R225). -/
def Device.commitRec (d : Device) (rec : RigRec) : Device :=
  let d := d.each (layout rec.type rec.inst) fun d e =>
    let v := wordAt rec e.1 e.2
    if e.2.addr == INT.IB0V.addr then d.writeIb0v v
    else if rec.type == tRail && e.2.addr == (CV.VREF rec.inst).addr then d
    else d.wr e.2 (lacking (d.rd e.2) (e.2.rg ||| e.2.rw ||| rigMask e.2) ||| v)
  if rec.type = tRail then d.writeVref rec.inst (wordAt rec 4 (CV.VREF rec.inst))
  else if rec.type = tLimits then
    d.each (List.range 4) fun d m => d.setFlag (BANK.STAT_NOISO m) (byteAt rec.data (noisoAt + m) == 1)
  else d

/-- A CHANNEL record's geometry and latencies; in 10 ns where learned. -/
def chanRig (data : List Nat) (c : Chan) : Chan :=
  { c with
    stag := signed 32 (fieldAt data 16 4), lat := signed 16 (fieldAt data 20 2)
    ldefOn := fieldAt data 22 2, ldefOff := fieldAt data 24 2
    lminOn := fieldAt data 26 2, lminOff := fieldAt data 28 2
    lmaxOn := fieldAt data 30 2, lmaxOff := fieldAt data 32 2
    check := (Config.channelCheck (data.map (BitVec.ofNat 8))).toNat }

/-- R108, R109: both flags set and L = LDEF, until the journal record, if intact and of this CHANNEL
record, gives the learned latencies back. -/
def Device.startLearning (d : Device) (n : Nat) : Device :=
  let c := d.chan n
  let d := ((d.raise (CHS.STAT_UNL_ON n)).raise (CHS.STAT_UNL_OFF n)).setLearn n true { lat := c.ldefOn * 100 }
  let d := d.setLearn n false { lat := c.ldefOff * 100 }
  match d.newest (asLatency n) with
  | some r =>
    if r.check != c.check then d
    else
      let d := if r.unl % 2 = 0 then (d.lower (CHS.STAT_UNL_ON n)).setLearn n true { lat := r.on } else d
      if r.unl / 2 % 2 = 0 then (d.lower (CHS.STAT_UNL_OFF n)).setLearn n false { lat := r.off } else d
  | none => d

/-- The rigged part of a channel: its gang, geometry and learning, at base duty 0. -/
def Device.commitChan (d : Device) (rs : List RigRec) (n : Nat) : Device :=
  let d := d.setFld (CH.CFG_GANG n) (gangOf rs n)
  (match findRec rs tChannel n with
    | some r => d.modChan n (chanRig r.data)
    | none => d).startLearning n

/-- Local sections with a member channel, and the ring IDs mapped to each (R65). -/
def sectsOf (rs : List RigRec) : List (Nat × Nat) :=
  (byInst (ofType rs tSection)).filterMap fun r =>
    let m := fieldAt r.data 0 20
    if m = 0 then none else some (r.inst, m)

/-- R65 names a ring ID that maps to no section and leaves open one whose SECTION record has an empty member mask: it
maps to that section, so RMAP.VALID reads 1 and its edge is accepted with no entry (DESIGN CHOICE,
notes/assumptions/54.md). -/
def ringMapOf (rs : List RigRec) : List (Nat × Nat) :=
  (ofType rs tSection).foldl (fun m r => (ringIds r).foldl (fun m id => put m id r.inst) m) []

/-- Table entries that are not 0 (R250). -/
def tableOf (rs : List RigRec) : List (Nat × Nat) :=
  (byInst ((ofType rs tAdc).filter fun r => r.inst != 0)).flatMap fun r =>
    (List.range (r.data.length / 16)).filterMap fun j =>
      let v := fieldAt r.data (16 * j) 16
      if v = 0 then none else some (64 * (r.inst - 1) + j, v)

/-- SYS status of the load (R366, R371). The configuration's serialisation under RIGCRC is not stated:
it takes a free value. -/
def Device.commitSys (d : Device) (x : Shadow) : Device :=
  let d := ((d.raise SYS.RIG_RIGGED).lower SYS.RIG_LOADING).setFld SYS.RIG_SLOT x.slot
  let d := (d.setFlag SYS.RIG_FELLBACK x.fellback).wr SYS.RIGID x.imgid
  let d := ((d.wr SYS.RIGVER x.version).wr SYS.RIGFMT x.fmt).wr SYS.CHVER x.chver
  let d := (d.wr SYS.RIGNREC x.recs.length).wr SYS.RIGSKIP x.skipped.length
  ((d.wr SYS.RIGCRC (d.freeVal 32)).nextFree).log Ev.RIG_LOADED [x.slot, x.imgid, x.version]

/-- R366, step 6, R368: the end of the rigging load, in one cycle. -/
def Device.riggingCommit (d : Device) : Device :=
  match d.shadow with
  | none => d
  | some x =>
    let rs := x.recs
    let d := { d with shadow := none }
    let d := (d.rigReset powerPages).each rs Device.commitRec
    let d := d.each allChans fun d n => d.commitChan rs n
    let d := { d with sects := sectsOf rs, ringMap := ringMapOf rs }
    let d := (d.modAdc fun a => { a with table := tableOf rs }).wr SECT.RIGGED
      ((sectsOf rs).foldl (fun m e => m + 2 ^ e.1) 0)
    let d := d.each d.leads Device.setDuty
    let d := d.modRck fun r =>
      { r with src := sourceOf (d.fld RCK.CFG_SRC), failed := none, resumed := false, srcLost := false
               hspeedAt := none, hyawAt := none, loadedAt := d.now, fast0 := none, fast1 := none
               stamps := [], stamps0 := [], stamps1 := [], vEst := 0, vEnc0 := 0, vEnc1 := 0 }
    let d := (d.setFlag RCK.STAT_SPEED_STALE d.hostSource).setFlag RCK.STAT_YAW_STALE (d.fld RCK.CFG_YAWSRC == 2)
    let cfgAddr : Nat := d.fld RING.CFG_ADDR
    let d := if cfgAddr = 0 then d.setAddr d.otp.ringAddr false else d.setAddr cfgAddr true
    let d := ((d.commitSys x).commitPorts).chargerGo.openWindow
    let d := if d.fld SEC.PSTAT_STATE == stKeep then d else d.startLoops
    let d := d.finishActivation
    if d.flag SEQ.CFG_AUTO then d.requestOn else d

def execRiggingCommit (s : State) : Host.Outcome State Fault Refusal := s.run Device.riggingCommit

/-! ## Configuration errors (R369) -/

/-- An uncorrectable error: STRIKE, out of RUN, unrigged, and a new load. -/
def Device.rigCorrupt (d : Device) : Device :=
  if !d.rigged then d
  else
    let d := ((((d.raise SYS.RIG_RIG_CORRUPT).log Ev.RIG_CORRUPT []).strike .int).unrig false).dropSequence
    (d.wr SYS.RIGERR rigCorruptCode).modSec fun x => { x with loadDue := true }

def execRigCorrupt (s : State) : Host.Outcome State Fault Refusal := s.run Device.rigCorrupt

/-- A corrected error counts (R369). -/
def execRigEccCorrected (s : State) : Host.Outcome State Fault Refusal := s.run fun d => d.countSat SYS.RIGECC

end Sys2Proof.Machine
end

