-- ==== Sys2Proof/Machine/Update.lean ====
section
/-! DEFINITION. Machine/Update.lean: image transfer (R376–R379), activation (R380–R384), confirmation (R385) and
the running version that enumeration and epochs set (R181). -/
namespace Sys2Proof.Machine

def Device.modUpd (d : Device) (f : Upd → Upd) : Device := { d with upd := f d.upd }

/-! ## Result codes (R388) -/

def resOk : Nat := 0
def resBusy : Nat := 1
def resNotMaint : Nat := 2
def resBadRange : Nat := 3
def resBadState : Nat := 4
def resNotHead : Nat := 5
def resAuth : Nat := 6
def resSize : Nat := 7
def resStepping : Nat := 8
def resRigFormat : Nat := 9
def resRingVersion : Nat := 10
def resNoImage : Nat := 11
def resLateEpoch : Nat := 12
def resIncomplete : Nat := 13
def resEnergy : Nat := 14
def resNotTrial : Nat := 15

/-- The result of a command, in UPD.RES and for the response. -/
def Device.res (d : Device) (code : Nat) : Device × Nat := (d.wr UPD.RES code, code)

/-- UPD_REFUSED (R377, R380, R381), logged with its code. -/
def Device.updRefused (d : Device) (code : Nat) : Device × Nat :=
  ((d.raise UPD.STAT_UPD_REFUSED).log Ev.UPD_REFUSED [code]).res code

/-! ## Transfer (R376–R379) -/

/-- Transfer states (R376). -/
def xIdle : Nat := 0
def xErasing : Nat := 1
def xReceiving : Nat := 2
def xVerifying : Nat := 3
def xReady : Nat := 4
def xFailed : Nat := 5

def Device.xstate (d : Device) : Nat := d.fld UPD.STAT_XSTATE
def Device.setX (d : Device) (x : Nat) : Device := d.setFld UPD.STAT_XSTATE x
/-- The kind of the transfer: rigging. -/
def Device.xrig (d : Device) : Bool := d.flag UPD.STAT_XKIND
def Device.onTrial (d : Device) : Bool := d.flag UPD.STAT_FWTRIAL || d.flag UPD.STAT_RGTRIAL

def Upd.ready (u : Upd) (rig : Bool) : Bool := if rig then u.readyRg else u.readyFw
def Upd.setReady (u : Upd) (rig b : Bool) : Upd := if rig then { u with readyRg := b } else { u with readyFw := b }

/-- Sectors of a slot that a transfer of `len` bytes erases: those of [0, len) and the trailer's. -/
def transferSectors (rig : Bool) (len : Nat) : List Nat :=
  let last := slotSize rig / sectorBytes - 1
  (List.range (min last (ceilDiv len sectorBytes))) ++ [last]

/-- R377. -/
def Device.openTransfer (d : Device) (kind len : Nat) : Device × Nat :=
  if 2 ≤ kind then d.res resBadRange
  else
    let rig := kind == 1
    if d.onTrial || d.flag UPD.STAT_ARMED || d.xstate == xVerifying then d.updRefused resBadState
    else if !lengthOk rig len then d.updRefused resSize
    else
      let d := (d.setX xErasing).setFlag UPD.STAT_XKIND rig
      let d := ((d.wr UPD.XLEN len).wr UPD.XRCV 0).wr UPD.RXMAP 0
      let d := d.wr (UPD.SLOTID (slotIx rig (d.inactiveSlot rig))) 0
      (d.modUpd fun u => { u.setReady rig false with toErase := transferSectors rig len, pages := [] }).res resOk

/-- R377: every sector needed is erased, each under the energy check; else the erase waits. -/
def Device.eraseDone (d : Device) (env : EnergyEnv) : Device :=
  if !d.coreServes || d.xstate != xErasing || !d.present || !d.storeIdle then d
  else
    let (ok, d) := d.storeEnergy env d.flash.tErase
    if !ok then d
    else
      let rig := d.xrig
      let slot := d.inactiveSlot rig
      let d := d.each d.upd.toErase fun d b =>
        (d.countErase (blockSector rig slot b)).flashErase (slotBase rig slot + b * sectorBytes) sectorBytes
      (d.modUpd fun u => { u with toErase := [] }).setX xReceiving

def execTransferEraseDone (env : EnergyEnv) (s : State) : Host.Outcome State Fault Refusal := s.run fun d => d.eraseDone env

/-- A DATA frame that R378 accepts: offset a multiple of 1024, 1024 bytes, or the last ending at XLEN. -/
def frameOk (xlen off n : Nat) : Bool :=
  off % 1024 == 0 && 1 ≤ n && n ≤ 1024 && (off + n == xlen || (n == 1024 && decide (off + n ≤ xlen)))

/-- The 256-byte pages of [off, off + n). -/
def pagesOf (off n : Nat) : List Nat := (List.range (ceilDiv n 256)).map (off / 256 + ·)

/-- RXMAP bit of the 8 KiB block that holds `off`: every page of it within XLEN is programmed. -/
def Device.markBlock (d : Device) (off : Nat) : Device :=
  let b := off / 8192
  let n := min 8192 (d.rd UPD.XLEN - 8192 * b)
  if (pagesOf (8192 * b) n).all d.upd.pages.contains then d.setBit UPD.RXMAP b true else d

/-- R378. -/
def Device.receiveData (d : Device) (off : Nat) (data : List Nat) (env : EnergyEnv) : Device × Nat :=
  if d.xstate != xReceiving || !frameOk (d.rd UPD.XLEN) off data.length then d.res resBadRange
  else
    let ps := pagesOf off data.length
    if ps.all d.upd.pages.contains then d.res resOk
    else
      let (ok, d) := d.storeEnergy env d.flash.tProg
      if !ok || !d.present then d.res resEnergy
      else
        let d := d.flashWrite (slotBase d.xrig (d.inactiveSlot d.xrig) + off) data
        let d := (d.modUpd fun u => { u with pages := ps ++ u.pages }).count UPD.XRCV data.length
        (d.markBlock off).res resOk

/-- Every RXMAP bit within XLEN is 1. -/
def Device.received (d : Device) : Bool := (List.range (ceilDiv (d.rd UPD.XLEN) 8192)).all fun b => d.bit UPD.RXMAP b

/-- R379: CLOSE. -/
def Device.closeTransfer (d : Device) : Device × Nat :=
  if d.xstate != xReceiving then d.res resBadState
  else if !d.received then d.res resIncomplete
  else ((d.setX xVerifying).wr UPD.RES resBusy, resOk)

/-- Checks 2 and 3 of R379. The codes for a bad table layout, a bad microcode CRC and another serial are
not stated: each takes a free value (none). -/
def Device.imageCheck (d : Device) (rig : Bool) (slot : Nat) : Option (Option Nat) :=
  let h := d.header rig slot
  if rig then (if hTserial h != 0 && hTserial h != d.otp.serial then some none else none)
  else
    let t := d.compat slot
    if !compatOk t (hLength h) then some none
    else if !(cSteppings t).contains d.otp.stepping then some (some resStepping)
    else if crc32c (d.flashRead (slotBase false slot + cUcOff t) (cUcLen t)) != cUcCrc t then some none
    else none

/-- The trailer of a passed image (R339). -/
def Device.putTrailer (d : Device) (rig : Bool) (slot : Nat) : Device :=
  d.each (List.range (ceilDiv (d.rd UPD.XLEN) sectorBytes)) fun d b =>
    let crc := crc32c (d.flashRead (slotBase rig slot + b * sectorBytes) (blockBytes rig b))
    d.flashWrite (trailerAt rig slot b) (toBytes 4 crc ++ toBytes 4 (d.rd STORE.SCLK))

def Device.imageBad (d : Device) (code : Nat) : Device :=
  ((d.setX xFailed).wr UPD.RES code).raise UPD.STAT_UPD_IMAGE_BAD |>.log Ev.UPD_IMAGE_BAD [d.xrig.toNat, code]

/-- R379: verification ends. -/
def Device.verifyDone (d : Device) : Device :=
  if !d.coreServes || d.xstate != xVerifying then d
  else
    let rig := d.xrig
    let slot := d.inactiveSlot rig
    let (d, ok) := d.authenticate rig slot
    if !ok then d.imageBad resAuth
    else
      match d.imageCheck rig slot with
      | some (some code) => d.imageBad code
      | some none => d.nextFree.imageBad (d.freeVal 8)
      | none =>
        let h := d.header rig slot
        let d := (d.putTrailer rig slot).setX xReady
        let d := (d.wr (UPD.SLOTID (slotIx rig slot)) (hImgid h)).wr (UPD.SLOTVER (slotIx rig slot)) (hVersion h)
        let d := (d.modUpd fun u => u.setReady rig true).wr UPD.RES resOk
        (d.raise UPD.STAT_UPD_IMAGE_OK).log Ev.UPD_IMAGE_OK [rig.toNat, hImgid h]

def execVerifyDone (s : State) : Host.Outcome State Fault Refusal := s.run Device.verifyDone

/-! ## Running version (R181, R182) -/

/-- The device leaves or enters the bypass as V lies in its range or not; bypassed, it holds its
channels off. -/
def Device.setVersion (d : Device) (v : Nat) : Device :=
  let sup := d.rd RING.VERSUP
  let out := v < sup % 16 || sup / 16 < v
  let d := d.setFld RING.VRUN_V v
  let d := if out && !d.flag RING.RSTAT_BYPASS then d.each d.leads fun d l => d.faultOff l 1 else d
  d.setFlag RING.RSTAT_BYPASS out

/-- R181: the head recomputes V where it is not in RUN. -/
def Device.recomputeVersion (d : Device) : Device :=
  if d.inRun then d
  else
    let sup := d.rd RING.VERSUP
    let highs := (d.ring.table.filter (·.present)).map fun e => e.ver / 16
    d.setVersion (max (sup % 16) (highs.foldl min (sup / 16)))

/-! ## Activation (R380–R384) -/

/-- Fields of an ACTIVATE payload (R175). -/
def aEpoch (p : List Nat) : Nat := fieldAt p 0 8
def aCond (p : List Nat) : Nat := byteAt p 8
def aId (p : List Nat) : Nat := fieldAt p 9 4
def aFw (p : List Nat) : Bool := (byteAt p 13).testBit 0
def aRg (p : List Nat) : Bool := (byteAt p 13).testBit 1

def activatePay (epoch cond id tgt : Nat) : List Nat := toBytes 8 epoch ++ [cond] ++ toBytes 4 id ++ [tgt % 4]

/-- Checks 3 to 5 of R381 on the bundle that will run. A device whose rigging slot to run holds no image
has no format to check. -/
def Device.runChecks (d : Device) (p : List Nat) : Option Nat :=
  let t := if aFw p then d.compat (d.inactiveSlot false) else d.runningTable
  let h := d.header true (if aRg p then d.inactiveSlot true else d.activeSlot true)
  if !(cSteppings t).contains d.otp.stepping then some resStepping
  else if isImage true h && !(cFormats t).contains (hFmt h) then some resRigFormat
  else if d.ver < cVerLo t || cVerHi t < d.ver then some resRingVersion
  else none

/-- The first refusal of R381 and R382. -/
def Device.armChecks (d : Device) (p : List Nat) : Option Nat :=
  if 4 ≤ aCond p then some resBadRange
  else if (aFw p && !(d.upd.readyFw && d.slotId false (d.inactiveSlot false) == aId p)) || (aRg p && !d.upd.readyRg) then some resNoImage
  else if d.onTrial then some resBadState
  else d.runChecks p

/-- R381: an ACTIVATE reaches the device. The same one again leaves an armed device armed; a target of 0
cancels. -/
def Device.takeActivate (d : Device) (p : List Nat) : Device × Nat :=
  if !aFw p && !aRg p then (d.lower UPD.STAT_ARMED).res resOk
  else
    let d := d.modUpd fun u => { u with suspend := some (aEpoch p) }
    if d.flag UPD.STAT_ARMED && d.upd.armed == p then d.res resOk
    else
      match d.armChecks p with
      | some code => (d.lower UPD.STAT_ARMED).updRefused code
      | none =>
        let d := (d.raise UPD.STAT_ARMED).wr UPD.ARMTIDE (aEpoch p)
        let d := d.modUpd fun u => { u with armed := p, postponed := false }
        (d.log Ev.UPD_ARMED [aEpoch p]).res resOk

/-- R381: the oldest ACTIVATE delivered. -/
def Device.activateReceive (d : Device) : Device :=
  if !d.coreRuns then d else
  match d.takeMsg .activate with
  | none => d
  | some (m, d) => (d.takeActivate ((List.range 14).map (byteAt m.data))).1

def execActivateReceive (s : State) : Host.Outcome State Fault Refusal := s.run Device.activateReceive

/-- The head sends an ACTIVATE, and again with each query until its epoch has passed (R380). -/
def Device.sendActivate (d : Device) (p : List Nat) : Device :=
  (d.queueMsg .activate 0xFFF p).modUpd fun u => { u with repeating := some p }

/-- R380. -/
def Device.activate (d : Device) (epoch cond id tgt : Nat) : Device × Nat :=
  if !d.isHead then d.updRefused resNotHead
  else if epoch < d.now + 10 * msec then d.updRefused resLateEpoch
  else if 4 ≤ cond then d.updRefused resBadRange
  else
    let p := activatePay epoch cond id tgt
    (d.sendActivate p).takeActivate p

/-- With the fields of page UPD. -/
def Device.activateRegs (d : Device) : Device :=
  (d.activate (d.rd UPD.AEPOCH) (d.rd UPD.ACOND) (d.rd UPD.AID) (d.rd UPD.ATGT)).1

def execUpdActivate (w : Writer) (s : State) : Host.Outcome State Fault Refusal :=
  s.run fun d => d.asWright w 0x0F 0x02 Device.activateRegs

/-- R380: UPD.CMD.ABORT. -/
def Device.abortUpdate (d : Device) : Device :=
  let d :=
    if d.isHead then
      let p := activatePay (d.rd UPD.AEPOCH) (d.rd UPD.ACOND) (d.rd UPD.AID) 0
      ((d.sendActivate p).takeActivate p).1
    else d
  if d.xstate == xVerifying then d
  else
    let d := d.modUpd fun u => { u with toErase := [], readyFw := false, readyRg := false }
    ((d.setX xIdle).res resOk).1

def execUpdAbort (w : Writer) (s : State) : Host.Outcome State Fault Refusal :=
  s.run fun d => d.asWright w 0x0F 0x02 Device.abortUpdate

/-- A member channel of a mask has commanded state on (R67). -/
def Device.anyCmd (d : Device) (mask : Nat) : Bool := allChans.any fun n => mask.testBit n && d.flag (CHS.STAT_CMD n)
/-- Every member channel has. -/
def Device.allCmd (d : Device) (mask : Nat) : Bool :=
  mask % 2 ^ 160 != 0 && allChans.all fun n => !mask.testBit n || d.flag (CHS.STAT_CMD n)
/-- SECT.STAT.ANYON (R67). -/
def Device.anyOn (d : Device) : Bool := d.sects.any fun e => d.anyCmd e.2

/-- R382. -/
def Device.condHolds (d : Device) (cond : Nat) : Bool :=
  if cond = 0 then !d.anyOn
  else if cond = 1 then !d.inRun
  else if cond = 2 then d.flag RCK.STAT_STANDSTILL && !d.anyOn
  else cond == 3

/-- R382: judged again AWIN × 100 ms later; logged once per activation. -/
def Device.postpone (d : Device) : Device :=
  let d := d.wr UPD.ARMTIDE (d.rd UPD.ARMTIDE + d.rd UPD.AWIN * 100 * msec)
  if d.upd.postponed then d
  else ((d.raise UPD.STAT_UPD_POSTPONED).log Ev.UPD_POSTPONED []).modUpd fun u => { u with postponed := true }

/-- The boot header of R384, step 2. -/
def Device.trialHdr (d : Device) (p : List Nat) : BootHdr :=
  let h := d.bootHdr
  let fw := if aFw p then 1 - h.fw else h.fw
  let rg := if aRg p then 1 - h.rg else h.rg
  { fw := fw, rg := rg, trial := (aFw p).toNat + 2 * (aRg p).toNat, tries := 0
    fwId := d.slotId false fw, rgId := d.slotId true rg, epoch := aEpoch p }

/-- Step 3 of R384: a core reset into the boot ROM; tide and reckoning are kept, every bank restarts. -/
def Device.slotRestart (d : Device) : Device :=
  let d := (d.coreDomain.countSat SYS.CORERST).setFld SYS.RSTCAUSE_KIND 2
  let d := { d.setFld SYS.RSTCAUSE_PORSRC 0 with store := [] }
  let d := d.each (List.range 4) fun d m => d.lower (BANK.STAT_UCODE_OK m)
  (d.modSec fun x => { x with bootDue := true }).bootPeriod

/-- Banks with a supply. -/
def Device.liveBanks (d : Device) : List Nat := (List.range 4).filter fun m => (d.bank m).enabled && !d.flag (BANK.STAT_HELD m)

/-- R384: the restart into the new slots. -/
def Device.restart (d : Device) (p : List Nat) (env : EnergyEnv) : Device :=
  let was := d.fld SEC.PSTAT_STATE
  let live := d.liveBanks
  let d := (d.each d.leads fun d l => d.faultOff l 1).each live Device.holdBank
  let d := d.leaveRun
  let (ok, d) := d.writeHdr env (d.trialHdr p)
  if !ok then ((d.each live Device.releaseBank).setFld SEC.PSTAT_STATE was).postpone
  else
    let d := (d.lower UPD.STAT_ARMED).storeRegs
    let d := if d.xstate == xReady then d.setX xIdle else d
    let d := d.modUpd fun u => { u with readyFw := u.readyFw && !aFw p, readyRg := u.readyRg && !aRg p }
    let d := d.modSec fun x => { x with activation := true, loadDue := !aFw p }
    if aFw p then d.slotRestart else d

/-- R382: tide reaches ARMTIDE. At the epoch the head recomputes V (R181). -/
def Device.activateEpoch (d : Device) (env : EnergyEnv) : Device :=
  let d :=
    match d.upd.repeating with
    | some p => if aEpoch p ≤ d.now then (d.modUpd fun u => { u with repeating := none }).when d.isHead Device.recomputeVersion else d
    | none => d
  if !d.coreRuns || !d.flag UPD.STAT_ARMED || d.now < d.rd UPD.ARMTIDE then d
  else
    let p := d.upd.armed
    if (d.runChecks p).isNone && d.condHolds (aCond p) then d.restart p env else d.postpone

def execActivateEpoch (env : EnergyEnv) (s : State) : Host.Outcome State Fault Refusal := s.run fun d => d.activateEpoch env

/-- R383: 40 ms after the epoch. -/
def Device.suspendEnd (d : Device) : Device :=
  match d.upd.suspend with
  | some e => if e + 40 * msec ≤ d.now then d.modUpd fun u => { u with suspend := none } else d
  | none => d

def execActivateSuspendEnd (s : State) : Host.Outcome State Fault Refusal := s.run Device.suspendEnd

/-! ## Confirmation (R385) -/

/-- The floor that an image on trial asks for (R308). -/
def Device.askFloor (d : Device) (rig : Bool) (env : EnergyEnv) (bad : BurnFailures) : Device :=
  let h := d.header rig (d.activeSlot rig)
  if isImage rig h && hRaise h then d.raiseFloor rig (hSvn h) env bad else d

def Device.confirm (d : Device) (env : EnergyEnv) (bad : BurnFailures) : Device × Nat :=
  let h := d.bootHdr
  if h.trial = 0 then d.res resNotTrial
  else
    let (ok, d) := d.writeHdr env { h with trial := 0 }
    if !ok then d.res resEnergy
    else
      let d := (d.lower UPD.STAT_FWTRIAL).lower UPD.STAT_RGTRIAL
      let d := if h.trial.testBit 0 then d.askFloor false env bad else d
      let d := if h.trial.testBit 1 then d.askFloor true env bad else d
      ((d.raise UPD.STAT_UPD_CONFIRMED).log Ev.UPD_CONFIRMED []).res resOk

def execUpdConfirm (w : Writer) (env : EnergyEnv) (bad : BurnFailures) (s : State) : Host.Outcome State Fault Refusal :=
  s.run fun d => d.asWright w 0x0F 0x02 fun d => (d.confirm env bad).1

end Sys2Proof.Machine
end

