-- ==== Sys2Proof/Machine/Views.lean ====
section
/-! DEFINITION. Machine/Views.lean: what each register reads (R5): those that show state held elsewhere, the
windows that a selector opens (R85, R115, R187, R260, R336, R357), and the records of the log (R340, R345). -/
namespace Sys2Proof.Machine

/-- The bits of a window register that are not reserved (R4, R187, R250, R336). -/
def windowMask (r : Reg) : Nat :=
  if r.addr = ADC.ENTRY.addr then 2 ^ 128 - 1 - 2 ^ 9 - 31 * 2 ^ 59 - 4095 * 2 ^ 116
  else if r.addr = RING.MADDR.addr then 0x7FFF
  else if r.addr = RING.MROLE.addr then 3
  else if r.addr = OTP.RWEAK.addr then 0xCF
  else 2 ^ r.width - 1

/-- What no command reports a value of (notes/assumptions/3.md): reserved bits read 0 (R4), and the register its Reset
value before the first tick (R7). -/
def Device.liveVal (d : Device) (r : Reg) : Nat :=
  if d.clk = 0 then r.reset else Config.liveReading r.addr d.clk &&& windowMask r

/-! ## Sections and edges (R67, R84, R85) -/

def Device.sectOn (d : Device) : Nat := d.sects.foldl (fun m e => m + (d.anyCmd e.2).toNat * 2 ^ e.1) 0
def Device.sectAll (d : Device) : Nat := d.sects.foldl (fun m e => m + (d.allCmd e.2).toNat * 2 ^ e.1) 0

/-- Members of the section LIDX selects. -/
def Device.lidxMask (d : Device) : Nat := d.sectMask (d.rd SECT.LIDX % 64)

def Device.viewSect (d : Device) (r : Reg) : Option Nat :=
  if r.addr = SECT.RMAP.addr then
    some (match look d.ringMap (d.rd SECT.RIDX % 1024) with
      | some s => 128 + s % 64
      | none => 0)
  else if r.addr = SECT.LCOUNT.addr then some (allChans.filter d.lidxMask.testBit).length
  else if SECT.LMASK0.addr ≤ r.addr && r.addr ≤ SECT.LMASK4.addr then
    some (bitsOf d.lidxMask (8 * (r.addr - SECT.LMASK0.addr)) 32)
  else if r.addr = SECT.ON.addr then some d.sectOn
  else if r.addr = SECT.ALL.addr then some d.sectAll
  else if r.addr = SECT.STAT.addr then some d.anyOn.toNat
  else none

/-- The lowest number of a list, 0 where it is empty. -/
def lowest : List Nat → Nat
  | [] => 0
  | a :: t => t.foldl min a

def Device.viewEdge (d : Device) (r : Reg) : Option Nat :=
  let q := (d.pendingOn (d.rd EDGE.QCH)).map (·.feff)
  if r.addr = EDGE.USED.addr then some d.store.length
  else if r.addr = EDGE.QPEND.addr then some q.length
  else if r.addr = EDGE.QNEXT.addr then some (lowest q)
  else none

/-! ## Reckoning (R8, R34, R39, R41, R44) -/

def Device.viewRck (d : Device) (r : Reg) : Option Nat :=
  if r.addr = RCK.RECK.addr then some d.reckoning
  else if r.addr = RCK.TIDE.addr then some d.now
  else if r.addr = RCK.SPEED.addr then some d.speedNow
  else if r.addr = RCK.YAW.addr then some (unsigned 32 d.yawNow)
  else if r.addr = RCK.REV.addr then some (d.rck.rev / 2 ^ 24)
  else if r.addr = RCK.REVDEF.addr then some (d.rck.revDef / 2 ^ 24)
  else none

/-! ## Banks and channels (R114, R115, R124, R412) -/

def Device.viewBank (d : Device) (r : Reg) : Option Nat :=
  let g := d.rd BANK.GIDX
  let c := d.chan g
  let shown := fun (v : Nat) => some (if g < 160 then v else d.liveVal r)
  if r.addr = BANK.GSTAG.addr then shown (unsigned 32 c.stag)
  else if r.addr = BANK.GLAT.addr then shown (unsigned 16 c.lat)
  else if r.addr = BANK.GLDEFON.addr then shown c.ldefOn
  else if r.addr = BANK.GLDEFOFF.addr then shown c.ldefOff
  else if r.addr = BANK.GLMINON.addr then shown c.lminOn
  else if r.addr = BANK.GLMINOFF.addr then shown c.lminOff
  else if r.addr = BANK.GLMAXON.addr then shown c.lmaxOn
  else if r.addr = BANK.GLMAXOFF.addr then shown c.lmaxOff
  else
    match (List.range 4).find? fun m => r.addr == (BANK.STAT m).addr with
    | some m => if d.bankSupplied m then none else some (setBits (d.rd r) 0 1 1)
    | none => none

/-- CHS[n]: without supply the measurements and the output read 0 and HELD 1 (R412); HELD is any hold. -/
def Device.viewChan (d : Device) (r : Reg) : Option Nat :=
  let n := (r.addr - 0x3000) / 16
  let at_ := r.addr % 16
  let l := d.lead n
  let live := d.bankSupplied (bankOf n)
  if at_ = 0 then
    let v := setBits (d.rd r) 11 1 (d.held n || !live).toNat
    let v := setBits v 5 1 (d.flag (CHS.STAT_COMP_CLAMP l)).toNat
    some (if live then v else setBits v 0 1 0)
  else if at_ = 2 then some (d.imeas n)
  else if at_ = 4 then some (if live then d.sensed r else 0)
  else if at_ = 6 then some (if live then d.rd (CHS.DEFF l) else 0)
  else if at_ = 8 then some (d.rd (CHS.LON l))
  else if at_ = 10 then some (d.rd (CHS.LOFF l))
  else none

/-! ## Feeds, rails, regulators -/

def Device.viewFeed (d : Device) (r : Reg) : Option Nat :=
  let of := fun (f : FeedId) =>
    let i := FeedIx f
    if r.addr = (FEED.VGS i).addr then some (d.liveVal r)
    else if r.addr = (FEED.FTMR i).addr then some ((d.feed f).ftmr / 10000)
    else if r.addr = (FEED.IMEAS i).addr && d.feedClk != 0 then
      some (d.shuntAmps f (Config.shuntReading i d.feedClk))
    else none
  of .fa <|> of .fb

def Device.viewCv (d : Device) (r : Reg) : Option Nat :=
  ((List.range 4).find? fun k => r.addr == (CV.REF k).addr).map fun k => (d.rail k).ref / 1000

/-- INT.STAT: RAMP while the IB0 reference moves; the limit bits are live. -/
def Device.viewInt (d : Device) (r : Reg) : Option Nat :=
  if r.addr = INT.IB0REF.addr then some (d.int.ib0 / 10000)
  else if r.addr = INT.STAT.addr then
    some (setBits (setBits (d.rd r) 1 1 (d.int.ib0 != d.rd INT.IB0V * 10000).toNat) 2 3 (d.liveVal r / 4))
  else none

/-! ## Measurement (R250, R260, R261) -/

def Device.viewAdc (d : Device) (r : Reg) : Option Nat :=
  let e := d.rd ADC.EIDX
  if r.addr = ADC.ENTRY.addr then some (if e < 384 then (look d.adc.table e).getD 0 else d.liveVal r)
  else if r.addr = ADCD.ERAW.addr then some (if e < 384 then ((look d.adc.raw e).map (·.1)).getD 0 else d.liveVal r)
  else if r.addr = ADCD.ETIDE.addr then some (if e < 384 then ((look d.adc.raw e).map (·.2)).getD 0 else d.liveVal r)
  else none

/-! ## Charger (R269, R270, R275) -/

/-- The charger reduces its current for the die temperature (R269), as of the last tick. -/
def Device.thermReg (d : Device) : Bool := d.charging && d.flag CHG.STAT_THERMREG

def Device.viewChg (d : Device) (r : Reg) : Option Nat :=
  if r.addr = CHG.STAT.addr then some (setBits (setBits (d.rd r) 4 1 d.healthy.toNat) 6 1 d.thermReg.toNat)
  else if r.addr = CHG.SAFET.addr then some (d.chg.safe2 / (20 * msec))
  else if r.addr = CHG.PHTIME.addr then some ((d.now - d.chg.phaseAt) / (10 * msec))
  else none

/-! ## Ring table (R187) -/

def ringEntryView (e : RingEntry) (r : Reg) : Nat :=
  if r.addr = RING.MADDR.addr then e.addr + e.present.toNat * 2 ^ 12 + e.bypassed.toNat * 2 ^ 13 + e.conflict.toNat * 2 ^ 14
  else if r.addr = RING.MHOPE.addr then e.hopE
  else if r.addr = RING.MHOPW.addr then e.hopW
  else if r.addr = RING.MVER.addr then e.ver
  else if r.addr = RING.MROLE.addr then e.role
  else e.serial

def Device.viewRing (d : Device) (r : Reg) : Option Nat :=
  if r.addr = RING.NCOUNT.addr then some (if d.isHead then d.ring.table.length else 0)
  else if r.addr = RING.TXBUDSUM.addr then (if d.isHead then none else some 0)
  else if RING.MADDR.addr ≤ r.addr && r.addr ≤ RING.MSER.addr then
    some (if !d.isHead then 0
      else match d.ring.table[d.rd RING.MIDX]? with
        | some e => ringEntryView e r
        | none => d.liveVal r)
  else none

/-! ## Store records (R340, R345, R357) -/

def recPayload : RecBody → List Nat
  | .event e boot sclk =>
    toBytes 2 e.code ++ toBytes 2 e.orig ++ toBytes 2 boot ++ toBytes 4 sclk
      ++ toBytes 8 (e.raw.getD (Config.eventArgs e.code e.args).toNat)
  | .counter p vs => p :: vs.flatMap (toBytes 2)
  | .latency g cs => g :: cs.flatMap fun c => toBytes 3 c.on ++ toBytes 3 c.off ++ [c.unl] ++ toBytes 4 c.cyc ++ toBytes 2 c.check
  | .clock sclk boot _ => toBytes 4 sclk ++ toBytes 2 boot
  | .sector n sclk boot => toBytes 4 n ++ toBytes 4 sclk ++ toBytes 2 boot

def recType : RecBody → Nat
  | .event .. => 1
  | .counter .. => 2
  | .latency .. => 3
  | .sector .. => 4
  | .clock .. => 7

/-- The 64 bytes of a record (R340). -/
def recBytes (x : Record) : List Nat :=
  let pay := recPayload x.body
  let body := toBytes 2 0xC7E1 ++ [recType x.body, pay.length] ++ toBytes 4 x.seq ++ toBytes 8 x.tide
    ++ (List.range 44).map (byteAt pay)
  body ++ toBytes 4 (crc32c body)

/-- RRES: 0 OK, 1 NOT_FOUND, 2 TORN, 3 BUSY; with the record. -/
def Device.logRecord (d : Device) : Nat × Option Record :=
  let rs := (recsOf d.flash.log).filter fun x => x.seq == d.rd STORE.RSEQ
  if d.flag STORE.STAT_BUSY then (3, none)
  else
    match rs.find? (·.intact) with
    | some x => (0, some x)
    | none => (if rs.isEmpty then 1 else 2, none)

def Device.viewStore (d : Device) (r : Reg) : Option Nat :=
  if r.addr = STORE.RRES.addr then some d.logRecord.1
  else if r.addr = STORE.RREC.addr then
    some (match d.logRecord.2 with
      | some x => ofBytes (recBytes x)
      | none => d.liveVal r)
  else none

/-! ## OTP (R331, R336) -/

/-- A logical word at risk: its tight-margin value is not its normal-margin value (R329). -/
def Otp.wordAtRisk (o : Otp) (l : Nat) : Bool := o.value true l != o.value false l

/-- RWEAK of a logical word. -/
def Otp.weakView (o : Otp) (l : Nat) : Nat :=
  let cs := copiesOf l
  let weak := (List.range cs.length).foldl (fun m c => m + (o.weak.contains ((cs[c]?).getD 0)).toNat * 2 ^ c) 0
  weak + (o.wordAtRisk l).toNat * 64 + (cs.any fun p => o.homeOf p != p).toNat * 128

/-- The region of a physical word is locked against reading. -/
def Device.physLocked (d : Device) (p : Nat) : Bool :=
  match d.otp.repairTarget 171 p with
  | some l => d.rlock (regionOf l)
  | none => false

def Device.viewOtp (d : Device) (r : Reg) : Option Nat :=
  let l := d.rd OTP.RIDX % 2048
  let p := d.rd OTP.PIDX % 4096
  if r.addr = OTP.RDATA.addr then
    some (if otpWords ≤ l then d.liveVal r else if d.rlock (regionOf l) then 0 else d.otp.normal l)
  else if r.addr = OTP.RWEAK.addr then some (if otpWords ≤ l then d.liveVal r else d.otp.weakView l)
  else if r.addr = OTP.PNORM.addr then some (if d.physLocked p then 0 else d.otp.phys false p)
  else if r.addr = OTP.PTIGHT.addr then some (if d.physLocked p then 0 else d.otp.phys true p)
  else none

/-! ## The rest -/

def Device.viewSys (d : Device) (r : Reg) : Option Nat :=
  if r.addr = SYS.ISUM.addr then some d.isum
  else if r.addr = SYS.IRQC.addr then some d.irqc
  else if r.addr = SYS.IRQH.addr then some d.irqh
  else none

def Device.viewTwi (d : Device) (r : Reg) : Option Nat :=
  if r.addr = TWI.STAT.addr then some (setBits (d.rd r) 0 1 d.attPending.toNat) else none

/-- The window value of a register, none where it reads what it holds. -/
def Device.view (d : Device) (r : Reg) : Option Nat :=
  match r.addr / 256 with
  | 0 => d.viewSys r
  | 1 => d.viewRck r
  | 2 => d.viewEdge r
  | 3 => d.viewSect r
  | 4 => d.viewBank r
  | 5 => d.viewFeed r
  | 6 => d.viewCv r
  | 7 => d.viewInt r
  | 9 => d.viewAdc r
  | 10 => d.viewAdc r
  | 12 => d.viewChg r
  | 13 => d.viewRing r
  | 14 => d.viewStore r
  | 16 => d.viewOtp r
  | 18 => d.viewTwi r
  | p => if 0x30 ≤ p && p < 0x3A then d.viewChan r else none

/-- What a register reads; WO bits hold nothing and read 0 (R5). -/
def Device.readReg (d : Device) (r : Reg) : Nat := ((d.view r).getD (d.rd r)) % 2 ^ r.width

end Sys2Proof.Machine
end

