-- ==== Sys2Proof/Machine/Bus.lean ====
section
/-! DEFINITION. Machine/Bus.lean: the register space as its paths reach it (R76, R281, R394, R406–R408): a read of
bytes, a write of bytes with the access codes of R5 and the action of each register. The rows that write
one register and these paths call the same operations. -/
namespace Sys2Proof.Machine

/-! ## Registers at an address -/

def Reg.bytes (r : Reg) : Nat := r.width / 8

/-- The register that holds byte `off` of a page (R407). -/
def regOf (page off : Nat) : Option Reg :=
  (pageRegs page).find? fun r => r.addr ≤ page * 256 + off && page * 256 + off < r.addr + r.bytes

/-- The present bits of a register outside `m`, and those of `v` inside. -/
def merge (old v m w : Nat) : Nat := (lacking old m ||| (v &&& m)) % 2 ^ w

/-! ## Reads -/

def Device.readByte (d : Device) (page off : Nat) : Nat :=
  match regOf page off with
  | some r => bitsOf (d.readReg r) (8 * (page * 256 + off - r.addr)) 8
  | none => 0

/-- `n` bytes in one cycle. A read of byte 0 of XDATA fills it and advances XADDR (R355). -/
def Device.readBytes (d : Device) (page off n : Nat) : List Nat × Device :=
  let x := STORE.XDATA.addr - 0xE00
  let d := if page = 0x0E && off ≤ x && x < off + n then d.readXdata else d
  ((List.range n).map fun i => if off + i < 256 then d.readByte page (off + i) else 0, d)

/-! ## World facts of a bus write -/

/-- The supplies an action started by a bus write is judged against: free values. -/
def Device.freeEnv (d : Device) : EnergyEnv where
  vsys := Config.freeValue d.free
  vhold := Config.freeValue (d.free + 1)
  temp := (Config.freeValue (d.free + 2) : Int) - Config.freeValue (d.free + 3)

/-- An action under such supplies, with bits that fail. -/
def Device.withEnv (d : Device) (f : EnergyEnv → BurnFailures → Device → Device) : Device :=
  f d.freeEnv (Config.freeBurns d.free) { d with free := d.free + 4 }

/-! ## Actions of the WO registers -/

/-- OTP.CMD (R336): an OP outside the table is refused with RANGE. -/
def Device.otpCmd (d : Device) (w : Writer) (v : Nat) : Device :=
  d.withEnv fun env bad d =>
    match d.otpMayStart w env with
    | some why => d.otpRefused why
    | none =>
      if v % 16 = 1 then d.otpProgram env bad
      else if v % 16 = 2 then d.otpFinalise env bad
      else if v % 16 = 3 then d.otpReburn env bad
      else if v % 16 = 4 then d.otpRepair env bad
      else d.otpRefused otpRange

/-- UPD.CMD: one bit per write, otherwise no effect (R388). -/
def Device.updCmd (d : Device) (v : Nat) : Device :=
  if v = 1 then d.activateRegs
  else if v = 2 then d.withEnv fun env bad d => (d.confirm env bad).1
  else if v = 4 then d.abortUpdate
  else d

/-- BANK.ISOCTL: both bits have no effect (R139). -/
def Device.isoCmd (d : Device) (m v : Nat) : Device :=
  if v % 4 = 1 then d.isoOpen m
  else if v % 4 = 2 then { d with free := d.free + 1 }.isoClose m (Config.freeValue d.free % 2 == 1)
  else d

/-- BANK.STRIKECMD: a write with both bits asserts alone (R135). -/
def Device.strikeCmd (d : Device) (v : Nat) : Device :=
  if v.testBit 0 then d.strike .reg else if v.testBit 1 then d.strikeRelease else d

/-- Results of a controller transaction (R405). -/
def twiOk : Nat := 0
def twiNackAddr : Nat := 1
def twiNackData : Nat := 2
def twiArbLost : Nat := 3
def twiTimeout : Nat := 4
def twiRefused : Nat := 5

/-- R398: TWI.CCTL. -/
def Device.twiStart (d : Device) (w : Writer) (v : Nat) : Device :=
  let wl := d.rd TWI.CWLEN
  let rl := d.rd TWI.CRLEN
  if !v.testBit 0 then d
  else if !isCore w || d.flag TWI.CRES_BUSY || wl + rl = 0 || 8 < wl || 32 < rl then d.setFld TWI.CRES_STATUS twiRefused
  else
    let d := { d with twi := { d.twi with tries := 0 } }
    ((d.raise TWI.CRES_BUSY).raise TWI.STAT_CBUSY).setFld TWI.CRES_STATUS twiOk

/-! ## Writes -/

/-- RW and W1C bits of a register take a write of the bits `m` of `v` (R5, R394). An event bit that the hardware has set
in this very tick stays (R6). -/
def Device.plainWrite (d : Device) (r : Reg) (v m : Nat) : Device :=
  let old := d.rd r
  d.wr r (lacking (merge old v (m &&& r.rw) r.width) (lacking (v &&& m &&& r.w1c) (d.freshBits r)))

/-- Instance `i` of a family of registers. -/
def ixOf (f : Nat → Reg) (n : Nat) (r : Reg) : Option Nat := (List.range n).find? fun i => r.addr == (f i).addr

/-- Pages RCK to FEED: `x` is the register with the write in place, `a` the written bits, `top`: the highest byte is
among them. An action takes place with the highest byte (R37, R64, R76, R212, R256, R303; notes/assumptions/81.md). -/
def Device.actLow (d : Device) (w : Writer) (r : Reg) (x a : Nat) (top : Bool) : Option Device :=
  if r.addr = SYS.IMASKC.addr then some (if isCore w then d.wr r x else d)
  else if r.addr = RCK.HSPEED.addr then some (d.writeHspeed x top)
  else if r.addr = RCK.HYAW.addr then some (d.writeHyaw x top)
  else if r.addr = RCK.HDIR.addr then some (d.writeHdir x)
  else if r.addr = RCK.SRCRST.addr then some (d.srcRestore a)
  else if r.addr = RCK.CAP.addr then some (d.capture a)
  else if r.addr = EDGE.WIN.addr then
    let d := d.wr EDGE.WIN x
    some (if top then d.submitWindow w else d)
  else if r.addr = EDGE.FLUSH.addr then some (if top then d.flush a else d)
  else if r.addr = BANK.SAFEREL.addr then some (d.safeRelease a)
  else if r.addr = BANK.STRIKECMD.addr then some (d.strikeCmd a)
  else if r.addr = FEED.CMD.addr then some (d.feedSelect a)
  else
    match ixOf BANK.ISOCTL 4 r, ixOf BANK.TRIPS 4 r with
    | some m, _ => some (d.isoCmd m a)
    | _, some m => some (d.clearTrips m a)
    | _, _ => if r.addr = (FEED.CLR 0).addr then some (d.feedClear .fa a) else if r.addr = (FEED.CLR 1).addr then some (d.feedClear .fb a) else none

/-- Pages CV to RING. -/
def Device.actMid (d : Device) (w : Writer) (r : Reg) (x a : Nat) (top : Bool) : Option Device :=
  if r.addr = INT.IB0V.addr then some (if top then d.writeIb0v x else d)
  else if r.addr = INT.LDCLR.addr then some (d.ldClear a)
  else if r.addr = SEQ.CMD.addr then some (d.seqCmd a)
  else if r.addr = ADC.URG.addr then some (if top && (isCore w || w == .host) then d.urgent a else d)
  else if r.addr = WDT.SVC.addr then some (d.wdtWrite w a)
  else if r.addr = WDT.CHECKIN.addr then some (d.checkin w a)
  else if r.addr = CHG.CMD.addr then some (d.chgCmd a)
  else if r.addr = RING.LCTL.addr then some (d.retrain a)
  else if r.addr = RING.TCTL.addr then some (d.tctl a)
  else
    match ixOf CV.VREF 4 r, ixOf CV.SLEW 4 r, ixOf ADCD.URES 4 r with
    | some k, _, _ => some (if top then d.writeVref k x else d)
    | _, some k, _ => some (if top then d.writeSlew k x else d)
    | _, _, some t => some (if a.testBit 31 then d.freeTag t else d)
    | _, _, _ => none

/-- Pages STORE to CNT. UPD.CTL is written by the core at Wright and the two-wire host alone (R374). -/
def Device.actHigh (d : Device) (w : Writer) (r : Reg) (x a : Nat) (top : Bool) : Option Device :=
  if r.addr = STORE.CMD.addr then some (if a.testBit 0 then d.beginScrub else d)
  else if r.addr = STORE.WALL.addr then some (if top then d.writeWall a else d)
  else if r.addr = STORE.XADDR.addr then some (d.writeXaddr x)
  else if r.addr = STORE.XDATA.addr then
    let d := d.wr STORE.XDATA x
    some (if top then d.withEnv fun env _ d => d.writeXdata x env else d)
  else if r.addr = UPD.CMD.addr then some (d.updCmd a)
  else if r.addr = UPD.CTL.addr then some (if w == .wright || w == .host then d.wr r x else d)
  else if r.addr = OTP.CMD.addr then some (d.otpCmd w a)
  else if r.addr = OTP.LOCKSET.addr then some (if top then d.lockSet a else d)
  else if r.addr = SEC.PWRCMD.addr then some (d.pwrCmd a)
  else if r.addr = SEC.LIFECMD.addr then some (if top then d.withEnv fun env bad d => d.lifecmd w a env bad else d)
  else if r.addr = SEC.REVCMD.addr then some (d.withEnv fun env bad d => d.revoke w a env bad)
  else if r.addr = SEC.DBGCTL.addr then some (if a.testBit 0 then d.endAuth else d)
  else if r.addr = TWI.CCTL.addr then some (d.twiStart w a)
  else if r.addr = CNT.CLR.addr then some (if top then d.cntClear a else d)
  else none

/-- The write buffer as it is loaded (R394): RW fields as they stand, everything else 0. -/
def Device.loadBuf (d : Device) (r : Reg) : Nat := d.rd r &&& r.rw

/-- A write takes effect on one register: `v` with the bits `m` written. -/
def Device.writeReg (d : Device) (w : Writer) (r : Reg) (v m : Nat) : Device :=
  let x := merge (d.rd r) v (m &&& r.rw) r.width
  let a := v &&& m
  let top := m.testBit (r.width - 1)
  let page := r.addr / 256
  let special :=
    if page < 6 then d.actLow w r x a top
    else if page < 14 then d.actMid w r x a top
    else if page < 0x14 then d.actHigh w r x a top
    else if 0x30 ≤ page && r.addr % 16 = 0 then some (d.clearChanStat ((r.addr - 0x3000) / 16) a)
    else none
  special.getD (d.plainWrite r v m)

/-- A core write at Hand that R281 keeps out: pages SEC, OTP and UPD. -/
def handPage (page : Nat) : Bool := page == 0x0F || page == 0x10 || page == 0x11

/-- A write of the bits `m` of a register by a path; at Hand, a write that reaches RG bits is logged (R281). -/
def Device.pathWrite (d : Device) (w : Writer) (r : Reg) (v m : Nat) : Device :=
  let d := if w == .hand && r.rg &&& m != 0 then d.log Ev.PRIV_FAULT [r.addr / 256, r.addr % 256] else d
  d.writeReg w r v m

/-- The written part of register `r` in bytes at [off, off + bytes.length) of a page: value and mask. -/
def partOf (r : Reg) (page off : Nat) (bs : List Nat) : Nat × Nat :=
  let here := (List.range r.bytes).map fun i =>
    let p := r.addr + i - page * 256
    if off ≤ p && p < off + bs.length then (byteAt bs (p - off) % 256, 255) else (0, 0)
  (ofBytes (here.map (·.1)), ofBytes (here.map (·.2)))

/-- A core write to a register of 33 to 64 bits goes through the core's own write buffer and takes effect as a whole
with its highest byte (R394, R408). -/
def Device.coreWide (d : Device) (w : Writer) (r : Reg) (v m : Nat) : Device :=
  let held := match d.coreBuf with
    | some (a, x) => if a = r.addr then x else d.loadBuf r
    | none => d.loadBuf r
  let x := lacking held m ||| (v &&& m)
  if m.testBit (r.width - 1) then { d with coreBuf := none }.pathWrite w r x (2 ^ r.width - 1)
  else { d with coreBuf := some (r.addr, x) }

/-- Bytes written in one cycle (R170, R408), register by register in address order. -/
def Device.writeBytes (d : Device) (w : Writer) (page off : Nat) (bs : List Nat) : Device :=
  if w == .hand && handPage page then d.log Ev.PRIV_FAULT [page, off]
  else
    let hit := (pageRegs page).filter fun r => page * 256 + off < r.addr + r.bytes && r.addr < page * 256 + off + bs.length
    d.each (sortNat (hit.map (·.addr))) fun d a =>
      match hit.find? fun r => r.addr == a with
      | none => d
      | some r =>
        let (v, m) := partOf r page off bs
        if isCore w && 32 < r.width && r.width ≤ 64 then d.coreWide w r v m else d.pathWrite w r v m

/-- R76: a write that has no row of its own, by a path that names the page. -/
def Device.registerWrite (d : Device) (w : Writer) (page off : Nat) (bs : List Nat) : Device :=
  d.asWriter w fun d => d.writeBytes w page off bs

/-- The bytes fit the page and the path: 1 to 64, 32 of them by the ring (R170, R374). -/
def writeFits (w : Writer) (off n : Nat) : Bool :=
  1 ≤ n && n ≤ (if w == .ring then 32 else 64) && off + n ≤ 256

def execRegisterWrite (w : Writer) (page off : BitVec 8) (bytes : List (BitVec 8)) (s : State) : Host.Outcome State Fault Refusal :=
  s.runIf (writeFits w off.toNat bytes.length) fun d => d.registerWrite w page.toNat off.toNat (bytes.map BitVec.toNat)

end Sys2Proof.Machine
end

