-- ==== Sys2Proof/Machine/Service.lean ====
section
/-! DEFINITION. Machine/Service.lean: the service port's commands and their responses (R373, R374, R58,
R377–R380, R385). -/
namespace Sys2Proof.Machine

/-- The response of a frame: status and data; a frame to all devices is answered by none (R374). -/
def Device.respond (d : Device) (bcast : Bool) (cmd : Nat) (tag : BitVec 8) (status : Nat) (data : List Nat := []) : Device :=
  d.modUpd fun u => { u with resp := if bcast then none else some ⟨cmd, tag.toNat, status :: data⟩ }

/-- A result with its status as the response. -/
def respondWith (p : Device × Nat) (bcast : Bool) (cmd : Nat) (tag : BitVec 8) : Device := p.1.respond bcast cmd tag p.2

/-- A frame is the core's to answer: while it is halted, in reset or booting none is (R306, R312). -/
def State.runSvc (s : State) (f : Device → Device) : Host.Outcome State Fault Refusal :=
  s.run fun d => if d.coreServes then f d else d

def Device.maint (d : Device) : Bool := d.flag UPD.CTL_MAINT

/-- PING: serial, address, LIFE, VERSUP. -/
def Device.pingData (d : Device) : List Nat :=
  toBytes 8 (d.rd SYS.SERIAL) ++ toBytes 2 d.addr ++ [d.rd SEC.LIFE, d.rd RING.VERSUP]

def execSvcPing (bcast : Bool) (tag : BitVec 8) (s : State) : Host.Outcome State Fault Refusal :=
  s.runSvc fun d => d.respond bcast 0x01 tag resOk d.pingData

/-- READ: 1 to 64 bytes of one page in one cycle. -/
def Device.svcRead (d : Device) (bcast : Bool) (tag : BitVec 8) (page off n : Nat) : Device :=
  if n = 0 || 64 < n || 256 < off + n then d.respond bcast 0x02 tag resBadRange
  else
    let (bs, d) := d.readBytes page off n
    d.respond bcast 0x02 tag resOk bs

def execSvcRead (bcast : Bool) (tag page off len : BitVec 8) (s : State) : Host.Outcome State Fault Refusal :=
  s.runSvc fun d => d.svcRead bcast tag page.toNat off.toNat len.toNat

/-- WRITE: in maintenance mode, as the service-port writer of R76. -/
def Device.svcWrite (d : Device) (bcast : Bool) (tag : BitVec 8) (page off : Nat) (bs : List Nat) : Device :=
  if !d.maint then d.respond bcast 0x03 tag resNotMaint
  else if !writeFits .service off bs.length then d.respond bcast 0x03 tag resBadRange
  else (d.registerWrite .service page off bs).respond bcast 0x03 tag resOk

def execSvcWrite (bcast : Bool) (tag page off : BitVec 8) (data : List (BitVec 8)) (s : State) : Host.Outcome State Fault Refusal :=
  s.runSvc fun d => d.svcWrite bcast tag page.toNat off.toNat (data.map BitVec.toNat)

/-- EDGE: an edge of the service port (R58, R61), answered in the layout of EDGE.WRES. -/
def Device.svcEdge (d : Device) (bcast : Bool) (tag : BitVec 8) (e : Nat) : Device :=
  let status := if d.maint then resOk else resNotMaint
  let (d, r) := d.submit .svc e
  d.respond bcast 0x04 tag status [r.code.num, 0, r.entries, min 255 r.nlate]

def execSvcEdge (bcast : Bool) (tag : BitVec 8) (e : EdgeBits) (s : State) : Host.Outcome State Fault Refusal :=
  s.runSvc fun d => d.svcEdge bcast tag e.toNat

def execSvcOpen (bcast : Bool) (tag kind : BitVec 8) (len : BitVec 32) (s : State) : Host.Outcome State Fault Refusal :=
  s.runSvc fun d => respondWith (d.openTransfer kind.toNat len.toNat) bcast 0x10 tag

def execSvcData (bcast : Bool) (tag : BitVec 8) (off : BitVec 32) (data : List (BitVec 8)) (env : EnergyEnv) (s : State) :
    Host.Outcome State Fault Refusal :=
  s.runSvc fun d => respondWith (d.receiveData off.toNat (data.map BitVec.toNat) env) bcast 0x11 tag

/-- CLOSE, answered while the verification runs: its result so far is UPD.RES. -/
def Device.svcClose (d : Device) (bcast : Bool) (tag : BitVec 8) : Device :=
  let (d, st) := d.closeTransfer
  d.respond bcast 0x12 tag st [d.rd UPD.RES]

def execSvcClose (bcast : Bool) (tag : BitVec 8) (s : State) : Host.Outcome State Fault Refusal :=
  s.runSvc fun d => d.svcClose bcast tag

/-- STATUS: UPD.STAT, UPD.RES and RXMAP. -/
def execSvcStatus (bcast : Bool) (tag : BitVec 8) (s : State) : Host.Outcome State Fault Refusal :=
  s.runSvc fun d => d.respond bcast 0x13 tag resOk (toBytes 2 (d.rd UPD.STAT) ++ [d.rd UPD.RES] ++ toBytes 64 (d.rd UPD.RXMAP))

def execSvcActivate (bcast : Bool) (tag : BitVec 8) (epoch : BitVec 64) (cond : BitVec 8) (imgid : BitVec 32) (tgt : BitVec 8)
    (s : State) : Host.Outcome State Fault Refusal :=
  s.runSvc fun d => respondWith (d.activate epoch.toNat cond.toNat imgid.toNat tgt.toNat) bcast 0x14 tag

/-- CONFIRM, in maintenance mode. -/
def Device.svcConfirm (d : Device) (bcast : Bool) (tag : BitVec 8) (env : EnergyEnv) (bad : BurnFailures) : Device :=
  if !d.maint then d.respond bcast 0x15 tag resNotMaint
  else respondWith (d.confirm env bad) bcast 0x15 tag

def execSvcConfirm (bcast : Bool) (tag : BitVec 8) (env : EnergyEnv) (bad : BurnFailures) (s : State) :
    Host.Outcome State Fault Refusal :=
  s.runSvc fun d => d.svcConfirm bcast tag env bad

/-- R373: a discarded frame counts. -/
def execSvcFrameDiscard (s : State) : Host.Outcome State Fault Refusal := s.run fun d => d.countSat UPD.SVCERR

end Sys2Proof.Machine
end

