-- ==== Sys2Proof/Machine/Messages.lean ====
section
/-! DEFINITION. Machine/Messages.lean: the choice of the next cell on a port (R148, R152, R154, R183), the
messages delivered (R169–R174, R177), enumeration (R177, R182, R187) and the head window (R179). -/
namespace Sys2Proof.Machine

/-! ## Own messages on a port -/

/-- With another next segment on a port. -/
def TxMsg.setSeg (m : TxMsg) (p : Port) (k : Option Nat) : TxMsg :=
  match p with
  | .east => { m with segE := k }
  | .west => { m with segW := k }
/-- Forwarded STRIKE cells that go before it. -/
def TxMsg.ahead (m : TxMsg) : Port → Nat
  | .east => m.aheadE
  | .west => m.aheadW
def TxMsg.lessAhead (m : TxMsg) : Port → TxMsg
  | .east => { m with aheadE := m.aheadE - 1 }
  | .west => { m with aheadW := m.aheadW - 1 }

/-- Segment it would send next on the port. -/
def TxMsg.next (m : TxMsg) (p : Port) : Nat := (m.seg p).getD 0

/-- Replace the `i`-th message. -/
def Device.setTx (d : Device) (i : Nat) (m : TxMsg) : Device := d.modRing fun r => { r with txq := r.txq.set i m }
def Device.dropTx (d : Device) (i : Nat) : Device := d.modRing fun r => { r with txq := r.txq.eraseIdx i }

/-- Indices of messages that wait for a port and may go, in sending order (R183); STRIKE first (R152). -/
def Device.txOrder (d : Device) (p : Port) : List Nat :=
  let ok := (List.range d.ring.txq.length).filter fun i =>
    (d.ring.txq[i]?).any fun m => m.waits p && d.maySend m.msg.type m.msg.data
  (List.range 8).flatMap fun c => ok.filter fun i => (d.ring.txq[i]?).any fun m => sendClass m.msg.type == c

/-- The cell counts against TXBUD: a segment that has gone on neither port, of no STRIKE (R166, R183). -/
def TxMsg.fresh (m : TxMsg) (p : Port) : Bool := m.msg.type != .strike && m.paid ≤ m.next p

def Device.budgetLeft (d : Device) : Bool := d.ring.begun < d.fld RING.CFG_TXBUD

/-- Send intervals of a device that hears no beacons (R183). -/
def Device.sendInterval (d : Device) : Device :=
  if !d.isHead && (d.flag RCK.STAT_FLYWHEEL || !d.flag RCK.STAT_TIDE_LOCK) && decide (d.ring.interval + beaconTicks ≤ d.now) then
    d.newInterval
  else d

/-- R173, R183: the oldest event that waits becomes a message, where nothing of its class or above does; held back by
the budget, its first cell counts once in TXDEFCNT. -/
def Device.queueEvent (d : Device) (p : Port) : Device :=
  let dst := d.fld RCK.HEAD_ADDR
  let busy := d.ring.txq.any fun m => m.waits p && sendClass m.msg.type ≤ 6
  match d.ring.evq with
  | [] => d
  | e :: t =>
    if d.isHead || dst = 0 || busy || !d.maySend .event [] then d
    else if !d.budgetLeft then
      if d.ring.evHeld then d else (d.modRing fun r => { r with evHeld := true }).countSat RING.TXDEFCNT
    else
      let args := e.raw.getD (Config.eventArgs e.code e.args).toNat
      (d.modRing fun r => { r with evq := t, evHeld := false }).queueMsg .event dst
        (toBytes 2 e.code ++ toBytes 8 e.tide ++ toBytes 8 args)

/-! ## A cell begins -/

/-- A beacon's payload on a port: Reckoning and Tide of the instant its first SOC left there (R167). -/
def beaconOn (data : List Nat) (reck tide : Nat) : List Nat := data.take 5 ++ toBytes 6 reck ++ toBytes 8 tide ++ data.drop 19

def TxMsg.capture (m : TxMsg) (p : Port) (d : Device) : TxMsg :=
  if m.msg.type != .beacon || m.next p != 0 then m
  else
    match p with
    | .east => { m with capE := (d.reckoning, d.now) }
    | .west => { m with capW := (d.reckoning, d.now) }

/-- Payload of the message as it leaves a port. -/
def TxMsg.dataOn (m : TxMsg) (p : Port) : List Nat :=
  if m.msg.type != .beacon then m.msg.data
  else
    match p with
    | .east => beaconOn m.msg.data m.capE.1 m.capE.2
    | .west => beaconOn m.msg.data m.capW.1 m.capW.2

/-- A second edge that waits for the same destination as `m`, unbegun, one edge each (R169). -/
def Device.mergeWith (d : Device) (i : Nat) (m : TxMsg) : Option (Nat × TxMsg) :=
  if m.msg.type != .edge || m.seq.isSome || byteAt m.msg.data 0 != 1 then none
  else
    ((List.range d.ring.txq.length).filter fun j => i < j).findSome? fun j =>
      (d.ring.txq[j]?).bind fun x =>
        if x.msg.type == .edge && x.seq.isNone && byteAt x.msg.data 0 == 1 && x.msg.addr == m.msg.addr
            && x.segE == m.segE && x.segW == m.segW && x.undecided == m.undecided then some (j, x)
        else none

/-- The first cell of a message begins: two edges join, the ports are decided (R154), the number is taken
(R148). -/
def Device.beginMsg (d : Device) (i : Nat) (m : TxMsg) : Device × TxMsg :=
  if m.seq.isSome then (d, m)
  else
    let (d, m) :=
      match d.mergeWith i m with
      | some (j, x) =>
        let data := 2 :: (List.range 16).map (fun k => byteAt m.msg.data (1 + k)) ++ (List.range 16).map fun k => byteAt x.msg.data (1 + k)
        (d.dropTx j, { m with msg := { m.msg with data := data } })
      | none => (d, m)
    let m :=
      if m.undecided then
        { m with undecided := false, segE := if d.isUp .east then some 0 else none, segW := if d.isUp .west then some 0 else none }
      else m
    let seq := d.rd RING.TXSEQ
    (d.wr RING.TXSEQ (seq + 1), { m with seq := some seq })

/-- A WRITE to all devices takes effect on the head as its first copy has left (R172). -/
def Device.ownBroadcast (d : Device) (m : Msg) : Device :=
  let b := byteAt m.data
  if m.type == .write && m.addr == 0xFFF && d.isHead && 1 ≤ b 3 && b 3 ≤ 32 && b 2 + b 3 ≤ 256 then
    d.registerWrite .ring (b 1) (b 2) ((List.range (b 3)).map fun i => b (4 + i))
  else d

/-- The tide at which a request first left, for TTO (R171). -/
def Device.noteSent (d : Device) (m : Msg) : Device :=
  if m.type == .read || m.type == .write then
    d.modRing fun r => { r with trans := r.trans.map fun t =>
      if t.dst == m.addr && t.data == m.data && t.sent.isNone then { t with sent := some d.now } else t }
  else d

/-- Segment `next` of message `i` begins on a port. -/
def Device.beginCell (d : Device) (p : Port) (i : Nat) (m : TxMsg) : Device :=
  let pays := m.fresh p
  let (d, m) := d.beginMsg i m
  let m := m.capture p d
  let k := m.next p
  let n := segCount (msgBytes m.msg)
  let pay := (List.range 9).map fun j => byteAt (m.dataOn p) (9 * k + j)
  let c := BitVec.ofNat 160 (cellBytes false d.addr (typeCode m.msg.type) k (k + 1 == n) m.msg.addr (m.seq.getD 0) 0 d.ver pay)
  let d := (d.cellOut p c none).noteSent m.msg
  let d := if pays then d.modRing fun r => { r with begun := r.begun + 1 } else d
  let last := n ≤ k + 1
  let m := { m.setSeg p (if last then none else some (k + 1)) with paid := max m.paid (k + 1), deferred := false }
  let first := last && !m.copied
  let m := { m with copied := m.copied || last }
  let d := if m.segE.isNone && m.segW.isNone then d.dropTx i else d.setTx i m
  if first then d.ownBroadcast m.msg else d

/-- The first own message of the order that the budget lets go; those it holds back are counted once for
each cell. -/
def Device.chooseOwn (d : Device) (p : Port) : List Nat → Device × Option (Nat × TxMsg)
  | [] => (d, none)
  | i :: t =>
    match d.ring.txq[i]? with
    | none => d.chooseOwn p t
    | some m =>
      if !m.fresh p || d.budgetLeft then (d, some (i, m))
      else
        let d := if m.deferred then d else (d.setTx i { m with deferred := true }).countSat RING.TXDEFCNT
        d.chooseOwn p t

def isStrikeCell (c : CellBits) : Bool := (cellFields c.toNat).type == 7

/-- A forwarded cell begins. -/
def Device.sendForwarded (d : Device) (p : Port) (e : Fwd) : Device :=
  let d := (d.modPort p fun x => { x with fwd := x.fwd.erase e }).cellOut p e.cell e.live
  if isStrikeCell e.cell then d.modRing fun r => { r with txq := r.txq.map fun m => m.lessAhead p } else d

/-- The device's own next cell on a port that is UP: LINK cells, then messages (R183). -/
def Device.sendOwn (d : Device) (p : Port) (order : List Nat) : Device :=
  if (d.port p).linkq.any (d.linkReady p) then d.startLink p false
  else
    match d.chooseOwn p order with
    | (d, some (i, m)) => d.beginCell p i m
    | (d, none) => d

/-- R152: the next cell on a port at a cell boundary: STRIKE, own or forwarded, in the order queued; then forwarded
cells; then own cells, where none is about to be forwarded. A forwarder may drop one idle code group of the gap
(R144). A port in SYNC sends LINK cells alone. -/
def Device.cellSend (d : Device) (p : Port) (incoming : Bool) : Device :=
  if d.portState p == portSync then d.startLink p incoming
  else if !d.isUp p || decide (d.clk + idleTicks < (d.port p).freeAt) then d
  else
    let d := (d.sendInterval).queueEvent p
    let free := decide ((d.port p).freeAt ≤ d.clk)
    let order := if d.flag RING.LSTAT_QUIET then [] else d.txOrder p
    let strike := order.findSome? fun i => (d.ring.txq[i]?).bind fun m =>
      if m.msg.type == .strike && m.ahead p == 0 then some (i, m) else none
    match strike with
    | some (i, m) => if free then d.beginCell p i m else d
    | none =>
      match ((d.port p).fwd.find? fun e => isStrikeCell e.cell) <|> (d.port p).fwd.head? with
      | some e => d.sendForwarded p e
      | none => if incoming || !free then d else d.sendOwn p order

def execCellSend (p : Port) (incoming : Bool) (s : State) : Host.Outcome State Fault Refusal :=
  s.run fun d => d.cellSend p incoming

/-! ## Delivered messages -/

/-- R169: the edges of the oldest EDGE message, edge 1 before edge 2. -/
def Device.edgeCell (d : Device) : Device :=
  match d.takeMsg .edge with
  | none => d
  | some (m, d) =>
    let n := byteAt m.data 0
    if n = 1 then (d.submit .head (fieldAt m.data 1 16)).1
    else if n = 2 then ((d.submit .head (fieldAt m.data 1 16)).1.submit .head (fieldAt m.data 17 16)).1
    else d

def execEdgeCellReceive (s : State) : Host.Outcome State Fault Refusal := s.run Device.edgeCell

/-- R174: a received STRIKE asserts where RINGRX is 1. Its forwarding is the link's (R136, R149). -/
def Device.strikeCell (d : Device) : Device :=
  match d.takeMsg .strike with
  | none => d
  | some (_, d) => if d.flag BANK.STRIKECFG_RINGRX then d.strike .ring else d

def execStrikeCellReceive (s : State) : Host.Outcome State Fault Refusal := s.run Device.strikeCell

/-- Room for a requester among 32: the least recently used entry of a READ goes (R171). -/
def dropRead : List Kept → List Kept
  | [] => []
  | k :: t => if k.write then k :: dropRead t else t

/-- The RESPONSE to a request is kept, newest last, and sent. -/
def Device.answer (d : Device) (k : Kept) : Device :=
  let rest := d.ring.kept.filter fun x => x.src != k.src
  let rest := if rest.length < 32 then rest else dropRead rest
  (d.modRing fun r => { r with kept := rest ++ [k] }).queueMsg .response k.src k.resp

/-- LEN and range of a request are in order (R170). -/
def requestOk (m : Msg) : Bool := 1 ≤ byteAt m.data 3 && byteAt m.data 3 ≤ 32 && byteAt m.data 2 + byteAt m.data 3 ≤ 256

/-- A kept RESPONSE to the same request. -/
def Device.keptFor (d : Device) (m : Msg) : Option Kept :=
  d.ring.kept.find? fun k => k.src == m.addr && k.tid == byteAt m.data 0

/-- R170, R171: the oldest READ; firmware answers it. -/
def Device.readRequest (d : Device) : Device :=
  if !d.coreRuns then d else
  match d.takeMsg .read with
  | none => d
  | some (m, d) =>
    if m.bcast then d
    else
      let tid := byteAt m.data 0
      match d.keptFor m with
      | some k => d.answer k
      | none =>
        if !requestOk m then d.answer ⟨m.addr, tid, false, [tid, tresBadRange, 0, 0]⟩
        else
          let n := byteAt m.data 3
          let (bs, d) := d.readBytes (byteAt m.data 1) (byteAt m.data 2) n
          d.answer ⟨m.addr, tid, false, [tid, tresOk, n, 0] ++ bs⟩

def execReadRequest (s : State) : Host.Outcome State Fault Refusal := s.run Device.readRequest

/-- The bytes of a WRITE take effect in one cycle as the ring's (R170). -/
def Device.ringApply (d : Device) (m : Msg) : Device :=
  d.registerWrite .ring (byteAt m.data 1) (byteAt m.data 2) ((List.range (byteAt m.data 3)).map fun i => byteAt m.data (4 + i))

/-- R170–R172: the oldest WRITE; firmware answers it. -/
def Device.writeRequest (d : Device) : Device :=
  if !d.coreRuns then d else
  match d.takeMsg .write with
  | none => d
  | some (m, d) =>
    let tid := byteAt m.data 0
    let reply := fun (d : Device) (st : Nat) => if m.bcast then d else d.answer ⟨m.addr, tid, true, [tid, st, 0, 0]⟩
    if m.addr != d.fld RCK.HEAD_ADDR then reply (d.countSat RING.NOTHEADCNT) tresNotHead
    else
      match (if m.bcast then none else d.keptFor m) with
      | some k => d.answer k
      | none => if !requestOk m then reply d tresBadRange else reply (d.ringApply m) tresOk

def execWriteRequest (s : State) : Host.Outcome State Fault Refusal := s.run Device.writeRequest

/-- R173, R177: the head logs an event of a member with its source address. -/
def Device.eventReceive (d : Device) : Device :=
  match d.takeMsg .event with
  | none => d
  | some (m, d) =>
    if !d.isHead then d
    else
      let code := fieldAt m.data 0 2
      let e : Event := { code := code, tide := fieldAt m.data 2 8, orig := m.addr, raw := some (fieldAt m.data 10 8) }
      let d := { d with events := d.events ++ [e] }.count RING.EVCNT
      if code == Ev.RING_BREAK || code == Ev.RING_HEAL then d.askQuery else d

def execEventReceive (s : State) : Host.Outcome State Fault Refusal := s.run Device.eventReceive

/-! ## Enumeration (R177, R182, R187) -/

/-- ΣTXBUD over the present devices and the head, and LOAD_OVER. -/
def Device.sumLoad (d : Device) : Device :=
  let sum := ((d.ring.table.filter (·.present)).map (·.txbud)).foldl (· + ·) (d.fld RING.CFG_TXBUD)
  let over32 := decide (32 < sum)
  let d := d.wr RING.TXBUDSUM sum
  let d := if over32 && !d.flag RING.RSTAT_LOAD_OVER then d.log Ev.LOAD_OVER [sum] else d
  d.setFlag RING.RSTAT_LOAD_OVER over32

/-- An entry after a query that it may have left unanswered: absent at the second in succession. -/
def RingEntry.judged (e : RingEntry) : RingEntry :=
  let missed := if e.answered then 0 else e.missed + 1
  { e with missed := missed, answered := false, present := e.present && decide (missed < 2) }

/-- R177, R380, R381: the head sends a query, and with it an ACTIVATE whose epoch has not passed. -/
def Device.enumQuerySend (d : Device) : Device :=
  if !d.isHead || !(d.ring.queryPend || decide (d.ring.lastQuery + d.rd RING.ENUMP * 100 * msec ≤ d.now)) then d
  else
    let old := d.ring.table
    let gone := (old.filter fun e => e.present && !e.judged.present).map (·.addr)
    let d := d.modRing fun r => { r with table := old.map RingEntry.judged }
    let d := d.each gone fun d a => (d.raise RING.RSTAT_DEV_MISSING).log Ev.DEV_MISSING [a]
    let d := d.sumLoad.recomputeVersion
    let num := (d.ring.queryNum + 1) % 2 ^ 16
    let d := d.modRing fun r => { r with queryNum := num, lastQuery := d.now, queryPend := false }
    let d := d.queueMsg .enum 0xFFF ([0] ++ toBytes 2 num ++ [d.ver])
    match d.upd.repeating with
    | some p => if d.now < aEpoch p then d.queueMsg .activate 0xFFF p else d
    | none => d

def execEnumQuerySend (s : State) : Host.Outcome State Fault Refusal := s.run Device.enumQuerySend

/-- The oldest ENUM query, or report. -/
def Device.takeEnum (d : Device) (report : Bool) : Option (Msg × Device) :=
  match d.ring.inbox.find? fun m => m.type == .enum && (byteAt m.data 0 != 0) == report with
  | none => none
  | some m => some (m, d.modRing fun r => { r with inbox := r.inbox.erase m })

/-- R179: a former candidate takes the standby role where no other device reported it in an enumeration. -/
def Device.standbyTurn (d : Device) : Device :=
  if !d.ring.wantStandby then d
  else if !d.ring.enumOpen then d.modRing fun r => { r with enumOpen := true, standbySeen := false }
  else
    let d := if d.ring.standbySeen then d else d.setFld RCK.CFG_ROLE 2
    d.modRing fun r => { r with wantStandby := false, enumOpen := false }

/-- The ENUM report (R177). -/
def Device.enumReport (d : Device) (num : Nat) : List Nat :=
  let hop := fun (h : Nat) => toBytes 2 (if d.ring.hopQ = num then h else 0xFFFF)
  let flags := flagByte [d.rigged, d.flag RCK.STAT_SYNC, d.flag RING.RSTAT_BYPASS, d.flag RING.RSTAT_CONFLICT]
  [1] ++ toBytes 2 num ++ toBytes 8 (d.rd SYS.SERIAL) ++ [d.fld RCK.CFG_ROLE, d.rd RING.VERSUP, flags, d.fld RING.CFG_TXBUD, 0]
    ++ hop d.ring.hopE ++ hop d.ring.hopW

/-- R177, R181, R182: the oldest query. -/
def Device.enumQueryReceive (d : Device) : Device :=
  match d.takeEnum false with
  | none => d
  | some (m, d) =>
    if d.isHead then d
    else
      let d := (d.setVersion (byteAt m.data 3 % 16)).standbyTurn
      d.queueMsg .enum m.addr (d.enumReport (fieldAt m.data 1 2))

def execEnumQueryReceive (s : State) : Host.Outcome State Fault Refusal := s.run Device.enumQueryReceive

/-- The table entry that a report makes. -/
def ringEntryOf (m : Msg) (queryNum : Nat) : RingEntry :=
  let flags := byteAt m.data 13
  { addr := m.addr, present := true, bypassed := flags.testBit 2, conflict := flags.testBit 3
    hopE := fieldAt m.data 16 2, hopW := fieldAt m.data 18 2, ver := byteAt m.data 12, role := byteAt m.data 11 % 4
    serial := fieldAt m.data 3 8, txbud := byteAt m.data 14, rigged := flags.testBit 0, sync := flags.testBit 1
    missed := 0, answered := fieldAt m.data 1 2 == queryNum }

/-- R177, R182: the oldest report. -/
def Device.enumReportReceive (d : Device) : Device :=
  match d.takeEnum true with
  | none => d
  | some (m, d) =>
    if !d.isHead then d
    else
      let e := ringEntryOf m d.ring.queryNum
      let known := d.ring.table.any fun x => x.addr == e.addr
      let tbl := if known then d.ring.table.map fun x => if x.addr == e.addr then e else x else d.ring.table ++ [e]
      let d := d.modRing fun r => { r with table := tbl }
      let d := if known then d else (d.raise RING.RSTAT_DEV_NEW).log Ev.DEV_NEW [e.addr]
      let d := if e.bypassed then (d.raise RING.RSTAT_DEV_BYPASSED).log Ev.DEV_BYPASSED [e.addr] else d
      d.sumLoad

def execEnumReportReceive (s : State) : Host.Outcome State Fault Refusal := s.run Device.enumReportReceive

/-! ## The head window (R179, R418) -/

/-- The head role is taken: the next epoch, the present reckoning as its target, the first beacon at once
and an ENUM query (R177). -/
def Device.becomeHead (d : Device) : Device :=
  let d := ((d.setFld RCK.CFG_ROLE 1).count RCK.EPOCH).setFld RCK.HEAD_ADDR d.addr
  let d := d.modRing fun r => { r with queryPend := true, table := [] }
  let d := d.modRck fun r =>
    { r with pos := r.reck, due := r.tide, missing := 0, fwd := if d.hostSource then !d.flag RCK.HDIR_REVERSE else r.fwd }
  let d := d.when (d.hostSource && d.rck.hspeedAt.isNone) fun d => d.raise RCK.STAT_SPEED_STALE
  (d.lower RCK.STAT_FLYWHEEL).takeUp.setSync

/-- R179: the window ends. -/
def Device.headWindowEnd (d : Device) : Device :=
  match d.ring.window with
  | none => d
  | some t =>
    if d.ring.windowDone || d.now < t + 2 * msec then d
    else
      let d := d.modRing fun r => { r with windowDone := true }
      let role := d.fld RING.CFG_ROLE
      if !d.rigged then d
      else if role = 1 then
        (if d.ring.heard then d.modRing fun r => { r with wantStandby := true, enumOpen := false } else d.becomeHead)
      else if role = 2 then d.setFld RCK.CFG_ROLE 2
      else d

def execHeadWindowEnd (s : State) : Host.Outcome State Fault Refusal := s.run Device.headWindowEnd

end Sys2Proof.Machine
end

