-- ==== Sys2Proof/Machine/TwoWire.lean ====
section
/-! DEFINITION. Machine/TwoWire.lean: the two-wire host port: pointer and page (R391, R392), coherent access
(R393–R395), attention (R396, R397), controller mode (R398, R399), timeouts and bus errors (R400–R402). -/
namespace Sys2Proof.Machine

def Device.modTwi (d : Device) (f : Twi → Twi) : Device := { d with twi := f d.twi }

/-- The pointer moves on by one (R391). -/
def Device.advance (d : Device) : Device := d.modTwi fun t => { t with ptr := (t.ptr + 1) % 256 }

/-- START has been seen, or STOP (R405); a STOP ends the snapshot (R393). -/
def Device.busEnd (d : Device) (stop : Bool) : Device :=
  let d := d.setFlag TWI.STAT_BUSBUSY (!stop)
  if stop then d.modTwi fun t => { t with snap := none } else d

/-! ## Writes (R394, R395) -/

/-- A write that ends before its register's highest byte has no effect (R394). -/
def Device.discardBuf (d : Device) : Device :=
  if d.twi.buf.isNone then d
  else ((d.modTwi fun t => { t with buf := none }).countSat TWI.DISCCNT).raise TWI.STAT_WR_DISCARD

/-- Byte `i` of register `r` is received. -/
def Device.hostByte (d : Device) (r : Reg) (i b : Nat) : Device :=
  if r.width ≤ 8 || 64 < r.width then d.writeReg .host r (b * 2 ^ (8 * i)) (255 * 2 ^ (8 * i))
  else
    let held := match d.twi.buf with
      | some (a, v) => if a = r.addr then v else d.loadBuf r
      | none => d.loadBuf r
    let v := setBits held (8 * i) 8 b
    if i + 1 = r.bytes then (d.modTwi fun t => { t with buf := none }).writeReg .host r v (2 ^ r.width - 1)
    else d.modTwi fun t => { t with buf := some (r.addr, v) }

/-- A data byte at the pointer; offset 0xFF is PAGE (R392). -/
def Device.hostWriteByte (d : Device) (b : Nat) : Device :=
  let d :=
    if d.twi.ptr = 0xFF then d.modTwi fun t => { t with page := b }
    else
      match regOf d.twi.page d.twi.ptr with
      | some r => d.hostByte r (d.twi.page * 256 + d.twi.ptr - r.addr) b
      | none => d
  d.advance

/-- A write transaction: the first byte sets the pointer (R391). -/
def Device.twiWrite (d : Device) (bs : List Nat) (stop : Bool) : Device :=
  match bs with
  | [] => d.busEnd stop
  | p :: rest =>
    let d := d.modTwi fun t => { t with ptr := p }
    ((d.each rest Device.hostWriteByte).discardBuf.busEnd stop).attSettle

def execTwiWrite (bytes : List (BitVec 8)) (stop : Bool) (s : State) : Host.Outcome State Fault Refusal :=
  s.run fun d => d.twiWrite (bytes.map BitVec.toNat) stop

/-! ## Reads (R393) -/

/-- The register that byte 0 is read of is copied whole; XDATA is filled as it is (R355). -/
def Device.snapshot (d : Device) (r : Reg) : Device :=
  let d := if r.addr = STORE.XDATA.addr then d.readXdata else d
  d.modTwi fun t => { t with snap := some (r.addr, d.readReg r) }

/-- Byte `i` of register `r`: from its snapshot, or live; byte 0 of another register ends a snapshot. -/
def Device.hostRead (d : Device) (r : Reg) (i : Nat) : Nat × Device :=
  if r.width ≤ 8 then (d.readReg r, d.modTwi fun t => { t with snap := none })
  else
    let d := if i = 0 then d.snapshot r else d
    let v := match d.twi.snap with
      | some (a, v) => if a = r.addr then v else d.readReg r
      | none => d.readReg r
    (bitsOf v (8 * i) 8, d)

def Device.hostReadByte (d : Device) : Device :=
  let (b, d) :=
    if d.twi.ptr = 0xFF then (d.twi.page, d)
    else
      match regOf d.twi.page d.twi.ptr with
      | some r => d.hostRead r (d.twi.page * 256 + d.twi.ptr - r.addr)
      | none => (0, d)
  (d.modTwi fun t => { t with out := t.out ++ [b] }).advance

/-- A read transaction of `n` bytes. -/
def Device.twiRead (d : Device) (n : Nat) (stop : Bool) : Device :=
  let d := d.modTwi fun t => { t with out := [], acked := true }
  (d.each (List.range n) fun d _ => d.hostReadByte).busEnd stop

def execTwiRead (n : Nat) (stop : Bool) (s : State) : Host.Outcome State Fault Refusal := s.run fun d => d.twiRead n stop

/-! ## Attention (R396, R397) -/

/-- A pulse is owed: attention is pending, and none has been sent for it, or its service lies ATTREP back. -/
def Device.pulseOwed (d : Device) : Bool := d.attPending && (!d.twi.pulsed || d.twi.servedAt.isSome)

def Device.attentionPulse (d : Device) (collision : Bool) : Device :=
  if !d.pulseOwed || d.flag TWI.STAT_BUSBUSY || d.flag TWI.STAT_CBUSY then d
  else if collision then d.raise TWI.STAT_ATT_COLL
  else (d.modTwi fun t => { t with pulsed := true, servedAt := none }).countSat TWI.ATTCNT

def execAttentionPulse (collision : Bool) (s : State) : Host.Outcome State Fault Refusal :=
  s.run fun d => d.attentionPulse collision

/-- The device's address on the bus (R390). -/
def Device.twiAddr (d : Device) : Nat := d.rd TWI.ADDR

/-- A read of 0x0C: every pending device acknowledges, the lowest address goes out complete (R397). -/
def Device.alertResponse (d : Device) (others : List Nat) : Device :=
  if !d.attPending then d.modTwi fun t => { t with out := [], acked := false }
  else
    let won := others.all fun a => d.twiAddr ≤ a
    let d := d.modTwi fun t => { t with acked := true, out := [2 * others.foldl min d.twiAddr] }
    if won then (d.modTwi fun t => { t with servedAt := some d.now }).countSat TWI.ARACNT else d

def execAlertResponse (others : List (BitVec 7)) (s : State) : Host.Outcome State Fault Refusal :=
  s.run fun d => d.alertResponse (others.map BitVec.toNat)

/-! ## Controller mode (R398, R399) -/

def execTwiControllerStart (w : Writer) (v : BitVec 8) (s : State) : Host.Outcome State Fault Refusal :=
  s.run fun d => d.asWriter w fun d => d.twiStart w v.toNat

/-- The transaction ends with a status. -/
def Device.twiDone (d : Device) (st : Nat) : Device :=
  ((d.lower TWI.CRES_BUSY).lower TWI.STAT_CBUSY).setFld TWI.CRES_STATUS st

/-- R398: the bus is free: a STOP has been seen and no START since, or both lines have been high for 50 µs. -/
def Device.busFree (d : Device) (idle : Nat) : Bool := !d.flag TWI.STAT_BUSBUSY || decide (50 * usec ≤ idle)

/-- R398, R399: the bus is free and the transaction runs. A loss of arbitration is retried, also where the
device is the target of the winner's. -/
def Device.twiTransaction (d : Device) (idle : Nat) (o : TwiOutcome) : Device :=
  if !d.flag TWI.CRES_BUSY || !d.busFree idle then d
  else
    match o with
    | .ok data =>
      let n := d.rd TWI.CRLEN
      (d.wr TWI.CRDATA (setBits (d.rd TWI.CRDATA) 0 (8 * n) (ofBytes ((List.range n).map fun i => (((data[i]?).getD 0).toNat))))).twiDone twiOk
    | .nackAddr => d.twiDone twiNackAddr
    | .nackData => d.twiDone twiNackData
    | .arbLost _ =>
      let d := (d.countSat TWI.ARBCNT).raise TWI.STAT_ARB_LOST
      if d.twi.tries < d.fld TWI.CFG_CRETRY then d.modTwi fun t => { t with tries := t.tries + 1 }
      else d.twiDone twiArbLost

def execTwiControllerTransaction (idle : Nat) (o : TwiOutcome) (s : State) : Host.Outcome State Fault Refusal :=
  s.run fun d => d.twiTransaction idle o

/-! ## Timeouts and bus errors (R400–R402) -/

/-- The target is reset: partial bytes and pending write buffers go (R400). -/
def Device.twiReset (d : Device) : Device := (d.discardBuf.modTwi fun t => { t with snap := none }).lower TWI.STAT_BUSBUSY

/-- TTO in ticks; values outside 1–50 ms act as the nearer limit (R405). -/
def Device.twiTimeoutTicks (d : Device) : Nat := clamp 1 50 (d.rd TWI.TTO) * msec

/-- R400: SCL low throughout TTO. -/
def Device.sclTimeout (d : Device) (held : Nat) : Device :=
  if held < d.twiTimeoutTicks then d else
  let d := ((d.countSat TWI.TOCNT).raise TWI.STAT_SCL_TIMEOUT).log Ev.SCL_TIMEOUT []
  let d := d.twiReset
  if d.flag TWI.CRES_BUSY then d.twiDone twiTimeout else d

def execSclTimeout (held : Nat) (s : State) : Host.Outcome State Fault Refusal := s.run fun d => d.sclTimeout held

/-- R401: SDA low with SCL high throughout TTO; the device's own drive is released first. A bus clear that frees SDA
ends with a STOP. -/
def Device.sdaStuck (d : Device) (held : Nat) (released : Bool) (clocks : Option (Fin 10)) : Device :=
  if held < d.twiTimeoutTicks then d else
  let d := ((d.countSat TWI.TOCNT).raise TWI.STAT_SDA_STUCK).log Ev.SDA_STUCK []
  if !released && d.flag TWI.CFG_BUSCLR && clocks.isSome then d.twiReset else d

def execSdaStuck (held : Nat) (released : Bool) (clocks : Option (Fin 10)) (s : State) :
    Host.Outcome State Fault Refusal :=
  s.run fun d => d.sdaStuck held released clocks

/-- R402: a START or STOP off a byte boundary; the first in each second is logged. -/
def Device.busErr (d : Device) (start : Bool) : Device :=
  let d := ((d.countSat TWI.BUSERRCNT).raise TWI.STAT_BUS_ERR).logFirst Ev.BUS_ERR 0
  d.discardBuf.busEnd (!start)

def execBusErr (start : Bool) (s : State) : Host.Outcome State Fault Refusal := s.run fun d => d.busErr start

end Sys2Proof.Machine
end

