-- ==== Sys2Proof/Machine/Boot.lean ====
section
/-! DEFINITION. Machine/Boot.lean: the power-on reset and what leads to it (R28, R276, R277, R313, R318), and
secure boot (R306, R329–R331, R338, R387). -/
namespace Sys2Proof.Machine

/-! ## Power-on reset (R28, R409, R417) -/

/-- A store operation that the supply's end cuts short: a record is torn or whole, a sector's records are
gone or torn, by a free value (R342). -/
def Device.storeCollapse (d : Device) : Device :=
  let done := d.freeVal 1 == 1
  match d.flash.op with
  | none => d
  | some (.record b t) => (d.putRecord b t done).nextFree
  | some (.openSector journal) => (d.openSector journal done).nextFree
  | some .eraseLog => (d.modStore fun s => { s with log := if done then s.log.tail else tornHead s.log }).nextFree
  | some .eraseJournal => (d.modStore fun s => { s with journal := if done then s.journal.tail else tornHead s.journal }).nextFree
where
  tornHead : List Sector → List Sector
    | [] => []
    | x :: t => { x with recs := x.recs.map tornRec } :: t
  tornRec (r : Record) : Record := { r with intact := false }

/-- What the flash itself holds. -/
def Store.kept (s : Store) : Store where
  flash := s.flash
  hdr0 := s.hdr0
  hdr1 := s.hdr1
  used0 := s.used0
  used1 := s.used1
  log := s.log
  journal := s.journal
  jseq := s.jseq
  def2 := s.def2
  def3 := s.def3
  defSeq := s.defSeq
  worn := s.worn
  returned := s.returned
  erases := s.erases
  critTime := s.critTime

def porCode : PorSource → Nat
  | .supply => 0
  | .shipWake => 1
  | .scanEnd => 2

/-- What the device takes from IDENT: stepping, serial, and its ring address where the rigging gives none (R176, R187,
R397). -/
def Device.readIdent (d : Device) : Device :=
  let d := (d.setFld SYS.ID_STEP d.otp.stepping).wr SYS.SERIAL d.otp.serial
  if d.fld RING.CFG_ADDR = 0 then d.setAddr d.otp.ringAddr false else d

/-- What the feed controllers, which VFC supplies, carry through a power-on reset of the helm (R189, R417): their gates,
windows, qualification and latches; their events, counts and rigged values are at Reset (notes/assumptions/79.md). -/
def Device.keepFeeds (d old : Device) : Device :=
  let d := { d with feedA := old.feedA, feedB := old.feedB, switch := old.switch, feedClk := old.feedClk }
  let d := d.each [0, 1] fun d i => d.wr (FEED.FSTAT i) (old.rd (FEED.FSTAT i) % 256)
  d.wr FEED.STAT (old.rd FEED.STAT % 8)

/-- Everything but the OTP array and the flash starts afresh, in KEEP with the PLL off and tide at 0
(R45, R282). The lifecycle is read (R302), the straps sampled (R390), a nonce drawn (R310), and the
watchdog's boot period begins (R294). -/
def Device.powerOn (d : Device) (src : PorSource) (straps : Nat) : Device :=
  let d := d.otpCollapse.storeCollapse
  let d := { Device.reset with otp := { d.otp with weak := [] }, flash := d.flash.kept, free := d.free }.keepFeeds d
  let d := (d.wr TWI.ADDR (0x38 + straps)).setFld SYS.RSTCAUSE_PORSRC (porCode src)
  let d := d.readIdent.readLife.newNonce
  (d.setFld SEC.DBG_DSTATE (if d.lifecycle = lcDeployed then dbgClosed else dbgOpen)).bootPeriod

/-- R28: a supply appears or returns at any time; the wake and the scan exit follow their own causes. -/
def Device.porFrom (d : Device) (src : PorSource) (straps : Nat) : Device :=
  match src with
  | .supply => d.powerOn .supply straps
  | .shipWake => if d.sec.supply == .ship then d.powerOn .shipWake straps else d
  | .scanEnd => if d.flag SEC.DBG_SCAN then d.powerOn .scanEnd straps else d

def execPowerOnReset (src : PorSource) (straps : BitVec 3) (s : State) : Host.Outcome State Fault Refusal :=
  s.runAny fun d => d.porFrom src straps.toNat

/-- R313: the end of a scan instruction. -/
def execScanExit (straps : BitVec 3) (s : State) : Host.Outcome State Fault Refusal :=
  s.run fun d => d.porFrom .scanEnd straps.toNat

/-! ## SHIP (R276, R277) -/

/-- One journal record written at once under its own energy check. -/
def Device.shipPut (d : Device) (env : EnergyEnv) (b : RecBody) : Device :=
  let (ok, d) := d.mayWrite env b
  if ok && !areaFull d.flash.journal then d.putRecord b d.now true else d

/-- The next journal sector is opened where the one in use is full. -/
def Device.shipOpen (d : Device) (env : EnergyEnv) (b : RecBody) : Device :=
  if !areaFull d.flash.journal then d
  else
    let (ok, d) := d.mayWrite env b
    if ok then
      let d := d.openSector true true
      (d.each d.flash.opening fun d p => d.shipPut env p).modStore fun s => { s with opening := [] }
    else d

/-- Counters and latencies journalled in the one step, each record under the energy check. -/
def Device.shipJournal (d : Device) (env : EnergyEnv) : Device :=
  if !d.coreRuns || !d.storeIdle then d
  else
    d.each ((List.range 3).map d.counterPart ++ (List.range 54).map d.latencyGroup) fun d b =>
      (d.shipOpen env b).shipPut env b

/-- R276: SHIPPEND, with every VBUS below 4.5 V for 1 s. With no battery the device reaches OFF. -/
def Device.shipEntry (d : Device) (vbus held : Nat) (env : EnergyEnv) : Device :=
  if 4500 ≤ vbus || decide (held < second) || !d.flag CHG.STAT_SHIPPEND || !d.inKeep || !d.coreAlive || d.sec.bootDue then d
  else
    let d := (d.shipJournal env).endAuth.lower CHG.STAT_FETON
    (d.rigReset [5]).modSec fun x => { x with supply := if d.flag CHG.STAT_PRESENT then .ship else .off }

def execShipEntry (vbus held : Nat) (env : EnergyEnv) (s : State) : Host.Outcome State Fault Refusal :=
  s.run fun d => d.shipEntry vbus held env

/-- R277: WAKE_N low for 1 s. -/
def Device.wakeButton (d : Device) (held straps : Nat) : Device :=
  if held < second then d
  else match d.sec.supply with
  | .ship => d.powerOn .shipWake straps
  | .off => d
  | .on => (d.raise CHG.STAT_WAKEBTN).log Ev.WAKEBTN []

def execWakeButton (held : Nat) (straps : BitVec 3) (s : State) : Host.Outcome State Fault Refusal :=
  s.runAny fun d => d.wakeButton held straps.toNat

/-- R277: VBUS reaches 5.0 V. -/
def execVbusWake (vbus : Nat) (straps : BitVec 3) (s : State) : Host.Outcome State Fault Refusal :=
  s.runAny fun d => if vbus < 5000 then d else d.porFrom .shipWake straps.toNat

/-! ## Secure boot (R306) -/

/-- R338: a store that is there and meets R337, or none. -/
def Device.findStore (d : Device) (r : SfdpResult) : Device :=
  let none_ (d : Device) (code : Nat) : Device :=
    (((d.lower STORE.STAT_PRESENT).wr STORE.SIZE 0).raise STORE.STAT_STORE_FAULT).log code []
  match r with
  | .absent => none_ d Ev.STORE_ABSENT
  | .unsupported => none_ d Ev.STORE_UNSUPPORTED
  | .found size tp te =>
    if size < 32 || 256 < size then none_ d Ev.STORE_UNSUPPORTED
    else ((d.raise STORE.STAT_PRESENT).wr STORE.SIZE size).modStore fun s => { s with tProg := tp, tErase := te }

/-- The greatest SEQ of the intact records. -/
def topSeq (l : List Sector) : Option Nat :=
  ((recsOf l).filter (·.intact)).foldl (fun m r => some (max r.seq (m.getD 0))) none

/-- The store's own registers at a boot: the next SEQ follows the newest valid record (R342), and what the
journal restores (R243, R409, R411). -/
def Device.readStore (d : Device) : Device :=
  let d :=
    if !d.present then d.when d.sec.cold fun d => d.raise CNT.JSTAT_NOREC
    else
      let d := (d.wr STORE.NEXTSEQ ((topSeq d.flash.log).elim 0 (· + 1))).spareCount
      let d := d.wr STORE.MAXERASE (d.flash.erases.foldl (fun m e => max m e.2) 0)
      let d := d.restoreClock
      let d := d.when d.sec.cold Device.restoreCounters
      (d.readOut d.flash.log).readOut d.flash.journal
  (d.when d.sec.cold fun d => d.countSat STORE.BOOTCNT).storeRegs

/-- The boot header with the other slot of each trial kind active and nothing on trial (R387). -/
def Device.revertHdr (d : Device) : BootHdr :=
  let h := d.bootHdr
  let fw := if h.trial.testBit 0 then 1 - h.fw else h.fw
  let rg := if h.trial.testBit 1 then 1 - h.rg else h.rg
  { h with fw := fw, rg := rg, trial := 0, fwId := d.slotId false fw, rgId := d.slotId true rg }

/-- The boot header cannot be written: the previous slots run for this boot (R387). -/
def Device.noCount (d : Device) : Device :=
  (d.modSec fun x => { x with previous := true }).log Ev.UPD_NOCOUNT []

def Device.revert (d : Device) (env : EnergyEnv) : Device :=
  let (ok, d) := d.writeHdr env d.revertHdr
  if ok then ((d.raise UPD.STAT_UPD_REVERT).log Ev.UPD_REVERT []).storeRegs else d.noCount

/-- R387: the boot of a trial is counted, or ends it. -/
def Device.countTrial (d : Device) (env : EnergyEnv) : Device :=
  let h := d.bootHdr
  if h.trial = 0 then d
  else if h.tries < 3 then
    let (ok, d) := d.writeHdr env { h with tries := h.tries + 1 }
    if ok then d.storeRegs else d.noCount
  else d.revert env

/-- The firmware slot that this boot tries first. -/
def Device.bootFwSlot (d : Device) : Nat :=
  let h := d.bootHdr
  if d.sec.previous && h.trial.testBit 0 then 1 - h.fw else h.fw

/-- Step 4: the firmware of a slot runs. It logs an expiry that led here (R296, step 5). -/
def Device.runSlot (d : Device) (slot : Nat) (fell : Bool) : Device :=
  let d := (d.setFld SEC.BOOT_SLOT slot).setFlag SEC.BOOT_FELLBACK fell
  let d := d.modSec fun x => { x with recovery := false }
  let d := (d.wr SYS.FWVER (hVersion (d.header false slot))).wr RING.VERSUP (byteAt (d.compat slot) 32)
  let d := d.setVersion (d.fld RING.VRUN_V)
  if !d.wdt.toLog then d
  else
    (d.modWdt fun w => { w with toLog := false }).log Ev.WDT_EXPIRY
      [d.rd WDT.LCAUSE, d.rd WDT.LPC, d.rd WDT.LSVC, d.rd WDT.LEXP]

/-- Step 5: recovery, in maintenance mode (R374). -/
def Device.enterRecovery (d : Device) : Device :=
  let d := d.modSec fun x => { x with recovery := true }
  ((d.raise SEC.STAT_BOOT_FAIL).log Ev.BOOT_FAIL []).raise UPD.CTL_MAINT

/-- Steps 3 to 5. A trial slot that fails is reverted (R387). -/
def Device.bootSlots (d : Device) (env : EnergyEnv) : Device :=
  let slot := d.bootFwSlot
  let trial := d.bootHdr.trial.testBit 0 && !d.sec.previous
  let (d, ok) := d.authenticate false slot
  if ok then d.runSlot slot false
  else
    let d := d.when trial fun d => d.revert env
    let (d, ok) := d.authenticate false (1 - slot)
    if ok then ((d.raise SEC.STAT_BOOT_FALLBACK).log Ev.BOOT_FALLBACK [1 - slot]).runSlot (1 - slot) true
    else d.enterRecovery

/-- The OTP domain (R329, R409, R411). -/
def Device.bootOtp (d : Device) : Device :=
  d.otpCheck.otpLocks.floorRegs.burnedReg.readIdent

/-- Steps 1 and 2 of R306: latched LDOs are released (R224), the OTP array is checked, the store found and read, a trial boot counted (R387). -/
def Device.bootPrepare (d : Device) (sfdp : SfdpResult) (env : EnergyEnv) : Device :=
  let d := d.modSec fun x => { x with previous := false }
  (((d.setFld INT.STAT_LDOFF 0).bootOtp.findStore sfdp).readStore).countTrial env

/-- R306, on the release of a core reset. A rigging load follows a power-on reset and a restart into a new
firmware slot (R410). Counters that changed before the reset are still to be journalled (R243). -/
def Device.secureBoot (d : Device) (sfdp : SfdpResult) (env : EnergyEnv) : Device :=
  if !d.sec.bootDue || !d.coreAlive || !d.storeIdle then d
  else
    let d := d.when d.flash.cntDirty fun d => d.raise CNT.JSTAT_PENDING
    ((d.bootPrepare sfdp env).bootSlots env).modSec fun x =>
      { x with bootDue := false, cold := false, loadDue := x.loadDue || x.cold || x.activation }

def execSecureBoot (sfdp : SfdpResult) (env : EnergyEnv) (s : State) : Host.Outcome State Fault Refusal :=
  s.run fun d => d.secureBoot sfdp env

end Sys2Proof.Machine
end

