-- ==== Sys2Proof/Machine/Dispatch.lean ====
section
/-! DEFINITION. Machine/Dispatch.lean: one arm per command, each a direct call of its meaning. -/
namespace Sys2Proof.Machine

def exec (i : Instr) (s : State) : Host.Outcome State Fault Refusal :=
  match i with
  | .powerOnReset src straps => Sys2Proof.Machine.execPowerOnReset src straps s
  | .secureBoot sfdp env => Sys2Proof.Machine.execSecureBoot sfdp env s
  | .bankUcodeLoad b ok => Sys2Proof.Machine.execBankUcodeLoad b ok s
  | .linkFrame b crcOk count clamped => Sys2Proof.Machine.execLinkFrame b crcOk count clamped s
  | .bankDeadman b => Sys2Proof.Machine.execBankDeadman b s
  | .bankRestart b ucodeOk => Sys2Proof.Machine.execBankRestart b ucodeOk s
  | .edgeScan => Sys2Proof.Machine.execEdgeScan s
  | .encoderCount enc step stable => Sys2Proof.Machine.execEncoderCount enc step stable s
  | .radarPulse stable => Sys2Proof.Machine.execRadarPulse stable s
  | .srcFail enc => Sys2Proof.Machine.execSrcFail enc s
  | .srcrst w v => Sys2Proof.Machine.execSrcrst w v s
  | .hspeedWrite w v => Sys2Proof.Machine.execHspeedWrite w v s
  | .hdirWrite w v => Sys2Proof.Machine.execHdirWrite w v s
  | .hyawWrite w v => Sys2Proof.Machine.execHyawWrite w v s
  | .speedStale => Sys2Proof.Machine.execSpeedStale s
  | .yawStale => Sys2Proof.Machine.execYawStale s
  | .srcLost => Sys2Proof.Machine.execSrcLost s
  | .cap w v => Sys2Proof.Machine.execCap w v s
  | .beaconSend => Sys2Proof.Machine.execBeaconSend s
  | .beaconReceive => Sys2Proof.Machine.execBeaconReceive s
  | .beaconMissing => Sys2Proof.Machine.execBeaconMissing s
  | .beaconLoss => Sys2Proof.Machine.execBeaconLoss s
  | .edgeSubmit w v => Sys2Proof.Machine.execEdgeSubmit w v s
  | .coreEdge hand e => Sys2Proof.Machine.execCoreEdge hand e s
  | .edgeFlush w v => Sys2Proof.Machine.execEdgeFlush w v s
  | .safeClear w n v => Sys2Proof.Machine.execSafeClear w n v s
  | .saferel w v => Sys2Proof.Machine.execSaferel w v s
  | .slotStart n => Sys2Proof.Machine.execSlotStart n s
  | .peakEnd n => Sys2Proof.Machine.execPeakEnd n s
  | .latencySample n on cusp => Sys2Proof.Machine.execLatencySample n on cusp s
  | .latencyJournal => Sys2Proof.Machine.execLatencyJournal s
  | .inrushFail n imeas => Sys2Proof.Machine.execInrushFail n imeas s
  | .overload n imeas => Sys2Proof.Machine.execOverload n imeas s
  | .short n imeas => Sys2Proof.Machine.execShort n imeas s
  | .thermal n imeas temp => Sys2Proof.Machine.execThermal n imeas temp s
  | .thermalRecovery n temp => Sys2Proof.Machine.execThermalRecovery n temp s
  | .tripClear w b v => Sys2Proof.Machine.execTripClear w b v s
  | .retry n => Sys2Proof.Machine.execRetry n s
  | .retryCountReset n => Sys2Proof.Machine.execRetryCountReset n s
  | .openOff n vmeas held vbus => Sys2Proof.Machine.execOpenOff n vmeas held vbus s
  | .openOn n u => Sys2Proof.Machine.execOpenOn n u s
  | .damageO n vmeas vbus held => Sys2Proof.Machine.execDamageO n vmeas vbus held s
  | .damageG n => Sys2Proof.Machine.execDamageG n s
  | .isoVerify b off => Sys2Proof.Machine.execIsoVerify b off s
  | .isoOpen w b => Sys2Proof.Machine.execIsoOpen w b s
  | .isoClose w b ucodeOk => Sys2Proof.Machine.execIsoClose w b ucodeOk s
  | .strikePin low => Sys2Proof.Machine.execStrikePin low s
  | .strikeAssert w => Sys2Proof.Machine.execStrikeAssert w s
  | .strikeRelease w => Sys2Proof.Machine.execStrikeRelease w s
  | .strikeCellReceive => Sys2Proof.Machine.execStrikeCellReceive s
  | .cellForward p c fwdDelay => Sys2Proof.Machine.execCellForward p c fwdDelay s
  | .cellReceive p c a => Sys2Proof.Machine.execCellReceive p c a s
  | .cellAbort p => Sys2Proof.Machine.execCellAbort p s
  | .cellSend p incoming => Sys2Proof.Machine.execCellSend p incoming s
  | .syncAcquired p plus gs => Sys2Proof.Machine.execSyncAcquired p plus gs s
  | .syncLost p plus gs violations => Sys2Proof.Machine.execSyncLost p plus gs violations s
  | .lossOfSignal p => Sys2Proof.Machine.execLossOfSignal p s
  | .linkHelloReceive p => Sys2Proof.Machine.execLinkHelloReceive p s
  | .helloSend p incoming => Sys2Proof.Machine.execHelloSend p incoming s
  | .helloTimeout p => Sys2Proof.Machine.execHelloTimeout p s
  | .pingSend p incoming => Sys2Proof.Machine.execPingSend p incoming s
  | .pingReceive p incoming => Sys2Proof.Machine.execPingReceive p incoming s
  | .echoReceive p => Sys2Proof.Machine.execEchoReceive p s
  | .linkRetrain w v => Sys2Proof.Machine.execLinkRetrain w v s
  | .linkDegraded => Sys2Proof.Machine.execLinkDegraded s
  | .rasmTimeout => Sys2Proof.Machine.execRasmTimeout s
  | .sourceForget src => Sys2Proof.Machine.execSourceForget src s
  | .quietEnd => Sys2Proof.Machine.execQuietEnd s
  | .edgeCellReceive => Sys2Proof.Machine.execEdgeCellReceive s
  | .readRequest => Sys2Proof.Machine.execReadRequest s
  | .writeRequest => Sys2Proof.Machine.execWriteRequest s
  | .responseReceive => Sys2Proof.Machine.execResponseReceive s
  | .eventReceive => Sys2Proof.Machine.execEventReceive s
  | .activateReceive => Sys2Proof.Machine.execActivateReceive s
  | .enumQueryReceive => Sys2Proof.Machine.execEnumQueryReceive s
  | .enumReportReceive => Sys2Proof.Machine.execEnumReportReceive s
  | .enumQuerySend => Sys2Proof.Machine.execEnumQuerySend s
  | .ringRead w => Sys2Proof.Machine.execRingRead w s
  | .ringWrite w => Sys2Proof.Machine.execRingWrite w s
  | .transTimeout => Sys2Proof.Machine.execTransTimeout s
  | .headWindowEnd => Sys2Proof.Machine.execHeadWindowEnd s
  | .feedQualified f vin held => Sys2Proof.Machine.execFeedQualified f vin held s
  | .feedUv f vin held => Sys2Proof.Machine.execFeedUv f vin held s
  | .feedOv f vin held => Sys2Proof.Machine.execFeedOv f vin held s
  | .feedInrushComplete f vin vbus => Sys2Proof.Machine.execFeedInrushComplete f vin vbus s
  | .feedInrushFail f shunt => Sys2Proof.Machine.execFeedInrushFail f shunt s
  | .feedOverload f shunt => Sys2Proof.Machine.execFeedOverload f shunt s
  | .feedShort f shunt => Sys2Proof.Machine.execFeedShort f shunt s
  | .feedReverse f shunt => Sys2Proof.Machine.execFeedReverse f shunt s
  | .feedRetryClear f => Sys2Proof.Machine.execFeedRetryClear f s
  | .feedClrTrip w f v => Sys2Proof.Machine.execFeedClrTrip w f v s
  | .feedDamageO f src vbus held => Sys2Proof.Machine.execFeedDamageO f src vbus held s
  | .feedDamageG f vgs shunt => Sys2Proof.Machine.execFeedDamageG f vgs shunt s
  | .feedRevert => Sys2Proof.Machine.execFeedRevert s
  | .feedSelect w v => Sys2Proof.Machine.execFeedSelect w v s
  | .feedVerified => Sys2Proof.Machine.execFeedVerified s
  | .feedVerifyFail gateTest => Sys2Proof.Machine.execFeedVerifyFail gateTest s
  | .feedSwitch => Sys2Proof.Machine.execFeedSwitch s
  | .railPrebiasSample r vpre => Sys2Proof.Machine.execRailPrebiasSample r vpre s
  | .railRampDone r => Sys2Proof.Machine.execRailRampDone r s
  | .railStopDone r => Sys2Proof.Machine.execRailStopDone r s
  | .vrefWrite w r v => Sys2Proof.Machine.execVrefWrite w r v s
  | .slewWrite w r v => Sys2Proof.Machine.execSlewWrite w r v s
  | .railSettled r vfb => Sys2Proof.Machine.execRailSettled r vfb s
  | .railMaskTimeout r vfb => Sys2Proof.Machine.execRailMaskTimeout r vfb s
  | .cvOc r cause => Sys2Proof.Machine.execCvOc r cause s
  | .cvOv r vfb held => Sys2Proof.Machine.execCvOv r vfb held s
  | .cvOvClampEnd r vfb => Sys2Proof.Machine.execCvOvClampEnd r vfb s
  | .railBrake r vfb => Sys2Proof.Machine.execRailBrake r vfb s
  | .railBrakeEnd r vfb => Sys2Proof.Machine.execRailBrakeEnd r vfb s
  | .phaseShed r itot held => Sys2Proof.Machine.execPhaseShed r itot held s
  | .phaseAdd r itot => Sys2Proof.Machine.execPhaseAdd r itot s
  | .fastAdd r vfb => Sys2Proof.Machine.execFastAdd r vfb s
  | .shedComplete r => Sys2Proof.Machine.execShedComplete r s
  | .ib0vWrite w v => Sys2Proof.Machine.execIb0vWrite w v s
  | .clockSwitch => Sys2Proof.Machine.execClockSwitch s
  | .ioUv vio held => Sys2Proof.Machine.execIoUv vio held s
  | .ldOc k held => Sys2Proof.Machine.execLdOc k held s
  | .ldclr w v => Sys2Proof.Machine.execLdclr w v s
  | .seqOn w => Sys2Proof.Machine.execSeqOn w s
  | .seqOff w => Sys2Proof.Machine.execSeqOff w s
  | .seqWaitEnd => Sys2Proof.Machine.execSeqWaitEnd s
  | .slotEnable k => Sys2Proof.Machine.execSlotEnable k s
  | .pgDeglitch t held => Sys2Proof.Machine.execPgDeglitch t held s
  | .slotQualified k => Sys2Proof.Machine.execSlotQualified k s
  | .slotTimeout k => Sys2Proof.Machine.execSlotTimeout k s
  | .slotDisable k => Sys2Proof.Machine.execSlotDisable k s
  | .seqOffTimeout k => Sys2Proof.Machine.execSeqOffTimeout k s
  | .pfwExpiry => Sys2Proof.Machine.execPfwExpiry s
  | .bankUv b vbus held => Sys2Proof.Machine.execBankUv b vbus held s
  | .bankOv b vbus held => Sys2Proof.Machine.execBankOv b vbus held s
  | .counterJournal => Sys2Proof.Machine.execCounterJournal s
  | .cntClr w v => Sys2Proof.Machine.execCntClr w v s
  | .adcConversion c code => Sys2Proof.Machine.execAdcConversion c code s
  | .loopDelayEnd c => Sys2Proof.Machine.execLoopDelayEnd c s
  | .xmiss c => Sys2Proof.Machine.execXmiss c s
  | .adcUrgent w v => Sys2Proof.Machine.execAdcUrgent w v s
  | .urgTagFree w t => Sys2Proof.Machine.execUrgTagFree w t s
  | .chginChange vbus vbat => Sys2Proof.Machine.execChginChange vbus vbat s
  | .detectSample vbat => Sys2Proof.Machine.execDetectSample vbat s
  | .detectResult vbat => Sys2Proof.Machine.execDetectResult vbat s
  | .detectRepeat => Sys2Proof.Machine.execDetectRepeat s
  | .chargePhaseChange vbat ibat held vloop => Sys2Proof.Machine.execChargePhaseChange vbat ibat held vloop s
  | .batShort vbat => Sys2Proof.Machine.execBatShort vbat s
  | .ntcSuspend ratio held => Sys2Proof.Machine.execNtcSuspend ratio held s
  | .ntcResume ratio held => Sys2Proof.Machine.execNtcResume ratio held s
  | .batTimeout => Sys2Proof.Machine.execBatTimeout s
  | .batOv vbat held => Sys2Proof.Machine.execBatOv vbat held s
  | .batRemoved ibat0 ibat1 vbat => Sys2Proof.Machine.execBatRemoved ibat0 ibat1 vbat s
  | .removalCheck vbat => Sys2Proof.Machine.execRemovalCheck vbat s
  | .batCutoff vbat held => Sys2Proof.Machine.execBatCutoff vbat held s
  | .chgClr w => Sys2Proof.Machine.execChgClr w s
  | .shipRequest w => Sys2Proof.Machine.execShipRequest w s
  | .shipCancel w => Sys2Proof.Machine.execShipCancel w s
  | .shipEntry vbus held env => Sys2Proof.Machine.execShipEntry vbus held env s
  | .wakeButton held straps => Sys2Proof.Machine.execWakeButton held straps s
  | .vbusWake vbus straps => Sys2Proof.Machine.execVbusWake vbus straps s
  | .wdtService w v => Sys2Proof.Machine.execWdtService w v s
  | .wdtCheckin w v => Sys2Proof.Machine.execWdtCheckin w v s
  | .wdtLate => Sys2Proof.Machine.execWdtLate s
  | .wdtPrewarn => Sys2Proof.Machine.execWdtPrewarn s
  | .wdtClkstop periods => Sys2Proof.Machine.execWdtClkstop periods s
  | .wdtClkdev edges monStopped => Sys2Proof.Machine.execWdtClkdev edges monStopped s
  | .coreResetRelease => Sys2Proof.Machine.execCoreResetRelease s
  | .wdxEnd => Sys2Proof.Machine.execWdxEnd s
  | .eccError => Sys2Proof.Machine.execEccError s
  | .eccCorr => Sys2Proof.Machine.execEccCorr s
  | .lifecmd w v env bad => Sys2Proof.Machine.execLifecmd w v env bad s
  | .keyRevoke w v env bad => Sys2Proof.Machine.execKeyRevoke w v env bad s
  | .debugAuth slot scope pubkey sig age => Sys2Proof.Machine.execDebugAuth slot scope pubkey sig age s
  | .debugClose w => Sys2Proof.Machine.execDebugClose w s
  | .debugHalt => Sys2Proof.Machine.execDebugHalt s
  | .debugHaltRelease => Sys2Proof.Machine.execDebugHaltRelease s
  | .scanEnter => Sys2Proof.Machine.execScanEnter s
  | .scanExit straps => Sys2Proof.Machine.execScanExit straps s
  | .pwrWake w => Sys2Proof.Machine.execPwrWake w s
  | .pwrRun w => Sys2Proof.Machine.execPwrRun w s
  | .pwrStandby w => Sys2Proof.Machine.execPwrStandby w s
  | .pwrKeep w => Sys2Proof.Machine.execPwrKeep w s
  | .wakeStart => Sys2Proof.Machine.execWakeStart s
  | .pllLock => Sys2Proof.Machine.execPllLock s
  | .otpProgram w env bad => Sys2Proof.Machine.execOtpProgram w env bad s
  | .otpFinalise w env bad => Sys2Proof.Machine.execOtpFinalise w env bad s
  | .otpReburn w env bad => Sys2Proof.Machine.execOtpReburn w env bad s
  | .otpRepair w env bad => Sys2Proof.Machine.execOtpRepair w env bad s
  | .otpCommandDone => Sys2Proof.Machine.execOtpCommandDone s
  | .otpLockset w v => Sys2Proof.Machine.execOtpLockset w v s
  | .otpSession env bad => Sys2Proof.Machine.execOtpSession env bad s
  | .recordWrite env => Sys2Proof.Machine.execRecordWrite env s
  | .storeRetry env => Sys2Proof.Machine.execStoreRetry env s
  | .storeOpComplete ok => Sys2Proof.Machine.execStoreOpComplete ok s
  | .clockJournal => Sys2Proof.Machine.execClockJournal s
  | .scrub w => Sys2Proof.Machine.execScrub w s
  | .scrubStart => Sys2Proof.Machine.execScrubStart s
  | .scrubDone env => Sys2Proof.Machine.execScrubDone env s
  | .wallWrite w v => Sys2Proof.Machine.execWallWrite w v s
  | .xaddrWrite w v => Sys2Proof.Machine.execXaddrWrite w v s
  | .xdataWrite w v env => Sys2Proof.Machine.execXdataWrite w v env s
  | .xdataRead w => Sys2Proof.Machine.execXdataRead w s
  | .riggingLoad => Sys2Proof.Machine.execRiggingLoad s
  | .riggingCommit => Sys2Proof.Machine.execRiggingCommit s
  | .rigCorrupt => Sys2Proof.Machine.execRigCorrupt s
  | .svcPing bcast tag => Sys2Proof.Machine.execSvcPing bcast tag s
  | .svcRead bcast tag page off len => Sys2Proof.Machine.execSvcRead bcast tag page off len s
  | .svcWrite bcast tag page off data => Sys2Proof.Machine.execSvcWrite bcast tag page off data s
  | .svcEdge bcast tag e => Sys2Proof.Machine.execSvcEdge bcast tag e s
  | .svcOpen bcast tag kind len => Sys2Proof.Machine.execSvcOpen bcast tag kind len s
  | .svcData bcast tag off data env => Sys2Proof.Machine.execSvcData bcast tag off data env s
  | .svcClose bcast tag => Sys2Proof.Machine.execSvcClose bcast tag s
  | .svcStatus bcast tag => Sys2Proof.Machine.execSvcStatus bcast tag s
  | .svcActivate bcast tag epoch cond imgid tgt => Sys2Proof.Machine.execSvcActivate bcast tag epoch cond imgid tgt s
  | .svcConfirm bcast tag env bad => Sys2Proof.Machine.execSvcConfirm bcast tag env bad s
  | .transferEraseDone env => Sys2Proof.Machine.execTransferEraseDone env s
  | .verifyDone => Sys2Proof.Machine.execVerifyDone s
  | .updActivate w => Sys2Proof.Machine.execUpdActivate w s
  | .updConfirm w env bad => Sys2Proof.Machine.execUpdConfirm w env bad s
  | .updAbort w => Sys2Proof.Machine.execUpdAbort w s
  | .activateEpoch env => Sys2Proof.Machine.execActivateEpoch env s
  | .activateSuspendEnd => Sys2Proof.Machine.execActivateSuspendEnd s
  | .twiWrite bytes stop => Sys2Proof.Machine.execTwiWrite bytes stop s
  | .twiRead n stop => Sys2Proof.Machine.execTwiRead n stop s
  | .alertResponse others => Sys2Proof.Machine.execAlertResponse others s
  | .attentionPulse collision => Sys2Proof.Machine.execAttentionPulse collision s
  | .twiControllerStart w v => Sys2Proof.Machine.execTwiControllerStart w v s
  | .twiControllerTransaction idle o => Sys2Proof.Machine.execTwiControllerTransaction idle o s
  | .sclTimeout held => Sys2Proof.Machine.execSclTimeout held s
  | .sdaStuck held released clocks => Sys2Proof.Machine.execSdaStuck held released clocks s
  | .busErr start => Sys2Proof.Machine.execBusErr start s
  | .registerWrite w page off bytes => Sys2Proof.Machine.execRegisterWrite w page off bytes s
  | .standstill => Sys2Proof.Machine.execStandstill s
  | .prebiasWaitEnd r vfb => Sys2Proof.Machine.execPrebiasWaitEnd r vfb s
  | .feedQualificationLost f vin => Sys2Proof.Machine.execFeedQualificationLost f vin s
  | .svcFrameDiscard => Sys2Proof.Machine.execSvcFrameDiscard s
  | .rigEccCorrected => Sys2Proof.Machine.execRigEccCorrected s

end Sys2Proof.Machine
end

