-- ==== Sys2Proof/Machine/Tick.lean ====
section
/-! DEFINITION. Machine/Tick.lean: what time alone does between commands (notes/assumptions/2.md): tide and
reckoning (R37, R40, R45–R47, R49), pulses (R91), rail and IB0 ramps (R212–R214, R225), the watchdog's
counter (R286), the safety timer (R270), the store clock (R351) and feed selection (R201). One tick is
10 ns with the PLL locked and one LFRC period without it. -/
namespace Sys2Proof.Machine

/-! ## Tide (R45–R47, R49) -/

/-- Steering changes the tide rate by up to 500 ppm towards the head's tide (R46); how far is a free value. -/
def Device.steer (d : Device) : Device :=
  if d.rck.steerErr = 0 then d
  else
    let ppm : Int := (d.freeVal 32 % 501 : Nat)
    d.nextFree.modRck fun r => { r with steerFrac := r.steerFrac + if 0 < r.steerErr then ppm else -ppm }

/-- One tick at the PLL's rate: tide counts it, every second one at half rate; steering adds one or takes
one when a whole tick has come together. Answers how far tide went. -/
def Device.pllTide (d : Device) : Nat × Device :=
  let r := d.rck
  if 0 < r.ahead then
    if r.halfPhase then (1, d.modRck fun r => { r with halfPhase := false })
    else
      (0, d.modRck fun r => { r with halfPhase := true, ahead := r.ahead - 1, approach := r.approach && 1 < r.ahead })
  else
    let d := d.steer
    if 1000000 ≤ d.rck.steerFrac then
      (2, d.modRck fun r => { r with steerFrac := r.steerFrac - 1000000, steerErr := r.steerErr - 1 })
    else if d.rck.steerFrac ≤ -1000000 then
      (0, d.modRck fun r => { r with steerFrac := r.steerFrac + 1000000, steerErr := r.steerErr + 1 })
    else (1, d)

/-- One LFRC period: 3051 or 3052 ticks, dithered to an average of 3051.7578 (R45), that is 10^8 / 32768. The rule does
not give the pattern: a free value chooses while the sum so far is within a tick of the average, and beyond that the
step that brings it back (notes/assumptions/20.md). -/
def Device.lfrcTide (d : Device) : Nat × Device :=
  let n :=
    if 31 < d.rck.lfrcOwed then 3052
    else if d.rck.lfrcOwed < -97 then 3051
    else 3051 + d.freeVal 1
  (n, d.nextFree.modRck fun r => { r with lfrcOwed := r.lfrcOwed + 390625 - 128 * (n : Int) })

/-! ## Reckoning (R37, R40) -/

/-- R37: HOST's speed is integrated over tide: each tick counts the distance of one tick, and the rate follows as
at a count (R40; notes/assumptions/20.md). -/
def Device.hostTick (d : Device) : Device :=
  if d.rck.src == .host && d.driven && d.rck.hspeedAt.isSome then
    (if d.rck.vEst = 0 then d else d.travel (speedTerm d.rck.vEst d.mark).toNat d.rck.fwd).ownRate
  else d

/-- Reckoning advances by RATE, unless it holds. -/
def Device.reckonTick (d : Device) : Device :=
  if d.rck.holding then d else d.modRck fun r => { r with reck := r.reck + d.rd RCK.RATE }

/-! ## Ramps -/

/-- `v` moved by at most `step` towards `t`. -/
def toward (v t step : Nat) : Nat := if v < t then min t (v + step) else max t (v - step)

/-- R212–R214: a rail's reference moves at 0.1 mV/µs a unit, that is 1 µV a tick. -/
def Device.railTick (d : Device) (n r : Nat) : Device :=
  let x := d.rail r
  let st := d.cvState r
  if d.clamping r then d
  else if st = cvStop then d.modRail r fun x => { x with ref := toward x.ref 0 (n * d.rd (CV.SSLEW r)) }
  else if st = cvStart && x.sampled then
    let rate := if x.useSlew then d.rd (CV.SLEW r) else d.rd (CV.SSLEW r)
    d.modRail r fun x => { x with ref := toward x.ref (d.refT r) (n * rate) }
  else if st = cvSlew && x.ref != d.refT r then
    let ref := toward x.ref (d.refT r) (n * d.rd (CV.SLEW r))
    d.modRail r fun x => { x with ref := ref, atTarget := if ref = d.refT r then some d.rck.tide else x.atTarget }
  else d

/-- R225: 1 mV/µs, and not below 1.00 V while the clock is 200 MHz. -/
def Device.ib0Tick (d : Device) (n : Nat) : Device :=
  let floor := if d.rck.pll && !d.flag INT.STAT_CLK then oneVolt else 0
  let v := max (min d.int.ib0 floor) (toward d.int.ib0 (d.rd INT.IB0V * 10000) (10 * n))
  d.modInt fun x => { x with ib0 := v, above := if x.ib0 < oneVolt && oneVolt ≤ v then d.rck.tide else x.above }

/-! ## Counters -/

/-- R286: WDT.CNT at 32.768 kHz or 1 MHz, in hundred-millionths of a count per tick. -/
def Device.wdtTick (d : Device) (n : Nat) : Device :=
  if d.frozen || d.coreHeld then d
  else
    let f := d.wdt.frac + n * (if d.wdt.fast then 1000000 else 32768)
    (d.modWdt fun w => { w with frac := f % 100000000 }).countSat WDT.CNT (f / 100000000)

/-- R269, R270: THERMREG while the die holds the charger's current down, what the world gives; the safety timer then
advances half a tick. -/
def Device.chargeTick (d : Device) (n : Nat) : Device :=
  let d := d.setFlag CHG.STAT_THERMREG (d.charging && Config.thermHeld d.clk)
  let k := if d.flag CHG.STAT_THERMREG then n else 2 * n
  if !d.inCycle then d
  else d.modChg fun c => { c with safe2 := c.safe2 + k, pre2 := if d.phase = chgPre then c.pre2 + k else c.pre2 }

/-- R351: seconds of tide. -/
def Device.sclkTick (d : Device) : Device :=
  let k := (d.now - d.flash.sclkAt) / second
  if k = 0 then d
  else (d.countSat STORE.SCLK k).modStore fun s => { s with sclkAt := s.sclkAt + k * second }

/-- A pulse nears its end; at 0 the bank turns the gang off (R91, R93). -/
def Device.pulseTick (d : Device) (l : Nat) : Device :=
  match (d.chan l).pulse with
  | none => d
  | some n => if n ≤ 1 then d.gangOff l else d.modChan l fun c => { c with pulse := some (n - 1) }

/-- The channels with a pulse under way. -/
def Device.pulsing (d : Device) : List Nat := allChans.filter fun n => (d.chan n).pulse.isSome

/-! ## The tick -/

/-- `n` ticks of the feed controllers (R196, R201). -/
def Device.feedsTick (d : Device) (n : Nat) : Device :=
  let d := { d with feedClk := d.feedClk + n }
  ((d.feedTick n .fa).feedTick n .fb).selectFeed

/-- What one tide tick does beside the count itself. -/
def Device.tideTick (d : Device) : Device :=
  (d.modRck fun r => { r with tide := r.tide + 1 }).hostTick.reckonTick

/-- What the banks do in one 10 ns period of the link clock (R90, R95, R117). -/
def Device.bankTick (d : Device) : Device :=
  let d := (d.each d.pulsing Device.pulseTick).each d.chopping Device.chopTick
  (d.each (List.range 4) Device.bankStep).each (List.range 4) Device.pwmTick

/-- What `n` ticks of time do to ramps, counters and timers. -/
def Device.timers (d : Device) (n moved : Nat) : Device :=
  let d := { d with clk := d.clk + n }
  let d := (d.each (List.range 4) fun d r => d.railTick n r).ib0Tick n
  (((d.wdtTick n).chargeTick moved).sclkTick.feedsTick n).speedTick.secondTick.attSettle.windowActs

/-- One tick of an idle block. With the helm unpowered only the feed controllers run (R189). -/
def Device.tick (d : Device) : Device :=
  if !d.powered then d.onFeeds fun d => d.feedsTick 1
  else if d.rck.pll then
    let (n, d) := d.pllTide
    let d := if n = 0 then d else if n = 1 then d.tideTick else d.tideTick.tideTick
    d.bankTick.timers 1 n
  else
    let (n, d) := d.lfrcTide
    (d.modRck fun r => { r with tide := r.tide + n }).timers n n

end Sys2Proof.Machine
end

