-- ==== Sys2Proof/WellFormed.lean ====
section
/-! DEFINITION. WellFormed.lean: the commands that can exist. Types bound nearly every operand; two rows need a
check of their own. -/
namespace Sys2Proof

/-- A link frame lists channels of its own bank (R17); a register write stays inside its page, with 1 to 64
bytes, or 32 through the ring (R170, R374, R394). -/
def Instr.wf : Instr → Bool
  | .linkFrame b _ _ clamped => clamped.all fun n => Machine.bankOf n == b.val
  | .registerWrite w _ off bytes => Machine.writeFits w off.toNat bytes.length
  | .powerOnReset .. | .secureBoot .. | .bankUcodeLoad .. | .bankDeadman .. | .bankRestart .. | .edgeScan ..
  | .encoderCount .. | .radarPulse .. | .srcFail .. | .srcrst .. | .hspeedWrite .. | .hdirWrite ..
  | .hyawWrite .. | .speedStale .. | .yawStale .. | .srcLost .. | .cap .. | .beaconSend .. | .beaconReceive ..
  | .beaconMissing .. | .beaconLoss .. | .edgeSubmit .. | .coreEdge .. | .edgeFlush .. | .safeClear ..
  | .saferel .. | .slotStart .. | .peakEnd .. | .latencySample .. | .latencyJournal .. | .inrushFail ..
  | .overload .. | .short .. | .thermal .. | .thermalRecovery .. | .tripClear .. | .retry ..
  | .retryCountReset .. | .openOff .. | .openOn .. | .damageO .. | .damageG .. | .isoVerify .. | .isoOpen ..
  | .isoClose .. | .strikePin .. | .strikeAssert .. | .strikeRelease .. | .strikeCellReceive ..
  | .cellForward .. | .cellReceive .. | .cellAbort .. | .cellSend .. | .syncAcquired .. | .syncLost ..
  | .lossOfSignal .. | .linkHelloReceive .. | .helloSend .. | .helloTimeout .. | .pingSend .. | .pingReceive ..
  | .echoReceive .. | .linkRetrain .. | .linkDegraded .. | .rasmTimeout .. | .sourceForget .. | .quietEnd ..
  | .edgeCellReceive .. | .readRequest .. | .writeRequest .. | .responseReceive .. | .eventReceive ..
  | .activateReceive .. | .enumQueryReceive .. | .enumReportReceive .. | .enumQuerySend .. | .ringRead ..
  | .ringWrite .. | .transTimeout .. | .headWindowEnd .. | .feedQualified .. | .feedUv .. | .feedOv ..
  | .feedInrushComplete .. | .feedInrushFail .. | .feedOverload .. | .feedShort .. | .feedReverse ..
  | .feedRetryClear .. | .feedClrTrip .. | .feedDamageO .. | .feedDamageG .. | .feedRevert .. | .feedSelect ..
  | .feedVerified .. | .feedVerifyFail .. | .feedSwitch .. | .railPrebiasSample .. | .railRampDone ..
  | .railStopDone .. | .vrefWrite .. | .slewWrite .. | .railSettled .. | .railMaskTimeout .. | .cvOc ..
  | .cvOv .. | .cvOvClampEnd .. | .railBrake .. | .railBrakeEnd .. | .phaseShed .. | .phaseAdd .. | .fastAdd ..
  | .shedComplete .. | .ib0vWrite .. | .clockSwitch .. | .ioUv .. | .ldOc .. | .ldclr .. | .seqOn ..
  | .seqOff .. | .seqWaitEnd .. | .slotEnable .. | .pgDeglitch .. | .slotQualified .. | .slotTimeout ..
  | .slotDisable .. | .seqOffTimeout .. | .pfwExpiry .. | .bankUv .. | .bankOv .. | .counterJournal ..
  | .cntClr .. | .adcConversion .. | .loopDelayEnd .. | .xmiss .. | .adcUrgent .. | .urgTagFree ..
  | .chginChange .. | .detectSample .. | .detectResult .. | .detectRepeat .. | .chargePhaseChange ..
  | .batShort .. | .ntcSuspend .. | .ntcResume .. | .batTimeout .. | .batOv .. | .batRemoved ..
  | .removalCheck .. | .batCutoff .. | .chgClr .. | .shipRequest .. | .shipCancel .. | .shipEntry ..
  | .wakeButton .. | .vbusWake .. | .wdtService .. | .wdtCheckin .. | .wdtLate .. | .wdtPrewarn ..
  | .wdtClkstop .. | .wdtClkdev .. | .coreResetRelease .. | .wdxEnd .. | .eccError .. | .eccCorr ..
  | .lifecmd .. | .keyRevoke .. | .debugAuth .. | .debugClose .. | .debugHalt .. | .debugHaltRelease ..
  | .scanEnter .. | .scanExit .. | .pwrWake .. | .pwrRun .. | .pwrStandby .. | .pwrKeep .. | .wakeStart ..
  | .pllLock .. | .otpProgram .. | .otpFinalise .. | .otpReburn .. | .otpRepair .. | .otpCommandDone ..
  | .otpLockset .. | .otpSession .. | .recordWrite .. | .storeRetry .. | .storeOpComplete .. | .clockJournal ..
  | .scrub .. | .scrubStart .. | .scrubDone .. | .wallWrite .. | .xaddrWrite .. | .xdataWrite ..
  | .xdataRead .. | .riggingLoad .. | .riggingCommit .. | .rigCorrupt .. | .svcPing .. | .svcRead ..
  | .svcWrite .. | .svcEdge .. | .svcOpen .. | .svcData .. | .svcClose .. | .svcStatus .. | .svcActivate ..
  | .svcConfirm .. | .transferEraseDone .. | .verifyDone .. | .updActivate .. | .updConfirm .. | .updAbort ..
  | .activateEpoch .. | .activateSuspendEnd .. | .twiWrite .. | .twiRead .. | .alertResponse ..
  | .attentionPulse .. | .twiControllerStart .. | .twiControllerTransaction .. | .sclTimeout .. | .sdaStuck ..
  | .busErr .. | .standstill .. | .prebiasWaitEnd .. | .feedQualificationLost .. | .svcFrameDiscard ..
  | .rigEccCorrected .. => true

end Sys2Proof
end

