-- ==== Sys2Proof/Safety.lean ====
section
/-! DEFINITION. Safety.lean: what a sound state and a safe step are, in the terms the statements use. -/
namespace Sys2Proof.Machine

/-- The Reset value of the register at an address; 0 where no register stands. -/
def resetAt (a : Nat) : Nat := (((pageRegs (a / 256)).find? fun r => r.addr == a).map (·.reset)).getD 0

/-- The OTP array and the flash in their canonical forms: addresses strictly rising, no entry that an unlisted
address would read as. -/
def Device.memoryWf (d : Device) : Bool :=
  Memory.wf d.flash.flash && canonical (fun _ => 0) d.otp.norm && canonical (fun _ => 0) d.otp.tight

/-- Every waiting command is well-formed. -/
def State.queueWf (s : State) : Bool := s.pending.all Instr.wf

/-- A step that neither faults nor refuses. -/
def safeStep (s : State) : Prop := ∃ t, step s = .next t

/-- The states a run passes through. -/
inductive Reach (s : State) : State → Prop where
  | start : Reach s s
  | more {t u : State} : Reach s t → step t = .next u → Reach s u

/-! ## What the statements say of one command -/

/-- The command runs to a next state: the queue waits as before, and the device afterwards meets `P`. -/
def Completes (c : Instr) (s : State) (P : Device → Prop) : Prop :=
  ∃ t, exec c s = .next t ∧ t.pending = s.pending ∧ P t.dev

/-- The writer may write registers: the service port in maintenance mode alone (R374). -/
def Device.admits (d : Device) (w : Writer) : Prop := w = .service → d.flag UPD.CTL_MAINT = true

/-- The writer may write a register that is protected at Hand (R281). -/
def Device.admitsWright (d : Device) (w : Writer) : Prop := w ≠ .hand ∧ d.admits w

/-- Page and offset of the register that a command writes, where Hand may not write it (R281). -/
def wrightOnly : Instr → Option (Nat × Nat)
  | .pwrWake _ | .pwrRun _ | .pwrStandby _ | .pwrKeep _ => some (0x11, 0x06)
  | .lifecmd .. => some (0x11, 0x08)
  | .keyRevoke .. => some (0x11, 0x0D)
  | .debugClose _ => some (0x11, 0x0E)
  | .otpProgram .. | .otpFinalise .. | .otpReburn .. | .otpRepair .. => some (0x10, 0x00)
  | .otpLockset .. => some (0x10, 0x22)
  | .updActivate _ | .updAbort _ | .updConfirm .. => some (0x0F, 0x02)
  | _ => none

/-- The writer of a command that carries one and writes such a register. -/
def wrightWriter : Instr → Option Writer
  | .pwrWake w | .pwrRun w | .pwrStandby w | .pwrKeep w | .lifecmd w _ _ _ | .keyRevoke w _ _ _ | .debugClose w
  | .otpProgram w _ _ | .otpFinalise w _ _ | .otpReburn w _ _ | .otpRepair w _ _ | .otpLockset w _
  | .updActivate w | .updAbort w | .updConfirm w _ _ => some w
  | _ => none

/-- An event has been logged since `o`. -/
def Device.reported (o d : Device) (code : Nat) (args : List Nat) : Prop :=
  ∃ e ∈ d.events.drop o.events.length, e.code = code ∧ e.args = args ∧ e.orig = 0

/-- An event under this code has been logged since `o`. -/
def Device.reportedCode (o d : Device) (code : Nat) : Prop :=
  ∃ e ∈ d.events.drop o.events.length, e.code = code ∧ e.orig = 0

/-- A saturating counter has counted `n` since `o`. -/
def Device.counted (o d : Device) (r : Reg) (n : Nat := 1) : Prop := d.rd r = min (o.rd r + n) (2 ^ r.width - 1)

/-- Every register outside the pages `ps` reads as in `o`. -/
def Device.onlyPages (ps : List Nat) (o d : Device) : Prop := ∀ r : Reg, r.addr / 256 ∉ ps → d.rd r = o.rd r

/-- The slot bytes of the flash and the OTP array are those of `o`. -/
def Device.sameMemory (o d : Device) : Prop :=
  d.flash.flash = o.flash.flash ∧ d.otp.norm = o.otp.norm ∧ d.otp.tight = o.otp.tight

/-- Neither a missing beacon nor the flywheel limit falls due at this tide (R49, R51). -/
def Device.onTime (d : Device) : Bool :=
  (d.isHead || !d.flag RCK.STAT_TIDE_LOCK ||
    decide (d.now < d.rck.tL + (d.rck.missing + 1) * 25000 + d.rd RCK.AMAX * usec)) &&
  (!d.flag RCK.STAT_TIDE_LOCK || !d.flag RCK.STAT_FLYWHEEL || d.suspended ||
    decide (d.now < d.rck.tRecv + d.rd RCK.FLYTO * msec))

/-- No charger event has applied in this tick yet (R274). -/
def Device.chgFirst (d : Device) : Bool := d.chgLast.all fun x => x.tick != d.clk

/-- A bank that runs: its dead-man has not tripped (R19). -/
def Device.bankLive (d : Device) (m : Nat) : Prop := (d.bank m).dead = false

/-- Lead `l` has tripped with a FAULT code since `o` (R122, R123): its gang is off, the members show the lead's
trip, TRIPS holds its bit, and the cause is reported. -/
def Device.tripped (o d : Device) (l code : Nat) (bit : Field) (event : Nat) (args : List Nat) : Prop :=
  d.fld (CHS.STAT_FAULT l) = code ∧ (∀ k ∈ o.gang l, k ≠ l → d.fld (CHS.STAT_FAULT k) = 7) ∧
  (∀ k ∈ o.gang l, d.flag (CHS.STAT_OUT k) = false) ∧ d.bit (BANK.TRIPS (bankOf l)) (l % 40) = true ∧
  d.flag bit = true ∧ o.reported d event args

/-- No trip of lead `l` is left (R125, R126). -/
def Device.untripped (d : Device) (l : Nat) : Prop :=
  d.fld (CHS.STAT_FAULT l) = 0 ∧ d.bit (BANK.TRIPS (bankOf l)) (l % 40) = false ∧ (d.chan l).trip = .none

/-- Every lead channel of a list, with its gang, is commanded off and off. -/
def Device.allOff (d : Device) (ls : List Nat) : Prop :=
  ∀ l ∈ ls, ∀ k ∈ d.gang l, d.flag (CHS.STAT_CMD k) = false ∧ d.flag (CHS.STAT_OUT k) = false

/-- An edge that every check of R61 passes and of which no entry is late (R77). -/
def Device.enterable (d : Device) (src : Source) (e : EdgeReq) : Prop :=
  d.check6 src e true = none ∧ d.isUnmapped e = false ∧ d.check10 src e = none ∧
  (d.isHead = true → e.ttype = 2 → src = .head) ∧ d.flag RCK.STAT_SYNC = true ∧
  ∀ a, edgeAction e = some a → ∀ l ∈ d.targets e, d.reckoning < d.feffOf l e.fire a

/-- The edge waits in the store, one entry for each lead it reaches. -/
def Device.entered (o d : Device) (src : Source) (e : EdgeReq) : Prop :=
  d.store.length = o.store.length + (o.targets e).length ∧ (∀ x ∈ o.store, x ∈ d.store) ∧
  ∀ l ∈ o.targets e, ∃ x ∈ d.store,
    x.ch = l ∧ x.seq = e.seq ∧ x.fire = e.fire ∧ x.src = src ∧ x.late = false ∧ edgeAction e = some x.act

/-- FLUSH names the entry: its channel is reached by the target, its source stands in the mask (R64, R84). -/
def Device.flushes (d : Device) (v : Nat) (e : Entry) : Bool :=
  (let idx := bitsOf v 0 10
   if bitsOf v 10 2 = 0 then e.ch == d.lead idx
   else if bitsOf v 10 2 = 1 then (d.maskLeads (d.sectMask idx)).contains e.ch
   else if bitsOf v 10 2 = 2 then (d.maskLeads (((look d.ringMap idx).map d.sectMask).getD 0)).contains e.ch
   else allChans.contains e.ch) &&
  ((e.src == .head && v.testBit 16) || (e.src == .core && v.testBit 17) || (e.src == .host && v.testBit 18)
    || (e.src == .svc && v.testBit 19))

/-- The watchdog has expired (R296): the capture, the count, the core held in reset for 100 µs, the WDX pulse. -/
def Device.expired (o : Device) (cause : Nat) (d : Device) : Prop :=
  d.flag WDT.STAT_EXPIRED = true ∧ d.rd WDT.LCAUSE = cause ∧ d.rd WDT.LEXP = o.now % 2 ^ 64 ∧
  d.rd WDT.LSVC = o.rd WDT.SVCT % 2 ^ 64 ∧ o.counted d WDT.EXPCNT ∧ d.wdt.resetTo = some (o.now + 100 * usec) ∧
  d.wdt.wdxTo = some (o.now + o.rd WDT.WDXLEN * msec)

/-! ## What commands leave alone -/

/-- Commands that may program or erase bytes of the slots, burn OTP words, or let a power collapse cut a burn
short (R326, R335, R339). -/
def mayStore : Instr → Bool
  | .powerOnReset .. | .wakeButton .. | .vbusWake .. | .scanExit .. => true
  | .otpProgram .. | .otpFinalise .. | .otpReburn .. | .otpRepair .. | .otpSession .. => true
  | .lifecmd .. | .keyRevoke .. | .updConfirm .. | .svcConfirm .. => true
  | .xdataWrite .. | .svcData .. | .transferEraseDone .. | .verifyDone | .scrubDone .. => true
  | .registerWrite .. | .twiWrite .. | .svcWrite .. | .writeRequest | .cellSend .. => true
  | _ => false

/-- Reports of the feed controllers, which run from the feeds themselves (R189). -/
def feedReport : Instr → Bool
  | .feedQualified .. | .feedQualificationLost .. | .feedUv .. | .feedOv .. | .feedInrushComplete .. | .feedInrushFail ..
  | .feedOverload .. | .feedShort .. | .feedReverse .. | .feedRetryClear .. | .feedDamageO .. | .feedDamageG ..
  | .feedRevert | .feedVerified | .feedVerifyFail .. | .feedSwitch => true
  | _ => false

/-- Commands that an unpowered helm takes. -/
def runsUnpowered (c : Instr) : Bool :=
  feedReport c || match c with
    | .powerOnReset .. | .wakeButton .. | .vbusWake .. => true
    | _ => false

/-- Commands that are, or may be, a power-on reset. -/
def mayRestart : Instr → Bool
  | .powerOnReset .. | .wakeButton .. | .vbusWake .. | .scanExit .. => true
  | _ => false

/-- The pages of the channels' status registers. -/
def chsPages : List Nat := (List.range 11).map (0x30 + ·)

/-- For the commands named, the pages of the registers they may write, the log's page RING (0x0D) among them. -/
def writtenPages : Instr → Option (List Nat)
  | .activateSuspendEnd | .clockJournal | .latencyJournal | .retryCountReset .. | .sourceForget .. | .svcPing ..
  | .svcStatus .. | .wdxEnd => some []
  | .rigEccCorrected => some [0x00]
  | .coreResetRelease => some [0x00, 0x0B]
  | .cap .. | .hyawWrite .. | .speedStale | .yawStale => some [0x01, 0x0D]
  | .clockSwitch => some [0x02, 0x07]
  | .openOff .. | .openOn .. => some [0x04, 0x0D]
  | .inrushFail .. | .overload .. | .short .. | .thermal .. | .thermalRecovery .. | .retry .. | .tripClear ..
  | .isoOpen .. | .bankDeadman .. | .bankUcodeLoad .. | .strikeRelease .. => some ([0x04, 0x0D, 0x13] ++ chsPages)
  | .latencySample .. | .peakEnd .. | .safeClear .. | .saferel .. => some (0x0D :: chsPages)
  | .feedRetryClear .. | .feedVerified | .feedClrTrip .. | .feedSelect .. => some [0x05, 0x0D]
  | .feedQualificationLost .. => some [0x05, 0x08, 0x0D]
  | .feedDamageO .. => some [0x05, 0x0D, 0x13]
  | .phaseShed .. | .prebiasWaitEnd .. | .railBrakeEnd .. | .railMaskTimeout .. | .railRampDone .. | .railSettled ..
  | .shedComplete .. | .fastAdd .. | .phaseAdd .. | .railBrake .. | .railPrebiasSample .. | .vrefWrite ..
  | .slewWrite .. => some [0x06, 0x0D]
  | .cvOc .. | .cvOv .. => some [0x06, 0x0D, 0x13]
  | .ioUv .. | .ldOc .. | .ib0vWrite .. | .ldclr .. => some [0x07, 0x0D]
  | .seqOn .. => some [0x08, 0x0D, 0x11]
  | .adcUrgent .. | .loopDelayEnd .. | .xmiss .. | .urgTagFree .. => some [0x09, 0x0A]
  | .eccCorr | .wdtClkdev .. | .wdtPrewarn => some [0x0B, 0x0D]
  | .debugHaltRelease | .debugClose .. => some [0x0B, 0x0D, 0x11]
  | .chginChange .. | .detectSample .. | .detectResult .. | .detectRepeat | .ntcSuspend .. | .ntcResume .. | .chgClr ..
  | .shipRequest .. | .shipCancel .. | .batCutoff .. | .batRemoved .. | .chargePhaseChange .. | .removalCheck ..
  | .batOv .. | .batShort .. | .batTimeout => some [0x0C, 0x0D]
  | .cellAbort .. | .cellForward .. | .echoReceive .. | .enumReportReceive | .eventReceive | .helloSend ..
  | .helloTimeout .. | .linkDegraded | .linkHelloReceive .. | .lossOfSignal .. | .pingReceive .. | .pingSend ..
  | .quietEnd | .rasmTimeout | .responseReceive | .syncAcquired .. | .syncLost .. | .transTimeout | .linkRetrain ..
  | .ringRead .. | .ringWrite .. => some [0x0D]
  | .scrub .. | .scrubStart | .wallWrite .. | .xaddrWrite .. | .xdataRead .. | .recordWrite .. | .storeRetry ..
  | .xdataWrite .. => some [0x0D, 0x0E]
  | .svcClose .. | .svcFrameDiscard | .activateReceive | .svcActivate .. | .svcOpen .. | .updActivate ..
  | .updAbort .. => some [0x0D, 0x0F]
  | .svcData .. => some [0x0E, 0x0F]
  | .verifyDone => some [0x0D, 0x0F, 0x11]
  | .otpProgram .. | .otpFinalise .. | .otpReburn .. | .otpRepair .. | .otpLockset .. => some [0x0D, 0x10]
  | .otpSession .. | .lifecmd .. | .keyRevoke .. => some [0x0D, 0x10, 0x11]
  | .wakeStart | .debugAuth .. | .pwrWake .. | .pwrRun .. => some [0x0D, 0x11]
  | .alertResponse .. | .attentionPulse .. | .twiControllerTransaction .. | .twiControllerStart .. | .busErr ..
  | .sclTimeout .. | .sdaStuck .. => some [0x0D, 0x12]
  | .bankUv .. | .bankOv .. | .counterJournal | .cntClr .. => some [0x13]
  | _ => none

end Sys2Proof.Machine
end

