-- ==== Sys2Proof/Certificates/Slice0/Obligations.lean ====
section
/-! DEFINITION. Certificates/Slice0/Obligations.lean: the statements about the model. -/
open Sys2Proof Sys2Proof.Machine

/-! ## The block -/

/-- The command at the front of the queue runs on the rest of the queue. -/
def Obligations.StepTakesFront : Prop := ∀ (s : State) (c : Instr),
  step { s with pending := c :: s.pending } = exec c s

/-- With nothing waiting, time passes: the block answers a next state, and tide does not go back (R47).
That a tick stands where the queue is empty is the model's choice (notes/assumptions/2.md). -/
def Obligations.EmptyQueueTicks : Prop := ∀ s : State, s.pending = [] →
  ∃ t, step s = .next t ∧ t.pending = [] ∧ s.dev.now ≤ t.dev.now

/-- Right after reset every register holds its Reset value, tide and reckoning are 0, the device is in KEEP and
unrigged, no STRIKE is in force, no edge is pending, and nothing waits (R25, R409). Reset meets the invariants: memory
in canonical form, every waiting command well-formed. -/
def Obligations.ResetState : Prop :=
  ((∀ r : Reg, State.reset.dev.rd r = r.reset) ∧ State.reset.dev.now = 0 ∧ State.reset.dev.reckoning = 0 ∧
   State.reset.dev.inKeep = true ∧ State.reset.dev.rigged = false ∧
   State.reset.dev.flag BANK.STRIKESTAT_ACTIVE = false ∧ State.reset.dev.store = [] ∧ State.reset.pending = []) ∧
  (State.reset.dev.memoryWf = true ∧ State.reset.queueWf = true)

/-- No run of well-formed commands stops: each step answers a next state, takes the front command from the queue,
and leaves a queue of well-formed commands. -/
def Obligations.NoStepStops : Prop := ∀ s : State, s.queueWf = true →
  ∃ t, step s = .next t ∧ t.pending = s.pending.tail ∧ t.queueWf = true

/-- Every step keeps the flash and the OTP array in canonical form. -/
def Obligations.MemoryStaysCanonical : Prop := ∀ s t : State,
  s.dev.memoryWf = true → step s = .next t → t.dev.memoryWf = true

/-- An unpowered helm (SHIP, OFF) takes no part: every command but the power-on reset, the two wake events and the
reports of the feed controllers, which run from the feeds themselves, leaves its whole state as it was, and such a
report changes the feed controllers alone (R189, R276, R277, R314). -/
def Obligations.UnpoweredTakesNoPart : Prop := ∀ (s t : State) (c : Instr), s.dev.powered = false → exec c s = .next t →
  (runsUnpowered c = false → t = s) ∧
  (feedReport c = true → t.pending = s.pending ∧ s.dev.onlyPages [0x05] t.dev ∧ t.dev = s.dev.withFeeds t.dev)

/-- A write made at Hand to a register that Hand may not write has no effect; PRIV_FAULT is logged with the
register's page and offset (R281). -/
def Obligations.HandMayNotWrite : Prop := ∀ (s : State) (c : Instr) (page off : Nat), s.dev.powered = true →
  wrightWriter c = some .hand → wrightOnly c = some (page, off) →
  Completes c s fun d => d = s.dev.log Ev.PRIV_FAULT [page, off]

/-- A command that stores nothing leaves every byte of the flash slots and every bit of the OTP array as it was. -/
def Obligations.MemoryFrame : Prop := ∀ (s t : State) (c : Instr), mayStore c = false → exec c s = .next t →
  s.dev.sameMemory t.dev

/-- Each of these commands writes registers of its own pages alone; every other register reads as before. -/
def Obligations.RegisterFrames : Prop := ∀ (s t : State) (c : Instr) (ps : List Nat), writtenPages c = some ps →
  exec c s = .next t → s.dev.onlyPages ps t.dev

/-- A burned OTP bit stays burned: whatever the command, short of a power-on reset that may cut a burn short, a bit that
reads 1 at normal margin reads 1 afterwards (R323, R326). -/
def Obligations.OtpBitsStayBurned : Prop := ∀ (s t : State) (c : Instr), mayRestart c = false → exec c s = .next t →
  ∀ p b, (s.dev.otp.phys false p).testBit b = true → (t.dev.otp.phys false p).testBit b = true

/-! ## Bank dies (R16–R19) -/

/-- Microcode that passes its check is reported good; microcode that fails holds the bank and is reported as
BANK_UCODE (R16). More than 20 µs after the last valid frame a dead-man drives every channel of the bank off, holds the
bank and logs the tide of that frame; before, there is none (R18, R19). A restart reads the trip record and releases a
held bank whose microcode passes, its channels off and commanded off, unless damage in the record isolates it; a bank
whose microcode fails stays held (R19). -/
def Obligations.BankDies : Prop :=
  (∀ (s : State) (b : BankId) (ok : Bool), s.dev.powered = true →
   s.dev.flag (BANK.STAT_HELD b) = true →
   Completes (.bankUcodeLoad b ok) s fun d =>
     d.flag (BANK.STAT_HELD b) = true ∧ (ok = true → d.flag (BANK.STAT_UCODE_OK b) = true) ∧
     (ok = false → d.flag (BANK.STAT_UCODE_OK b) = false ∧ d.flag (BANK.STAT_UCODE_FAIL b) = true ∧
       d.flag BANK.PSTAT_BANK_UCODE = true ∧ s.dev.reported d Ev.BANK_UCODE [b.val])) ∧
  (∀ (s : State) (b : BankId), s.dev.powered = true →
   s.dev.flag (BANK.STAT_HELD b) = false → s.dev.bankSupplied b = true →
   ((s.dev.bank b).validAt + 2000 < s.dev.clk → Completes (.bankDeadman b) s fun d =>
     d.flag (BANK.STAT_HELD b) = true ∧ d.flag (BANK.STAT_DEADMAN b) = true ∧ (d.bank b).cmds = [] ∧
     (∀ n ∈ bankChans b, d.flag (CHS.STAT_OUT n) = false) ∧
     s.dev.reported d Ev.BANK_DEADMAN [b.val, (s.dev.bank b).lastValid]) ∧
   (s.dev.clk ≤ (s.dev.bank b).validAt + 2000 → Completes (.bankDeadman b) s fun d => d = s.dev)) ∧
  (∀ (s : State) (b : BankId) (ok : Bool), s.dev.powered = true →
   s.dev.flag (BANK.STAT_HELD b) = true → s.dev.flag (BANK.STAT_ISO b) = false → (s.dev.bank b).iso = .none →
   (s.dev.bank b).enabled = true → s.dev.bankSupplied b = true →
   Completes (.bankRestart b ok) s fun d =>
     (ok = true → (∀ t ∈ (s.dev.bank b).tripRec, t.2.1 ≠ 5) →
       d.flag (BANK.STAT_HELD b) = false ∧ d.flag (BANK.STAT_UCODE_OK b) = true ∧ (d.bank b).tripRec = [] ∧
       d.allOff (d.bankLeads b)) ∧
     (ok = false → d.flag (BANK.STAT_HELD b) = true ∧ d.flag (BANK.STAT_UCODE_FAIL b) = true))

/-- A frame with a right CRC and the next count brings the queued commands to the bank and dates the dead-man: an OFF
turns its channel off, and an ON turns a STATIC channel that may conduct on. Any other frame is counted as an error and
leaves the commands waiting (R17, R93). A frame that ends 21.63 µs after the last valid one finds the bank tripped
(R18). -/
def Obligations.LinkFrames : Prop := ∀ (s : State) (b : BankId) (crcOk : Bool) (count : BitVec 4)
  (clamped : List ChanId), s.dev.powered = true → (s.dev.bank b).link = true →
  (∀ n ∈ clamped, bankOf n.val = b.val) →
  (s.dev.clk ≤ (s.dev.bank b).validAt + 2163 →
    (crcOk = true → (∀ c ∈ (s.dev.bank b).count, (c + 1) % 16 = count.toNat) →
      Completes (.linkFrame b crcOk count clamped) s fun d =>
        (d.bank b).cmds = [] ∧ (d.bank b).lastValid = s.dev.now ∧ (d.bank b).validAt = s.dev.clk ∧
        (d.bank b).count = some count.toNat ∧ d.rd (BANK.LINKERR b) = s.dev.rd (BANK.LINKERR b) ∧
        (s.dev.flag (BANK.STAT_HELD b) = false →
          (∀ n f c, (s.dev.bank b).cmds = [⟨n, false, f, c⟩] → d.flag (CHS.STAT_OUT n) = false) ∧
          (∀ n f c, (s.dev.bank b).cmds = [⟨n, true, f, c⟩] → s.dev.fld (CH.CFG_MODE n) = 0 →
            s.dev.mayConduct n = true → d.flag (CHS.STAT_OUT n) = true))) ∧
    ((crcOk = false ∨ ∃ c, (s.dev.bank b).count = some c ∧ (c + 1) % 16 ≠ count.toNat) →
      Completes (.linkFrame b crcOk count clamped) s fun d =>
        d.bank b = s.dev.bank b ∧ s.dev.counted d (BANK.LINKERR b))) ∧
  ((s.dev.bank b).validAt + 2163 < s.dev.clk → s.dev.flag (BANK.STAT_HELD b) = false →
    s.dev.bankSupplied b = true → Completes (.linkFrame b crcOk count clamped) s fun d =>
      d.flag (BANK.STAT_HELD b) = true ∧ d.flag (BANK.STAT_DEADMAN b) = true)

/-! ## Edges (R54–R79) -/

/-- An edge that passes the checks of R61 before its marks are reached waits as one entry for each lead channel it
reaches, and the window, or the return code to firmware, says accepted (R58, R60, R62, R66). An edge that one of checks
1 to 6 refuses leaves no entry, is counted, and its code stands in the window, or is the return code (R61). -/
def Obligations.EdgesEntered : Prop :=
  (∀ (s : State) (w : Writer) (v : BitVec 8), s.dev.powered = true → s.dev.admits w →
   let d := s.dev.setFld ⟨EDGE.WIN, 120, 8⟩ v.toNat
   let e := edgeReq (d.rd EDGE.WIN)
   (d.enterable (writerSource w) e →
     Completes (.edgeSubmit w v) s fun d' => d.entered d' (writerSource w) e ∧ d'.fld EDGE.WRES_CODE = 0) ∧
   (∀ c : Code, (d.isHead = true → e.ttype = 2 → w = .ring) → d.check6 (writerSource w) e true = some c →
     Completes (.edgeSubmit w v) s fun d' =>
       d'.store = s.dev.store ∧ d'.fld EDGE.WRES_CODE = c.num ∧
       d'.rd EDGE.CNTREF = (s.dev.rd EDGE.CNTREF + 1) % 2 ^ EDGE.CNTREF.width)) ∧
  (∀ (s : State) (hand : Bool) (x : EdgeBits), s.dev.powered = true →
   let e := edgeReq x.toNat
   (s.dev.enterable .core e → Completes (.coreEdge hand x) s fun d' => s.dev.entered d' .core e ∧
     d'.coreRes = some { code := 0, entries := (s.dev.targets e).length, nlate := 0, worst := 0 }) ∧
   (∀ c : Code, (s.dev.isHead = true → e.ttype ≠ 2) → s.dev.check6 .core e true = some c →
     Completes (.coreEdge hand x) s fun d' => d'.store = s.dev.store ∧
       d'.coreRes = some { code := c.num, entries := 0, nlate := 0, worst := 0 } ∧
       d'.rd EDGE.CNTREF = (s.dev.rd EDGE.CNTREF + 1) % 2 ^ EDGE.CNTREF.width))

/-- A scan in RUN leaves no reached mark behind: with SYNC set, no entry of a lead channel whose bank is not held
still waits once reckoning has reached its effective fire mark (R19, R50, R70). -/
def Obligations.ScanReachesEveryMark : Prop := ∀ s : State, s.dev.powered = true → s.dev.inRun = true →
  s.dev.flag RCK.STAT_SYNC = true →
  Completes .edgeScan s fun d => ∀ e ∈ d.store, e.ch ∈ s.dev.leads →
    s.dev.flag (BANK.STAT_HELD (bankOf e.ch)) = false → s.dev.reckoning < e.feff

/-- FLUSH takes from the store exactly the entries that it names, and counts them (R64). -/
def Obligations.FlushDiscards : Prop := ∀ (s : State) (w : Writer) (v : BitVec 32), s.dev.powered = true →
  s.dev.admits w →
  Completes (.edgeFlush w v) s fun d =>
    d.store = s.dev.store.filter (fun e => !s.dev.flushes v.toNat e) ∧
    (s.dev.store.filter (s.dev.flushes v.toNat) ≠ [] →
      d.rd EDGE.CNTDISC = (s.dev.rd EDGE.CNTDISC + (s.dev.store.filter (s.dev.flushes v.toNat)).length) % 2 ^ EDGE.CNTDISC.width)

/-! ## Channels (R86–R112) -/

/-- At a slot start a waiting MODE takes effect, and a commanded PWM channel that may conduct begins its period: on
for its ticks, on throughout, or not at all; a first pulse that still runs is extended, never shortened (R88, R91–R94).
TPEAK after the turn-on the gang goes from its peak phase to its hold phase, which chops (R95). SAFE is cleared by a 1
in its channel's STAT, and for every channel at once by SAFEREL.ALL, but for a bit that hardware sets in the same
cycle; neither changes the commanded state or the output (R6, R111). -/
def Obligations.ChannelDrive : Prop :=
  (∀ (s : State) (n : ChanId), s.dev.powered = true →
   (s.dev.isLead n = true → s.dev.slotNow n = true →
     (∀ m, (s.dev.chan n).pendMode = some m →
       Completes (.slotStart n) s fun d => d.fld (CH.CFG_MODE n) = m % 16 ∧ (d.chan n).pendMode = none) ∧
     ((s.dev.chan n).pendMode = none → s.dev.fld (CH.CFG_MODE n) = 1 → s.dev.flag (CHS.STAT_CMD n) = true →
       s.dev.mayConduct n = true → (s.dev.chan n).bankOn = true →
       ((s.dev.chan n).firstPulse = false → Completes (.slotStart n) s fun d =>
         (s.dev.onTimeOf n = .nothing → d.flag (CHS.STAT_OUT n) = false) ∧
         (s.dev.onTimeOf n = .throughout → d.flag (CHS.STAT_OUT n) = true ∧ (d.chan n).pulse = none) ∧
         (∀ t, s.dev.onTimeOf n = .ticks t → d.flag (CHS.STAT_OUT n) = true ∧ (d.chan n).pulse = some t)) ∧
       (∀ r t, (s.dev.chan n).firstPulse = true → s.dev.flag (CHS.STAT_OUT n) = true → (s.dev.chan n).pulse = some r →
         s.dev.onTimeOf n = .ticks t → Completes (.slotStart n) s fun d =>
           d.flag (CHS.STAT_OUT n) = true ∧ (d.chan n).pulse = some (max r t)))) ∧
   (let l := s.dev.lead n
    s.dev.flag (CHS.STAT_PEAK l) = true → (s.dev.chan l).onAt + s.dev.fld (CH.LIM_TPEAK l) * 10000 ≤ s.dev.clk →
     Completes (.peakEnd n) s fun d => (d.chan l).chop = true ∧
       ∀ k ∈ s.dev.gang l, d.flag (CHS.STAT_PEAK k) = false)) ∧
  (∀ (s : State) (w : Writer), s.dev.powered = true → s.dev.admits w → s.dev.safeHeld = false →
   let same := fun (n : ChanId) (d : Device) => d.flag (CHS.STAT_CMD n) = s.dev.flag (CHS.STAT_CMD n) ∧
     d.flag (CHS.STAT_OUT n) = s.dev.flag (CHS.STAT_OUT n)
   (∀ (n : ChanId) (v : BitVec 16), v.getLsbD 2 = true →
     ((s.dev.freshBits (CHS.STAT n)).testBit 2 = false → Completes (.safeClear w n v) s fun d =>
       d.flag (CHS.STAT_SAFE n) = false ∧ same n d) ∧
     ((s.dev.freshBits (CHS.STAT n)).testBit 2 = true → Completes (.safeClear w n v) s fun d =>
       d.flag (CHS.STAT_SAFE n) = s.dev.flag (CHS.STAT_SAFE n) ∧ same n d)) ∧
   (∀ v : BitVec 8, v.getLsbD 0 = true → (∀ n : ChanId, (s.dev.freshBits (CHS.STAT n)).testBit 2 = false) →
     Completes (.saferel w v) s fun d => ∀ n : ChanId, d.flag (CHS.STAT_SAFE n) = false ∧ same n d))

/-- A cusp inside its window moves the learned latency by an eighth of the difference, within the rigged bounds;
an eighth miss in succession sets the unlearned flag and restores the rigged latency (R106–R108). The number that the
event gives the action is the model's (notes/assumptions/77.md). -/
def Obligations.LatencyLearns : Prop := ∀ (s : State) (n : ChanId) (on : Bool) (cusp : Option Nat) (t0 : Nat),
  let c := s.dev.chan n
  let x := s.dev.learnOf n on
  let lo := (if on then c.lminOn else c.lminOff) * 100
  let hi := (if on then c.lmaxOn else c.lmaxOff) * 100
  s.dev.powered = true → c.search = some (on, t0) → t0 + 2 * hi ≤ s.dev.now →
  s.dev.flag (unlField n on) = false →
  (∀ v, cusp = some v → v < 2 * hi → Completes (.latencySample n on cusp) s fun d =>
    (d.chan n).search = none ∧ (d.learnOf n on).fails = 0 ∧
    (d.learnOf n on).lat = clamp lo hi (roundDiv (8 * (x.lat : Int) + ((v : Int) - x.lat)) 8).toNat) ∧
  ((cusp = none ∨ ∃ v, cusp = some v ∧ 2 * hi ≤ v) → 7 ≤ x.fails →
    Completes (.latencySample n on cusp) s fun d =>
      d.flag (unlField n on) = true ∧ (d.learnOf n on).lat = (if on then c.ldefOn else c.ldefOff) * 100 ∧
      s.dev.reported d Ev.LATENCY_UNLEARNED [n.val, actionCode on])

/-! ## Channel protection (R116–R132) -/

/-- Each cause trips a channel that conducts and is not tripped: INRUSH_FAIL where the end of its window finds it at the
inrush limit, OVERLOAD when its fault timer reaches TFLT outside the window, in the modes that do not regulate, SHORT
on any member of a gang at its own threshold, THERMAL at 165 °C while the die is supplied. The gang goes off, FAULT
holds the cause, and it is reported (R118–R123). -/
def Obligations.ChannelTrips : Prop := ∀ (s : State) (n : ChanId) (i : BitVec 16),
  let l := s.dev.lead n
  s.dev.powered = true → s.dev.bankLive (bankOf n) → s.dev.fld (CHS.STAT_FAULT l) = 0 →
  (∀ t, s.dev.isLead n = true → s.dev.out n = true → s.dev.fld (CH.CFG_MODE n) ≤ 1 → (s.dev.chan n).inrush = some t →
    t + s.dev.fld (CH.PROT_TINR n) * msec ≤ s.dev.clk → s.dev.clk < t + bankLate (s.dev.fld (CH.PROT_TINR n) * msec) →
    limitLow (50 * s.dev.fld (CH.PROT_IINR n) * (s.dev.gang n).length) ≤ i.toNat →
    Completes (.inrushFail n i) s fun d => s.dev.tripped d l 1 BANK.PSTAT_INRUSH_FAIL Ev.INRUSH_FAIL [l, 1, i.toNat, n]) ∧
  (s.dev.isLead n = true → s.dev.out n = true → s.dev.fld (CH.CFG_MODE n) ≤ 1 → s.dev.inInrush n = false →
    100 * s.dev.fld (CH.PROT_TFLT n) ≤ (s.dev.chan n).ftmr →
    Completes (.overload n i) s fun d => s.dev.tripped d l 2 BANK.PSTAT_OVERLOAD Ev.OVERLOAD [l, 2, i.toNat, n]) ∧
  (s.dev.out n = true → shortLow (s.dev.shortLimit n) ≤ i.toNat →
    Completes (.short n i) s fun d => s.dev.tripped d l 3 BANK.PSTAT_SHORT Ev.SHORT [l, 3, i.toNat, n]) ∧
  (∀ temp, s.dev.bankSupplied (bankOf n) = true → 165 ≤ temp →
    Completes (.thermal n i temp) s fun d =>
      s.dev.tripped d l 4 BANK.PSTAT_THERMAL Ev.THERMAL [l, 4, i.toNat, n] ∧ (d.chan n).hot = true)

/-- A 1 in TRIPS clears the trip of its channel, with its hold and retries, and leaves it commanded off; at a retry
instant a commanded channel turns on again; a second without a trip resets the count; a clear, or else a retry, that a
THERMAL trip held back is carried out when the sensors have cooled (R121, R125, R126). -/
def Obligations.TripsEnd : Prop := ∀ s : State, s.dev.powered = true →
  (∀ (w : Writer) (b : BankId) (v : BitVec 64) (i : Fin 40), s.dev.admits w → v.getLsbD i = true →
    (s.dev.freshBits (BANK.TRIPS b)).testBit i = false →
    let l := 40 * b.val + i.val
    (s.dev.chan l).trip ≠ .none → s.dev.gangHot l = false →
    Completes (.tripClear w b v) s fun d =>
      d.untripped l ∧ d.flag (CHS.STAT_CMD l) = false ∧ (d.chan l).retries = 0) ∧
  (∀ n : ChanId, (s.dev.chan n).trip = .waiting → s.dev.gangHot n = false →
    (s.dev.chan n).tripAt + s.dev.rd BANK.RETRYBASE * msec * 2 ^ (s.dev.chan n).retries ≤ s.dev.clk →
    s.dev.flag BANK.STRIKESTAT_ACTIVE = false → s.dev.flag (BANK.STAT_HELD (bankOf n)) = false →
    Completes (.retry n) s fun d =>
      d.untripped n ∧ (d.chan n).watch = s.dev.flag (CHS.STAT_CMD n) ∧
      (d.chan n).retries = (if s.dev.flag (CHS.STAT_CMD n) then (s.dev.chan n).retries + 1 else 0) ∧
      (s.dev.flag (CHS.STAT_CMD n) = true → s.dev.fld (CH.CFG_MODE n) = 0 → s.dev.inRun = true →
        s.dev.groupOpen n = true → s.dev.flag RING.RSTAT_BYPASS = false → d.flag (CHS.STAT_OUT n) = true)) ∧
  (∀ n : ChanId, (s.dev.chan n).watch = true → (s.dev.chan n).retryAt + second ≤ s.dev.clk →
    Completes (.retryCountReset n) s fun d => (d.chan n).watch = false ∧ (d.chan n).retries = 0) ∧
  (∀ (n : ChanId) (temp : Nat), temp < 150 →
    let l := s.dev.lead n
    (∀ k ∈ s.dev.gang l, k ≠ n.val → (s.dev.chan k).hot = false) →
    ((s.dev.chan l).clearPend = true → (s.dev.chan l).trip ≠ .none →
      Completes (.thermalRecovery n temp) s fun d => (d.chan n).hot = false ∧ d.untripped l) ∧
    ((s.dev.chan l).clearPend = false → (s.dev.chan l).retryPend = true → (s.dev.chan l).trip = .waiting →
      s.dev.retryDue l = true → s.dev.otherHold l = false →
      Completes (.thermalRecovery n temp) s fun d => (d.chan n).hot = false ∧ d.untripped l))

/-- Open loads are reported and change no output: OPEN_OFF on a channel that has been off for 5 ms before its sense
voltage stays at 1.5 V or more for 10 ms, OPEN_ON on one that is commanded on and whose current stays below the
undercurrent threshold for 20 ms, or in 8 pulses (R127, R128). Recognised damage latches without retry, and with
DREACT = 1 the bank is isolated where an isolator is fitted: method O by 2 ms of sense voltage with the output off,
method G when the 200 µs timer of a turn-on finds the gate short of its threshold (R129–R131). -/
def Obligations.OpenLoadsAndDamage : Prop :=
  (∀ (s : State) (n : ChanId), s.dev.powered = true →
   (∀ (vmeas : BitVec 16) held vbus, s.dev.flag (CH.PROT_OLOFF n) = true → s.dev.bankSupplied (bankOf n) = true →
     s.dev.out n = false → (s.dev.chan n).offAt + 5 * msec + held ≤ s.dev.clk → 10 * msec ≤ held →
     750 ≤ vmeas.toInt → 600 ≤ vbus → vbus ≤ 3200 →
     Completes (.openOff n vmeas held vbus) s fun d =>
       d.bit (BANK.OPEN (bankOf n)) (n.val % 40) = true ∧ d.flag BANK.PSTAT_OPEN_OFF = true ∧
       s.dev.reported d Ev.OPEN_OFF [n.val] ∧ ∀ k : ChanId, d.out k = s.dev.out k) ∧
   (∀ u : Undercurrent, s.dev.flag (CH.PROT_OLON n) = true → s.dev.isLead n = true →
     s.dev.flag (CHS.STAT_CMD n) = true → s.dev.mayConduct n = true →
     (∀ i held, u = .level i held → i < s.dev.ucLimit n ∧ 20 * msec ≤ held ∧ s.dev.fld (CH.CFG_MODE n) = 0 ∧
       s.dev.out n = true ∧ (s.dev.chan n).onAt + 5 * msec + held ≤ s.dev.clk) →
     (∀ is, u = .pulses is → is.length = 8 ∧ (∀ i ∈ is, i < s.dev.ucLimit n) ∧ s.dev.fld (CH.CFG_MODE n) = 1 ∧
       8 ≤ (s.dev.chan n).pulses) →
     Completes (.openOn n u) s fun d =>
       d.bit (BANK.OPEN (bankOf n)) (n.val % 40) = true ∧ d.flag BANK.PSTAT_OPEN_ON = true ∧
       s.dev.reported d Ev.OPEN_ON [n.val] ∧ ∀ k : ChanId, d.out k = s.dev.out k)) ∧
  (∀ (s : State) (n : ChanId),
   let l := s.dev.lead n
   let m := bankOf n
   let latched := fun (d : Device) => d.fld (CHS.STAT_FAULT l) = 5 ∧ (d.chan l).trip = .latched ∧
     (∀ k ∈ s.dev.gang l, d.flag (CHS.STAT_OUT k) = false) ∧
     (s.dev.flag (CH.PROT_DREACT l) = true → s.dev.flag (BANK.STAT_NOISO m) = false → (s.dev.bank m).iso = .none →
       s.dev.flag (BANK.STAT_ISO m) = false → d.flag (BANK.STAT_HELD m) = true ∧ (d.bank m).isoGate = false)
   s.dev.powered = true → s.dev.bankLive m → s.dev.fld (CHS.STAT_FAULT l) = 0 →
   (∀ (vmeas : BitVec 16) (vbus held : Nat), s.dev.fld (CH.PROT_DMG n) % 2 = 1 → s.dev.isLead n = true →
     s.dev.bankSupplied m = true → s.dev.out n = false → (s.dev.chan n).offAt + held ≤ s.dev.clk → 2 * msec ≤ held →
     5 * (vbus : Int) < 2 * vmeas.toInt → Completes (.damageO n vmeas vbus held) s latched) ∧
   (∀ t, s.dev.fld (CH.PROT_DMG l) / 2 = 1 → s.dev.out n = true → (s.dev.chan l).dispatch = some t →
     t + 20000 ≤ s.dev.clk → s.dev.clk < t + bankLate 20000 → Completes (.damageG n) s latched))

/-- OPEN isolates a bank: its channels off, the bank held, its gate off, and once that is verified STAT.ISO set; a
bank without an isolator is held and marked at once. CLOSE restarts an isolated bank, or is refused while a DAMAGE
trip is latched (R23, R131, R132). -/
def Obligations.BankIsolation : Prop := ∀ (s : State) (b : BankId), s.dev.powered = true →
  (∀ w, s.dev.admits w → s.dev.flag (BANK.STAT_ISO b) = false → (s.dev.bank b).iso = .none →
    Completes (.isoOpen w b) s fun d => d.flag (BANK.STAT_HELD b) = true ∧
      (∀ n ∈ bankChans b, d.flag (CHS.STAT_OUT n) = false) ∧
      (if s.dev.flag (BANK.STAT_NOISO b) then d.flag (BANK.STAT_ISO b) = true ∧ s.dev.reported d Ev.ISO_OPENED [b.val, 1]
       else (d.bank b).iso = .opening true ∧ (d.bank b).isoGate = false)) ∧
  (∀ fault off, (s.dev.bank b).iso = .opening fault → (s.dev.bank b).closePend = none →
    Completes (.isoVerify b off) s fun d => d.flag (BANK.STAT_ISO b) = true ∧ (d.bank b).iso = .none ∧
      (off = false → d.flag (BANK.STAT_ISO_FAIL b) = true ∧ s.dev.reported d Ev.ISO_FAIL [b.val]) ∧
      (fault = true → s.dev.reported d Ev.ISO_OPENED [b.val, 0])) ∧
  (∀ w ok, s.dev.admits w → (s.dev.bank b).iso = .none → s.dev.flag (BANK.STAT_ISO b) = true →
    (s.dev.bank b).link = true →
    (s.dev.flag (BANK.STAT_NOISO b) = false → s.dev.bankDamaged b = true →
      Completes (.isoClose w b ok) s fun d => d.flag (BANK.STAT_ISO b) = true ∧
        d.flag (BANK.STAT_ISO_REFUSED b) = true ∧ s.dev.reported d Ev.ISO_REFUSED [b.val]) ∧
    (s.dev.bankDamaged b = false → (∀ t ∈ (s.dev.bank b).tripRec, t.2.1 ≠ 5) → ok = true →
      Completes (.isoClose w b ok) s fun d => d.flag (BANK.STAT_ISO b) = false ∧
        d.flag (BANK.STAT_HELD b) = false ∧ d.allOff (d.bankLeads b)))

/-! ## STRIKE (R133–R137) -/

/-- STRIKE_N falling, or a write of ASSERT, sets ACTIVE and its source, dates and counts the assertion, logs it, and
turns every channel off and commanded off; a further source of the same cycle sets its bit and is not counted again.
STRIKE_N rising only ends the low level (R133, R134). RELEASE clears ACTIVE and leaves every channel off and commanded
off; while STRIKE_N is low it has no effect but RELREF, and an assertion of the same cycle prevails (R124, R135). -/
def Obligations.Strike : Prop :=
  (∀ s : State, s.dev.powered = true →
   (s.dev.struckNow = false → s.dev.flag BANK.STRIKESTAT_ACTIVE = false →
     (s.dev.flag BANK.STRIKESTAT_PIN = false → Completes (.strikePin true) s fun d =>
       d.flag BANK.STRIKESTAT_PIN = true ∧ d.flag BANK.STRIKESTAT_ACTIVE = true ∧
       d.flag BANK.STRIKESTAT_SRC_PIN = true ∧ d.rd BANK.STRIKETIDE = s.dev.now % 2 ^ 64 ∧
       s.dev.counted d BANK.STRIKECNT ∧ s.dev.reported d Ev.STRIKE [0] ∧ d.allOff d.leads) ∧
     (∀ w, s.dev.admits w → Completes (.strikeAssert w) s fun d =>
       d.flag BANK.STRIKESTAT_ACTIVE = true ∧ d.flag BANK.STRIKESTAT_SRC_REG = true ∧
       d.rd BANK.STRIKETIDE = s.dev.now % 2 ^ 64 ∧ s.dev.counted d BANK.STRIKECNT ∧
       s.dev.reported d Ev.STRIKE [1] ∧ d.allOff d.leads)) ∧
   (∀ w, s.dev.admits w → s.dev.struckNow = true → Completes (.strikeAssert w) s fun d =>
     d.flag BANK.STRIKESTAT_SRC_REG = true ∧ d.rd BANK.STRIKECNT = s.dev.rd BANK.STRIKECNT ∧
     d.flag BANK.STRIKESTAT_ACTIVE = s.dev.flag BANK.STRIKESTAT_ACTIVE) ∧
   Completes (.strikePin false) s fun d =>
     d.flag BANK.STRIKESTAT_PIN = false ∧
     d.flag BANK.STRIKESTAT_ACTIVE = s.dev.flag BANK.STRIKESTAT_ACTIVE) ∧
  (∀ (s : State) (w : Writer), s.dev.powered = true → s.dev.admits w →
   (s.dev.flag BANK.STRIKESTAT_PIN = true → Completes (.strikeRelease w) s fun d =>
     d.flag BANK.STRIKESTAT_RELREF = true ∧
     d.flag BANK.STRIKESTAT_ACTIVE = s.dev.flag BANK.STRIKESTAT_ACTIVE ∧
     ∀ n : ChanId, d.rd (CHS.STAT n) = s.dev.rd (CHS.STAT n)) ∧
   (s.dev.flag BANK.STRIKESTAT_PIN = false → s.dev.struckNow = true → Completes (.strikeRelease w) s fun d =>
     d.flag BANK.STRIKESTAT_ACTIVE = s.dev.flag BANK.STRIKESTAT_ACTIVE) ∧
   (s.dev.flag BANK.STRIKESTAT_PIN = false → s.dev.struckNow = false → s.dev.flag BANK.STRIKESTAT_ACTIVE = true →
     Completes (.strikeRelease w) s fun d => d.flag BANK.STRIKESTAT_ACTIVE = false ∧ d.allOff d.leads))

/-! ## Reckoning and tide (R31–R52) -/

/-- An accepted encoder count moves its counter by one; a pulse shorter than the filter time is ignored, and an illegal
step counts no distance (R31, R32). Where the encoder counts for the source in use, a forward count advances the head's
count position, or the shadow position of a standby, by its distance less what it pays back of the deficit; with
REVMODE = 1 it clears the deficit and advances by all of it. A backward count adds to reverse travel and to the deficit,
advances nothing; no backward count moves reckoning or fires an edge (R41, R42). The same of an accepted RADAR edge, whose direction is HDIR's or the
encoders' (R33, R35). -/
def Obligations.CountedDistance : Prop := ∀ s : State, s.dev.powered = true →
  let holds := fun (d : Device) => d.reckoning = s.dev.reckoning ∧ d.store = s.dev.store
  let counts := fun (dist : Nat) (fwd : Bool) (d : Device) =>
    let paid := min s.dev.rck.revDef dist
    let adv := if s.dev.flag RCK.CFG_REVMODE then dist else dist - paid
    (fwd = true → d.rck.rev = s.dev.rck.rev ∧
      d.rck.revDef = (if s.dev.flag RCK.CFG_REVMODE then 0 else s.dev.rck.revDef - paid) ∧
      d.rck.pos = (if s.dev.isHead then s.dev.rck.pos + adv else s.dev.rck.pos) ∧
      d.rck.pOwn = (if s.dev.isHead then s.dev.rck.pOwn else s.dev.rck.pOwn + adv)) ∧
    (fwd = false → d.rck.pos = s.dev.rck.pos ∧ d.rck.pOwn = s.dev.rck.pOwn ∧
      d.rck.rev = (s.dev.rck.rev + dist) % 2 ^ 72 ∧ d.rck.revDef = s.dev.rck.revDef + dist)
  (∀ (e : Fin 2) (step : EncStep) (stable : Nat),
   let fwd := (step == .aLeadsB) != s.dev.flag RCK.CFG_ENCSIDE
   (stable < s.dev.encFilter e → Completes (.encoderCount e step stable) s fun d => d = s.dev) ∧
   (s.dev.encFilter e ≤ stable →
     (step = .illegal → Completes (.encoderCount e step stable) s fun d =>
       d.rck = s.dev.rck ∧ s.dev.counted d RCK.ILLCNT ∧ d.flag RCK.STAT_ENC_ILLEGAL = true ∧
       s.dev.reported d Ev.ENC_ILLEGAL [e.val]) ∧
     (step ≠ .illegal → Completes (.encoderCount e step stable) s fun d =>
       let cnt := if e = 0 then RCK.CNT0 else RCK.CNT1
       d.rd cnt = unsigned 32 ((s.dev.rd cnt : Int) + (if fwd then 1 else -1)) ∧ d.rck.encFwd = fwd ∧
       (fwd = false → holds d) ∧ ∀ dist, s.dev.encDist e = some dist → s.dev.counting = true → s.dev.rck.srcLost = false → counts dist fwd d))) ∧
  (∀ stable : Nat,
   let fwd := if s.dev.flag RCK.CFG_RADDIR then !s.dev.flag RCK.HDIR_REVERSE else s.dev.rck.encFwd
   (stable < s.dev.fld RCK.FILT_TFR → Completes (.radarPulse stable) s fun d => d = s.dev) ∧
   (s.dev.fld RCK.FILT_TFR ≤ stable → Completes (.radarPulse stable) s fun d =>
     d.rd RCK.CNTR = (s.dev.rd RCK.CNTR + 1) % 2 ^ RCK.CNTR.width ∧ (fwd = false → holds d) ∧
     (s.dev.rck.src = .radar → s.dev.counting = true → s.dev.rck.srcLost = false →
       counts (s.dev.rd RCK.KRAD * 256) fwd d)))

/-- The host's writes of speed, direction and yaw stand in their registers; where the host is the rigged source they
take effect and end their staleness. CAP copies both counters on one tick (R37, R44, R45). -/
def Obligations.HostReckoningWrites : Prop := ∀ (s : State) (w : Writer), s.dev.powered = true → s.dev.admits w →
  (∀ v : BitVec 32, Completes (.hspeedWrite w v) s fun d => d.rd RCK.HSPEED = v.toNat ∧
    (s.dev.hostSource = true → s.dev.rigged = true → d.rck.hspeedAt = some s.dev.now ∧ d.rck.src = .host ∧
      d.rck.vEst = v.toNat ∧ d.rck.srcLost = false ∧ d.flag RCK.STAT_SPEED_STALE = false)) ∧
  (∀ v : BitVec 8, Completes (.hdirWrite w v) s fun d => d.flag RCK.HDIR_REVERSE = v.getLsbD 0 ∧
    (s.dev.rck.src = .host → s.dev.isHead = true → d.rck.fwd = !v.getLsbD 0)) ∧
  (∀ v : BitVec 32, Completes (.hyawWrite w v) s fun d => d.rd RCK.HYAW = v.toNat ∧
    (s.dev.fld RCK.CFG_YAWSRC = 2 → s.dev.rigged = true →
      d.flag RCK.STAT_YAW_STALE = false ∧ d.rck.hyawAt = some s.dev.now)) ∧
  (∀ v : BitVec 8, v.getLsbD 0 = true → Completes (.cap w v) s fun d =>
    d.rd RCK.CAPRECK = s.dev.reckoning % 2 ^ RCK.CAPRECK.width ∧ d.rd RCK.CAPTIDE = s.dev.now % 2 ^ RCK.CAPTIDE.width)

/-- HTO without a write of speed or yaw makes it stale, HTO + FLYTO loses the host source: the fallback takes over, or
the head holds reckoning. An encoder that stays silent for 500 ms while the other wheel indicates 1 km/h has failed:
the mean goes on with the other one, and another source gives way to its fallback. SRCRST restores a failed encoder
that has counted again; STANDSTILL is set on the head when its speed reads 0 (R36, R37, R39, R44). -/
def Obligations.SourcesStaleAndLost : Prop := ∀ s : State, s.dev.powered = true →
  (s.dev.hostSource = true ∨ s.dev.rck.src = .host →
    s.dev.past s.dev.rck.hspeedAt (s.dev.rd RCK.HTO * msec) = true →
    s.dev.flag RCK.STAT_SPEED_STALE = false → Completes .speedStale s fun d =>
      d.flag RCK.STAT_SPEED_STALE = true ∧ s.dev.reported d Ev.SPEED_STALE [] ∧ d.rck = s.dev.rck) ∧
  (s.dev.fld RCK.CFG_YAWSRC = 2 → s.dev.past s.dev.rck.hyawAt (s.dev.rd RCK.HTO * msec) = true →
    s.dev.flag RCK.STAT_YAW_STALE = false → Completes .yawStale s fun d =>
      d.flag RCK.STAT_YAW_STALE = true ∧ s.dev.reported d Ev.YAW_STALE [] ∧ d.rck = s.dev.rck) ∧
  (s.dev.rck.src = .host → s.dev.rck.srcLost = false →
    s.dev.past s.dev.rck.hspeedAt ((s.dev.rd RCK.HTO + s.dev.rd RCK.FLYTO) * msec) = true →
    Completes .srcLost s fun d => d.flag RCK.STAT_SRC_FAIL = true ∧ s.dev.reported d Ev.SRC_FAIL [4] ∧
      (s.dev.fld RCK.CFG_FALLBK < 4 → d.rck.src = sourceOf (s.dev.fld RCK.CFG_FALLBK)) ∧
      (4 ≤ s.dev.fld RCK.CFG_FALLBK → d.rck.srcLost = true ∧
        (s.dev.isHead = true → d.rck.holding = true ∧ d.rd RCK.RATE = 0))) ∧
  (∀ (e : Fin 2) (t : Nat), s.dev.rigged = true → s.dev.rck.failed ≠ some e → s.dev.silentFrom e = some t →
    t + 500 * msec ≤ s.dev.now →
    Completes (.srcFail e) s fun d => d.flag RCK.STAT_SRC_FAIL = true ∧ d.rck.failed = some e ∧
      d.rck.resumed = false ∧ s.dev.reported d Ev.SRC_FAIL [e.val] ∧
      (s.dev.rck.srcLost = false →
        (s.dev.rck.src = .mean → 4 < s.dev.fld RCK.CFG_FALLBK → d.rck.src = .solo (if e = 0 then 1 else 0)) ∧
        (s.dev.rck.src = .enc e → s.dev.fld RCK.CFG_FALLBK ≤ 4 → sourceOf (s.dev.fld RCK.CFG_FALLBK) ≠ .enc e →
          d.rck.src = sourceOf (s.dev.fld RCK.CFG_FALLBK)) ∧
        (s.dev.rck.src = .enc e → 4 < s.dev.fld RCK.CFG_FALLBK → d.rck.srcLost = true))) ∧
  (∀ (w : Writer) (v : BitVec 8), s.dev.admits w → v.getLsbD 0 = true → s.dev.rck.failed ≠ none →
    s.dev.rck.resumed = true → Completes (.srcrst w v) s fun d => d.rck.failed = none ∧
      (s.dev.hostSource = false → d.rck.src = sourceOf (s.dev.fld RCK.CFG_SRC) ∧ d.rck.srcLost = false)) ∧
  (s.dev.isHead = true → s.dev.speedNow = 0 → Completes .standstill s fun d =>
    d.flag RCK.STAT_STANDSTILL = true)

/-- The head sends a beacon when it falls due. A device discards a stale one, and a member follows a good one that
comes in time: its epoch and head stand in their registers, FLYWHEEL clears and tide is locked; a higher epoch deposes
a head (R46, R48, R49, R51, R52, R167). A missing beacon makes a member flywheel, and the fourth in succession makes a
standby the head under the next epoch, unless an activation suspends it. When the flywheel limit runs out SYNC is lost,
reckoning holds and the edge store is emptied (R49, R51, R52, R63, R383). -/
def Obligations.Beacons : Prop :=
  (∀ s : State, s.dev.powered = true →
   (s.dev.isHead = true → s.dev.rck.due ≤ s.dev.now → Completes .beaconSend s fun d =>
     d.rck.due = s.dev.rck.due + 25000 ∧
     (s.dev.maySend .beacon [] = true → ∃ m ∈ d.ring.txq, m.msg.type = .beacon ∧ m.paid = 0)) ∧
   (∀ m d0, s.dev.onTime = true → s.dev.takeMsg .beacon = some (m, d0) → s.dev.rd RCK.AMAX * usec ≤ m.age →
     Completes .beaconReceive s fun d => d.ring.inbox = s.dev.ring.inbox.erase m ∧ d.rck = s.dev.rck ∧
       s.dev.counted d RCK.STALECNT ∧ d.flag RCK.STAT_BEACON_STALE = true) ∧
   (∀ m d0, s.dev.onTime = true → s.dev.takeMsg .beacon = some (m, d0) → m.age < s.dev.rd RCK.AMAX * usec →
     let epoch := fieldAt m.data 2 2
     let follows := fun (d : Device) => d.ring.inbox = s.dev.ring.inbox.erase m ∧ d.rd RCK.EPOCH = epoch ∧
       d.fld RCK.HEAD_ADDR = m.addr % 4096 ∧ d.flag RCK.STAT_FLYWHEEL = false ∧
       d.flag RCK.STAT_TIDE_LOCK = true ∧ d.flag RCK.STAT_STANDSTILL = (byteAt m.data 4).testBit 1
     (s.dev.isHead = false → s.dev.rd RCK.EPOCH ≤ epoch → Completes .beaconReceive s follows) ∧
     (s.dev.isHead = true → s.dev.rd RCK.EPOCH < epoch → Completes .beaconReceive s fun d => follows d ∧
       d.isHead = false ∧ d.flag RCK.STAT_HEAD_DEPOSED = true))) ∧
  (∀ s : State, s.dev.powered = true → s.dev.flag RCK.STAT_TIDE_LOCK = true →
   (s.dev.isHead = false →
     s.dev.rck.tL + (s.dev.rck.missing + 1) * 25000 + s.dev.rd RCK.AMAX * usec ≤ s.dev.now →
     ((s.dev.isStandby = false ∨ s.dev.rck.missing < 3 ∨ s.dev.suspended = true) →
       Completes .beaconMissing s fun d =>
         d.flag RCK.STAT_FLYWHEEL = true ∧ d.rck.missing = s.dev.rck.missing + 1 ∧ d.isHead = false) ∧
     (s.dev.isStandby = true → 3 ≤ s.dev.rck.missing → s.dev.suspended = false → Completes .beaconMissing s fun d =>
       d.isHead = true ∧ d.rd RCK.EPOCH = (s.dev.rd RCK.EPOCH + 1) % 2 ^ RCK.EPOCH.width ∧
       d.flag RCK.STAT_HEAD_TAKEOVER = true ∧ s.dev.reportedCode d Ev.HEAD_TAKEOVER)) ∧
   (s.dev.flag RCK.STAT_FLYWHEEL = true → s.dev.suspended = false →
     s.dev.rck.tRecv + s.dev.rd RCK.FLYTO * msec ≤ s.dev.now → Completes .beaconLoss s fun d =>
       d.flag RCK.STAT_BEACON_LOSS = true ∧ d.flag RCK.STAT_SYNC = false ∧ d.flag RCK.STAT_TIDE_LOCK = false ∧
       d.rd RCK.RATE = 0 ∧ d.rck.holding = true ∧ d.store = [] ∧ s.dev.reported d Ev.BEACON_LOSS []))

/-! ## Stayline (R141–R187) -/

/-- Loss of sync, loss of signal, silence for 1 ms, or a forced retrain takes a port that trains or is UP to DOWN,
counts it, and breaks the ring; all but the retrain report LINK_DOWN (R144, R158, R160, R162). Sync takes an enabled
port that is DOWN into training; a HELLO leaves when it falls due and the port is free for it, and one received gives
the peer; three without RXOK in succession take the port DOWN (R152, R158, R160, R161). -/
def Obligations.PortStates : Prop :=
  (∀ (s : State) (p : Port), s.dev.powered = true →
   (s.dev.portState p = portSync ∨ s.dev.portState p = portUp) →
   let down := fun (d : Device) => d.portState p = portDown ∧ s.dev.counted d (RING.DOWNCNT (PortIx p)) ∧
     d.flag RING.LSTAT_RING_BREAK = true ∧ s.dev.reported d Ev.RING_BREAK [PortIx p]
   let told := fun (d : Device) => d.flag (RING.PSTAT_LINK_DOWN (PortIx p)) = true ∧
     s.dev.reported d Ev.LINK_DOWN [PortIx p]
   (∀ plus gs violations, loses plus gs = true → Completes (.syncLost p plus gs violations) s fun d =>
     down d ∧ told d ∧
     d.rd (RING.CVCNT (PortIx p)) = (s.dev.rd (RING.CVCNT (PortIx p)) + violations) % 2 ^ 32) ∧
   Completes (.lossOfSignal p) s (fun d => down d ∧ told d) ∧
   ((s.dev.port p).helloRx + msec ≤ s.dev.now → Completes (.helloTimeout p) s fun d => down d ∧ told d) ∧
   (∀ (w : Writer) (v : BitVec 8), s.dev.admits w → v.getLsbD (PortIx p) = true →
     Completes (.linkRetrain w v) s down)) ∧
  (∀ (s : State) (p : Port), s.dev.powered = true →
   (∀ plus gs, s.dev.portState p = portDown → s.dev.rck.pll = true → s.dev.portEnabled p = true →
     acquires plus gs = true → Completes (.syncAcquired p plus gs) s fun d =>
       d.portState p = portSync ∧ (d.port p).helloRx = s.dev.now ∧ (d.port p).linkq = []) ∧
   (∀ incoming, (s.dev.portState p = portSync ∨ s.dev.isUp p = true) →
     (s.dev.port p).helloTx + (if s.dev.isUp p then 25000 else 1000) ≤ s.dev.now →
     (s.dev.port p).linkq.find? (s.dev.linkReady p) = none →
     (s.dev.ownTurn p incoming = true → Completes (.helloSend p incoming) s fun d =>
       (d.port p).helloTx = s.dev.now ∧
       d.rd (RING.TXCELLS (PortIx p)) = (s.dev.rd (RING.TXCELLS (PortIx p)) + 1) % 2 ^ 32) ∧
     (s.dev.ownTurn p incoming = false → Completes (.helloSend p incoming) s fun d =>
       (d.port p).linkq = (s.dev.port p).linkq ++ [.hello])) ∧
   (∀ ok pp a lo hi rest, (s.dev.port p).rx = .hello ok pp a lo hi :: rest →
     (ok = true → Completes (.linkHelloReceive p) s fun d =>
       (d.port p).rx = rest ∧ (d.port p).helloRx = s.dev.now ∧ (d.port p).badRx = 0 ∧
       d.flag (RING.PSTAT_PEERRX (PortIx p)) = true ∧ d.fld (RING.PEER_ADDR (PortIx p)) = a % 4096) ∧
     (ok = false → (s.dev.port p).badRx < 2 → Completes (.linkHelloReceive p) s fun d =>
       (d.port p).rx = rest ∧ (d.port p).helloRx = s.dev.now ∧ (d.port p).badRx = (s.dev.port p).badRx + 1 ∧
       d.flag (RING.PSTAT_PEERRX (PortIx p)) = false ∧ d.portState p = s.dev.portState p) ∧
     (ok = false → 2 ≤ (s.dev.port p).badRx → (s.dev.portState p = portSync ∨ s.dev.isUp p = true) →
       Completes (.linkHelloReceive p) s fun d => d.portState p = portDown)))

/-- A PING that falls due on a port that is free for it leaves with its number and takes its send tide, once a HELLO
with RXOK has come; a PING received draws its ECHO, at once or as soon as the port is free. An ECHO gives one result;
the sixteenth of a round whose results agree takes a training port UP (R152, R158, R159). -/
def Obligations.PortsMeasure : Prop := ∀ (s : State) (p : Port), s.dev.powered = true →
  let sent := fun (d : Device) => d.rd (RING.TXCELLS (PortIx p)) = (s.dev.rd (RING.TXCELLS (PortIx p)) + 1) % 2 ^ 32
  (∀ incoming, (s.dev.isUp p = true ∨ (s.dev.portState p = portSync ∧ (s.dev.port p).helloOk = true)) →
    s.dev.pingDue p ≤ s.dev.now → s.dev.ownTurn p incoming = true →
    (s.dev.port p).linkq.find? (s.dev.linkReady p) = none → Completes (.pingSend p incoming) s fun d =>
      sent d ∧ (d.port p).pingT1 = some s.dev.now ∧ (d.port p).pingOut = some (s.dev.port p).results.length) ∧
  (∀ incoming n t2 rest, (s.dev.port p).rx = .ping n t2 :: rest →
    (s.dev.port p).linkq.find? (s.dev.linkReady p) = none → (s.dev.port p).linkq.contains (.echo n t2) = false →
    (s.dev.ownTurn p incoming = true → s.dev.linkReady p (.echo n t2) = true →
      Completes (.pingReceive p incoming) s fun d =>
        sent d ∧ (d.port p).rx = rest ∧ (d.port p).linkq = (s.dev.port p).linkq ∧ (d.port p).pingAt = s.dev.now) ∧
    (s.dev.ownTurn p incoming = false ∨ s.dev.linkReady p (.echo n t2) = false →
      Completes (.pingReceive p incoming) s fun d =>
        (d.port p).rx = rest ∧ (d.port p).linkq = (s.dev.port p).linkq ++ [.echo n t2])) ∧
  (∀ n hold t4 t1 rest, (s.dev.port p).rx = .echo n hold t4 :: rest → (s.dev.port p).pingT1 = some t1 →
    (s.dev.port p).pingOut = some n →
    let rs := ((t4 : Int) - t1 - hold) :: (s.dev.port p).results
    (rs.length < 16 → Completes (.echoReceive p) s fun d => (d.port p).results = rs ∧ (d.port p).rx = rest) ∧
    (16 ≤ rs.length → s.dev.portState p = portSync → (∀ x ∈ rs, ∀ y ∈ rs, x - y ≤ 8) →
      Completes (.echoReceive p) s fun d => d.isUp p = true ∧ d.flag (RING.PSTAT_LINK_UP (PortIx p)) = true ∧
        s.dev.reportedCode d Ev.LINK_UP ∧ d.rd (RING.LDLY (PortIx p)) = unsigned 16 (roundDiv (rs.foldl (· + ·) 0) 32)))

/-- Every code violation counts, and every cell received without one is counted once: one that ends early or is not
well-formed with the CRC errors, a stomped one, or a good one; only a good one can be delivered (R147, R149, R150,
R161). That an early end counts there is the model's choice (notes/assumptions/36.md). A rise of the CRC count above
DEGTHR in the last second is reported once, and one that is not above it ends DEGRADED. -/
def Obligations.CellsCounted : Prop := ∀ (s : State) (p : Port), s.dev.powered = true →
  (s.dev.portState p = portSync ∨ s.dev.isUp p = true →
    ∀ (c : CellBits) (a : Arrival), startsCell c = true →
    let f := cellFields c.toNat
    let up := fun (d : Device) (r : Reg) => d.rd r = (s.dev.rd r + 1) % 2 ^ r.width ∧
      d.rd (RING.CVCNT (PortIx p)) = (s.dev.rd (RING.CVCNT (PortIx p)) + (a.violations + a.outside)) % 2 ^ 32
    (a.violations ≠ 0 → Completes (.cellReceive p c a) s fun d =>
      d.rd (RING.CVCNT (PortIx p)) = (s.dev.rd (RING.CVCNT (PortIx p)) + (a.violations + a.outside)) % 2 ^ 32 ∧
      d.rd (RING.RXCELLS (PortIx p)) = s.dev.rd (RING.RXCELLS (PortIx p)) ∧ d.ring.inbox = s.dev.ring.inbox) ∧
    (a.violations = 0 → a.missing ≠ 0 → Completes (.cellReceive p c a) s fun d =>
      up d (RING.CRCCNT (PortIx p)) ∧ d.ring.inbox = s.dev.ring.inbox) ∧
    (a.violations = 0 → a.missing = 0 →
      (f.crc = f.crcCalc ^^^ 0xFFFF → Completes (.cellReceive p c a) s fun d =>
        up d (RING.STOMPCNT (PortIx p)) ∧ d.ring.inbox = s.dev.ring.inbox) ∧
      (f.crc ≠ f.crcCalc ^^^ 0xFFFF → (f.crc ≠ f.crcCalc ∨ ¬(f.link = true ↔ f.type = 0)) →
        Completes (.cellReceive p c a) s fun d =>
          up d (RING.CRCCNT (PortIx p)) ∧ d.ring.inbox = s.dev.ring.inbox) ∧
      (f.crc = f.crcCalc → (f.link = true ↔ f.type = 0) →
        Completes (.cellReceive p c a) s fun d => up d (RING.RXCELLS (PortIx p))))) ∧
  (s.dev.ring.degSec < s.dev.ring.second →
    (s.dev.fld RING.LCFG_DEGTHR < (s.dev.port p).crcRise →
      s.dev.flag (RING.PSTAT_DEGRADED (PortIx p)) = false → Completes .linkDegraded s fun d =>
        d.flag (RING.PSTAT_DEGRADED (PortIx p)) = true ∧ d.flag (RING.PSTAT_LINK_DEGRADED (PortIx p)) = true ∧
        s.dev.reported d Ev.LINK_DEGRADED [PortIx p, (s.dev.port p).crcRise] ∧ d.ring.degSec = s.dev.ring.second) ∧
    ((s.dev.port p).crcRise ≤ s.dev.fld RING.LCFG_DEGTHR → Completes .linkDegraded s fun d =>
      d.flag (RING.PSTAT_DEGRADED (PortIx p)) = false ∧ d.ring.degSec = s.dev.ring.second))

/-- A cell of another device passes to the other port with one hop more and a sound CRC where it came with one; at the
hop limit it is counted and only an aborted copy leaves; one's own is taken off the ring and counted, and one that
carries another serial is a conflict. An aborted cell is counted; its copy is dropped, or cut short where it has begun
(R149, R150, R151, R178). At a cell boundary an own STRIKE goes before what is being forwarded, a forwarded STRIKE
before every other forwarded cell, and a forwarded cell before every other own cell; then LINK cells, then the device's
own messages, of which one whose ports are UP sends its next segment where the budget lets it (R148, R152, R183, R185).
That LINK cells go before messages is the model's choice (notes/assumptions/78.md). -/
def Obligations.CellsForwarded : Prop :=
  (∀ (s : State) (p : Port), s.dev.powered = true →
   let q := otherPort p
   (∀ (c : CellBits) (delay : Nat), s.dev.upFor p decideTicks = true → startsCell c = true →
     let f := cellFields c.toNat
     f.link = false →
     (s.dev.ownSrc f.src = true → Completes (.cellForward p c delay) s fun d =>
       d.rd RING.OWNRM = (s.dev.rd RING.OWNRM + 1) % 2 ^ RING.OWNRM.width ∧ (d.port q).fwd = (s.dev.port q).fwd ∧
       (f.src = s.dev.addr → s.dev.foreignSerial f = true → d.flag RING.RSTAT_CONFLICT = true)) ∧
     (s.dev.ownSrc f.src = false → s.dev.isUp q = true →
       (f.hop + 1 < s.dev.rd RING.HOPLIM → Completes (.cellForward p c delay) s fun d =>
         let copy := s.dev.copyOf p c delay
         (d.port q).fwd = (s.dev.port q).fwd ++ [{ cell := copy, live := some delay }] ∧
         (cellFields copy.toNat).hop = (f.hop + 1) % 4096 ∧
         (f.crc = f.crcCalc → (cellFields copy.toNat).crc = (cellFields copy.toNat).crcCalc)) ∧
       (s.dev.rd RING.HOPLIM ≤ f.hop + 1 → Completes (.cellForward p c delay) s fun d =>
         d.rd RING.HLIMCNT = (s.dev.rd RING.HLIMCNT + 1) % 2 ^ RING.HLIMCNT.width ∧
         (d.port q).fwd = (s.dev.port q).fwd ++ [{ cell := 0 }]))) ∧
   (s.dev.portState p = portSync ∨ s.dev.isUp p = true → Completes (.cellAbort p) s fun d =>
     s.dev.counted d (RING.ABORTCNT (PortIx p)) ∧
     (d.port q).fwd = (s.dev.port q).fwd.filter (fun e => e.live.isNone) ∧
     ((s.dev.port q).outLive ≠ none → (d.port q).out = 0 ∧ (d.port q).outLive = none))) ∧
  (∀ (s : State) (p : Port) (incoming : Bool), s.dev.powered = true →
   let x := s.dev.port p
   let sent := fun (d : Device) => d.rd (RING.TXCELLS (PortIx p)) = (s.dev.rd (RING.TXCELLS (PortIx p)) + 1) % 2 ^ 32
   (∀ o, (s.dev.portState p = portSync ∨ s.dev.isUp p = true) → s.dev.ownTurn p incoming = true →
     x.linkq.find? (s.dev.linkReady p) = some o → Completes (.cellSend p incoming) s fun d =>
       sent d ∧ (d.port p).linkq = x.linkq.erase o) ∧
   (s.dev.isUp p = true → s.dev.ring.evq = [] →
     (∀ e, s.dev.ring.txq.all (fun m => m.msg.type != .strike) = true → x.freeAt ≤ s.dev.clk + 32 →
       (x.fwd.find? (fun y => isStrikeCell y.cell) = some e ∨
         (x.fwd.find? (fun y => isStrikeCell y.cell) = none ∧ x.fwd.head? = some e)) →
       Completes (.cellSend p incoming) s fun d => sent d ∧ (d.port p).out = e.cell ∧ (d.port p).fwd = x.fwd.erase e) ∧
     (∀ m, s.dev.ring.txq = [m] → m.msg.type = .strike → m.seg p = some 0 → m.undecided = false → m.ahead p = 0 →
       s.dev.maySend .strike m.msg.data = true → s.dev.flag RING.LSTAT_QUIET = false → x.freeAt ≤ s.dev.clk →
       Completes (.cellSend p incoming) s fun d => sent d ∧ (d.port p).fwd = x.fwd ∧ ∀ y ∈ d.ring.txq, y.seg p = none) ∧
     (∀ m k, s.dev.ring.txq = [m] → m.msg.type ≠ .strike → m.msg.type ≠ .write → m.seg p = some k →
       m.undecided = false → s.dev.maySend m.msg.type m.msg.data = true → s.dev.flag RING.LSTAT_QUIET = false →
       (m.fresh p = false ∨ s.dev.budgetLeft = true) → s.dev.ownTurn p incoming = true →
       x.linkq.find? (s.dev.linkReady p) = none → Completes (.cellSend p incoming) s fun d => sent d ∧
         ∀ y ∈ d.ring.txq, y.seg p = if k + 1 < segCount (msgBytes m.msg) then some (k + 1) else none)))

/-- The oldest EDGE message enters its edge as the head's, two edges one after the other; a STRIKE message asserts
where RINGRX is 1 and does nothing else where it is 0; the head logs a member's event with its source (R169, R173,
R174). Partial messages leave after 2 ms and are counted; 40 ms without a cell forgets a source and the response kept
for it; the quiet time ends after its period (R155, R157, R171). -/
def Obligations.MessagesDelivered : Prop :=
  (∀ (s : State) (m : Msg) (d0 : Device), s.dev.powered = true →
   (s.dev.takeMsg .edge = some (m, d0) →
     let e1 := edgeReq (fieldAt m.data 1 16)
     let e2 := edgeReq (fieldAt m.data 17 16)
     let d1 := (d0.submit .head (fieldAt m.data 1 16)).1
     d0.enterable .head e1 →
     (byteAt m.data 0 = 1 → Completes .edgeCellReceive s fun d => d0.entered d .head e1 ∧
       d.ring.inbox = s.dev.ring.inbox.erase m) ∧
     (byteAt m.data 0 = 2 → d1.enterable .head e2 → Completes .edgeCellReceive s fun d =>
       d0.entered d1 .head e1 ∧ d1.entered d .head e2)) ∧
   (s.dev.takeMsg .strike = some (m, d0) →
     (s.dev.flag BANK.STRIKECFG_RINGRX = true → Completes .strikeCellReceive s fun d =>
       (s.dev.struckNow = false → d.flag BANK.STRIKESTAT_ACTIVE = true ∧ s.dev.reportedCode d Ev.STRIKE) ∧
       d.flag BANK.STRIKESTAT_SRC_RING = true) ∧
     (s.dev.flag BANK.STRIKECFG_RINGRX = false → Completes .strikeCellReceive s fun d => d = d0)) ∧
   (s.dev.takeMsg .event = some (m, d0) → s.dev.isHead = true → Completes .eventReceive s fun d =>
     d.events = s.dev.events ++ [{ code := fieldAt m.data 0 2, tide := fieldAt m.data 2 8, orig := m.addr
                                   raw := some (fieldAt m.data 10 8) }] ∧
     d.rd RING.EVCNT = (s.dev.rd RING.EVCNT + 1) % 2 ^ RING.EVCNT.width)) ∧
  (∀ s : State, s.dev.powered = true →
   (∀ x ∈ s.dev.ring.parts, x.since + 2 * msec ≤ s.dev.now → Completes .rasmTimeout s fun d =>
     d.ring.parts = s.dev.ring.parts.filter (fun y => decide (s.dev.now < y.since + 2 * msec)) ∧
     d.rd RING.RASMTO = (s.dev.rd RING.RASMTO +
       (s.dev.ring.parts.filter (fun y => decide (y.since + 2 * msec ≤ s.dev.now))).length) % 2 ^ RING.RASMTO.width) ∧
   (∀ (src : BitVec 12) x, s.dev.srcRec src.toNat = some x → x.lastCell + 40 * msec ≤ s.dev.clk →
     Completes (.sourceForget src) s fun d => d.srcRec src.toNat = none ∧ ∀ k ∈ d.ring.kept, k.src ≠ src.toNat) ∧
   (s.dev.flag RING.LSTAT_QUIET = true → s.dev.ring.quietTo ≤ s.dev.clk →
     Completes .quietEnd s fun d => d.flag RING.LSTAT_QUIET = false))

/-- Firmware that runs answers a READ and a WRITE in order OK and keeps the answer; out of range they are refused; a
repeated request draws the answer kept; a WRITE that does not come from the head changes no register but its count, and
a READ of all devices has no answer. While no firmware runs they wait (R170–R172, R312). A write of TCTL starts a
transaction, or is turned away by name; a response with its TID ends it with its status and fills TDATA; TTO without
one repeats it, and after TRETRY repeats abandons it (R171, R172, R187). -/
def Obligations.Transactions : Prop :=
  (∀ (s : State), s.dev.powered = true → s.dev.coreRuns = false →
   Completes .readRequest s (fun d => d = s.dev) ∧ Completes .writeRequest s (fun d => d = s.dev)) ∧
  (∀ (s : State) (m : Msg) (d0 : Device), s.dev.powered = true → s.dev.coreRuns = true →
   let tid := byteAt m.data 0
   let kept := fun (d : Device) (write : Bool) (st : Nat) => ∃ k ∈ d.ring.kept,
     k.src = m.addr ∧ k.tid = tid ∧ k.write = write ∧ byteAt k.resp 0 = tid ∧ byteAt k.resp 1 = st
   (m.bcast = false →
     (s.dev.takeMsg .read = some (m, d0) →
       (d0.keptFor m = none → Completes .readRequest s fun d => kept d false (if requestOk m then 0 else 3)) ∧
       (∀ k, d0.keptFor m = some k → Completes .readRequest s fun d => k ∈ d.ring.kept ∧
         ∀ r : Reg, d.rd r = s.dev.rd r)) ∧
     (s.dev.takeMsg .write = some (m, d0) →
       (m.addr = s.dev.fld RCK.HEAD_ADDR →
         (d0.keptFor m = none → Completes .writeRequest s fun d => kept d true (if requestOk m then 0 else 3)) ∧
         (∀ k, d0.keptFor m = some k → Completes .writeRequest s fun d => k ∈ d.ring.kept ∧
           ∀ r : Reg, d.rd r = s.dev.rd r)) ∧
       (m.addr ≠ s.dev.fld RCK.HEAD_ADDR → Completes .writeRequest s fun d => kept d true 2 ∧
         s.dev.counted d RING.NOTHEADCNT ∧ ∀ r : Reg, r.addr ≠ RING.NOTHEADCNT.addr → d.rd r = s.dev.rd r))) ∧
   (m.bcast = true → s.dev.takeMsg .read = some (m, d0) → Completes .readRequest s fun d => d = d0)) ∧
  (∀ s : State, s.dev.powered = true →
   let dst := s.dev.rd RING.TDST % 4096
   let free := s.dev.flag RING.TRES_BUSY = false
   let may := s.dev.addr ≠ 0 ∧ s.dev.flag RING.RSTAT_BYPASS = false ∧ s.dev.flag RING.RSTAT_CONFLICT = false
   let refused := fun (st : Nat) (d : Device) => d.fld RING.TRES_STATUS = st ∧ d.ring.trans = s.dev.ring.trans
   let begun := fun (write : Bool) (d : Device) => d.flag RING.TRES_BUSY = true ∧
     ∃ t ∈ d.ring.trans, t.dst = dst ∧ t.write = write ∧ t.tries = 0 ∧ t.queued = s.dev.now ∧ t.sent = none
   (∀ w, s.dev.admits w → free → may → dst ≠ 0 → dst ≠ 0xFFF →
     Completes (.ringRead w) s (begun false) ∧ Completes (.ringWrite w) s (begun true)) ∧
   (∀ w, s.dev.admits w → free → may → dst = 0xFFF →
     Completes (.ringRead w) s (refused 3) ∧ Completes (.ringWrite w) s (refused 0)) ∧
   (∀ w, s.dev.admits w → free → ¬may → Completes (.ringRead w) s (refused 5) ∧ Completes (.ringWrite w) s (refused 5)) ∧
   (∀ m d0 t, s.dev.takeMsg .response = some (m, d0) →
     s.dev.ring.trans.find? (fun x => x.dst == m.addr && x.tid == byteAt m.data 0) = some t →
     Completes .responseReceive s fun d =>
       (∀ x ∈ d.ring.trans, x.dst ≠ m.addr) ∧ d.flag RING.TRES_BUSY = false ∧
       d.fld RING.TRES_STATUS = byteAt m.data 1 % 16 ∧
       (t.write = false → byteAt m.data 1 = 0 →
         d.fld ⟨RING.TDATA, 0, 8 * min 32 (byteAt m.data 2)⟩ = fieldAt m.data 4 (min 32 (byteAt m.data 2)))) ∧
   (∀ t, s.dev.ring.trans.find? s.dev.transLate = some t →
     (t.tries < s.dev.rd RING.TRETRY → Completes .transTimeout s fun d =>
       { t with tries := t.tries + 1, queued := s.dev.now, sent := none } ∈ d.ring.trans) ∧
     (s.dev.rd RING.TRETRY ≤ t.tries → Completes .transTimeout s fun d =>
       (∀ x ∈ d.ring.trans, x.dst ≠ t.dst) ∧ d.fld RING.TRES_STATUS = 1 ∧ d.flag RING.TRES_BUSY = false ∧
       d.flag RING.RSTAT_TRANS_TIMEOUT = true ∧ s.dev.counted d RING.TTOCNT ∧ s.dev.reported d Ev.TRANS_TIMEOUT [t.dst])))

/-- The head queries when a query falls due; a member reports under the query's number; the head's table takes the
report; the head window gives the role (R177, R179, R418). -/
def Obligations.Enumeration : Prop := ∀ s : State, s.dev.powered = true →
  (s.dev.isHead = true → (s.dev.ring.queryPend = true ∨ s.dev.ring.lastQuery + s.dev.rd RING.ENUMP * 100 * msec ≤ s.dev.now) →
    Completes .enumQuerySend s fun d => d.ring.queryNum = (s.dev.ring.queryNum + 1) % 2 ^ 16 ∧
      d.ring.lastQuery = s.dev.now ∧ d.ring.queryPend = false ∧
      (s.dev.maySend .enum [0] = true → ∃ x ∈ d.ring.txq, x.msg.type = .enum ∧ byteAt x.msg.data 0 = 0 ∧
        fieldAt x.msg.data 1 2 = d.ring.queryNum)) ∧
  (∀ m d0, s.dev.takeEnum false = some (m, d0) → s.dev.isHead = false → s.dev.addr ≠ 0 →
    s.dev.flag RING.RSTAT_CONFLICT = false → Completes .enumQueryReceive s fun d =>
      ∃ x ∈ d.ring.txq, x.msg.type = .enum ∧ x.msg.addr = m.addr ∧ byteAt x.msg.data 0 = 1 ∧
        fieldAt x.msg.data 1 2 = fieldAt m.data 1 2) ∧
  (∀ m d0, s.dev.takeEnum true = some (m, d0) → s.dev.isHead = true → Completes .enumReportReceive s fun d =>
    ringEntryOf m s.dev.ring.queryNum ∈ d.ring.table ∧
    (s.dev.ring.table.any (fun e => e.addr == m.addr) = false →
      d.flag RING.RSTAT_DEV_NEW = true ∧ s.dev.reported d Ev.DEV_NEW [m.addr])) ∧
  (∀ t, s.dev.ring.window = some t → t + 2 * msec ≤ s.dev.now → s.dev.ring.windowDone = false →
    s.dev.rigged = true →
    (s.dev.fld RING.CFG_ROLE = 1 → s.dev.ring.heard = false → Completes .headWindowEnd s fun d =>
      d.isHead = true ∧ d.rd RCK.EPOCH = (s.dev.rd RCK.EPOCH + 1) % 2 ^ RCK.EPOCH.width ∧ d.ring.queryPend = true) ∧
    (s.dev.fld RING.CFG_ROLE = 1 → s.dev.ring.heard = true → Completes .headWindowEnd s fun d =>
      d.ring.wantStandby = true ∧ d.isHead = s.dev.isHead) ∧
    (s.dev.fld RING.CFG_ROLE = 2 → Completes .headWindowEnd s fun d => d.isStandby = true))

/-! ## Feeds (R188–R207) -/

/-- A feed qualifies when VIN has lain in its window for QUAL ms and leaves it outside; its inrush completes when VBUS
has come within 0.5 V of VIN and it is not at its limit (R191, R193, R194). Undervoltage and overvoltage of a feed that
is on, as long as the filter asks, are reported, counted and end its qualification (R191, R202). A feed qualifies the
same while the helm has no supply, and the next tick then turns on the preferred usable feed, or else the other one
(R189, R201). -/
def Obligations.FeedsQualify : Prop :=
  (∀ (s : State) (f : FeedId) (vin : BitVec 16) (held : Nat), s.dev.feedQual f = false →
   s.dev.inWindow f vin.toNat = true → s.dev.fld (FEED.FCFG_QUAL (FeedIx f)) * msec ≤ held →
   (s.dev.feed f).lostAt + held ≤ s.dev.feedClk → Completes (.feedQualified f vin held) s fun d =>
     d.feedQual f = true ∧ d.rd (FEED.VIN (FeedIx f)) = vin.toNat ∧ (d.feed f).qualAt = s.dev.feedClk) ∧
  (∀ s : State, s.dev.powered = false → s.pending = [] → s.dev.activeFeed = none →
   s.dev.flag FEED.STAT_SWITCHING = false →
   let on := fun (f : FeedId) => ∃ t, step s = .next t ∧ t.dev.feedOn f = true ∧ t.dev.activeFeed = some f ∧
     t.dev.flag (FEED.FSTAT_INRUSH (FeedIx f)) = true
   (s.dev.usable s.dev.priFeed = true → on s.dev.priFeed) ∧
   (s.dev.usable s.dev.priFeed = false → s.dev.usable (otherFeed s.dev.priFeed) = true → on (otherFeed s.dev.priFeed))) ∧
  (∀ (s : State) (f : FeedId) (vin vbus : BitVec 16), s.dev.powered = true →
   (s.dev.inWindow f vin.toNat = false → Completes (.feedQualificationLost f vin) s fun d =>
     d.feedQual f = false ∧ d.rd (FEED.VIN (FeedIx f)) = vin.toNat ∧ d.feedOn f = s.dev.feedOn f) ∧
   (s.dev.feedOn f = true → s.dev.flag (FEED.FSTAT_INRUSH (FeedIx f)) = true → s.dev.feedClk < s.dev.inrushEnd f →
     s.dev.flag (FEED.FSTAT_LIMIT (FeedIx f)) = false → vin.toNat ≤ vbus.toNat + 50 → vbus.toNat < vin.toNat + 50 →
     Completes (.feedInrushComplete f vin vbus) s fun d =>
       d.flag (FEED.FSTAT_INRUSH (FeedIx f)) = false ∧ (d.feed f).good = true ∧ d.rd FEED.VBUS = vbus.toNat)) ∧
  (∀ (s : State) (f : FeedId) (vin : BitVec 16) (held : Nat), s.dev.powered = true → s.dev.feedLive f = true →
   s.dev.rd (FEED.FILT (FeedIx f)) * usec ≤ held →
   (vin.toNat < s.dev.rd (FEED.UV (FeedIx f)) → Completes (.feedUv f vin held) s fun d =>
     d.flag (FEED.FSTAT_FEED_UV (FeedIx f)) = true ∧ d.feedQual f = false ∧
     s.dev.reported d Ev.FEED_UV [FeedIx f, vin.toNat] ∧ s.dev.counted d (CNT.UV (4 + FeedIx f))) ∧
   (s.dev.rd (FEED.OV (FeedIx f)) ≤ vin.toNat → Completes (.feedOv f vin held) s fun d =>
     d.flag (FEED.FSTAT_FEED_OV (FeedIx f)) = true ∧ d.feedQual f = false ∧ d.feedOn f = false ∧
     s.dev.reported d Ev.FEED_OV [FeedIx f, vin.toNat] ∧ s.dev.counted d (CNT.OV (4 + FeedIx f))))

/-- A feed whose inrush window ends before its inrush is complete, whose fault timer reaches TFLT, or whose shunt shows
twice the active limit, turns off and latches the trip; a reverse current turns it off without a trip; a latched trip
ends by CLR.TRIP, or with RETRY = 1 after a second (R193, R196–R198). Damage of a feed's FETs, as methods O and G
recognise it, is reported and counted, and with DREACT = 1 takes the feed out of service; method G also turns it off
(R199, R200). -/
def Obligations.FeedTrips : Prop :=
  (∀ (s : State) (f : FeedId) (i : Int), s.dev.powered = true →
   let ix := FeedIx f
   let tripped := fun (bit : Field) (ev : Nat) (d : Device) => d.flag bit = true ∧
     s.dev.reported d ev [ix, s.dev.shuntAmps f i] ∧ d.feedOn f = false ∧ (d.feed f).tripped = true ∧
     d.flag (FEED.FSTAT_LATCHED ix) = true ∧ d.flag (FEED.FSTAT_AVAIL ix) = false ∧ d.feedQual f = false ∧
     s.dev.counted d (CNT.OC (4 + ix)) ∧ s.dev.counted d (CNT.TRIP (4 + ix))
   (s.dev.feedOn f = true → s.dev.flag (FEED.FSTAT_INRUSH ix) = true → s.dev.inrushEnd f ≤ s.dev.feedClk →
     Completes (.feedInrushFail f i) s (tripped (FEED.FSTAT_FEED_INRUSH_FAIL ix) Ev.FEED_INRUSH_FAIL)) ∧
   (s.dev.feedOn f = true → s.dev.flag (FEED.FSTAT_INRUSH ix) = false →
     s.dev.fld (FEED.FCFG_TFLT ix) * msec ≤ (s.dev.feed f).ftmr →
     Completes (.feedOverload f i) s (tripped (FEED.FSTAT_FEED_OVERLOAD ix) Ev.FEED_OVERLOAD)) ∧
   (s.dev.feedLive f = true →
     (2 * (s.dev.shuntLimit f : Int) ≤ i →
       Completes (.feedShort f i) s (tripped (FEED.FSTAT_FEED_SHORT ix) Ev.FEED_SHORT)) ∧
     (i ≤ -500 → (∀ x, s.dev.switch = some x → x.again = none) →
       Completes (.feedReverse f i) s fun d => d.flag (FEED.FSTAT_FEED_REVERSE ix) = true ∧ d.feedOn f = false ∧
         (d.feed f).tripped = (s.dev.feed f).tripped)) ∧
   (s.dev.flag (FEED.FCFG_RETRY ix) = true → (s.dev.feed f).tripped = true →
     (s.dev.feed f).tripAt + second ≤ s.dev.feedClk → Completes (.feedRetryClear f) s fun d =>
       (d.feed f).tripped = false ∧ d.flag (FEED.FSTAT_LATCHED ix) = (s.dev.feed f).outOfService ∧
       d.feedQual f = false) ∧
   (∀ (w : Writer) (v : BitVec 8), s.dev.admits w → v.getLsbD 0 = true →
     ((s.dev.feed f).tripped = true ∨ (s.dev.feed f).outOfService = true) → Completes (.feedClrTrip w f v) s fun d =>
       (d.feed f).tripped = false ∧ (d.feed f).outOfService = false ∧ d.flag (FEED.FSTAT_LATCHED ix) = false ∧
       d.flag (FEED.FSTAT_AVAIL ix) = true)) ∧
  (∀ (s : State) (f : FeedId), s.dev.powered = true →
   let ix := FeedIx f
   let known := fun (bit : Field) (ev : Nat) (d : Device) => d.flag bit = true ∧ s.dev.reported d ev [ix] ∧
     s.dev.counted d (CNT.TRIP (4 + ix)) ∧ (s.dev.flag (FEED.FCFG_DREACT ix) = true →
       (d.feed f).outOfService = true ∧ d.flag (FEED.FSTAT_AVAIL ix) = false)
   (∀ (src vbus : BitVec 16) held, (s.dev.fld (FEED.FCFG_DMG ix)).testBit 0 = true → s.dev.feedOn f = false →
     vbus.toNat < 2 * src.toNat → 2 * msec ≤ held → (s.dev.feed f).offAt + held ≤ s.dev.feedClk →
     Completes (.feedDamageO f src vbus held) s (known (FEED.FSTAT_FEED_DAMAGE_O ix) Ev.FEED_DAMAGE_O)) ∧
   (∀ (vgs : BitVec 8) (shunt : Int), (s.dev.fld (FEED.FCFG_DMG ix)).testBit 1 = true →
     s.dev.feedOn f = true → (s.dev.feed f).onAt + 20000 ≤ s.dev.feedClk →
     s.dev.feedClk < (s.dev.feed f).onAt + 21000 → vgs.toNat < 20 →
     10 * shunt < 50 * (s.dev.fld ⟨FEED.VINR ix, 0, 10⟩ : Int) →
     (∀ x, s.dev.switch = some x → x.again = none) → Completes (.feedDamageG f vgs shunt) s fun d =>
       known (FEED.FSTAT_FEED_DAMAGE_G ix) Ev.FEED_DAMAGE_G d ∧ d.feedOn f = false))

/-- A switchover breaks before it makes: the outgoing gate goes off at once; verification within its window releases
the incoming drive; the gap then ends with the incoming feed active. A verification that fails never turns it on. A
selection names one usable feed or is refused; in the tick of a trigger it waits for the end of the sequence (R201–R204).
-/
def Obligations.FeedSwitchover : Prop := ∀ s : State, s.dev.powered = true →
  let begun := fun (f : FeedId) (cause : SwitchCause) (d : Device) => d.feedOn (otherFeed f) = false ∧
    d.flag FEED.STAT_SWITCHING = true ∧ d.switch = some { t0 := s.dev.feedClk, incoming := f, cause := cause, verified := false }
  (∀ (w : Writer) (v : BitVec 8), s.dev.admits w →
    (v.getLsbD 0 = true → v.getLsbD 1 = true → Completes (.feedSelect w v) s fun d =>
      d.flag FEED.STAT_SELREF = true ∧ d.switch = s.dev.switch ∧ d.activeFeed = s.dev.activeFeed) ∧
    (∀ f : FeedId, v.getLsbD 0 = (f == .fa) → v.getLsbD 1 = (f == .fb) →
      (s.dev.switch = none → s.dev.activeFeed = some (otherFeed f) →
        (s.dev.usable f = true → Completes (.feedSelect w v) s fun d =>
          begun f .manual d ∧ d.flag FEED.STAT_MANUAL = true) ∧
        (s.dev.usable f = false → Completes (.feedSelect w v) s fun d => d.flag FEED.STAT_SELREF = true ∧
          d.switch = s.dev.switch ∧ d.activeFeed = s.dev.activeFeed)) ∧
      (s.dev.switch = none → s.dev.activeFeed = none → s.dev.usable f = true →
        Completes (.feedSelect w v) s fun d => d.activeFeed = some f ∧ d.flag FEED.STAT_MANUAL = true) ∧
      (∀ x, s.dev.switch = some x → x.cause.own = false → x.t0 = s.dev.feedClk →
        Completes (.feedSelect w v) s fun d => d.switch = some { x with again := some v.toNat }))) ∧
  (s.dev.flag FEED.CFG_REVERT = true → s.dev.flag FEED.STAT_MANUAL = false → s.dev.switch = none →
    s.dev.activeFeed = some (otherFeed s.dev.priFeed) → s.dev.usable s.dev.priFeed = true →
    (s.dev.feed s.dev.priFeed).qualAt + s.dev.fld FEED.CFG_RVT * 100 * msec ≤ s.dev.feedClk →
    Completes .feedRevert s (begun s.dev.priFeed .revert)) ∧
  (∀ x, s.dev.switch = some x →
    (x.verified = false → x.t0 + 300 ≤ s.dev.feedClk → s.dev.feedClk ≤ x.t0 + 800 → Completes .feedVerified s fun d =>
      d.feedOn x.incoming = true ∧ d.switch = some { x with verified := true }) ∧
    (x.verified = true → x.again = none → Completes .feedSwitch s fun d => d.activeFeed = some x.incoming ∧
      d.switch = none ∧ d.flag FEED.STAT_SWITCHING = false ∧ (d.feed x.incoming).good = true ∧
      d.rd FEED.LASTGAP = min (s.dev.feedClk - x.t0) 0xFFFF ∧ s.dev.counted d FEED.SWCNT ∧
      s.dev.reported d Ev.FEED_SWITCH [x.cause.code, min (s.dev.feedClk - x.t0) 0xFFFF]) ∧
    (∀ gate, x.verified = false → x.t0 + 800 ≤ s.dev.feedClk → Completes (.feedVerifyFail gate) s fun d =>
      d.feedOn x.incoming = s.dev.feedOn x.incoming ∧ d.switch = none ∧ d.flag FEED.STAT_VERIFY_FAIL = true ∧
      (d.feed (otherFeed x.incoming)).outOfService = true ∧ (d.feed (otherFeed x.incoming)).unverified = true ∧
      s.dev.reported d Ev.FEED_VERIFY_FAIL [FeedIx (otherFeed x.incoming), gate.toNat]))

/-! ## Controlled rails and internal regulators (R208–R225) -/

/-- A start samples the feedback, ramps, and reaches RUN with PGOUT as PG; a rail above its target waits with its
phases at mid until it has fallen; a stop ends in OFF (R213–R215). The balls of a rail that is off hold PWM at mid with EN low (R208, R214). VREF and SLEW take a value inside their bounds and
refuse one outside; a new VREF in RUN masks power good in SLEW, until PG has settled at the target or the mask times
out (R212, R215). -/
def Obligations.RailsRun : Prop :=
  (∀ (s : State) (r : RailId), s.dev.powered = true →
   let allActive := fun (d : Device) => ∀ n ∈ s.dev.phases r, d.bit CV.PHACT n = true
   (∀ vpre, s.dev.cvState r = cvStart → (s.dev.rail r).sampled = false → (s.dev.rail r).enAt + 2000 ≤ s.dev.now →
     Completes (.railPrebiasSample r vpre) s fun d => (d.rail r).sampled = true ∧
       (vpre < 20000 → allActive d ∧ (d.rail r).ref = 0) ∧
       (20000 ≤ vpre → vpre < s.dev.refT r → allActive d ∧ (d.rail r).ref = vpre / 1000 * 1000 ∧
         d.flag (CV.STAT_PREBIAS r) = true ∧ s.dev.reported d Ev.PREBIAS [r.val]) ∧
       (20000 ≤ vpre → s.dev.refT r ≤ vpre → (∀ n ∈ s.dev.phases r, d.bit CV.PHACT n = false) ∧ (d.rail r).waiting = true ∧ (d.rail r).ref = s.dev.refT r)) ∧
   (∀ vfb, s.dev.cvState r = cvStart → (s.dev.rail r).waiting = true → vfb * 100000 < s.dev.refT r * 101 →
     Completes (.prebiasWaitEnd r vfb) s fun d => allActive d ∧ (d.rail r).waiting = false) ∧
   (s.dev.cvState r = cvStart → (s.dev.rail r).sampled = true → (s.dev.rail r).waiting = false →
     (s.dev.rail r).clampAt = none → (s.dev.rail r).ref = s.dev.refT r → Completes (.railRampDone r) s fun d =>
       d.cvState r = cvRun ∧ d.flag (CV.STAT_PGOUT r) = s.dev.flag (CV.STAT_PG r)) ∧
   (s.dev.cvState r = cvStop → (s.dev.rail r).ref = 0 → (s.dev.rail r).clampAt = none →
     Completes (.railStopDone r) s fun d => d.cvState r = cvOff ∧
       ∀ n, s.dev.railOf n = some r.val → d.phaseEn n = false ∧ d.phasePwm n = .mid)) ∧
  (∀ (s : State) (w : Writer) (r : RailId) (v : BitVec 16) (vfb : Nat),
   s.dev.powered = true → s.dev.admits w →
   (s.dev.rd (CV.VMIN r) ≤ v.toNat → v.toNat < s.dev.rd (CV.VMAX r) → Completes (.vrefWrite w r v) s fun d =>
     d.rd (CV.VREF r) = v.toNat ∧ (s.dev.cvState r = cvRun → (s.dev.rail r).clampAt = none → v.toNat ≠ s.dev.rd (CV.VREF r) →
       d.cvState r = cvSlew ∧ d.flag (CV.STAT_MASK r) = true)) ∧
   ((v.toNat < s.dev.rd (CV.VMIN r) ∨ s.dev.rd (CV.VMAX r) ≤ v.toNat) → Completes (.vrefWrite w r v) s fun d =>
     d.rd (CV.VREF r) = s.dev.rd (CV.VREF r) ∧ d.flag (CV.STAT_VREF_REF r) = true ∧
     s.dev.reported d Ev.VREF_REF [r.val, v.toNat]) ∧
   (1 ≤ v.toNat → v.toNat ≤ 500 → Completes (.slewWrite w r v) s fun d => d.rd (CV.SLEW r) = v.toNat) ∧
   ((v.toNat = 0 ∨ 500 < v.toNat) → Completes (.slewWrite w r v) s fun d =>
     d.rd (CV.SLEW r) = s.dev.rd (CV.SLEW r) ∧ d.flag (CV.STAT_VREF_REF r) = true) ∧
   (∀ t, s.dev.slewDone r = true → (s.dev.rail r).pgSince = some t →
     t + s.dev.rd (CV.SETTLE r) * usec ≤ s.dev.now → s.dev.pgLow r vfb = false →
     s.dev.pgHigh r vfb = false → Completes (.railSettled r vfb) s fun d =>
       d.cvState r = cvRun ∧ d.flag (CV.STAT_MASK r) = false ∧ d.flag (CV.STAT_PGOUT r) = true) ∧
   (∀ t, s.dev.slewDone r = true → (s.dev.rail r).atTarget = some t →
     t + 10 * s.dev.rd (CV.SETTLE r) * usec ≤ s.dev.now → Completes (.railMaskTimeout r vfb) s fun d =>
     d.cvState r = cvRun ∧ d.flag (CV.STAT_MASK r) = false))

/-- Overcurrent takes a regulating rail to FAULT with no phase active, its balls at mid and EN low; an overvoltage of
1 µs drives its phases low until the feedback has fallen or 10 ms have passed, and ends in FAULT; both are counted and
reported (R208, R217, R218). What a disable or a restart in the clamp does after it is the model's choice
(notes/assumptions/31.md). The brake starts and ends by the feedback, its phases at mid; phases are shed, one joins at
a time, and all join when the output dips; a load step aborts a shed, which ends after its 16 periods (R219–R221). -/
def Obligations.RailsTrip : Prop :=
  (∀ (s : State) (r : RailId) (vfb : Nat), s.dev.powered = true →
   let tripped := fun (bit : Field) (ev : Nat) (cnt : Reg) (d : Device) =>
     (∀ n ∈ s.dev.phases r, d.bit CV.PHACT n = false) ∧ d.flag bit = true ∧ s.dev.reported d ev [r.val] ∧
     s.dev.counted d cnt ∧ s.dev.counted d (CNT.TRIP r)
   let faulted := fun (d : Device) => tripped (CV.STAT_CV_OC r) Ev.CV_OC (CNT.OC r) d ∧ d.cvState r = cvFault ∧
     ∀ n, s.dev.railOf n = some r.val → d.phaseEn n = false ∧ d.phasePwm n = .mid
   (s.dev.regulating r = true →
     (s.dev.rd (CV.TOC r) * s.dev.fld (CV.CFG_FSW r) ≤ (s.dev.rail r).oc → Completes (.cvOc r .timer) s faulted) ∧
     (∀ n : Fin 8, n.val ∈ s.dev.active r → 10 ≤ (look (s.dev.rail r).bad n.val).getD 0 →
       Completes (.cvOc r (.imon n)) s fun d => faulted d ∧ d.bit CV.PHFLT n = true) ∧
     (∀ held, usec ≤ held →
       max (s.dev.rail r).ref (s.dev.refT r) * (100 + s.dev.fld (CV.CFG_OVF r)) ≤ vfb * 100000 →
       Completes (.cvOv r vfb held) s fun d => tripped (CV.STAT_CV_OV r) Ev.CV_OV (CNT.OV r) d ∧
         (d.rail r).clampAt = some s.dev.now ∧ d.cvState r = s.dev.cvState r ∧
         ∀ n, s.dev.railOf n = some r.val → d.phaseEn n = true ∧ d.phasePwm n = .low)) ∧
   (∀ t, (s.dev.rail r).clampAt = some t → (t + 10 * msec ≤ s.dev.now ∨ vfb * 10000 < s.dev.refT r) →
     Completes (.cvOvClampEnd r vfb) s fun d => (d.rail r).clampAt = none ∧
       ((s.dev.rail r).afterClamp = none → d.cvState r = cvFault) ∧
       ((s.dev.rail r).afterClamp = some false → d.cvState r = cvOff) ∧
       ((s.dev.rail r).afterClamp = some true → d.cvState r = cvStart))) ∧
  (∀ (s : State) (r : RailId) (vfb : Nat) (itot : BitVec 16), s.dev.powered = true →
   let ref := (s.dev.rail r).ref
   let m := (s.dev.active r).length
   let aborted := fun (d : Device) => d.flag (CV.STAT_SHEDDING r) = false ∧ (d.rail r).shedding = none ∧
     (d.rail r).joining = s.dev.phases r ∧ s.dev.reported d Ev.SHED_ABORT [r.val] ∧ s.dev.counted d (CV.ABORTCNT r) ∧
     (d.rail r).holdoff = s.dev.now + s.dev.rd (CV.SHOLD r) * msec
   ((s.dev.cvState r = cvRun ∨ s.dev.cvState r = cvSlew) → (s.dev.rail r).clampAt = none →
     s.dev.flag (CV.STAT_BRAKE r) = false →
     ref * (100 + s.dev.fld (CV.CFG_BRK r)) ≤ vfb * 100000 → Completes (.railBrake r vfb) s fun d =>
       d.flag (CV.STAT_BRAKE r) = true ∧ (∀ n, s.dev.railOf n = some r.val → d.phasePwm n = .mid) ∧
       (s.dev.flag (CV.STAT_SHEDDING r) = true → aborted d)) ∧
   (s.dev.flag (CV.STAT_BRAKE r) = true → vfb * 100000 < ref * 101 → Completes (.railBrakeEnd r vfb) s fun d =>
     d.flag (CV.STAT_BRAKE r) = false ∧ s.dev.counted d (CV.BRKCNT r)) ∧
   (s.dev.managed r = true → s.dev.flag (CV.STAT_SHEDDING r) = false →
     (∀ held, s.dev.fld (CV.CFG_MINPH r) < m → itot.toNat < s.dev.rd (CV.ISHED r) * (m - 1) →
       (s.dev.rail r).holdoff ≤ s.dev.now → s.dev.rd (CV.SHOLD r) * msec ≤ held →
       Completes (.phaseShed r itot held) s fun d =>
         d.flag (CV.STAT_SHEDDING r) = true ∧ d.active r = s.dev.active r ∧
         (d.rail r).shedding = some ((s.dev.active r).foldl max 0, (s.dev.rail r).periods)) ∧
     (∀ n, s.dev.rd (CV.IADD r) * m ≤ itot.toNat → (s.dev.phases r).find? (fun n => !s.dev.bit CV.PHACT n) = some n →
       Completes (.phaseAdd r itot) s fun d => n ∈ (d.rail r).joining ∧
         (d.rail r).holdoff = s.dev.now + s.dev.rd (CV.SHOLD r) * msec) ∧
     (vfb * 100000 < ref * 98 → Completes (.fastAdd r vfb) s fun d =>
       (d.rail r).joining = s.dev.phases r ∧ (d.rail r).holdoff = s.dev.now + s.dev.rd (CV.SHOLD r) * msec)) ∧
   (s.dev.managed r = true → s.dev.flag (CV.STAT_SHEDDING r) = true →
     (s.dev.rd (CV.IADD r) * (m - 1) ≤ itot.toNat → Completes (.phaseAdd r itot) s aborted) ∧
     (vfb * 100000 < ref * 98 → Completes (.fastAdd r vfb) s aborted)) ∧
   (∀ n p, n < 8 → (s.dev.rail r).shedding = some (n, p) → p + 16 ≤ (s.dev.rail r).periods →
     Completes (.shedComplete r) s fun d => d.bit CV.PHACT n = false ∧ d.flag (CV.STAT_SHEDDING r) = false ∧
       (d.rail r).shedding = none))

/-- IB0V takes 0.90 V to 1.80 V and refuses the rest; the clock halves below 1.00 V and comes back 20 µs after it is
reached, with the centring term; an undervoltage of VIO of 100 µs is reported; an LDO at its limit for 10 ms latches off until LDCLR
(R68, R224, R225). -/
def Obligations.InternalRegulators : Prop := ∀ (s : State) (w : Writer), s.dev.powered = true → s.dev.admits w →
  (∀ v : BitVec 16, (90 ≤ v.toNat → v.toNat ≤ 180 → Completes (.ib0vWrite w v) s fun d => d.rd INT.IB0V = v.toNat) ∧
    (v.toNat < 90 ∨ 180 < v.toNat → Completes (.ib0vWrite w v) s fun d =>
      d.rd INT.IB0V = s.dev.rd INT.IB0V ∧ d.flag INT.STAT_IB0V_REF = true ∧ s.dev.reported d Ev.IB0V_REF [v.toNat])) ∧
  (s.dev.rck.pll = true → s.dev.flag INT.STAT_CLK = false → s.dev.rd INT.IB0V < 100 →
    Completes .clockSwitch s fun d => d.flag INT.STAT_CLK = true ∧ d.rd EDGE.DC = 140) ∧
  (s.dev.rck.pll = true → s.dev.flag INT.STAT_CLK = true → 100 ≤ s.dev.rd INT.IB0V → 1000000 ≤ s.dev.int.ib0 →
    s.dev.int.above + 2000 ≤ s.dev.now →
    Completes .clockSwitch s fun d => d.flag INT.STAT_CLK = false ∧ d.rd EDGE.DC = 100) ∧
  (∀ (vio : BitVec 16) held, 10 * vio.toNat < 9 * s.dev.rd INT.IB1V → 100 * usec ≤ held → Completes (.ioUv vio held) s fun d =>
    d.flag INT.STAT_IO_UV = true ∧ s.dev.reported d Ev.IO_UV []) ∧
  (∀ (k : Fin 3) held, s.dev.ldOn k = true → 10 * msec ≤ held → Completes (.ldOc k held) s fun d => d.ldOn k = false ∧
    (d.fld INT.STAT_LDOFF).testBit k = true ∧ d.flag INT.STAT_LD_OC = true ∧ s.dev.reported d Ev.LD_OC [k.val + 1]) ∧
  (∀ (k : Fin 3) (v : BitVec 8), v.getLsbD (k.val + 1) = true → Completes (.ldclr w v) s fun d =>
    (d.fld INT.STAT_LDOFF).testBit k = false)

/-! ## Sequencing and power states (R228–R242, R314–R319) -/

/-- ON in DOWN wakes the device where feed power good is there, and is remembered in a power-down; the wake locks the
PLL, starts the links with every bank that a slot names held, and begins the power-up or, while the minimum off time
runs, waits for its end (R228, R230, R238, R315). A slot that falls due, no lower one with it, is enabled at this tide; one that has held power good for
QUAL before its timeout is qualified, and the last one completes the power-up; one that is late aborts it (R231–R234, R236). -/
def Obligations.PowerUp : Prop :=
  (∀ s : State, s.dev.powered = true →
   (∀ w, s.dev.admits w → s.dev.seqState = seqDown → s.dev.inKeep = true → s.dev.flag SEC.PSTAT_TRANS = false →
     Completes (.seqOn w) s fun d =>
       if s.dev.feedGood then d.flag SEC.PSTAT_TRANS = true else d.flag SEC.PSTAT_WAKEPEND = true) ∧
   (∀ w, s.dev.admits w → s.dev.seqState = seqPowerDown → Completes (.seqOn w) s fun d =>
     d.flag SEQ.STAT_PEND = true ∧ d.seqState = seqPowerDown) ∧
   (s.dev.flag SEC.PSTAT_WAKEPEND = true → s.dev.inKeep = true → s.dev.feedGood = true →
     Completes .wakeStart s fun d => d.flag SEC.PSTAT_TRANS = true ∧ d.flag SEC.PSTAT_WAKEPEND = false) ∧
   (s.dev.flag SEC.PSTAT_TRANS = true → s.dev.rck.pll = false → Completes .pllLock s fun d =>
     d.rck.pll = true ∧ (∀ b : BankId, s.dev.bankSlotted b = true → (d.bank b).link = true ∧
       d.flag (BANK.STAT_HELD b) = true) ∧
     (s.dev.seqState = seqDown → (∃ k ∈ allSlots, s.dev.slotUsed k = true) →
       d.seqState = if s.dev.offTimePast then seqUp else seqWait)) ∧
   (s.dev.seqState = seqWait → s.dev.offTimePast = true → (∃ k ∈ allSlots, s.dev.slotUsed k = true) →
     Completes .seqWaitEnd s fun d => d.seqState = seqUp ∧ d.rd SEQ.TSTART = s.dev.now % 2 ^ 64 ∧
       d.rd SEQ.ENMASK = 0 ∧ d.rd SEQ.QUALMASK = 0 ∧ d.seq.pfwN = true)) ∧
  (∀ (s : State) (k : SeqSlot), s.dev.powered = true → s.dev.seqState = seqUp →
   (s.dev.slotDue k = true → (∀ j, j < k.val → s.dev.slotDue j = false) → Completes (.slotEnable k) s fun d =>
     d.slotEnabled k = true ∧ (d.slotSt k).enAt = s.dev.now) ∧
   (∀ q, s.dev.slotEnabled k = true → s.dev.slotQualified k = false → s.dev.slotPg k = true →
     (s.dev.slotSt k).qualFrom = some q → q + s.dev.fld (SEQ.SLOTB_QUAL k) * msec ≤ s.dev.now →
     q + s.dev.fld (SEQ.SLOTB_QUAL k) * msec < s.dev.timeoutTide k →
     Completes (.slotQualified k) s fun d => d.slotQualified k = true ∧
       ((∀ j ∈ allSlots, j = k.val ∨ s.dev.slotUsed j = false ∨ s.dev.slotQualified j = true) →
         d.seqState = seqOn ∧ d.fld SEC.PSTAT_STATE = stStandby ∧ d.flag SEQ.STAT_SEQ_DONE = true ∧
         s.dev.reported d Ev.SEQ_DONE [])) ∧
   (s.dev.slotEnabled k = true → s.dev.slotQualified k = false →
     s.dev.timeoutTide k ≤ s.dev.now →
     (s.dev.slotPg k = false ∨ ∀ t, s.dev.qualTide k = some t → s.dev.timeoutTide k ≤ t) →
     Completes (.slotTimeout k) s fun d => d.seqState = seqPowerDown ∧ d.flag SEQ.STAT_SEQ_FAULT = true ∧
       d.rd SEQ.FSLOT = k.val ∧ d.rd SEQ.FCAUSE = 1 ∧ s.dev.reported d Ev.SEQ_FAULT [k.val, 1]))

/-- OFF, and the expiry of a power-fail warning, begin a power-down that leaves RUN; each slot is disabled when it
falls due, none later or higher with it; a rail that does not reach OFF in time is reported and left behind
(R235–R237, R240). Deglitched power good takes a raw level that has stood for 20 µs; a qualified slot that loses it in ON starts a power-fail
warning; a bank outside its window is counted (R229, R239, R242). -/
def Obligations.PowerDown : Prop :=
  (∀ s : State, s.dev.powered = true →
   let begun := fun (d : Device) => d.seqState = seqPowerDown ∧ d.rd SEQ.TSTART = s.dev.now % 2 ^ 64 ∧
     d.inRun = false ∧ d.flag SEQ.STAT_PFWACT = false
   ((∃ k ∈ allSlots, s.dev.slotEnabled k = true) →
     (∀ w, s.dev.admits w → (s.dev.seqState = seqUp ∨ s.dev.seqState = seqOn) → Completes (.seqOff w) s begun) ∧
     (∀ w, s.dev.admitsWright w → (s.dev.seqState = seqUp ∨ s.dev.seqState = seqOn) → Completes (.pwrKeep w) s begun) ∧
     (s.dev.flag SEQ.STAT_PFWACT = true → s.dev.seqState = seqOn → s.dev.pfwEnd ≤ s.dev.now →
       Completes .pfwExpiry s begun)) ∧
   (∀ (k : SeqSlot) t, look s.dev.seq.downAt k = some t → s.dev.seqState = seqPowerDown → t ≤ s.dev.now →
     (∀ e ∈ s.dev.seq.downAt, t ≤ e.2 ∧ (e.2 = t → e.1 ≤ k.val)) → Completes (.slotDisable k) s fun d =>
       d.slotEnabled k = false ∧ d.slotQualified k = false ∧ look d.seq.downAt k = none) ∧
   (∀ (k : SeqSlot) t, look s.dev.seq.railsDown k = some t → s.dev.slotSel k < 4 → s.dev.seqState = seqPowerDown →
     s.dev.cvState (s.dev.slotSel k) ≠ cvOff → t + 2 ^ s.dev.fld (SEQ.SLOTB_TO k) * msec ≤ s.dev.now →
     Completes (.seqOffTimeout k) s fun d => d.cvState (s.dev.slotSel k) = cvOff ∧
       d.flag SEQ.STAT_SEQ_OFF_TIMEOUT = true ∧ d.rd SEQ.FSLOT = k.val ∧ s.dev.reported d Ev.SEQ_OFF_TIMEOUT [k.val])) ∧
  (∀ s : State, s.dev.powered = true →
   (∀ (t : PgTarget) held, 20 * usec ≤ held → Completes (.pgDeglitch t held) s fun d => d.pgNow t = (s.dev.pgReading t).rawPg t ∧
     (∀ k, k ∈ s.dev.pgSlots t → s.dev.slotEnabled k = true → s.dev.slotQualified k = true →
       s.dev.seqState = seqOn → s.dev.pgNow t = true → (s.dev.pgReading t).rawPg t = false →
       d.flag SEQ.STAT_PFWACT = true ∧ s.dev.reportedCode d Ev.POWER_FAIL)) ∧
   (∀ (b : BankId) vbus held, (s.dev.bank b).link = true → 20 * usec ≤ held →
     (vbus < s.dev.rd SEQ.BUV → Completes (.bankUv b vbus held) s fun d =>
       s.dev.counted d (CNT.UV (6 + b)) ∧ d.flag CNT.JSTAT_PENDING = true) ∧
     (s.dev.rd SEQ.BOV ≤ vbus → Completes (.bankOv b vbus held) s fun d =>
       s.dev.counted d (CNT.OV (6 + b)) ∧ d.flag CNT.JSTAT_PENDING = true)))

/-- WAKE begins a wake from KEEP or waits for feed power good; RUN is taken at the next scan where nothing forbids it,
and refused by name elsewhere; STANDBY leaves RUN with every channel off and the edge store empty; KEEP ends a wake
that waits (R30, R315–R317). -/
def Obligations.PowerCommands : Prop := ∀ (s : State) (w : Writer), s.dev.powered = true → s.dev.admitsWright w →
  (s.dev.inKeep = true → s.dev.flag SEC.PSTAT_TRANS = false → Completes (.pwrWake w) s fun d =>
    if s.dev.feedGood then d.flag SEC.PSTAT_TRANS = true ∧ d.rd SEC.PWRRES = 0
    else d.flag SEC.PSTAT_WAKEPEND = true ∧ d.rd SEC.PWRRES = 5) ∧
  (s.dev.fld SEC.PSTAT_STATE = stStandby → s.dev.rigged = true → s.dev.seqState = seqOn →
    s.dev.flag RING.RSTAT_BYPASS = false → s.dev.flag SEC.DBG_HALTED = false →
    (s.dev.flag SEC.PCFG_STRIKEDROP && s.dev.flag BANK.STRIKESTAT_ACTIVE) = false → Completes (.pwrRun w) s fun d =>
      d.sec.runAtScan = true ∧ d.rd SEC.PWRRES = 0 ∧ d.inRun = false) ∧
  ((s.dev.fld SEC.PSTAT_STATE ≠ stStandby ∨ s.dev.rigged = false ∨ s.dev.seqState ≠ seqOn ∨
      s.dev.flag RING.RSTAT_BYPASS = true ∨ s.dev.flag SEC.DBG_HALTED = true ∨
      (s.dev.flag SEC.PCFG_STRIKEDROP && s.dev.flag BANK.STRIKESTAT_ACTIVE) = true) → Completes (.pwrRun w) s fun d =>
    d.sec.runAtScan = s.dev.sec.runAtScan ∧ d.flag SEC.STAT_PWR_REFUSED = true ∧
    s.dev.reportedCode d Ev.PWR_REFUSED ∧
    (s.dev.fld SEC.PSTAT_STATE ≠ stStandby → d.rd SEC.PWRRES = pwrWrongState) ∧
    (s.dev.fld SEC.PSTAT_STATE = stStandby → (d.rd SEC.PWRRES = pwrNotRigged ∧ s.dev.rigged = false) ∨
      (d.rd SEC.PWRRES = pwrNotOn ∧ s.dev.seqState ≠ seqOn) ∨
      (d.rd SEC.PWRRES = pwrBypassed ∧ s.dev.flag RING.RSTAT_BYPASS = true) ∨
      (d.rd SEC.PWRRES = pwrHalted ∧ s.dev.flag SEC.DBG_HALTED = true) ∨
      (d.rd SEC.PWRRES = pwrWrongState ∧
        (s.dev.flag SEC.PCFG_STRIKEDROP && s.dev.flag BANK.STRIKESTAT_ACTIVE) = true))) ∧
  (s.dev.fld SEC.PSTAT_STATE = stStandby → s.dev.sec.runAtScan = true → Completes .edgeScan s fun d =>
    d.inRun = true ∧ d.sec.runAtScan = false) ∧
  (s.dev.inRun = true → Completes (.pwrStandby w) s fun d =>
    d.fld SEC.PSTAT_STATE = stStandby ∧ d.store = [] ∧ d.allOff d.leads) ∧
  (s.dev.inKeep = true → s.dev.seqState = seqDown → Completes (.pwrKeep w) s fun d =>
    d.flag SEC.PSTAT_WAKEPEND = false ∧ d.inKeep = true)

/-! ## Counters and their journal (R106–R109, R242–R245, R346) -/

/-- Counters within a second of a change, latencies every 10 minutes in RUN, and the store clock each hour, and both at a power-down, go to the
journal's queue as their records. CNT.CLR clears the counters selected by both masks, and no other (R109, R243, R245,
R346). -/
def Obligations.JournalFallsDue : Prop := ∀ s : State, s.dev.powered = true →
  let queued := fun (bs : List RecBody) (d : Device) =>
    d.flash.ready = s.dev.flash.ready ++ bs.map (fun b => (b, s.dev.now))
  (s.dev.coreRuns = true →
    (s.dev.flag CNT.JSTAT_PENDING = true → Completes .counterJournal s fun d =>
      queued ((List.range 3).map s.dev.counterPart) d ∧ d.flag CNT.JSTAT_PENDING = false) ∧
    (s.dev.flash.latDue = true ∨ (s.dev.inRun = true ∧ s.dev.flash.latAt + 600 * second ≤ s.dev.now) → Completes .latencyJournal s fun d =>
      queued ((List.range 54).map s.dev.latencyGroup) d ∧ d.flash.latAt = s.dev.now) ∧
    (s.dev.flash.clockDue = true ∨ s.dev.flash.clockAt + 3600 * second ≤ s.dev.now → Completes .clockJournal s fun d =>
      queued [s.dev.clockPart] d ∧ d.flash.clockAt = s.dev.now)) ∧
  (∀ (w : Writer) (v : BitVec 16), s.dev.admits w →
    (∃ i, i < 60 ∧ v.getLsbD (i / 6) = true ∧ v.getLsbD (10 + i % 6) = true) →
    Completes (.cntClr w v) s fun d => d.flag CNT.JSTAT_PENDING = true ∧
      ∀ i r, i < 60 → cntReg i = some r →
        d.rd r = if v.getLsbD (i / 6) && v.getLsbD (10 + i % 6) then 0 else s.dev.rd r)

/-! ## Measurement (R246–R261) -/

/-- A conversion ends 40 ticks after it began. A loop's result is recorded for its entry, or counted as skipped where
the bank has no supply; an urgent result goes to its tag, which a clear of DONE frees. A delay leads to the next
entry, where an urgent conversion that still runs counts as a slip; a rendezvous missed for XWAIT is converted alone
(R246, R249, R251, R256–R258). An urgent request takes the lowest free tag; it is refused with FULL where none is free,
with a code for a bad request, and with one for an input that cannot be measured now (R249, R256). -/
def Obligations.Measurement : Prop :=
  (∀ (s : State) (c : AdcId), s.dev.powered = true →
   let x := s.dev.conv c
   let e := x.loop.entry
   (∀ code : BitVec 14, x.began + 40 ≤ s.dev.clk →
     (∀ u, x.job = .urgent u.tag → s.dev.adc.tags.find? (fun y => y.tag == u.tag) = some u → u.tag < 4 →
       s.dev.measurable u.input = true → Completes (.adcConversion c code) s fun d =>
         d.fld (ADCD.URES_VALUE u.tag) = code.toNat * 4 ∧ d.fld (ADCD.URES_INPUT u.tag) = u.input % 512 ∧
         d.flag (ADCD.URES_CONV u.tag) = (c == .b) ∧ d.flag (ADCD.URES_DONE u.tag) = true ∧
         d.rd (ADCD.URTIDE u.tag) = x.stamp % 2 ^ 64 ∧
         d.rd (convReg c) = (s.dev.rd (convReg c) + 1) % 2 ^ 32) ∧
     ((x.job = .loop ∨ x.job = .pair) →
       (s.dev.measurable (s.dev.entryInput e) = true → Completes (.adcConversion c code) s fun d =>
         look d.adc.raw e = some (code.toNat * 4, x.stamp) ∧
         d.rd (convReg c) = (s.dev.rd (convReg c) + 1) % 2 ^ 32) ∧
       (s.dev.measurable (s.dev.entryInput e) = false → Completes (.adcConversion c code) s fun d =>
         look d.adc.raw e = look s.dev.adc.raw e ∧
         d.rd ADCD.SKIPCNT = (s.dev.rd ADCD.SKIPCNT + 1) % 2 ^ ADCD.SKIPCNT.width))) ∧
   (∀ t, x.loop.phase = .delay t → t ≤ s.dev.clk → Completes (.loopDelayEnd c) s fun d =>
     (d.conv c).loop.entry = s.dev.nextEntry c e ∧
     (∀ u, x.job = .urgent u → s.dev.entryXid (s.dev.nextEntry c e) = 0 → x.loop.slipped = false →
       d.rd (slipReg c) = (s.dev.rd (slipReg c) + 1) % 2 ^ 32)) ∧
   (∀ t, s.dev.waitTill c = some t → t ≤ s.dev.clk →
     s.dev.waitsFor (otherAdc c) ≠ s.dev.waitsFor c → Completes (.xmiss c) s fun d =>
       d.waitsFor c = none ∧ s.dev.counted d ADCD.XMISSCNT ∧ d.flag ADCD.STAT_XMISS = true) ∧
   (∀ (w : Writer) (t : Fin 4), s.dev.admits w → s.dev.flag (ADCD.URES_DONE t) = true →
     Completes (.urgTagFree w t) s fun d => d.flag (ADCD.URES_DONE t) = false ∧ ∀ u ∈ d.adc.tags, u.tag ≠ t)) ∧
  (∀ (s : State) (w : Writer) (v : BitVec 16), s.dev.powered = true →
   (isCore w = true ∨ w = .host) →
   let i := v.toNat % 512
   let cv := v.toNat / 512 % 4
   let refused := fun (code : Nat) (d : Device) => d.fld ADC.URGRES_CODE = code ∧ d.adc.tags = s.dev.adc.tags
   let free := (List.range 4).find? fun t => s.dev.adc.tags.all fun u => u.tag != t
   let now := (s.dev.inKeep = false ∨ inputKeep i = true) ∧ s.dev.measurable i = true
   (free = none → Completes (.adcUrgent w v) s fun d => refused 1 d ∧ d.flag ADCD.STAT_URG_FULL = true) ∧
   (∀ t, free = some t →
     ((inputOk i = false ∨ cv = 3) → Completes (.adcUrgent w v) s (refused 3)) ∧
     (inputOk i = true → cv ≠ 3 → ¬ now → Completes (.adcUrgent w v) s (refused 2)) ∧
     (inputOk i = true → cv ≠ 3 → now → Completes (.adcUrgent w v) s fun d =>
       d.fld ADC.URGRES_CODE = 0 ∧ d.fld ADC.URGRES_TAG = t ∧ ∃ u ∈ d.adc.tags, u.tag = t ∧ u.input = i ∧ u.conv = cv)))

/-! ## Charger (R262–R277) -/

/-- The charger goes through detection, the phases of a cycle and their repeats: input starts and ends it; the
sample and the sourced test find a battery or its absence; each phase gives way to the next at its own threshold, held
for 16 ms where the rule asks for it (R264–R268). -/
def Obligations.ChargeCycle : Prop := ∀ s : State, s.dev.powered = true →
  let at_ := s.dev.chg.phaseAt
  let began := fun (vbat : Nat) (mayBeDone : Bool) (d : Device) => s.dev.counted d CHG.CYCNT ∧
    d.phase = if mayBeDone && decide (s.dev.recharge ≤ vbat) then chgDone else if vbat < s.dev.preMv then chgPre else chgCc
  (∀ vbus vbat,
    (s.dev.flag CHG.STAT_CHGIN = false → max 6000 (vbat + 2000) ≤ vbus → Completes (.chginChange vbus vbat) s fun d =>
      d.flag CHG.STAT_CHGIN = true ∧ d.flag CHG.STAT_FETON = true ∧
      (s.dev.flag CHG.CFG_EN = true → s.dev.phase = chgIdle → d.phase = chgDetect ∧ d.chg.phaseAt = s.dev.now)) ∧
    (s.dev.flag CHG.STAT_CHGIN = true → vbus < max 6000 (vbat + 2000) → Completes (.chginChange vbus vbat) s fun d =>
      d.flag CHG.STAT_CHGIN = false ∧ d.phase = chgIdle)) ∧
  (s.dev.phase = chgDetect →
    (∀ vbat, s.dev.chg.sourcing = false → s.dev.chg.absent = false → at_ + 20 * msec ≤ s.dev.now →
      (vbat < 1000 → Completes (.detectSample vbat) s fun d => d.chg.sourcing = true ∧ d.phase = chgDetect) ∧
      (1000 ≤ vbat → Completes (.detectSample vbat) s fun d => d.flag CHG.STAT_PRESENT = true ∧ began vbat true d)) ∧
    (∀ vbat, s.dev.chg.sourcing = true →
      (s.dev.now < at_ + 70 * msec → s.dev.ceiling ≤ vbat + 50 → Completes (.detectResult vbat) s fun d =>
        d.flag CHG.STAT_PRESENT = false ∧ d.chg.absent = true ∧ d.phase = chgDetect) ∧
      (s.dev.now < at_ + 70 * msec → vbat + 50 < s.dev.ceiling → Completes (.detectResult vbat) s fun d => d = s.dev) ∧
      (at_ + 70 * msec ≤ s.dev.now → Completes (.detectResult vbat) s fun d =>
        d.flag CHG.STAT_PRESENT = true ∧ began vbat true d)) ∧
    (s.dev.chg.absent = true → at_ + second ≤ s.dev.now → Completes .detectRepeat s fun d =>
      d.phase = chgDetect ∧ d.chg.absent = false ∧ d.chg.phaseAt = s.dev.now)) ∧
  (∀ vbat ibat held vloop, s.dev.flag CHG.STAT_NTCSUSP = false → s.dev.timerOut = false → s.dev.chgFirst = true →
    let goes := fun (p : Nat) => Completes (.chargePhaseChange vbat ibat held vloop) s fun d => d.phase = p
    let stood := 16 * msec ≤ held ∧ at_ + 16 * msec ≤ s.dev.now
    (s.dev.phase = chgPre → (s.dev.preMv ≤ vbat → stood → goes chgCc) ∧ (vbat < s.dev.preMv → goes chgPre)) ∧
    (s.dev.phase = chgCc → goes (if vloop then chgCv else chgCc)) ∧
    (s.dev.phase = chgCv → s.dev.rd CHG.ITERM * 10 ≤ ibat → goes chgCv) ∧
    (s.dev.phase = chgCv → ibat < s.dev.rd CHG.ITERM * 10 → stood →
      Completes (.chargePhaseChange vbat ibat held vloop) s fun d =>
        d.phase = (if s.dev.fld CHG.CFG_TOPOFF = 0 then chgDone else chgTop) ∧ d.flag CHG.STAT_BAT_DONE = true ∧
        s.dev.reported d Ev.BAT_DONE []) ∧
    (s.dev.phase = chgTop → at_ + s.dev.fld CHG.CFG_TOPOFF * 60 * second ≤ s.dev.now → goes chgDone) ∧
    (s.dev.phase = chgDone → vbat < s.dev.recharge → stood →
      Completes (.chargePhaseChange vbat ibat held vloop) s (began vbat false)))

/-- A short, the safety timer and an overvoltage end in FAULT, an expired timer before the others, and CLR leaves
FAULT for a new detection. The NTC pauses and resumes the charger. A battery that is removed is reported and looked for
again; one that is drained below the cut-off is disconnected (R264, R268–R274). -/
def Obligations.ChargerFaults : Prop := ∀ s : State, s.dev.powered = true →
  let faulted := fun (bit : Field) (ev : Nat) (args : List Nat) (d : Device) =>
    d.phase = chgFault ∧ d.charging = false ∧ d.flag bit = true ∧ s.dev.reported d ev args
  let removed := fun (d : Device) => d.flag CHG.STAT_BAT_REMOVED = true ∧ s.dev.reported d Ev.BAT_REMOVED [] ∧
    d.flag CHG.STAT_PRESENT = false ∧ d.phase = chgDetect ∧ d.chg.absent = false
  (s.dev.chgFirst = true →
    (∀ vbat, s.dev.timerOut = false → s.dev.flag CHG.STAT_NTCSUSP = false → s.dev.phase = chgPre → vbat < 1000 →
      s.dev.chg.phaseAt + 100 * msec ≤ s.dev.now → s.dev.now < s.dev.chg.phaseAt + 100 * msec + 3052 →
      Completes (.batShort vbat) s (faulted CHG.STAT_BAT_SHORT Ev.BAT_SHORT [])) ∧
    (s.dev.timerOut = true → Completes .batTimeout s (faulted CHG.STAT_BAT_TIMEOUT Ev.BAT_TIMEOUT [s.dev.phase])) ∧
    (∀ vbat held, s.dev.timerOut = false → s.dev.charging = true → s.dev.ceiling + 100 * s.dev.cells ≤ vbat →
      msec ≤ held → Completes (.batOv vbat held) s (faulted CHG.STAT_BAT_OV Ev.BAT_OV [vbat])) ∧
    (∀ ibat0 ibat1 vbat, s.dev.cycling = true → 20 ≤ ibat0 → ibat1 < 10 → s.dev.ceiling ≤ vbat + 20 * s.dev.cells →
      Completes (.batRemoved ibat0 ibat1 vbat) s removed) ∧
    (∀ vbat, (s.dev.phase = chgTop ∨ s.dev.phase = chgDone) →
      s.dev.chg.checkAt + 10 * second + 20 * msec ≤ s.dev.now →
      (vbat < 1000 → Completes (.removalCheck vbat) s removed) ∧
      (1000 ≤ vbat → Completes (.removalCheck vbat) s fun d => d.phase = s.dev.phase ∧
        d.chg.checkAt = s.dev.chg.checkAt + 10 * second))) ∧
  (∀ w, s.dev.admits w → s.dev.phase = chgFault → Completes (.chgClr w) s fun d =>
    d.phase = chgDetect ∧ d.chg.sourcing = false ∧ d.chg.absent = false) ∧
  (∀ (ratio : BitVec 16) held, second ≤ held →
    ((ratio.toNat < s.dev.rd CHG.NTCLO ∨ s.dev.rd CHG.NTCHI ≤ ratio.toNat) →
      Completes (.ntcSuspend ratio held) s fun d => d.flag CHG.STAT_NTCSUSP = true ∧ d.charging = false) ∧
    (s.dev.rd CHG.NTCLO ≤ ratio.toNat → ratio.toNat < s.dev.rd CHG.NTCHI →
      Completes (.ntcResume ratio held) s fun d => d.flag CHG.STAT_NTCSUSP = false)) ∧
  (∀ vbat held, s.dev.flag CHG.STAT_FETON = true → s.dev.flag CHG.STAT_CHGIN = false →
    vbat < s.dev.rd CHG.VCUT * 20 * s.dev.cells → 100 * msec ≤ held → Completes (.batCutoff vbat held) s fun d =>
      d.flag CHG.STAT_FETON = false ∧ d.flag CHG.STAT_BAT_CUTOFF = true ∧ s.dev.reported d Ev.BAT_CUTOFF [vbat])

/-- A ship request waits until it is cancelled or SHIP is entered: from KEEP, with VBUS
below 4.5 V for a second, the battery is disconnected, and the device is in SHIP, or OFF where it has no battery. The
button, held for a second, wakes a device in SHIP, and is reported by one that is powered (R276, R277). -/
def Obligations.ShipMode : Prop := ∀ s : State,
  (s.dev.powered = true →
    (∀ w, s.dev.admits w → Completes (.shipRequest w) s (fun d => d.flag CHG.STAT_SHIPPEND = true) ∧
      Completes (.shipCancel w) s (fun d => d.flag CHG.STAT_SHIPPEND = false)) ∧
    (∀ vbus held env, vbus < 4500 → second ≤ held → s.dev.flag CHG.STAT_SHIPPEND = true → s.dev.inKeep = true → s.dev.coreAlive = true →
      s.dev.sec.bootDue = false → Completes (.shipEntry vbus held env) s fun d => d.flag CHG.STAT_FETON = false ∧
        d.sec.supply = if s.dev.flag CHG.STAT_PRESENT then .ship else .off) ∧
    (∀ held straps, second ≤ held → Completes (.wakeButton held straps) s fun d =>
      d.flag CHG.STAT_WAKEBTN = true ∧ s.dev.reported d Ev.WAKEBTN [])) ∧
  (s.dev.sec.supply = .ship → ∀ held straps, second ≤ held → Completes (.wakeButton held straps) s fun d =>
    d.powered = true ∧ d.fld SYS.RSTCAUSE_PORSRC = 1) ∧
  (∀ held straps, held < second → Completes (.wakeButton held straps) s fun d => d = s.dev)

/-! ## Watchdog (R280–R300) -/

/-- A valid service starts a period, the first after a core reset from the boot period; one too early or at T_MAX is
an expiry; one by another writer or of another value counts for nothing. The pre-warning comes once a period (R286,
R287, R289, R290, R294). A clock that stops for four monitor periods is an expiry, one that strays is reported. An uncorrectable SRAM error is
an expiry with cause ECC, a corrected one counts. The reset of an expiry ends after 100 µs, in a boot period, and the
WDX pulse at its end (R280, R284, R285, R294, R296). -/
def Obligations.Watchdog : Prop :=
  (∀ s : State, s.dev.powered = true →
   s.dev.frozen = false → s.dev.coreHeld = false →
   let n := s.dev.rd WDT.CNT
   (∀ w : Writer, w ≠ .hand → s.dev.admits w → s.dev.mayServe w = true →
     (n < s.dev.wdtLimit → (s.dev.flag WDT.STAT_BOOT = true ∨ (s.dev.rd WDT.TMINT ≤ n ∧ s.dev.missingSlots = 0)) →
       Completes (.wdtService w 0x5A) s fun d => d.rd WDT.CNT = 0 ∧ d.rd WDT.CHK = 0 ∧
         d.rd WDT.SVCT = s.dev.now % 2 ^ 64 ∧ d.flag WDT.STAT_BOOT = false ∧
         d.rd WDT.TMAXT = ceilDiv (wdtTicks1000 (s.dev.flag WDT.CFG_CLKSEL) (s.dev.rd WDT.PERIOD)) 1000 % 2 ^ 32 ∧
         d.wdt.warned = false) ∧
     (n < s.dev.wdtLimit → s.dev.flag WDT.STAT_BOOT = false → n < s.dev.rd WDT.TMINT →
       Completes (.wdtService w 0x5A) s (s.dev.expired wdtEarly)) ∧
     (s.dev.wdtLimit ≤ n → Completes (.wdtService w 0x5A) s (s.dev.expired wdtLateCause))) ∧
   (∀ (w : Writer) (v : BitVec 8), w ≠ .hand → s.dev.admits w → (s.dev.mayServe w = false ∨ v ≠ 0x5A) →
     Completes (.wdtService w v) s fun d => d.rd WDT.CNT = n ∧ d.rd WDT.CHK = s.dev.rd WDT.CHK ∧
       d.flag WDT.STAT_SVC_BAD = true ∧ s.dev.counted d WDT.REFCNT ∧ s.dev.reported d Ev.WDT_BAD []) ∧
   (s.dev.wdtLimit ≤ n → Completes .wdtLate s (s.dev.expired wdtLateCause)) ∧
   (s.dev.wdt.warned = false → s.dev.wdt.warn ≠ 0 → s.dev.wdtLimit ≤ n + s.dev.wdt.warn →
     Completes .wdtPrewarn s fun d => d.flag WDT.STAT_PREWARN = true ∧ d.wdt.warned = true ∧
       s.dev.reported d Ev.WDT_PREWARN [])) ∧
  (∀ s : State, s.dev.powered = true →
   (s.dev.frozen = false → s.dev.coreHeld = false → s.dev.flag WDT.STAT_MONSTOP = false →
     ∀ periods, 4 ≤ periods → s.dev.wdt.resumedAt + 4 * s.dev.monitorPeriod ≤ s.dev.clk →
     Completes (.wdtClkstop periods) s (s.dev.expired wdtClkstop)) ∧
   (∀ edges stopped, Completes (.wdtClkdev edges stopped) s fun d =>
     d.flag WDT.STAT_CLKDEV = decide (edges < 879 ∨ 1075 ≤ edges) ∧ d.flag WDT.STAT_MONSTOP = stopped ∧
     ((edges < 879 ∨ 1075 ≤ edges) → s.dev.flag WDT.STAT_CLKDEV = false → s.dev.reported d Ev.WDT_CLKDEV [edges])) ∧
   Completes .eccError s (s.dev.expired wdtEcc) ∧
   Completes .eccCorr s (fun d => s.dev.counted d WDT.ECCCNT ∧ d.flag WDT.STAT_ECC_CORR = true) ∧
   (∀ t, s.dev.wdt.resetTo = some t → t ≤ s.dev.now → Completes .coreResetRelease s fun d =>
     d.coreHeld = false ∧ d.sec.bootDue = true ∧ s.dev.counted d SYS.CORERST ∧ d.fld SYS.RSTCAUSE_KIND = 1 ∧
     d.flag WDT.STAT_BOOT = true ∧ d.rd WDT.CNT = 0) ∧
   (∀ t, s.dev.wdt.wdxTo = some t → t ≤ s.dev.now → Completes .wdxEnd s fun d => d.wdt.wdxTo = none))

/-- A service in the window that R287 would find valid is refused while an enabled slot has not checked in: it starts no
period, clears no CHK bit and is not early; it is flagged, counted and logged with the missing slots (R292). -/
def Obligations.ServiceRefused : Prop := ∀ (s : State) (w : Writer), s.dev.powered = true → w ≠ .hand →
  s.dev.admits w → s.dev.frozen = false → s.dev.coreHeld = false → s.dev.mayServe w = true →
  s.dev.flag WDT.STAT_BOOT = false → s.dev.rd WDT.TMINT ≤ s.dev.rd WDT.CNT → s.dev.rd WDT.CNT < s.dev.rd WDT.TMAXT →
  (∃ k, k < 8 ∧ s.dev.bit WDT.SLOTEN k = true ∧ s.dev.bit WDT.CHK k = false) →
  Completes (.wdtService w 0x5A) s fun d =>
    d.rd WDT.CNT = s.dev.rd WDT.CNT ∧ d.rd WDT.CHK = s.dev.rd WDT.CHK ∧ d.rd WDT.SVCT = s.dev.rd WDT.SVCT ∧
    d.wdt = s.dev.wdt ∧ d.rd WDT.EXPCNT = s.dev.rd WDT.EXPCNT ∧ d.flag WDT.STAT_SVC_REFUSED = true ∧
    s.dev.counted d WDT.REFCNT ∧ s.dev.reported d Ev.WDT_REFUSED [s.dev.missingSlots] ∧
    (∀ k, k < 8 → (s.dev.missingSlots.testBit k = true ↔ s.dev.bit WDT.SLOTEN k = true ∧ s.dev.bit WDT.CHK k = false))

/-- A check-in by its owner sets the slot's bit. A second one in the period is surplus: flagged, counted and logged with
the slot, and an expiry where SURPF is 1 (whose core reset clears the flag and the count again, R296, R300); otherwise
nothing further happens. A slot that is not enabled ignores it,
and any other writer's has no effect but SVC_BAD (R291, R293). A check-in in the cycle of a valid service belongs to the
period that the service ends (R291). -/
def Obligations.CheckIns : Prop := ∀ (s : State) (w : Writer) (k : Fin 8) (v : BitVec 8), s.dev.powered = true →
  s.dev.admits w → s.dev.frozen = false → s.dev.coreHeld = false → v.toNat = 2 ^ k.val →
  (s.dev.bit WDT.SLOTEN k = false → Completes (.wdtCheckin w v) s fun d => ∀ r : Reg, d.rd r = s.dev.rd r) ∧
  (s.dev.bit WDT.SLOTEN k = true → s.dev.ownsSlot w k = false → Completes (.wdtCheckin w v) s fun d =>
    d.rd WDT.CHK = s.dev.rd WDT.CHK ∧ d.flag WDT.STAT_SVC_BAD = true ∧ s.dev.reported d Ev.WDT_BAD []) ∧
  (s.dev.bit WDT.SLOTEN k = true → s.dev.ownsSlot w k = true → s.dev.wdt.servedAt ≠ some s.dev.clk →
    (s.dev.bit WDT.CHK k = false → Completes (.wdtCheckin w v) s fun d => d.bit WDT.CHK k = true ∧
      ∀ j, j < 8 → j ≠ k.val → d.bit WDT.CHK j = s.dev.bit WDT.CHK j) ∧
    (s.dev.bit WDT.CHK k = true → s.dev.bit WDT.SURPF k = false → Completes (.wdtCheckin w v) s fun d =>
      d.flag WDT.STAT_SURPLUS = true ∧ s.dev.counted d WDT.SURPCNT ∧ s.dev.reported d Ev.WDT_SURPLUS [k.val] ∧
      d.rd WDT.CHK = s.dev.rd WDT.CHK ∧ d.rd WDT.CNT = s.dev.rd WDT.CNT ∧ d.wdt = s.dev.wdt ∧
      s.dev.onlyPages [0x0B, 0x0D] d) ∧
    (s.dev.bit WDT.CHK k = true → s.dev.bit WDT.SURPF k = true → Completes (.wdtCheckin w v) s fun d =>
      s.dev.reported d Ev.WDT_SURPLUS [k.val] ∧ s.dev.expired wdtSurplus d)) ∧
  (s.dev.bit WDT.SLOTEN k = true → s.dev.ownsSlot w k = true → s.dev.wdt.servedAt = some s.dev.clk →
    (s.dev.wdt.ended.testBit k = false → Completes (.wdtCheckin w v) s fun d =>
      d.wdt.ended.testBit k = true ∧ d.rd WDT.CHK = s.dev.rd WDT.CHK) ∧
    (s.dev.wdt.ended.testBit k = true → s.dev.bit WDT.SURPF k = false → Completes (.wdtCheckin w v) s fun d =>
      d.flag WDT.STAT_SURPLUS = true ∧ s.dev.counted d WDT.SURPCNT))

/-! ## Security (R301–R313) -/

/-- A lifecycle command burns its markers where its key, the power state, the table, its condition and the programming
conditions allow it, and is refused by name at the first that does not; the state itself changes at the next power-on
reset. A revocation sets the slot's bit, unless no other key of its class could still be used (R302–R304, R334). -/
def Obligations.LifecycleAndKeys : Prop := ∀ (s : State) (w : Writer) (env : EnergyEnv) (bad : BurnFailures),
  s.dev.powered = true → s.dev.admitsWright w →
  (∀ v : BitVec 32,
    let tgt := v.toNat % 4
    let bits := (lcMarkers tgt).foldl (fun n i => n + 4 * onesIn (s.dev.otp.lifeBits i 0xFFFFFFFF)) 0
    let refused := fun (why : Nat) => Completes (.lifecmd w v env bad) s fun d =>
      d.rd SEC.LCRES = why ∧ d.flag SEC.STAT_LC_REFUSED = true ∧ d.otp = s.dev.otp
    (v.toNat / 65536 ≠ 0x5EC1 → refused lcBadKey) ∧
    (v.toNat / 65536 = 0x5EC1 → s.dev.inRun = true → refused lcInRun) ∧
    (v.toNat / 65536 = 0x5EC1 → s.dev.inRun = false →
      (lcInTable s.dev.lifecycle tgt = false → refused lcOrder) ∧
      (lcInTable s.dev.lifecycle tgt = true → s.dev.lcCond tgt = false → refused lcCondition) ∧
      (lcInTable s.dev.lifecycle tgt = true → s.dev.lcCond tgt = true →
        ((s.dev.otpMayStart w env ≠ none ∨ s.dev.otpEnergyOk env bits = false) → refused lcEnergy) ∧
        (s.dev.otpMayStart w env = none → s.dev.otpEnergyOk env bits = true →
          Completes (.lifecmd w v env bad) s fun d => d.rd SEC.LCRES = lcOk ∧ d.flag SEC.STAT_LC_BURNED = true ∧
            s.dev.reported d Ev.LC_BURNED [tgt] ∧ d.lifecycle = s.dev.lifecycle ∧
            ∀ i ∈ lcMarkers tgt, ∀ b, b < 32 → (d.otp.life i).testBit b = true)))) ∧
  (∀ v : BitVec 8, v.toNat / 8 = 0b10110 →
    (s.dev.lifecycle = lcProvisioned ∨ s.dev.lifecycle = lcDeployed) →
    let k := v.toNat % 8
    ((∃ j ∈ classSlots k, j ≠ k ∧ s.dev.keyUsable j = true) → s.dev.otpMayStart w env = none →
      s.dev.otpEnergyOk env (4 * onesIn (s.dev.otp.lifeBits 4 (2 ^ k))) = true →
      Completes (.keyRevoke w v env bad) s fun d => (d.rd SEC.REVOKED).testBit k = true) ∧
    ((∀ j ∈ classSlots k, j = k ∨ s.dev.keyUsable j = false) →
      Completes (.keyRevoke w v env bad) s fun d => d.otp = s.dev.otp ∧ d.rd SEC.REVOKED = s.dev.rd SEC.REVOKED))

/-- A response that passes is granted its scope, one that fails is counted, and the third failure locks out. AUTH ends
with any halt it holds. A halt takes hold at once, or in DEPLOYED after the safe states and, in RUN, the next scan;
its release lets the core run. A scan instruction asserts STRIKE and leaves RUN first (R309–R313). -/
def Obligations.DebugAccess : Prop := ∀ s : State, s.dev.powered = true →
  (∀ (slot : Fin 8) (scope : BitVec 8) pubkey sig age,
    (s.dev.dbgPasses slot scope.toNat pubkey sig age = true → Completes (.debugAuth slot scope pubkey sig age) s fun d =>
      d.flag SEC.STAT_DBG_AUTH = true ∧ s.dev.reported d Ev.DBG_AUTH [slot.val, scope.toNat] ∧ d.sec.fails = 0 ∧
      (scope.toNat = 0x80 → d.sec.returnAt = some s.dev.now) ∧
      (scope.toNat ≠ 0x80 → s.dev.fld SEC.DBG_DSTATE ≠ dbgOpen →
        d.fld SEC.DBG_DSTATE = dbgAuth ∧ d.flag SEC.DBG_SCANOK = (scope.toNat == 3))) ∧
    (s.dev.dbgPasses slot scope.toNat pubkey sig age = false → Completes (.debugAuth slot scope pubkey sig age) s fun d =>
      d.flag SEC.STAT_DBG_FAIL = true ∧ s.dev.reported d Ev.DBG_FAIL [slot.val, scope.toNat] ∧
      d.sec.fails = s.dev.sec.fails + 1 ∧ d.fld SEC.DBG_DSTATE = s.dev.fld SEC.DBG_DSTATE ∧
      (2 ≤ s.dev.sec.fails → d.flag SEC.DBG_LOCKOUT = true))) ∧
  (∀ w, s.dev.admitsWright w → s.dev.fld SEC.DBG_DSTATE = dbgAuth → Completes (.debugClose w) s fun d =>
    d.fld SEC.DBG_DSTATE = dbgClosed ∧ d.flag SEC.DBG_SCANOK = false ∧ d.flag SEC.DBG_HALTED = false) ∧
  (s.dev.dbgCore = true → s.dev.flag SEC.DBG_HALTED = false → s.dev.flag SEC.DBG_HALTREQ = false →
    (s.dev.lifecycle ≠ lcDeployed → Completes .debugHalt s fun d =>
      d.flag SEC.DBG_HALTED = true ∧ d.flag WDT.STAT_FROZEN = true) ∧
    (s.dev.lifecycle = lcDeployed → s.dev.inRun = true → Completes .debugHalt s fun d =>
      d.sec.haltAtScan = true ∧ d.flag SEC.DBG_HALTED = false ∧ s.dev.reported d Ev.SAFE_ENTERED [5, 160]) ∧
    (s.dev.lifecycle = lcDeployed → s.dev.inRun = false → Completes .debugHalt s fun d =>
      d.flag SEC.DBG_HALTED = true ∧ d.flag WDT.STAT_FROZEN = true ∧ s.dev.reported d Ev.DBG_HALT_SAFE [])) ∧
  (s.dev.sec.haltAtScan = true → Completes .edgeScan s fun d =>
    d.flag SEC.DBG_HALTED = true ∧ s.dev.reported d Ev.DBG_HALT_SAFE []) ∧
  (s.dev.flag SEC.DBG_HALTED = true → Completes .debugHaltRelease s fun d =>
    d.flag SEC.DBG_HALTED = false ∧ d.flag SEC.DBG_HALTREQ = false ∧ d.flag WDT.STAT_FROZEN = false) ∧
  (s.dev.dbgScan = true → s.dev.flag SEC.DBG_SCAN = false → Completes .scanEnter s fun d =>
    d.flag SEC.DBG_SCAN = true ∧ d.inRun = false ∧ d.flag BANK.STRIKESTAT_SRC_INT = true ∧
    (s.dev.struckNow = false → d.flag BANK.STRIKESTAT_ACTIVE = true))

/-! ## Power-on reset and boot (R28, R276, R277, R302, R306, R409) -/

/-- A power-on reset starts the device afresh in KEEP, unrigged, tide at 0, its straps and lifecycle read, with the OTP
array and the slots as they stood; it comes with a supply, with VBUS at 5.0 V on a device in SHIP, and with the end of a scan
instruction. The boot that follows reads the OTP regions' states and locks; a store that is absent leads to recovery,
and a slot that passes its checks runs. -/
def Obligations.PowerOnAndBoot : Prop := ∀ (s : State) (straps : BitVec 3),
  let fresh := fun (src : PorSource) (d : Device) => d.powered = true ∧ d.now = 0 ∧ d.inKeep = true ∧
    d.rigged = false ∧ d.sec.bootDue = true ∧ d.flag WDT.STAT_BOOT = true ∧ d.rd TWI.ADDR = 0x38 + straps.toNat ∧
    d.fld SYS.RSTCAUSE_PORSRC = porCode src ∧ d.flash.flash = s.dev.flash.flash ∧
    (s.dev.otp.run = none → d.otp.norm = s.dev.otp.norm ∧ d.otp.tight = s.dev.otp.tight ∧
      d.lifecycle = s.dev.otp.lifecycle)
  Completes (.powerOnReset .supply straps) s (fresh .supply) ∧
  (s.dev.sec.supply = .ship → Completes (.powerOnReset .shipWake straps) s (fresh .shipWake) ∧
    ∀ vbus, 5000 ≤ vbus → Completes (.vbusWake vbus straps) s (fresh .shipWake)) ∧
  (∀ vbus, vbus < 5000 → Completes (.vbusWake vbus straps) s fun d => d = s.dev) ∧
  (s.dev.powered = true → s.dev.flag SEC.DBG_SCAN = true → Completes (.scanExit straps) s (fresh .scanEnd)) ∧
  (s.dev.powered = true → s.dev.sec.bootDue = true → s.dev.coreAlive = true → s.dev.storeIdle = true →
    ∀ sfdp env,
      let b := (s.dev.when s.dev.flash.cntDirty fun d => d.raise CNT.JSTAT_PENDING).bootPrepare sfdp env
      let slot := b.bootFwSlot
      Completes (.secureBoot sfdp env) s fun d => d.sec.bootDue = false ∧
        (∀ r, r < 6 → d.regionState r = s.dev.otp.state r) ∧
        d.rd OTP.LOCKS = bootLocks (s.dev.fld SEC.LIFE_STATE) ∧
        (sfdp = .absent → d.sec.recovery = true ∧ d.present = false ∧ d.flag UPD.CTL_MAINT = true ∧
          s.dev.reported d Ev.BOOT_FAIL []) ∧
        (b.authReason false slot = 0 →
          d.sec.recovery = false ∧ d.fld SEC.BOOT_SLOT = slot % 2 ∧ d.flag SEC.BOOT_FELLBACK = false))

/-! ## OTP (R323–R335) -/

/-- An OTP command is refused at the first condition of R334 that does not hold; else it takes its own checks and runs
until OTP_COMMAND_DONE, which gives its result. A program sets every bit asked for, a finalise leaves its region
pending, a re-burn needs a weak word, a repair a spare. LOCKSET only adds locks; the session runs once after a start,
and leaves an array alone that needs nothing (R326, R327, R331–R335). -/
def Obligations.OtpCommands : Prop := ∀ (s : State) (env : EnergyEnv) (bad : BurnFailures), s.dev.powered = true →
  (∀ w : Writer, s.dev.admitsWright w →
    let o := s.dev.otp
    let l := otpAddr s.dev
    let r := regionOf l
    let data := s.dev.rd OTP.WDATA
    let refused := fun (why : Nat) (d : Device) =>
      d.rd OTP.CRES = why ∧ d.flag OTP.STAT_OTP_REFUSED = true ∧ d.otp = s.dev.otp
    let started := fun (P : OtpRun → Prop) (d : Device) => d.flag OTP.STAT_BUSY = true ∧
      ∃ x, d.otp.run = some x ∧ x.addr = l ∧ (x.result = otpOk ∨ x.result = otpVerify) ∧ P x
    (∀ why, s.dev.otpMayStart w env = some why →
      Completes (.otpProgram w env bad) s (refused why) ∧ Completes (.otpFinalise w env bad) s (refused why) ∧
      Completes (.otpReburn w env bad) s (refused why) ∧ Completes (.otpRepair w env bad) s (refused why)) ∧
    (s.dev.otpMayStart w env = none →
      (l < otpWords → r ≠ rLife → r ≠ rDig → (l ≠ headerOf r ∨ data.testBit 31 = false) →
        (s.dev.regionState r ≠ 0 → Completes (.otpProgram w env bad) s (refused otpFinalised)) ∧
        (s.dev.regionState r = 0 → s.dev.plock r = true → Completes (.otpProgram w env bad) s (refused otpLocked)) ∧
        (s.dev.regionState r = 0 → s.dev.plock r = false →
          s.dev.otpEnergyOk env (burnCount (o.burnsOf l (lacking data (o.normal l)))) = true →
          Completes (.otpProgram w env bad) s fun d => started (fun x => x.final = none) d ∧
            ∀ b, data.testBit b = true → (d.otp.normal l).testBit b = true)) ∧
      (finalisable.contains l = true → o.length l ≠ 0 → o.beyond l = false → s.dev.regionState l = 0 →
        s.dev.plock l = false → s.dev.otpEnergyOk env (burnCount (o.finaliseBurns l)) = true →
        Completes (.otpFinalise w env bad) s fun d => started (fun x => x.final = some l ∨ x.result = otpVerify) d ∧
          d.regionState l = 2) ∧
      (l < otpWords →
        ((∀ p ∈ copiesOf l, p ∉ o.weak) → Completes (.otpReburn w env bad) s (refused otpNotWeak)) ∧
        ((∃ p ∈ copiesOf l, p ∈ o.weak) →
          s.dev.otpEnergyOk env (burnCount ((o.weakBits l).map fun pb => (o.homeOf pb.1, pb.2))) = true →
          Completes (.otpReburn w env bad) s (started fun x => x.final = none ∧ x.repair = false))) ∧
      (∀ g, o.repairTarget 171 l = some g →
        (o.firstBlank = none → Completes (.otpRepair w env bad) s fun d => refused otpNoSpare d ∧
          d.flag OTP.STAT_OTP_NOSPARE = true ∧ s.dev.reported d Ev.OTP_NOSPARE [l]) ∧
        (∀ k, o.firstBlank = some k → s.dev.otpEnergyOk env (burnCount (o.repairBurns l g k)) = true →
          Completes (.otpRepair w env bad) s (started fun x => x.repair = true)))) ∧
    (∀ v : BitVec 16, Completes (.otpLockset w v) s fun d =>
      d.rd OTP.LOCKS = (s.dev.rd OTP.LOCKS ||| (v.toNat &&& 0x3F3F)) % 2 ^ 16)) ∧
  (∀ x, s.dev.otp.run = some x → Completes .otpCommandDone s fun d =>
    d.flag OTP.STAT_BUSY = false ∧ d.rd OTP.CRES = x.result % 256 ∧ d.otp.run = none ∧
    (∀ r, x.final = some r → r < 6 → d.regionState r = 1 ∧ s.dev.reported d Ev.FINAL_DONE [r]) ∧
    (x.result = otpVerify → s.dev.reported d Ev.OTP_VERIFY [x.addr]) ∧
    (x.result ≠ otpVerify → x.repair = true → s.dev.reported d Ev.OTP_REPAIRED [x.addr])) ∧
  (s.dev.flag OTP.STAT_SESSION = false → s.dev.coreRuns = true → s.dev.otpMayStart .wright env = none →
    Completes (.otpSession env bad) s fun d => d.flag OTP.STAT_SESSION = true ∧
      ((∀ r ∈ finalisable, s.dev.regionState r ≠ 2) → (∀ i, i < 4 → partMarker (s.dev.otp.life i) = false) →
        s.dev.otp.weak = [] → s.dev.otp.weakCopies = [] →
        d.otp.norm = s.dev.otp.norm ∧ d.otp.tight = s.dev.otp.tight))

/-! ## Store (R337–R355) -/

/-- The next record is programmed where the store, a blank position and the energy allow, and joins the queue where
not; where the sector in use is full the next one is opened first, what opens a journal sector goes before the journal
records that are due, and a sector that is to be retired goes before every record. The queue's head is tried again. A
programmed record takes the next SEQ at the end of the log, and one that fails goes back to the head of the queue; an
erased sector leaves its area (R341–R344, R346–R348, R350). -/
def Obligations.RecordsWritten : Prop := ∀ s : State, s.dev.powered = true →
  let fits := fun (env : EnergyEnv) (journal : Bool) => s.dev.present = true ∧ s.dev.areaReady journal = true ∧
    (s.dev.storeEnergy env s.dev.flash.tProg).1 = true
  let room := fun (journal : Bool) => areaFull (s.dev.area journal) = false
  let programs := fun (b : RecBody) (t : Nat) (d : Device) =>
    d.flash.op = some (.record b t) ∧ d.flag STORE.STAT_BUSY = true
  (∀ env, s.dev.coreRuns = true → s.dev.storeIdle = true →
    (∀ k cause rest, s.dev.flash.retiring = (k, cause) :: rest → 4 ≤ k → s.dev.freeSpares ≠ [] →
      ((s.dev.storeEnergy env s.dev.flash.tProg).1 = true → Completes (.recordWrite env) s fun d =>
        d.flash.retiring = rest ∧ d.flag STORE.STAT_STORE_RETIRED = true ∧
        s.dev.reported d Ev.STORE_RETIRED [k, (s.dev.freeSpares).headD 0]) ∧
      ((s.dev.storeEnergy env s.dev.flash.tProg).1 = false → Completes (.recordWrite env) s fun d =>
        d.flash = s.dev.flash)) ∧
    (s.dev.flash.retiring = [] →
      (∀ e rest, s.dev.events = e :: rest →
        let b := RecBody.event e (s.dev.rd STORE.BOOTCNT) (s.dev.rd STORE.SCLK)
        (fits env false → room false → s.dev.flash.droppedSince = 0 → Completes (.recordWrite env) s fun d =>
          programs b e.tide d ∧ d.events = rest) ∧
        (fits env false → ¬ room false → Completes (.recordWrite env) s fun d =>
          d.flash.op = some (.openSector false) ∧ d.events = s.dev.events) ∧
        (¬ fits env false → s.dev.flash.queue.length < 32 → Completes (.recordWrite env) s fun d =>
          d.flash.queue = s.dev.flash.queue ++ [(b, e.tide)] ∧ d.flash.op = none ∧ d.flag STORE.STAT_QUEUED = true)) ∧
      (∀ b rest, s.dev.events = [] → s.dev.flash.opening = b :: rest → fits env (isJournal b) → room (isJournal b) →
        isJournal b = true → Completes (.recordWrite env) s fun d =>
          programs b s.dev.now d ∧ d.flash.opening = rest) ∧
      (∀ b t rest, s.dev.events = [] → s.dev.flash.opening = [] → s.dev.flash.ready = (b, t) :: rest →
        fits env (isJournal b) → room (isJournal b) → (isJournal b = true ∨ s.dev.flash.droppedSince = 0) →
        Completes (.recordWrite env) s fun d => programs b t d ∧ d.flash.ready = rest) ∧
      (∀ b t rest, s.dev.flash.queue = (b, t) :: rest → s.dev.retryNow = true → fits env (isJournal b) →
        room (isJournal b) → s.dev.flash.droppedSince = 0 → (isJournal b = true → s.dev.flash.opening = []) →
        Completes (.storeRetry env) s fun d => programs b t d ∧ d.flash.queue = rest))) ∧
  (∀ e boot sclk t sec, s.dev.flash.op = some (.record (.event e boot sclk) t) → e.code ≠ Ev.LOG_DROPPED →
    s.dev.flash.log.getLast? = some sec →
    (Completes (.storeOpComplete true) s fun d =>
      d.flash.log = s.dev.flash.log.dropLast ++
        [{ sec with recs := sec.recs ++ [⟨s.dev.rd STORE.NEXTSEQ, t, .event e boot sclk, true⟩] }] ∧
      d.rd STORE.NEXTSEQ = (s.dev.rd STORE.NEXTSEQ + 1) % 2 ^ 32 ∧ d.flash.op = none ∧
      d.flag STORE.STAT_BUSY = false) ∧
    (s.dev.flash.queue.length < 32 → Completes (.storeOpComplete false) s fun d =>
      d.flash.log = s.dev.flash.log ∧ d.flash.op = none ∧
      d.flash.queue = (.event e boot sclk, t) :: s.dev.flash.queue)) ∧
  (s.dev.flash.op = some .eraseLog → ∀ ok, Completes (.storeOpComplete ok) s fun d =>
    d.flash.log = s.dev.flash.log.tail ∧ d.flash.op = none)

/-- A scrub runs on command and six months after the last, and ends with SCRUB_DONE and its date. A wall-clock write
never sets SCLK back. The window reads 32 bytes of a slot at a time, and stages a block that is programmed only where
its CRC and the energy allow, over that block and its time alone (R351, R352, R354, R355). -/
def Obligations.ScrubAndWindow : Prop := ∀ (s : State) (w : Writer), s.dev.powered = true → s.dev.admits w →
  (s.dev.coreRuns = true → s.dev.present = true →
    Completes (.scrub w) s (fun d => d.flag STORE.STAT_SCRUBBING = true) ∧
    (s.dev.rd STORE.TSCRUB + sixMonths ≤ s.dev.rd STORE.SCLK →
      Completes .scrubStart s fun d => d.flag STORE.STAT_SCRUBBING = true)) ∧
  (∀ env, s.dev.coreRuns = true → s.dev.flag STORE.STAT_SCRUBBING = true → Completes (.scrubDone env) s fun d =>
    d.flag STORE.STAT_SCRUBBING = false ∧ d.rd STORE.TSCRUB = s.dev.rd STORE.SCLK % 2 ^ 32 ∧
    s.dev.reported d Ev.SCRUB_DONE []) ∧
  (∀ v : BitVec 32, Completes (.wallWrite w v) s fun d => d.rd STORE.SCLK = max (s.dev.rd STORE.SCLK) v.toNat) ∧
  (∀ v : BitVec 32, Completes (.xaddrWrite w v) s fun d => d.rd STORE.XADDR = v.toNat ∧
    (inSlots (v.toNat % 2 ^ 31) = false → d.fld STORE.XSTAT_CODE = xBadAddr ∧ d.flag STORE.XSTAT_STAGING = false) ∧
    (inSlots (v.toNat % 2 ^ 31) = true → d.fld STORE.XSTAT_CODE = xOk ∧
      d.flag STORE.XSTAT_STAGING = v.getLsbD 31 ∧
      (v.getLsbD 31 = true → d.flash.staged = [] ∧ d.flash.stageBase = v.toNat % 2 ^ 31))) ∧
  (s.dev.present = true → s.dev.flag STORE.XSTAT_STAGING = false → inSlots (s.dev.rd STORE.XADDR % 2 ^ 31) = true →
    Completes (.xdataRead w) s fun d =>
      d.rd STORE.XDATA = ofBytes (s.dev.flashRead (s.dev.rd STORE.XADDR % 2 ^ 31) 32) % 2 ^ 256 ∧
      d.rd STORE.XADDR = (s.dev.rd STORE.XADDR + 32) % 2 ^ 32) ∧
  (∀ (v : BitVec 256) env, s.dev.flag STORE.XSTAT_STAGING = true → inSlots s.dev.flash.stageBase = true →
    let n := s.dev.flash.staged.length + 1
    let rig := (slotOf s.dev.flash.stageBase).1
    let slot := (slotOf s.dev.flash.stageBase).2
    let b := (s.dev.flash.stageBase - slotBase rig slot) / sectorBytes
    let at_ := slotBase rig slot + b * sectorBytes
    let bs := ((v.toNat :: s.dev.flash.staged).reverse.flatMap (toBytes 32)).take (blockBytes rig b)
    (n < 2048 → Completes (.xdataWrite w v env) s fun d =>
      d.flash.staged = v.toNat :: s.dev.flash.staged ∧ d.flash.flash = s.dev.flash.flash) ∧
    (n = 2048 → crc32c bs ≠ s.dev.blockCrc rig slot b → Completes (.xdataWrite w v env) s fun d =>
      d.fld STORE.XSTAT_CODE = xCrc ∧ d.flag STORE.XSTAT_STAGING = false ∧ d.flash.flash = s.dev.flash.flash) ∧
    (n = 2048 → crc32c bs = s.dev.blockCrc rig slot b → (s.dev.storeEnergy env s.dev.flash.tProg).1 = true →
      s.dev.memoryWf = true → Completes (.xdataWrite w v env) s fun d => d.flag STORE.XSTAT_DONE = true ∧
        (∀ i, i < bs.length → d.flashRead (at_ + i) 1 = [bs.getD i 0]) ∧
        ∀ a, (a < at_ ∨ at_ + bs.length ≤ a) → (a < trailerAt rig slot b + 4 ∨ trailerAt rig slot b + 8 ≤ a) →
          d.flashRead a 1 = s.dev.flashRead a 1))

/-! ## Rigging (R25, R365–R371) -/

/-- A load unrigs the device and keeps the image of the slot to run where it passes every check, else that of the other
slot; where neither passes, the device stays unrigged with the code of the last refusal. The commit puts the image in force. An uncorrectable error
in it asserts STRIKE and unrigs the device for a new load; a corrected one counts. -/
def Obligations.Rigging : Prop := ∀ s : State, s.dev.powered = true →
  (s.dev.sec.loadDue = true → s.dev.coreRuns = true →
    let d0 := s.dev.loadBegin
    let slot := d0.bootRigSlot
    let first := d0.tryRig slot
    let other := fun (e : RigErr) => (first.1.rigFail slot e).tryRig (1 - slot)
    let unrigged := fun (d : Device) => d.rigged = false ∧ d.sec.loadDue = false
    (∀ x, first.2 = .ok x → Completes .riggingLoad s fun d => unrigged d ∧ d.shadow = some x ∧
      d.flag SYS.RIG_LOADING = true ∧ d.rd SYS.RIGERR = rigNone) ∧
    (∀ e x, first.2 = .error e → (other e).2 = .ok x → Completes .riggingLoad s fun d => unrigged d ∧
      d.shadow = some { x with fellback := true } ∧ d.flag SYS.RIG_LOADING = true ∧
      d.flag SYS.RIG_RIG_FALLBACK = true ∧ s.dev.reported d Ev.RIG_FALLBACK [1 - slot]) ∧
    (∀ e e2, first.2 = .error e → (other e).2 = .error e2 → Completes .riggingLoad s fun d => unrigged d ∧
      d.shadow = none ∧ d.flag SYS.RIG_LOADING = false ∧ d.rd SYS.RIGERR = e2.code % 256 ∧
      d.flag SYS.RIG_RIG_FAIL = true)) ∧
  (∀ x, s.dev.shadow = some x → Completes .riggingCommit s fun d => d.rigged = true ∧ d.shadow = none ∧
    d.flag SYS.RIG_LOADING = false ∧ d.rd SYS.RIGID = x.imgid % 2 ^ 32 ∧ d.sects = sectsOf x.recs ∧
    d.ringMap = ringMapOf x.recs ∧ d.adc.table = tableOf x.recs ∧
    s.dev.reported d Ev.RIG_LOADED [x.slot, x.imgid, x.version]) ∧
  (s.dev.rigged = true → Completes .rigCorrupt s fun d => d.rigged = false ∧ d.inRun = false ∧
    d.flag BANK.STRIKESTAT_ACTIVE = true ∧ d.flag SYS.RIG_RIG_CORRUPT = true ∧ d.sec.loadDue = true ∧
    d.rd SYS.RIGERR = rigCorruptCode ∧ s.dev.reported d Ev.RIG_CORRUPT []) ∧
  Completes .rigEccCorrected s (fun d => s.dev.counted d SYS.RIGECC)

/-! ## Service port and update (R373–R388) -/

/-- The service port answers each frame with its command, tag, status and data, and a frame to all devices with
nothing; while the core is halted, in reset or booting none is answered. Reads have no effect outside the window; writes and CONFIRM need maintenance mode; an edge is entered as the
service port's; a discarded frame counts (R58, R373, R374). OPEN takes a length in range while nothing is on trial,
armed or being verified, and blanks the inactive slot's identity; its sectors are erased; DATA programs exactly the
bytes of its frame; CLOSE needs every block; verification ends READY or FAILED (R376–R379). -/
def Obligations.ServicePort : Prop :=
  (∀ (s : State) (tag : BitVec 8), s.dev.powered = true →
   let answers := fun (cmd : Nat) (data : List Nat) (d : Device) => d.upd.resp = some ⟨cmd, tag.toNat, data⟩
   let same := fun (d : Device) => ∀ r : Reg, d.rd r = s.dev.rd r
   (s.dev.coreServes = true →
   Completes (.svcPing false tag) s (fun d => answers 1 (0 :: s.dev.pingData) d ∧ same d) ∧
   Completes (.svcPing true tag) s (fun d => d.upd.resp = none ∧ same d) ∧
   Completes (.svcStatus false tag) s (fun d => same d ∧
     answers 0x13 (0 :: (toBytes 2 (s.dev.rd UPD.STAT) ++ [s.dev.rd UPD.RES] ++ toBytes 64 (s.dev.rd UPD.RXMAP))) d) ∧
   (∀ page off n : BitVec 8,
     (1 ≤ n.toNat → n.toNat ≤ 64 → off.toNat + n.toNat ≤ 256 → page.toNat ≠ 0x0E →
       Completes (.svcRead false tag page off n) s fun d => same d ∧
         answers 2 (0 :: (List.range n.toNat).map fun i => s.dev.readByte page.toNat (off.toNat + i)) d) ∧
     ((n.toNat = 0 ∨ 64 < n.toNat ∨ 256 < off.toNat + n.toNat) →
       Completes (.svcRead false tag page off n) s fun d => same d ∧ answers 2 [resBadRange] d)) ∧
   (∀ (page off : BitVec 8) (bytes : List (BitVec 8)),
     (s.dev.maint = false → Completes (.svcWrite false tag page off bytes) s fun d =>
       same d ∧ answers 3 [resNotMaint] d) ∧
     (s.dev.maint = true → writeFits .service off.toNat bytes.length = true →
       Completes (.svcWrite false tag page off bytes) s fun d => answers 3 [resOk] d ∧
         ∀ r : Reg, d.rd r = (s.dev.registerWrite .service page.toNat off.toNat (bytes.map BitVec.toNat)).rd r)) ∧
   (∀ e : EdgeBits, s.dev.maint = true → s.dev.enterable .svc (edgeReq e.toNat) →
     Completes (.svcEdge false tag e) s fun d => s.dev.entered d .svc (edgeReq e.toNat) ∧
       ∃ rest, answers 4 (0 :: 0 :: rest) d)) ∧
   (s.dev.coreServes = false → Completes (.svcPing false tag) s (fun d => d = s.dev)) ∧
   Completes .svcFrameDiscard s (fun d => s.dev.counted d UPD.SVCERR ∧ d.upd = s.dev.upd)) ∧
  (∀ (s : State) (tag : BitVec 8), s.dev.powered = true → s.dev.coreServes = true →
   let rig := s.dev.xrig
   let slot := s.dev.inactiveSlot rig
   (∀ (kind : BitVec 8) (len : BitVec 32), kind.toNat < 2 →
     let k := kind.toNat == 1
     (s.dev.onTrial = false → s.dev.flag UPD.STAT_ARMED = false → s.dev.xstate ≠ xVerifying →
       (lengthOk k len.toNat = true → Completes (.svcOpen false tag kind len) s fun d =>
         d.xstate = xErasing ∧ d.xrig = k ∧ d.rd UPD.XLEN = len.toNat ∧ d.rd UPD.RXMAP = 0 ∧
         d.slotId k (s.dev.inactiveSlot k) = 0 ∧ d.upd.toErase = transferSectors k len.toNat) ∧
       (lengthOk k len.toNat = false → Completes (.svcOpen false tag kind len) s fun d =>
         d.rd UPD.RES = resSize ∧ d.xstate = s.dev.xstate ∧ d.flag UPD.STAT_UPD_REFUSED = true)) ∧
     ((s.dev.onTrial = true ∨ s.dev.flag UPD.STAT_ARMED = true ∨ s.dev.xstate = xVerifying) →
       Completes (.svcOpen false tag kind len) s fun d =>
         d.rd UPD.RES = resBadState ∧ d.xstate = s.dev.xstate ∧ d.flag UPD.STAT_UPD_REFUSED = true)) ∧
   (∀ env, s.dev.xstate = xErasing → s.dev.present = true → s.dev.storeIdle = true →
     (s.dev.storeEnergy env s.dev.flash.tErase).1 = true → s.dev.memoryWf = true →
     Completes (.transferEraseDone env) s fun d => d.xstate = xReceiving ∧
       let erased := fun (a : Nat) => ∃ b ∈ s.dev.upd.toErase,
         slotBase rig slot + b * sectorBytes ≤ a ∧ a < slotBase rig slot + (b + 1) * sectorBytes
       ∀ a, (erased a → d.flashRead a 1 = [0xFF]) ∧ (¬ erased a → d.flashRead a 1 = s.dev.flashRead a 1)) ∧
   (∀ (off : BitVec 32) (data : List (BitVec 8)) env, s.dev.xstate = xReceiving →
     frameOk (s.dev.rd UPD.XLEN) off.toNat data.length = true →
     (pagesOf off.toNat data.length).all s.dev.upd.pages.contains = false →
     let at_ := slotBase rig slot + off.toNat
     ((s.dev.storeEnergy env s.dev.flash.tProg).1 = true → s.dev.present = true → s.dev.memoryWf = true →
       Completes (.svcData false tag off data env) s fun d => d.rd UPD.RES = resOk ∧
         d.rd UPD.XRCV = (s.dev.rd UPD.XRCV + data.length) % 2 ^ 32 ∧
         (∀ i, i < data.length → d.flashRead (at_ + i) 1 = [(data.getD i 0).toNat]) ∧
         ∀ a, (a < at_ ∨ at_ + data.length ≤ a) → d.flashRead a 1 = s.dev.flashRead a 1) ∧
     ((s.dev.storeEnergy env s.dev.flash.tProg).1 = false → Completes (.svcData false tag off data env) s fun d =>
       d.rd UPD.RES = resEnergy ∧ d.flash.flash = s.dev.flash.flash)) ∧
   (s.dev.xstate = xReceiving →
     (s.dev.received = true → Completes (.svcClose false tag) s fun d =>
       d.xstate = xVerifying ∧ d.rd UPD.RES = resBusy) ∧
     (s.dev.received = false → Completes (.svcClose false tag) s fun d =>
       d.xstate = xReceiving ∧ d.rd UPD.RES = resIncomplete)) ∧
   (s.dev.xstate = xVerifying →
     (s.dev.authReason rig slot = 0 → s.dev.imageCheck rig slot = none → Completes .verifyDone s fun d =>
       d.xstate = xReady ∧ d.upd.ready rig = true ∧ d.slotId rig slot = hImgid (s.dev.header rig slot) % 2 ^ 32 ∧
       s.dev.reported d Ev.UPD_IMAGE_OK [rig.toNat, hImgid (s.dev.header rig slot)]) ∧
     (s.dev.authReason rig slot ≠ 0 → Completes .verifyDone s fun d => d.xstate = xFailed ∧ d.rd UPD.RES = resAuth ∧
       s.dev.reported d Ev.UPD_IMAGE_BAD [rig.toNat, resAuth])))

/-- An ACTIVATE that passes its checks arms the device, on the head from its registers or the service port and on every
device from its message; a target of 0 and an ABORT cancel. At the epoch the device restarts where its condition holds,
with its banks held, and else waits for the next window. A confirmation ends the trial (R380–R385). -/
def Obligations.Activation : Prop := ∀ s : State, s.dev.powered = true →
  let armed := fun (p : List Nat) (d : Device) => d.flag UPD.STAT_ARMED = true ∧
    d.rd UPD.ARMTIDE = aEpoch p % 2 ^ 64 ∧ d.upd.armed = p ∧ d.upd.suspend = some (aEpoch p) ∧
    s.dev.reported d Ev.UPD_ARMED [aEpoch p]
  let good := fun (d : Device) (p : List Nat) => d.flag UPD.STAT_ARMED = false ∧ (aFw p = true ∨ aRg p = true) ∧
    d.armChecks p = none
  (s.dev.isHead = true →
    (∀ w, s.dev.admitsWright w →
      let p := activatePay (s.dev.rd UPD.AEPOCH) (s.dev.rd UPD.ACOND) (s.dev.rd UPD.AID) (s.dev.rd UPD.ATGT)
      s.dev.now + 10 * msec ≤ s.dev.rd UPD.AEPOCH → s.dev.rd UPD.ACOND < 4 → good s.dev p →
      Completes (.updActivate w) s (armed p)) ∧
    (∀ tag epoch cond id tgt,
      let p := activatePay epoch.toNat cond.toNat id.toNat tgt.toNat
      s.dev.now + 10 * msec ≤ epoch.toNat → cond.toNat < 4 → good s.dev p →
      s.dev.coreServes = true → Completes (.svcActivate false tag epoch cond id tgt) s fun d =>
        armed p d ∧ d.upd.resp = some ⟨0x14, tag.toNat, [resOk]⟩)) ∧
  (∀ w, s.dev.admitsWright w → s.dev.isHead = false → Completes (.updActivate w) s fun d =>
    d.rd UPD.RES = resNotHead ∧ d.flag UPD.STAT_UPD_REFUSED = true ∧
    d.flag UPD.STAT_ARMED = s.dev.flag UPD.STAT_ARMED) ∧
  (∀ m d0, s.dev.coreRuns = true → s.dev.takeMsg .activate = some (m, d0) →
    let p := (List.range 14).map (byteAt m.data)
    (good d0 p → Completes .activateReceive s (armed p)) ∧
    (aFw p = false → aRg p = false → Completes .activateReceive s fun d => d.flag UPD.STAT_ARMED = false)) ∧
  (∀ w, s.dev.admitsWright w → s.dev.xstate ≠ xVerifying → Completes (.updAbort w) s fun d =>
    d.xstate = xIdle ∧ d.upd.readyFw = false ∧ d.upd.readyRg = false ∧
    (s.dev.isHead = true → d.flag UPD.STAT_ARMED = false)) ∧
  (∀ env, s.dev.coreRuns = true → s.dev.upd.repeating = none → s.dev.flag UPD.STAT_ARMED = true →
    s.dev.rd UPD.ARMTIDE ≤ s.dev.now →
    let p := s.dev.upd.armed
    ((s.dev.runChecks p ≠ none ∨ s.dev.condHolds (aCond p) = false) → Completes (.activateEpoch env) s fun d =>
      d.flag UPD.STAT_ARMED = true ∧
      d.rd UPD.ARMTIDE = (s.dev.rd UPD.ARMTIDE + s.dev.rd UPD.AWIN * 100 * msec) % 2 ^ 64 ∧
      (s.dev.upd.postponed = false → s.dev.reported d Ev.UPD_POSTPONED [])) ∧
    (s.dev.runChecks p = none → s.dev.condHolds (aCond p) = true → s.dev.present = true → s.dev.storeIdle = true →
      (s.dev.storeEnergy env s.dev.flash.tProg).1 = true → (s.dev.storeEnergy env s.dev.flash.tErase).1 = true →
      Completes (.activateEpoch env) s fun d =>
        d.sec.activation = true ∧ d.flag UPD.STAT_ARMED = false ∧
        (∀ m ∈ s.dev.liveBanks, d.flag (BANK.STAT_HELD m) = true) ∧
        (aFw p = true → d.sec.bootDue = true ∧ d.store = []) ∧ (aFw p = false → d.sec.loadDue = true))) ∧
  (∀ e, s.dev.upd.suspend = some e → e + 40 * msec ≤ s.dev.now → Completes .activateSuspendEnd s fun d =>
    d.upd.suspend = none) ∧
  (∀ env bad,
    let confirmed := fun (d : Device) => d.bootHdr.trial = 0 ∧ d.flag UPD.STAT_FWTRIAL = false ∧
      d.flag UPD.STAT_RGTRIAL = false ∧ d.rd UPD.RES = resOk ∧ s.dev.reported d Ev.UPD_CONFIRMED []
    s.dev.bootHdr.trial ≠ 0 → s.dev.present = true → s.dev.storeIdle = true →
    (s.dev.storeEnergy env s.dev.flash.tProg).1 = true → (s.dev.storeEnergy env s.dev.flash.tErase).1 = true →
    (∀ w, s.dev.admitsWright w → Completes (.updConfirm w env bad) s confirmed) ∧
    (∀ tag, s.dev.maint = true → s.dev.coreServes = true → Completes (.svcConfirm false tag env bad) s fun d =>
      confirmed d ∧ d.upd.resp = some ⟨0x15, tag.toNat, [resOk]⟩))

/-! ## Two-wire port and register writes (R5, R76, R390–R402) -/

/-- The first byte of a write sets the pointer, and offset 0xFF is the page. A multi-byte register is read whole as it
stood at its first byte, and a write that ends before its last byte is discarded and counted. Attention is pulsed once
and served by address; a controller transaction runs, ends with its outcome, or is refused; timeouts and bus errors are
counted and end what was pending. A register write takes RW bits and clears W1C bits, but those that the hardware
sets in the same cycle stay (R5, R6, R391–R402). -/
def Obligations.TwoWire : Prop := ∀ s : State, s.dev.powered = true →
  let t := s.dev.twi
  (∀ (p : BitVec 8) stop, Completes (.twiWrite [p] stop) s fun d =>
    d.twi.ptr = p.toNat ∧ d.flag TWI.STAT_BUSBUSY = !stop) ∧
  (∀ (g : BitVec 8) stop, Completes (.twiWrite [0xFF, g] stop) s fun d => d.twi.page = g.toNat ∧ d.twi.ptr = 0) ∧
  (∀ (p b : BitVec 8) stop r, p ≠ 0xFF → t.page ≠ 0x12 → regOf t.page p.toNat = some r →
    r.addr = t.page * 256 + p.toNat → 8 < r.width → r.width ≤ 64 → 1 < r.bytes →
    Completes (.twiWrite [p, b] stop) s fun d => s.dev.counted d TWI.DISCCNT ∧ d.flag TWI.STAT_WR_DISCARD = true ∧
      d.twi.buf = none ∧ ∀ x : Reg, x.addr / 256 ≠ 0x12 → d.rd x = s.dev.rd x) ∧
  (∀ stop r, r.addr = t.page * 256 + t.ptr → r.addr ≠ STORE.XDATA.addr → 8 < r.width →
    (∀ i, i < r.bytes → t.ptr + i < 255 ∧ regOf t.page (t.ptr + i) = some r) →
    Completes (.twiRead r.bytes stop) s fun d => d.twi.out = toBytes r.bytes (s.dev.readReg r)) ∧
  (s.dev.pulseOwed = true → s.dev.flag TWI.STAT_BUSBUSY = false → s.dev.flag TWI.STAT_CBUSY = false →
    Completes (.attentionPulse false) s (fun d => d.twi.pulsed = true ∧ s.dev.counted d TWI.ATTCNT) ∧
    Completes (.attentionPulse true) s (fun d => d.flag TWI.STAT_ATT_COLL = true ∧ d.twi = t)) ∧
  (∀ others : List (BitVec 7),
    (s.dev.attPending = true → (∀ a ∈ others, s.dev.twiAddr ≤ a.toNat) → Completes (.alertResponse others) s fun d =>
      d.twi.out = [2 * s.dev.twiAddr] ∧ d.twi.servedAt = some s.dev.now ∧ s.dev.counted d TWI.ARACNT) ∧
    (s.dev.attPending = false → Completes (.alertResponse others) s fun d => d.twi.acked = false ∧ d.twi.out = [])) ∧
  (∀ (w : Writer) (v : BitVec 8), s.dev.admits w → v.getLsbD 0 = true →
    let wl := s.dev.rd TWI.CWLEN
    let rl := s.dev.rd TWI.CRLEN
    (isCore w = true → s.dev.flag TWI.CRES_BUSY = false → 1 ≤ wl + rl → wl ≤ 8 → rl ≤ 32 →
      Completes (.twiControllerStart w v) s fun d => d.flag TWI.CRES_BUSY = true ∧ d.twi.tries = 0) ∧
    ((isCore w = false ∨ wl + rl = 0 ∨ 8 < wl ∨ 32 < rl) → Completes (.twiControllerStart w v) s fun d =>
      d.fld TWI.CRES_STATUS = twiRefused ∧ d.flag TWI.CRES_BUSY = s.dev.flag TWI.CRES_BUSY)) ∧
  (∀ idle, s.dev.flag TWI.CRES_BUSY = true → (s.dev.flag TWI.STAT_BUSBUSY = false ∨ 50 * usec ≤ idle) →
    let ends := fun (o : TwiOutcome) (st : Nat) => Completes (.twiControllerTransaction idle o) s fun d =>
      d.flag TWI.CRES_BUSY = false ∧ d.flag TWI.STAT_CBUSY = false ∧ d.fld TWI.CRES_STATUS = st
    (∀ data, ends (.ok data) twiOk) ∧ ends .nackAddr twiNackAddr ∧ ends .nackData twiNackData ∧
    (∀ own, s.dev.fld TWI.CFG_CRETRY ≤ t.tries → ends (.arbLost own) twiArbLost) ∧
    (∀ own, t.tries < s.dev.fld TWI.CFG_CRETRY → Completes (.twiControllerTransaction idle (.arbLost own)) s fun d =>
      d.flag TWI.CRES_BUSY = true ∧ d.twi.tries = t.tries + 1 ∧ s.dev.counted d TWI.ARBCNT)) ∧
  (∀ held, s.dev.twiTimeoutTicks ≤ held → Completes (.sclTimeout held) s fun d =>
    s.dev.counted d TWI.TOCNT ∧ d.flag TWI.STAT_SCL_TIMEOUT = true ∧
    s.dev.reported d Ev.SCL_TIMEOUT [] ∧ d.twi.buf = none ∧ d.flag TWI.CRES_BUSY = false ∧
    (s.dev.flag TWI.CRES_BUSY = true → d.fld TWI.CRES_STATUS = twiTimeout)) ∧
  (∀ held released clocks, s.dev.twiTimeoutTicks ≤ held → Completes (.sdaStuck held released clocks) s fun d =>
    s.dev.counted d TWI.TOCNT ∧ d.flag TWI.STAT_SDA_STUCK = true ∧ s.dev.reported d Ev.SDA_STUCK []) ∧
  (∀ start, Completes (.busErr start) s fun d => s.dev.counted d TWI.BUSERRCNT ∧ d.flag TWI.STAT_BUS_ERR = true ∧
    d.twi.buf = none ∧ d.flag TWI.STAT_BUSBUSY = start) ∧
  (∀ w, s.dev.admits w →
    (∀ v : BitVec 32, Completes (.registerWrite w 0x00 0x18 ((List.range 4).map fun i => v.extractLsb' (8 * i) 8)) s fun d =>
      d.rd SYS.IMASKH % 2 ^ 20 = v.toNat % 2 ^ 20) ∧
    (∀ v : BitVec 8, Completes (.registerWrite w 0x0B 0x15 [v]) s fun d =>
      ∀ k, k < 16 → d.bit WDT.STAT k =
        (s.dev.bit WDT.STAT k && !(decide (8 ≤ k) && decide (k < 14) && v.getLsbD (k - 8) &&
          !(s.dev.freshBits WDT.STAT).testBit k))))
end

