-- ==== Sys2Proof/Laws/Frame.lean ====
section
/-! SUPPORT. Laws/Frame.lean: which operations leave the slot bytes and the OTP array alone. One lemma per operation,
`<operation>_same`: from any state `o`, memory is as in `o` after the operation exactly where it was before it; simp
carries it through a meaning. An operation that stores has none. -/
namespace Sys2Proof.Machine


theorem Device.same_refl (d : Device) : d.sameMemory d := ⟨.refl _, .refl _, .refl _⟩
@[simp ↓] theorem Device.same_ite (o : Device) (c : Prop) [Decidable c] (a b : Device) :
    o.sameMemory (if c then a else b) = if c then o.sameMemory a else o.sameMemory b := by split <;> rfl
@[simp ↓] theorem Device.same_each {α : Type} {f : Device → α → Device}
    (h : ∀ (o d : Device) (a : α), o.sameMemory (f d a) = o.sameMemory d) (o : Device) :
    ∀ (l : List α) (d : Device), o.sameMemory (d.each l f) = o.sameMemory d
  | [], _ => rfl
  | a :: t, d => (same_each h o t (f d a)).trans (h o d a)
@[simp ↓] theorem Device.same_when (o d : Device) (c : Bool) (f : Device → Device)
    (h : ∀ o d : Device, o.sameMemory (f d) = o.sameMemory d) : o.sameMemory (d.when c f) = o.sameMemory d := by
  unfold Device.when; split <;> simp [h]
@[simp ↓] theorem Device.same_mk (o : Device) (a1 a2 a3 a4 a5 a6 a7 a8 a9 a10 a11 a12 a13 a14 a15 a16 a17 a18 a19 a20 a21 a22)
    (ot : Otp) (fl : Store) (b1 b2 b3 b4 b5 b6 b7 b8) :
    o.sameMemory (Device.mk a1 a2 a3 a4 a5 a6 a7 a8 a9 a10 a11 a12 a13 a14 a15 a16 a17 a18 a19 a20 a21 a22 ot fl b1 b2 b3 b4 b5
        b6 b7 b8)
      = (fl.flash = o.flash.flash ∧ ot.norm = o.otp.norm ∧ ot.tight = o.otp.tight) := rfl
@[simp ↓] theorem Device.same_fold (o d : Device) :
    (d.flash.flash = o.flash.flash ∧ d.otp.norm = o.otp.norm ∧ d.otp.tight = o.otp.tight) = o.sameMemory d := rfl

/-! ### Machine/Ops.lean -/

@[simp ↓] theorem Device.wr_same {o : Device} (d : Device) (r : Reg) (v : Nat) :
    o.sameMemory (d.wr r v) = o.sameMemory d := by
  unfold Device.wr; simp

@[simp ↓] theorem Device.setFld_same {o : Device} (d : Device) (f : Field) (v : Nat) :
    o.sameMemory (d.setFld f v) = o.sameMemory d := by
  unfold Device.setFld; simp

@[simp ↓] theorem Device.setFlag_same {o : Device} (d : Device) (f : Field) (b : Bool) :
    o.sameMemory (d.setFlag f b) = o.sameMemory d := by
  unfold Device.setFlag; simp

@[simp ↓] theorem Device.noteSet_same {o : Device} (d : Device) (addr bit : Nat) :
    o.sameMemory (d.noteSet addr bit) = o.sameMemory d := by
  unfold Device.noteSet; simp

@[simp ↓] theorem Device.raise_same {o : Device} (d : Device) (f : Field) :
    o.sameMemory (d.raise f) = o.sameMemory d := by
  unfold Device.raise; simp

@[simp ↓] theorem Device.lower_same {o : Device} (d : Device) (f : Field) :
    o.sameMemory (d.lower f) = o.sameMemory d := by
  unfold Device.lower; simp

@[simp ↓] theorem Device.setBit_same {o : Device} (d : Device) (r : Reg) (i : Nat) (b : Bool) :
    o.sameMemory (d.setBit r i b) = o.sameMemory d := by
  unfold Device.setBit; simp

@[simp ↓] theorem Device.raiseBit_same {o : Device} (d : Device) (r : Reg) (i : Nat) :
    o.sameMemory (d.raiseBit r i) = o.sameMemory d := by
  unfold Device.raiseBit; simp

@[simp ↓] theorem Device.setChan_same {o : Device} (d : Device) (n : Nat) (c : Chan) :
    o.sameMemory (d.setChan n c) = o.sameMemory d := by
  unfold Device.setChan; simp

@[simp ↓] theorem Device.modChan_same {o : Device} (d : Device) (n : Nat) (f : Chan → Chan) :
    o.sameMemory (d.modChan n f) = o.sameMemory d := by
  unfold Device.modChan; simp

@[simp ↓] theorem Device.setBank_same {o : Device} (d : Device) (m : Nat) (b : Bank) :
    o.sameMemory (d.setBank m b) = o.sameMemory d := by
  unfold Device.setBank; simp

@[simp ↓] theorem Device.modBank_same {o : Device} (d : Device) (m : Nat) (f : Bank → Bank) :
    o.sameMemory (d.modBank m f) = o.sameMemory d := by
  unfold Device.modBank; simp

@[simp ↓] theorem Device.setRail_same {o : Device} (d : Device) (r : Nat) (x : Rail) :
    o.sameMemory (d.setRail r x) = o.sameMemory d := by
  unfold Device.setRail; simp

@[simp ↓] theorem Device.modRail_same {o : Device} (d : Device) (r : Nat) (f : Rail → Rail) :
    o.sameMemory (d.modRail r f) = o.sameMemory d := by
  unfold Device.modRail; simp

@[simp ↓] theorem Device.setFeed_same {o : Device} (d : Device) (f : FeedId) (x : Feed) :
    o.sameMemory (d.setFeed f x) = o.sameMemory d := by
  unfold Device.setFeed; (repeat' split) <;> simp

@[simp ↓] theorem Device.setPort_same {o : Device} (d : Device) (p : Port) (x : PortSt) :
    o.sameMemory (d.setPort p x) = o.sameMemory d := by
  unfold Device.setPort; (repeat' split) <;> simp

@[simp ↓] theorem Device.nextFree_same {o : Device} (d : Device) :
    o.sameMemory d.nextFree = o.sameMemory d := by
  unfold Device.nextFree; simp

@[simp ↓] theorem Device.countSat_same {o : Device} (d : Device) (r : Reg) (n : Nat := 1) :
    o.sameMemory (d.countSat r n) = o.sameMemory d := by
  unfold Device.countSat; simp

@[simp ↓] theorem Device.count_same {o : Device} (d : Device) (r : Reg) (n : Nat := 1) :
    o.sameMemory (d.count r n) = o.sameMemory d := by
  unfold Device.count; simp

@[simp ↓] theorem Device.toHead_same {o : Device} (d : Device) (e : Event) (front : Bool := false) :
    o.sameMemory (d.toHead e front) = o.sameMemory d := by
  unfold Device.toHead; simp

@[simp ↓] theorem Device.log_same {o : Device} (d : Device) (code : Nat) (args : List Nat := []) (front : Bool := false) :
    o.sameMemory (d.log code args front) = o.sameMemory d := by
  unfold Device.log; simp

@[simp ↓] theorem Device.logFirst_same {o : Device} (d : Device) (code key : Nat) (args : List Nat := []) (report : Bool := false) :
    o.sameMemory (d.logFirst code key args report) = o.sameMemory d := by
  unfold Device.logFirst; simp

@[simp ↓] theorem Device.modOtp_same {o : Device} (d : Device) (f : Otp → Otp) :
    o.sameMemory (d.modOtp f) = (d.flash.flash = o.flash.flash ∧ (f d.otp).norm = o.otp.norm ∧ (f d.otp).tight = o.otp.tight) := rfl

@[simp ↓] theorem Device.modStore_same {o : Device} (d : Device) (f : Store → Store) :
    o.sameMemory (d.modStore f) = ((f d.flash).flash = o.flash.flash ∧ d.otp.norm = o.otp.norm ∧ d.otp.tight = o.otp.tight) := rfl

@[simp ↓] theorem Device.chgRegs_same {o : Device} (d : Device) (v w : Nat) :
    o.sameMemory (d.chgRegs v w) = o.sameMemory d := by
  unfold Device.chgRegs; simp

theorem Device.chgTakeBack_flash (d : Device) (x : ChgDone) : (d.chgTakeBack x).flash = d.flash := by
  unfold Device.chgTakeBack; simp only []; rfl
theorem Device.chgTakeBack_otp (d : Device) (x : ChgDone) : (d.chgTakeBack x).otp = d.otp := by
  unfold Device.chgTakeBack; simp only []; rfl
@[simp ↓] theorem Device.chgTakeBack_same {o : Device} (d : Device) (x : ChgDone) :
    o.sameMemory (d.chgTakeBack x) = o.sameMemory d := by
  unfold Device.sameMemory; rw [Device.chgTakeBack_flash, Device.chgTakeBack_otp]

@[simp ↓] theorem Device.chgTurn_same {o : Device} (d : Device) (rank : Nat) :
    o.sameMemory (d.chgTurn rank).1 = o.sameMemory d := by
  unfold Device.chgTurn
  split
  · split
    · show o.sameMemory (if _ then _ else _) = _
      split
      · exact Device.chgTakeBack_same d _
      · rfl
    · rfl
  · rfl

/-- The ranking of a tick's charger events adds no store to what the event does. -/
theorem Device.chgEvent_same {o : Device} (d : Device) (rank : Nat) (code : Option Nat) (holds : Device → Bool)
    (f : Device → Device) (h : ∀ d : Device, o.sameMemory (f d) = o.sameMemory d) :
    o.sameMemory (d.chgEvent rank code holds f) = o.sameMemory d := by
  unfold Device.chgEvent
  split
  · exact (h _).trans (Device.chgTurn_same d rank)
  · rfl

/-- Taking a message out of what the ring delivered leaves memory alone. -/
theorem Device.takeMsg_same {o d d' : Device} {k : MsgType} {m : Msg} (h : d.takeMsg k = some (m, d')) :
    o.sameMemory d' = o.sameMemory d := by
  unfold Device.takeMsg at h
  split at h <;> simp at h
  obtain ⟨-, rfl⟩ := h; rfl

/-! ### Machine/Flags.lean -/

@[simp ↓] theorem Device.attSettle_same {o : Device} (d : Device) :
    o.sameMemory d.attSettle = o.sameMemory d := by
  unfold Device.attSettle; simp

/-! ### Machine/RingBase.lean -/

@[simp ↓] theorem Device.queueMsg_same {o : Device} (d : Device) (t : MsgType) (dst : Nat) (data : List Nat) :
    o.sameMemory (d.queueMsg t dst data) = o.sameMemory d := by
  unfold Device.queueMsg; simp

@[simp ↓] theorem Device.portClear_same {o : Device} (d : Device) (p : Port) :
    o.sameMemory (d.portClear p) = o.sameMemory d := by
  unfold Device.portClear; simp

@[simp ↓] theorem Device.chainFlags_same {o : Device} (d : Device) :
    o.sameMemory d.chainFlags = o.sameMemory d := by
  unfold Device.chainFlags; simp

@[simp ↓] theorem Device.openWindow_same {o : Device} (d : Device) :
    o.sameMemory d.openWindow = o.sameMemory d := by
  unfold Device.openWindow; simp

@[simp ↓] theorem Device.commitPorts_same {o : Device} (d : Device) :
    o.sameMemory d.commitPorts = o.sameMemory d := by
  unfold Device.commitPorts; simp

/-! ### Machine/Channel.lean -/

@[simp ↓] theorem Device.outOff_same {o : Device} (d : Device) (n : Nat) :
    o.sameMemory (d.outOff n) = o.sameMemory d := by
  unfold Device.outOff; simp

@[simp ↓] theorem Device.outOn_same {o : Device} (d : Device) (n : Nat) :
    o.sameMemory (d.outOn n) = o.sameMemory d := by
  unfold Device.outOn; simp

@[simp ↓] theorem Device.gangOff_same {o : Device} (d : Device) (l : Nat) :
    o.sameMemory (d.gangOff l) = o.sameMemory d := by
  unfold Device.gangOff; simp

@[simp ↓] theorem Device.bankTurnOff_same {o : Device} (d : Device) (l : Nat) :
    o.sameMemory (d.bankTurnOff l) = o.sameMemory d := by
  unfold Device.bankTurnOff; simp

@[simp ↓] theorem Device.turnOn_same {o : Device} (d : Device) (l : Nat) (fired checked : Bool) (duty : Nat) :
    o.sameMemory (d.turnOn l fired checked duty) = o.sameMemory d := by
  unfold Device.turnOn; simp

@[simp ↓] theorem Device.turnOff_same {o : Device} (d : Device) (l : Nat) (fired : Bool) :
    o.sameMemory (d.turnOff l fired) = o.sameMemory d := by
  unfold Device.turnOff; simp

@[simp ↓] theorem Device.recordState_same {o : Device} (d : Device) (l rk : Nat) :
    o.sameMemory (d.recordState l rk) = o.sameMemory d := by
  unfold Device.recordState; simp

@[simp ↓] theorem Device.dropCmdsOf_same {o : Device} (d : Device) (l : Nat) :
    o.sameMemory (d.dropCmdsOf l) = o.sameMemory d := by
  unfold Device.dropCmdsOf; simp

@[simp ↓] theorem Device.faultOff_same {o : Device} (d : Device) (l rk : Nat) :
    o.sameMemory (d.faultOff l rk) = o.sameMemory d := by
  unfold Device.faultOff; simp

@[simp ↓] theorem Device.endHold_same {o : Device} (d : Device) (l rk : Nat) :
    o.sameMemory (d.endHold l rk) = o.sameMemory d := by
  unfold Device.endHold; simp

@[simp ↓] theorem Device.discard_same {o : Device} (d : Device) (which : Entry → Bool) (ev : Nat) :
    o.sameMemory (d.discard which ev) = o.sameMemory d := by
  unfold Device.discard; simp

@[simp ↓] theorem Device.dropCmds_same {o : Device} (d : Device) :
    o.sameMemory d.dropCmds = o.sameMemory d := by
  unfold Device.dropCmds; simp

@[simp ↓] theorem Device.leaveRun_same {o : Device} (d : Device) :
    o.sameMemory d.leaveRun = o.sameMemory d := by
  unfold Device.leaveRun; simp

@[simp ↓] theorem Device.command_same {o : Device} (d : Device) (l : Nat) (on fired : Bool) :
    o.sameMemory (d.command l on fired) = o.sameMemory d := by
  unfold Device.command; simp

@[simp ↓] theorem Device.safeOne_same {o : Device} (d : Device) (l : Nat) :
    o.sameMemory (d.safeOne l) = o.sameMemory d := by
  unfold Device.safeOne; simp

@[simp ↓] theorem Device.applySafe_same {o : Device} (d : Device) (cause : SafeCause) :
    o.sameMemory (d.applySafe cause) = o.sameMemory d := by
  unfold Device.applySafe; simp

@[simp ↓] theorem Device.addStrikeSource_same {o : Device} (d : Device) (src : StrikeSrc) :
    o.sameMemory (d.addStrikeSource src) = o.sameMemory d := by
  unfold Device.addStrikeSource; simp

@[simp ↓] theorem Device.strike_same {o : Device} (d : Device) (src : StrikeSrc) :
    o.sameMemory (d.strike src) = o.sameMemory d := by
  unfold Device.strike; simp

@[simp ↓] theorem Device.acceptNow_same {o : Device} (d : Device) (which : Entry → Bool) :
    o.sameMemory (d.acceptNow which) = o.sameMemory d := by
  unfold Device.acceptNow; simp

@[simp ↓] theorem Device.cnt_same {o : Device} (d : Device) (r : Nat → Reg) (j : Nat) :
    o.sameMemory (d.cnt r j) = o.sameMemory d := by
  exact (Device.raise_same (o := o) (d.countSat (r j)) CNT.JSTAT_PENDING).trans (Device.countSat_same d (r j))

@[simp ↓] theorem Device.ucodeFail_same {o : Device} (d : Device) (m : Nat) :
    o.sameMemory (d.ucodeFail m) = o.sameMemory d := by
  unfold Device.ucodeFail; simp

@[simp ↓] theorem Device.bankOff_same {o : Device} (d : Device) (m : Nat) :
    o.sameMemory (d.bankOff m) = o.sameMemory d := by
  unfold Device.bankOff; simp

@[simp ↓] theorem Device.holdBank_same {o : Device} (d : Device) (m : Nat) :
    o.sameMemory (d.holdBank m) = o.sameMemory d := by
  unfold Device.holdBank; simp

@[simp ↓] theorem Device.releaseBank_same {o : Device} (d : Device) (m : Nat) :
    o.sameMemory (d.releaseBank m) = o.sameMemory d := by
  unfold Device.releaseBank; simp

@[simp ↓] theorem Device.isolate_same {o : Device} (d : Device) (m : Nat) (fault : Bool) :
    o.sameMemory (d.isolate m fault) = o.sameMemory d := by
  unfold Device.isolate; simp

@[simp ↓] theorem Device.isoOpened_same {o : Device} (d : Device) (m : Nat) (reduced : Bool) :
    o.sameMemory (d.isoOpened m reduced) = o.sameMemory d := by
  unfold Device.isoOpened; simp

@[simp ↓] theorem Device.isoRefused_same {o : Device} (d : Device) (m : Nat) :
    o.sameMemory (d.isoRefused m) = o.sameMemory d := by
  unfold Device.isoRefused; simp

@[simp ↓] theorem Device.seqCloseBank_same {o : Device} (d : Device) (m : Nat) :
    o.sameMemory (d.seqCloseBank m) = o.sameMemory d := by
  unfold Device.seqCloseBank; simp

@[simp ↓] theorem Device.seqOpenBank_same {o : Device} (d : Device) (m : Nat) :
    o.sameMemory (d.seqOpenBank m) = o.sameMemory d := by
  unfold Device.seqOpenBank; simp

/-! ### Machine/Banks.lean -/

@[simp ↓] theorem Device.ucodeLoad_same {o : Device} (d : Device) (m : Nat) (ok : Bool) :
    o.sameMemory (d.ucodeLoad m ok) = o.sameMemory d := by
  unfold Device.ucodeLoad; simp

@[simp ↓] theorem Device.ratedCycle_same {o : Device} (d : Device) (n : Nat) :
    o.sameMemory (d.ratedCycle n) = o.sameMemory d := by
  unfold Device.ratedCycle; simp

@[simp ↓] theorem Device.bankExec_same {o : Device} (d : Device) (c : BankCmd) :
    o.sameMemory (d.bankExec c) = o.sameMemory d := by
  unfold Device.bankExec; simp

@[simp ↓] theorem Device.deadman_same {o : Device} (d : Device) (m : Nat) :
    o.sameMemory (d.deadman m) = o.sameMemory d := by
  unfold Device.deadman; simp

@[simp ↓] theorem Device.linkFrame_same {o : Device} (d : Device) (m : Nat) (crcOk : Bool) (count : Nat) (clamped : List Nat) :
    o.sameMemory (d.linkFrame m crcOk count clamped) = o.sameMemory d := by
  unfold Device.linkFrame; simp

/-! ### Machine/Protect.lean -/

@[simp ↓] theorem Device.tripOff_same {o : Device} (d : Device) (l : Nat) :
    o.sameMemory (d.tripOff l) = o.sameMemory d := by
  unfold Device.tripOff; simp

@[simp ↓] theorem Device.tripFollow_same {o : Device} (d : Device) (l : Nat) (cause : Cause) :
    o.sameMemory (d.tripFollow l cause) = o.sameMemory d := by
  unfold Device.tripFollow; simp

@[simp ↓] theorem Device.reportTrip_same {o : Device} (d : Device) (n : Nat) (cause : Cause) (imeas : Nat) :
    o.sameMemory (d.reportTrip n cause imeas) = o.sameMemory d := by
  unfold Device.reportTrip; simp

@[simp ↓] theorem Device.trip_same {o : Device} (d : Device) (n : Nat) (cause : Cause) (imeas : Nat) :
    o.sameMemory (d.trip n cause imeas) = o.sameMemory d := by
  unfold Device.trip; simp

@[simp ↓] theorem Device.bankTrip_same {o : Device} (d : Device) (n : Nat) (cause : Cause) (imeas : Nat) :
    o.sameMemory (d.bankTrip n cause imeas) = o.sameMemory d := by
  unfold Device.bankTrip; simp

@[simp ↓] theorem Device.inrushFail_same {o : Device} (d : Device) (n imeas : Nat) :
    o.sameMemory (d.inrushFail n imeas) = o.sameMemory d := by
  unfold Device.inrushFail; simp

@[simp ↓] theorem Device.faultStep_same {o : Device} (d : Device) (l : Nat) :
    o.sameMemory (d.faultStep l) = o.sameMemory d := by
  unfold Device.faultStep; simp

@[simp ↓] theorem Device.overload_same {o : Device} (d : Device) (n imeas : Nat) :
    o.sameMemory (d.overload n imeas) = o.sameMemory d := by
  unfold Device.overload; simp

@[simp ↓] theorem Device.shortTrip_same {o : Device} (d : Device) (n imeas : Nat) :
    o.sameMemory (d.shortTrip n imeas) = o.sameMemory d := by
  unfold Device.shortTrip; simp

@[simp ↓] theorem Device.thermalTrip_same {o : Device} (d : Device) (n imeas temp : Nat) :
    o.sameMemory (d.thermalTrip n imeas temp) = o.sameMemory d := by
  unfold Device.thermalTrip; simp

@[simp ↓] theorem Device.untrip_same {o : Device} (d : Device) (l : Nat) :
    o.sameMemory (d.untrip l) = o.sameMemory d := by
  unfold Device.untrip; simp

@[simp ↓] theorem Device.clearTrip_same {o : Device} (d : Device) (l : Nat) :
    o.sameMemory (d.clearTrip l) = o.sameMemory d := by
  unfold Device.clearTrip; simp

@[simp ↓] theorem Device.clearTrips_same {o : Device} (d : Device) (m v : Nat) :
    o.sameMemory (d.clearTrips m v) = o.sameMemory d := by
  unfold Device.clearTrips; simp

@[simp ↓] theorem Device.doRetry_same {o : Device} (d : Device) (l : Nat) :
    o.sameMemory (d.doRetry l) = o.sameMemory d := by
  unfold Device.doRetry; simp

@[simp ↓] theorem Device.retry_same {o : Device} (d : Device) (l : Nat) :
    o.sameMemory (d.retry l) = o.sameMemory d := by
  unfold Device.retry; simp

@[simp ↓] theorem Device.postponedRetry_same {o : Device} (d : Device) (l : Nat) :
    o.sameMemory (d.postponedRetry l) = o.sameMemory d := by
  unfold Device.postponedRetry; simp

@[simp ↓] theorem Device.retryReset_same {o : Device} (d : Device) (l : Nat) :
    o.sameMemory (d.retryReset l) = o.sameMemory d := by
  unfold Device.retryReset; simp

@[simp ↓] theorem Device.thermalRecovery_same {o : Device} (d : Device) (n temp : Nat) :
    o.sameMemory (d.thermalRecovery n temp) = o.sameMemory d := by
  unfold Device.thermalRecovery; simp

@[simp ↓] theorem Device.bankStep_same {o : Device} (d : Device) (m : Nat) :
    o.sameMemory (d.bankStep m) = o.sameMemory d := by
  unfold Device.bankStep; simp

@[simp ↓] theorem Device.openOff_same {o : Device} (d : Device) (n vmeas held vbus : Nat) :
    o.sameMemory (d.openOff n vmeas held vbus) = o.sameMemory d := by
  unfold Device.openOff; simp

@[simp ↓] theorem Device.openOn_same {o : Device} (d : Device) (n : Nat) (u : Undercurrent) :
    o.sameMemory (d.openOn n u) = o.sameMemory d := by
  unfold Device.openOn; simp

@[simp ↓] theorem Device.damage_same {o : Device} (d : Device) (n : Nat) (cause : Cause) :
    o.sameMemory (d.damage n cause) = o.sameMemory d := by
  unfold Device.damage; simp

@[simp ↓] theorem Device.bankDamage_same {o : Device} (d : Device) (n : Nat) (cause : Cause) :
    o.sameMemory (d.bankDamage n cause) = o.sameMemory d := by
  unfold Device.bankDamage; simp

@[simp ↓] theorem Device.damageO_same {o : Device} (d : Device) (n vmeas vbus held : Nat) :
    o.sameMemory (d.damageO n vmeas vbus held) = o.sameMemory d := by
  unfold Device.damageO; simp

@[simp ↓] theorem Device.damageG_same {o : Device} (d : Device) (n : Nat) :
    o.sameMemory (d.damageG n) = o.sameMemory d := by
  unfold Device.damageG; simp

@[simp ↓] theorem Device.readTripRec_same {o : Device} (d : Device) (m : Nat) :
    o.sameMemory (d.readTripRec m) = o.sameMemory d := by
  unfold Device.readTripRec; simp

@[simp ↓] theorem Device.restartBank_same {o : Device} (d : Device) (m : Nat) (ucodeOk : Bool) :
    o.sameMemory (d.restartBank m ucodeOk) = o.sameMemory d := by
  unfold Device.restartBank; simp

@[simp ↓] theorem Device.isoClose_same {o : Device} (d : Device) (m : Nat) (ucodeOk : Bool) :
    o.sameMemory (d.isoClose m ucodeOk) = o.sameMemory d := by
  unfold Device.isoClose; simp

@[simp ↓] theorem Device.isoVerify_same {o : Device} (d : Device) (m : Nat) (off : Bool) :
    o.sameMemory (d.isoVerify m off) = o.sameMemory d := by
  unfold Device.isoVerify; simp only []; (repeat' split) <;> simp

@[simp ↓] theorem Device.isoOpen_same {o : Device} (d : Device) (m : Nat) :
    o.sameMemory (d.isoOpen m) = o.sameMemory d := by
  unfold Device.isoOpen; simp

@[simp ↓] theorem Device.asWriter_same {o : Device} (d : Device) (w : Writer) (f : Device → Device)
    (h : ∀ d : Device, o.sameMemory (f d) = o.sameMemory d) :
    o.sameMemory (d.asWriter w f) = o.sameMemory d := by
  unfold Device.asWriter; split <;> simp [h]

@[simp ↓] theorem Device.asWright_same {o : Device} (d : Device) (w : Writer) (page off : Nat) (f : Device → Device)
    (h : ∀ d : Device, o.sameMemory (f d) = o.sameMemory d) :
    o.sameMemory (d.asWright w page off f) = o.sameMemory d := by
  unfold Device.asWright; (repeat' split) <;> simp [h]

@[simp ↓] theorem Device.strikePin_same {o : Device} (d : Device) (low : Bool) :
    o.sameMemory (d.strikePin low) = o.sameMemory d := by
  unfold Device.strikePin; simp

@[simp ↓] theorem Device.strikeRelease_same {o : Device} (d : Device) :
    o.sameMemory d.strikeRelease = o.sameMemory d := by
  unfold Device.strikeRelease; simp

/-! ### Machine/Drive.lean -/

@[simp ↓] theorem Device.recompute_same {o : Device} (d : Device) :
    o.sameMemory d.recompute = o.sameMemory d := by
  unfold Device.recompute; simp

@[simp ↓] theorem Device.setDuty_same {o : Device} (d : Device) (l : Nat) :
    o.sameMemory (d.setDuty l) = o.sameMemory d := by
  unfold Device.setDuty; simp

@[simp ↓] theorem Device.setK_same {o : Device} (d : Device) (l : Nat) :
    o.sameMemory (d.setK l) = o.sameMemory d := by
  unfold Device.setK; simp

@[simp ↓] theorem Device.onBeacon_same {o : Device} (d : Device) :
    o.sameMemory d.onBeacon = o.sameMemory d := by
  unfold Device.onBeacon; simp

@[simp ↓] theorem Device.pulse_same {o : Device} (d : Device) (l : Nat) (peak : Bool) :
    o.sameMemory (d.pulse l peak) = o.sameMemory d := by
  unfold Device.pulse; simp only []; (repeat' split) <;> simp

@[simp ↓] theorem Device.takeMode_same {o : Device} (d : Device) (n m : Nat) :
    o.sameMemory (d.takeMode n m) = o.sameMemory d := by
  unfold Device.takeMode; simp

@[simp ↓] theorem Device.slotStart_same {o : Device} (d : Device) (n : Nat) :
    o.sameMemory (d.slotStart n) = o.sameMemory d := by
  unfold Device.slotStart; simp only []; (repeat' split) <;> simp

@[simp ↓] theorem Device.peakEnd_same {o : Device} (d : Device) (n : Nat) :
    o.sameMemory (d.peakEnd n) = o.sameMemory d := by
  unfold Device.peakEnd; simp

@[simp ↓] theorem Device.chopTick_same {o : Device} (d : Device) (l : Nat) :
    o.sameMemory (d.chopTick l) = o.sameMemory d := by
  unfold Device.chopTick; simp

@[simp ↓] theorem Device.setLearn_same {o : Device} (d : Device) (n : Nat) (on : Bool) (x : Learn) :
    o.sameMemory (d.setLearn n on x) = o.sameMemory d := by
  unfold Device.setLearn; simp

@[simp ↓] theorem Device.learnHit_same {o : Device} (d : Device) (n : Nat) (on : Bool) (s : Nat) :
    o.sameMemory (d.learnHit n on s) = o.sameMemory d := by
  unfold Device.learnHit; simp

@[simp ↓] theorem Device.learnMiss_same {o : Device} (d : Device) (n : Nat) (on : Bool) :
    o.sameMemory (d.learnMiss n on) = o.sameMemory d := by
  unfold Device.learnMiss; simp

@[simp ↓] theorem Device.latencySample_same {o : Device} (d : Device) (n : Nat) (on : Bool) (cusp : Option Nat) :
    o.sameMemory (d.latencySample n on cusp) = o.sameMemory d := by
  unfold Device.latencySample; simp only []; (repeat' split) <;> simp

@[simp ↓] theorem Device.clearChanStat_same {o : Device} (d : Device) (n v : Nat) :
    o.sameMemory (d.clearChanStat n v) = o.sameMemory d := by
  unfold Device.clearChanStat; simp

@[simp ↓] theorem Device.safeRelease_same {o : Device} (d : Device) (v : Nat) :
    o.sameMemory (d.safeRelease v) = o.sameMemory d := by
  unfold Device.safeRelease; simp

/-! ### Machine/Edges.lean -/

@[simp ↓] theorem Device.refuse_same {o : Device} (d : Device) (src : Source) (e : EdgeReq) (c : Code) :
    o.sameMemory (d.refuse src e c) = o.sameMemory d := by
  unfold Device.refuse; (repeat' split) <;> simp

@[simp ↓] theorem Device.reportLate_same {o : Device} (d : Device) (src : Source) (seq tgt : Nat) (late gone : List Entry) :
    o.sameMemory (d.reportLate src seq tgt late gone) = o.sameMemory d := by
  unfold Device.reportLate; simp

@[simp ↓] theorem Device.place_same {o : Device} (d : Device) (src : Source) (e : EdgeReq) (a : Action) :
    o.sameMemory (d.place src e a).1 = o.sameMemory d := by
  unfold Device.place; simp

@[simp ↓] theorem Device.enter_same {o : Device} (d : Device) (src : Source) (e : EdgeReq) :
    o.sameMemory (d.enter src e).1 = o.sameMemory d := by
  unfold Device.enter; (repeat' split) <;> simp

@[simp ↓] theorem Device.submit_same {o : Device} (d : Device) (src : Source) (x : Nat) :
    o.sameMemory (d.submit src x).1 = o.sameMemory d := by
  unfold Device.submit; simp only []; (repeat' split) <;> simp

@[simp ↓] theorem Device.putResult_same {o : Device} (d : Device) (r : EdgeResult) :
    o.sameMemory (d.putResult r) = o.sameMemory d := by
  unfold Device.putResult; simp

@[simp ↓] theorem Device.submitWindow_same {o : Device} (d : Device) (w : Writer) :
    o.sameMemory (d.submitWindow w) = o.sameMemory d := by
  unfold Device.submitWindow; simp

@[simp ↓] theorem Device.coreEdge_same {o : Device} (d : Device) (x : Nat) :
    o.sameMemory (d.coreEdge x) = o.sameMemory d := by
  unfold Device.coreEdge; simp

@[simp ↓] theorem Device.flush_same {o : Device} (d : Device) (v : Nat) :
    o.sameMemory (d.flush v) = o.sameMemory d := by
  unfold Device.flush; simp

@[simp ↓] theorem Device.superseded_same {o : Device} (d : Device) (l n : Nat) :
    o.sameMemory (d.superseded l n) = o.sameMemory d := by
  unfold Device.superseded; simp

@[simp ↓] theorem Device.overtaken_same {o : Device} (d : Device) (e : Entry) :
    o.sameMemory (d.overtaken e) = o.sameMemory d := by
  unfold Device.overtaken; simp

@[simp ↓] theorem Device.fire_same {o : Device} (d : Device) (e : Entry) :
    o.sameMemory (d.fire e) = o.sameMemory d := by
  unfold Device.fire; (repeat' split) <;> simp

@[simp ↓] theorem Device.resolve_same {o : Device} (d : Device) (l : Nat) (set : List Entry) (forced : Option Nat) (k : Class) :
    o.sameMemory (d.resolve l set forced k) = o.sameMemory d := by
  unfold Device.resolve; simp only []; (repeat' split) <;> simp

@[simp ↓] theorem Device.fireMark_same {o : Device} (d : Device) (l f : Nat) (forced : Option Nat) :
    o.sameMemory (d.fireMark l f forced) = o.sameMemory d := by
  unfold Device.fireMark; simp

@[simp ↓] theorem Device.scanChannel_same {o : Device} (d : Device) (l : Nat) :
    o.sameMemory (d.scanChannel l) = o.sameMemory d := by
  unfold Device.scanChannel; simp only []; (repeat' split) <;> simp

@[simp ↓] theorem Device.scan_same {o : Device} (d : Device) :
    o.sameMemory d.scan = o.sameMemory d := by
  unfold Device.scan; simp

/-! ### Machine/Reckon.lean -/

@[simp ↓] theorem Device.modRck_same {o : Device} (d : Device) (f : Rck → Rck) :
    o.sameMemory (d.modRck f) = o.sameMemory d := by
  unfold Device.modRck; simp

@[simp ↓] theorem Device.rerate_same {o : Device} (d : Device) (v : Nat) :
    o.sameMemory (d.rerate v) = o.sameMemory d := by
  unfold Device.rerate; simp

@[simp ↓] theorem Device.setRate_same {o : Device} (d : Device) (v : Nat) (e : Int) :
    o.sameMemory (d.setRate v e) = o.sameMemory d := by
  unfold Device.setRate; simp

@[simp ↓] theorem Device.speedFlags_same {o : Device} (d : Device) (v : Nat) :
    o.sameMemory (d.speedFlags v) = o.sameMemory d := by
  unfold Device.speedFlags; simp

@[simp ↓] theorem Device.ownRate_same {o : Device} (d : Device) :
    o.sameMemory d.ownRate = o.sameMemory d := by
  unfold Device.ownRate; simp

@[simp ↓] theorem Device.newSpeed_same {o : Device} (d : Device) :
    o.sameMemory d.newSpeed = o.sameMemory d := by
  unfold Device.newSpeed; simp

@[simp ↓] theorem Device.holdReckoning_same {o : Device} (d : Device) :
    o.sameMemory d.holdReckoning = o.sameMemory d := by
  unfold Device.holdReckoning; simp

@[simp ↓] theorem Device.takeUp_same {o : Device} (d : Device) :
    o.sameMemory d.takeUp = o.sameMemory d := by
  unfold Device.takeUp; simp

@[simp ↓] theorem Device.speedTick_same {o : Device} (d : Device) :
    o.sameMemory d.speedTick = o.sameMemory d := by
  unfold Device.speedTick; simp

@[simp ↓] theorem Device.revFlag_same {o : Device} (d : Device) :
    o.sameMemory d.revFlag = o.sameMemory d := by
  unfold Device.revFlag; simp

@[simp ↓] theorem Device.travel_same {o : Device} (d : Device) (dist : Nat) (fwd : Bool) :
    o.sameMemory (d.travel dist fwd) = o.sameMemory d := by
  unfold Device.travel; simp

@[simp ↓] theorem Device.estimateOr_same {o : Device} (d : Device) (l : List Stamp) :
    o.sameMemory (d.estimateOr l).2 = o.sameMemory d := by
  unfold Device.estimateOr; (repeat' split) <;> simp

@[simp ↓] theorem Device.encCount_same {o : Device} (d : Device) (e : Nat) (fwd : Bool) :
    o.sameMemory (d.encCount e fwd) = o.sameMemory d := by
  unfold Device.encCount; simp only []; (repeat' split) <;> simp

@[simp ↓] theorem Device.encoderStep_same {o : Device} (d : Device) (e : Nat) (step : EncStep) (stable : Nat) :
    o.sameMemory (d.encoderStep e step stable) = o.sameMemory d := by
  unfold Device.encoderStep; (repeat' split) <;> simp

@[simp ↓] theorem Device.radarCount_same {o : Device} (d : Device) :
    o.sameMemory d.radarCount = o.sameMemory d := by
  unfold Device.radarCount; simp

@[simp ↓] theorem Device.radarPulse_same {o : Device} (d : Device) (stable : Nat) :
    o.sameMemory (d.radarPulse stable) = o.sameMemory d := by
  unfold Device.radarPulse; simp

@[simp ↓] theorem Device.standstill_same {o : Device} (d : Device) :
    o.sameMemory d.standstill = o.sameMemory d := by
  unfold Device.standstill; simp

@[simp ↓] theorem Device.lossAct_same {o : Device} (d : Device) (cause : SafeCause) :
    o.sameMemory (d.lossAct cause) = o.sameMemory d := by
  unfold Device.lossAct; simp

@[simp ↓] theorem Device.useSource_same {o : Device} (d : Device) (s : RckSource) :
    o.sameMemory (d.useSource s) = o.sameMemory d := by
  unfold Device.useSource; simp

@[simp ↓] theorem Device.loseSource_same {o : Device} (d : Device) :
    o.sameMemory d.loseSource = o.sameMemory d := by
  unfold Device.loseSource; simp

@[simp ↓] theorem Device.srcFail_same {o : Device} (d : Device) (e : Fin 2) :
    o.sameMemory (d.srcFail e) = o.sameMemory d := by
  unfold Device.srcFail; simp

@[simp ↓] theorem Device.srcRestore_same {o : Device} (d : Device) (v : Nat) :
    o.sameMemory (d.srcRestore v) = o.sameMemory d := by
  unfold Device.srcRestore; simp

@[simp ↓] theorem Device.setSync_same {o : Device} (d : Device) :
    o.sameMemory d.setSync = o.sameMemory d := by
  unfold Device.setSync; simp

@[simp ↓] theorem Device.writeHspeed_same {o : Device} (d : Device) (v : Nat) (top : Bool) :
    o.sameMemory (d.writeHspeed v top) = o.sameMemory d := by
  unfold Device.writeHspeed; simp

@[simp ↓] theorem Device.writeHdir_same {o : Device} (d : Device) (v : Nat) :
    o.sameMemory (d.writeHdir v) = o.sameMemory d := by
  unfold Device.writeHdir; simp

@[simp ↓] theorem Device.writeHyaw_same {o : Device} (d : Device) (v : Nat) (top : Bool) :
    o.sameMemory (d.writeHyaw v top) = o.sameMemory d := by
  unfold Device.writeHyaw; simp

@[simp ↓] theorem Device.speedStale_same {o : Device} (d : Device) :
    o.sameMemory d.speedStale = o.sameMemory d := by
  unfold Device.speedStale; simp

@[simp ↓] theorem Device.yawStale_same {o : Device} (d : Device) :
    o.sameMemory d.yawStale = o.sameMemory d := by
  unfold Device.yawStale; simp

@[simp ↓] theorem Device.srcLost_same {o : Device} (d : Device) :
    o.sameMemory d.srcLost = o.sameMemory d := by
  unfold Device.srcLost; simp

@[simp ↓] theorem Device.capture_same {o : Device} (d : Device) (v : Nat) :
    o.sameMemory (d.capture v) = o.sameMemory d := by
  unfold Device.capture; simp

@[simp ↓] theorem Device.newInterval_same {o : Device} (d : Device) :
    o.sameMemory d.newInterval = o.sameMemory d := by
  unfold Device.newInterval; simp

@[simp ↓] theorem Device.beaconSend_same {o : Device} (d : Device) :
    o.sameMemory d.beaconSend = o.sameMemory d := by
  unfold Device.beaconSend; simp

@[simp ↓] theorem Device.depose_same {o : Device} (d : Device) :
    o.sameMemory d.depose = o.sameMemory d := by
  unfold Device.depose; simp

@[simp ↓] theorem Device.followTide_same {o : Device} (d : Device) (th : Nat) :
    o.sameMemory (d.followTide th) = o.sameMemory d := by
  unfold Device.followTide; simp

@[simp ↓] theorem Device.applyBeacon_same {o : Device} (d : Device) (m : Msg) :
    o.sameMemory (d.applyBeacon m) = o.sameMemory d := by
  unfold Device.applyBeacon; simp

@[simp ↓] theorem Device.takeover_same {o : Device} (d : Device) :
    o.sameMemory d.takeover = o.sameMemory d := by
  unfold Device.takeover; simp

@[simp ↓] theorem Device.beaconMissing_same {o : Device} (d : Device) :
    o.sameMemory d.beaconMissing = o.sameMemory d := by
  unfold Device.beaconMissing; simp

@[simp ↓] theorem Device.beaconLoss_same {o : Device} (d : Device) :
    o.sameMemory d.beaconLoss = o.sameMemory d := by
  unfold Device.beaconLoss; simp

@[simp ↓] theorem Device.overdue_same {o : Device} (d : Device) :
    o.sameMemory d.overdue = o.sameMemory d := by
  unfold Device.overdue; simp

@[simp ↓] theorem Device.beaconReceive_same {o : Device} (d : Device) :
    o.sameMemory d.beaconReceive = o.sameMemory d := by
  unfold Device.beaconReceive
  simp only []
  split
  · simp
  · rename_i h
    have h2 := Device.takeMsg_same (o := o) h
    (repeat' split) <;> simp [h2, Device.same_fold]

/-! ### Machine/Measure.lean -/

@[simp ↓] theorem Device.modAdc_same {o : Device} (d : Device) (f : Adc → Adc) :
    o.sameMemory (d.modAdc f) = o.sameMemory d := by
  unfold Device.modAdc; simp

@[simp ↓] theorem Device.modConv_same {o : Device} (d : Device) (c : AdcId) (f : Converter → Converter) :
    o.sameMemory (d.modConv c f) = o.sameMemory d := by
  unfold Device.modConv; (repeat' split) <;> simp

@[simp ↓] theorem Device.modLoop_same {o : Device} (d : Device) (c : AdcId) (f : Loop → Loop) :
    o.sameMemory (d.modLoop c f) = o.sameMemory d := by
  unfold Device.modLoop; simp

@[simp ↓] theorem Device.begin_same {o : Device} (d : Device) (c : AdcId) (j : AdcJob) :
    o.sameMemory (d.begin c j) = o.sameMemory d := by
  unfold Device.begin; simp

@[simp ↓] theorem Device.startUrgent_same {o : Device} (d : Device) (c : AdcId) :
    o.sameMemory (d.startUrgent c) = o.sameMemory d := by
  unfold Device.startUrgent; (repeat' split) <;> simp

@[simp ↓] theorem Device.startPair_same {o : Device} (d : Device) :
    o.sameMemory d.startPair = o.sameMemory d := by
  unfold Device.startPair; simp only []; (repeat' split) <;> simp

@[simp ↓] theorem Device.startLoop_same {o : Device} (d : Device) (c : AdcId) :
    o.sameMemory (d.startLoop c) = o.sameMemory d := by
  unfold Device.startLoop; simp only []; (repeat' split) <;> simp

@[simp ↓] theorem Device.slip_same {o : Device} (d : Device) (c : AdcId) :
    o.sameMemory (d.slip c) = o.sameMemory d := by
  unfold Device.slip; simp

@[simp ↓] theorem Device.adcStart_same {o : Device} (d : Device) :
    o.sameMemory d.adcStart = o.sameMemory d := by
  unfold Device.adcStart; simp

@[simp ↓] theorem Device.alone_same {o : Device} (d : Device) (c : AdcId) :
    o.sameMemory (d.alone c) = o.sameMemory d := by
  unfold Device.alone; simp

@[simp ↓] theorem Device.arrive_same {o : Device} (d : Device) (c : AdcId) (e : Nat) :
    o.sameMemory (d.arrive c e) = o.sameMemory d := by
  unfold Device.arrive; simp

@[simp ↓] theorem Device.startLoops_same {o : Device} (d : Device) :
    o.sameMemory d.startLoops = o.sameMemory d := by
  unfold Device.startLoops; simp

@[simp ↓] theorem Device.stopLoops_same {o : Device} (d : Device) :
    o.sameMemory d.stopLoops = o.sameMemory d := by
  unfold Device.stopLoops; simp

@[simp ↓] theorem Device.windowAct_same {o : Device} (d : Device) (e : Nat) (v : Int) :
    o.sameMemory (d.windowAct e v) = o.sameMemory d := by
  unfold Device.windowAct; simp

@[simp ↓] theorem Device.windowActs_same {o : Device} (d : Device) :
    o.sameMemory d.windowActs = o.sameMemory d := by
  unfold Device.windowActs; simp

@[simp ↓] theorem Device.windowTest_same {o : Device} (d : Device) (e : Nat) (v : Int) :
    o.sameMemory (d.windowTest e v) = o.sameMemory d := by
  unfold Device.windowTest; simp

@[simp ↓] theorem Device.sample_same {o : Device} (d : Device) (e : Nat) (v : Int) :
    o.sameMemory (d.sample e v) = o.sameMemory d := by
  unfold Device.sample; simp

@[simp ↓] theorem Device.crossCheck_same {o : Device} (d : Device) (p : Nat) (a b : Int) :
    o.sameMemory (d.crossCheck p a b) = o.sameMemory d := by
  unfold Device.crossCheck; simp

@[simp ↓] theorem Device.deliver_same {o : Device} (d : Device) (e v t : Nat) :
    o.sameMemory (d.deliver e v t) = o.sameMemory d := by
  unfold Device.deliver; simp

@[simp ↓] theorem Device.urgentDone_same {o : Device} (d : Device) (c : AdcId) (tag v t : Nat) :
    o.sameMemory (d.urgentDone c tag v t) = o.sameMemory d := by
  unfold Device.urgentDone; (repeat' split) <;> simp

@[simp ↓] theorem Device.afterConv_same {o : Device} (d : Device) (c : AdcId) :
    o.sameMemory (d.afterConv c) = o.sameMemory d := by
  unfold Device.afterConv; simp only []; (repeat' split) <;> simp

@[simp ↓] theorem Device.conversion_same {o : Device} (d : Device) (c : AdcId) (code : Nat) :
    o.sameMemory (d.conversion c code) = o.sameMemory d := by
  unfold Device.conversion; simp only []; (repeat' split) <;> simp

@[simp ↓] theorem Device.delayEnd_same {o : Device} (d : Device) (c : AdcId) :
    o.sameMemory (d.delayEnd c) = o.sameMemory d := by
  unfold Device.delayEnd; simp only []; (repeat' split) <;> simp

@[simp ↓] theorem Device.urgent_same {o : Device} (d : Device) (v : Nat) :
    o.sameMemory (d.urgent v) = o.sameMemory d := by
  unfold Device.urgent; (repeat' split) <;> simp

@[simp ↓] theorem Device.freeTag_same {o : Device} (d : Device) (t : Nat) :
    o.sameMemory (d.freeTag t) = o.sameMemory d := by
  unfold Device.freeTag; simp

/-! ### Machine/Rails.lean -/

@[simp ↓] theorem Device.setCv_same {o : Device} (d : Device) (r st : Nat) :
    o.sameMemory (d.setCv r st) = o.sameMemory d := by
  unfold Device.setCv; simp

@[simp ↓] theorem Device.countPhases_same {o : Device} (d : Device) (r : Nat) :
    o.sameMemory (d.countPhases r) = o.sameMemory d := by
  unfold Device.countPhases; simp

@[simp ↓] theorem Device.setPhases_same {o : Device} (d : Device) (r : Nat) (on : Bool) :
    o.sameMemory (d.setPhases r on) = o.sameMemory d := by
  unfold Device.setPhases; simp

@[simp ↓] theorem Device.joinAll_same {o : Device} (d : Device) (r : Nat) :
    o.sameMemory (d.joinAll r) = o.sameMemory d := by
  unfold Device.joinAll; simp

@[simp ↓] theorem Device.pgOut_same {o : Device} (d : Device) (r : Nat) :
    o.sameMemory (d.pgOut r) = o.sameMemory d := by
  unfold Device.pgOut; simp

@[simp ↓] theorem Device.readVfb_same {o : Device} (d : Device) (r vfb : Nat) :
    o.sameMemory (d.readVfb r vfb) = o.sameMemory d := by
  unfold Device.readVfb; simp

@[simp ↓] theorem Device.dropShed_same {o : Device} (d : Device) (r : Nat) :
    o.sameMemory (d.dropShed r) = o.sameMemory d := by
  unfold Device.dropShed; simp

@[simp ↓] theorem Device.cvQuiet_same {o : Device} (d : Device) (r : Nat) :
    o.sameMemory (d.cvQuiet r) = o.sameMemory d := by
  unfold Device.cvQuiet; simp

@[simp ↓] theorem Device.railStart_same {o : Device} (d : Device) (r : Nat) :
    o.sameMemory (d.railStart r) = o.sameMemory d := by
  unfold Device.railStart; simp

@[simp ↓] theorem Device.railCoast_same {o : Device} (d : Device) (r : Nat) :
    o.sameMemory (d.railCoast r) = o.sameMemory d := by
  unfold Device.railCoast; simp

@[simp ↓] theorem Device.railStop_same {o : Device} (d : Device) (r : Nat) :
    o.sameMemory (d.railStop r) = o.sameMemory d := by
  unfold Device.railStop; simp

@[simp ↓] theorem Device.railDrop_same {o : Device} (d : Device) (r : Nat) :
    o.sameMemory (d.railDrop r) = o.sameMemory d := by
  unfold Device.railDrop; simp

@[simp ↓] theorem Device.railRestart_same {o : Device} (d : Device) (r : Nat) :
    o.sameMemory (d.railRestart r) = o.sameMemory d := by
  unfold Device.railRestart; simp

@[simp ↓] theorem Device.prebias_same {o : Device} (d : Device) (r vpre : Nat) :
    o.sameMemory (d.prebias r vpre) = o.sameMemory d := by
  unfold Device.prebias; simp

@[simp ↓] theorem Device.prebiasWaitEnd_same {o : Device} (d : Device) (r vfb : Nat) :
    o.sameMemory (d.prebiasWaitEnd r vfb) = o.sameMemory d := by
  unfold Device.prebiasWaitEnd; simp

@[simp ↓] theorem Device.rampDone_same {o : Device} (d : Device) (r : Nat) :
    o.sameMemory (d.rampDone r) = o.sameMemory d := by
  unfold Device.rampDone; simp

@[simp ↓] theorem Device.vrefRefused_same {o : Device} (d : Device) (r v : Nat) :
    o.sameMemory (d.vrefRefused r v) = o.sameMemory d := by
  unfold Device.vrefRefused; simp

@[simp ↓] theorem Device.writeVref_same {o : Device} (d : Device) (r v : Nat) :
    o.sameMemory (d.writeVref r v) = o.sameMemory d := by
  unfold Device.writeVref; simp

@[simp ↓] theorem Device.writeSlew_same {o : Device} (d : Device) (r v : Nat) :
    o.sameMemory (d.writeSlew r v) = o.sameMemory d := by
  unfold Device.writeSlew; simp

@[simp ↓] theorem Device.slewEnd_same {o : Device} (d : Device) (r vfb : Nat) :
    o.sameMemory (d.slewEnd r vfb) = o.sameMemory d := by
  unfold Device.slewEnd; simp

@[simp ↓] theorem Device.railSettled_same {o : Device} (d : Device) (r vfb : Nat) :
    o.sameMemory (d.railSettled r vfb) = o.sameMemory d := by
  unfold Device.railSettled; simp

@[simp ↓] theorem Device.maskTimeout_same {o : Device} (d : Device) (r vfb : Nat) :
    o.sameMemory (d.maskTimeout r vfb) = o.sameMemory d := by
  unfold Device.maskTimeout; simp

@[simp ↓] theorem Device.cvTrip_same {o : Device} (d : Device) (r : Nat) :
    o.sameMemory (d.cvTrip r) = o.sameMemory d := by
  unfold Device.cvTrip; simp

@[simp ↓] theorem Device.cvOc_same {o : Device} (d : Device) (r : Nat) (cause : OcCause) :
    o.sameMemory (d.cvOc r cause) = o.sameMemory d := by
  unfold Device.cvOc; (repeat' split) <;> simp

@[simp ↓] theorem Device.cvOv_same {o : Device} (d : Device) (r vfb held : Nat) :
    o.sameMemory (d.cvOv r vfb held) = o.sameMemory d := by
  unfold Device.cvOv; simp

@[simp ↓] theorem Device.clampEnd_same {o : Device} (d : Device) (r vfb : Nat) :
    o.sameMemory (d.clampEnd r vfb) = o.sameMemory d := by
  unfold Device.clampEnd; simp only []; (repeat' split) <;> simp

@[simp ↓] theorem Device.shedAbort_same {o : Device} (d : Device) (r : Nat) :
    o.sameMemory (d.shedAbort r) = o.sameMemory d := by
  unfold Device.shedAbort; simp

@[simp ↓] theorem Device.brake_same {o : Device} (d : Device) (r vfb : Nat) :
    o.sameMemory (d.brake r vfb) = o.sameMemory d := by
  unfold Device.brake; simp

@[simp ↓] theorem Device.brakeEnd_same {o : Device} (d : Device) (r vfb : Nat) :
    o.sameMemory (d.brakeEnd r vfb) = o.sameMemory d := by
  unfold Device.brakeEnd; simp

@[simp ↓] theorem Device.shed_same {o : Device} (d : Device) (r itot held : Nat) :
    o.sameMemory (d.shed r itot held) = o.sameMemory d := by
  unfold Device.shed; simp

@[simp ↓] theorem Device.startHoldoff_same {o : Device} (d : Device) (r : Nat) :
    o.sameMemory (d.startHoldoff r) = o.sameMemory d := by
  unfold Device.startHoldoff; simp

@[simp ↓] theorem Device.addPhase_same {o : Device} (d : Device) (r itot : Nat) :
    o.sameMemory (d.addPhase r itot) = o.sameMemory d := by
  unfold Device.addPhase; (repeat' split) <;> simp

@[simp ↓] theorem Device.fastAdd_same {o : Device} (d : Device) (r vfb : Nat) :
    o.sameMemory (d.fastAdd r vfb) = o.sameMemory d := by
  unfold Device.fastAdd; simp

@[simp ↓] theorem Device.shedDone_same {o : Device} (d : Device) (r : Nat) :
    o.sameMemory (d.shedDone r) = o.sameMemory d := by
  unfold Device.shedDone; (repeat' split) <;> simp

@[simp ↓] theorem Device.phasePeriod_same {o : Device} (d : Device) (r n : Nat) :
    o.sameMemory (d.phasePeriod r n) = o.sameMemory d := by
  unfold Device.phasePeriod; simp

@[simp ↓] theorem Device.joinPhases_same {o : Device} (d : Device) (r : Nat) :
    o.sameMemory (d.joinPhases r) = o.sameMemory d := by
  unfold Device.joinPhases; simp

@[simp ↓] theorem Device.railPeriod_same {o : Device} (d : Device) (r : Nat) :
    o.sameMemory (d.railPeriod r) = o.sameMemory d := by
  unfold Device.railPeriod; simp

@[simp ↓] theorem Device.pwmTick_same {o : Device} (d : Device) (r : Nat) :
    o.sameMemory (d.pwmTick r) = o.sameMemory d := by
  unfold Device.pwmTick; simp

@[simp ↓] theorem Device.modInt_same {o : Device} (d : Device) (f : IntReg → IntReg) :
    o.sameMemory (d.modInt f) = o.sameMemory d := by
  unfold Device.modInt; simp

@[simp ↓] theorem Device.writeIb0v_same {o : Device} (d : Device) (v : Nat) :
    o.sameMemory (d.writeIb0v v) = o.sameMemory d := by
  unfold Device.writeIb0v; simp

@[simp ↓] theorem Device.setClock_same {o : Device} (d : Device) (slow : Bool) :
    o.sameMemory (d.setClock slow) = o.sameMemory d := by
  unfold Device.setClock; simp

@[simp ↓] theorem Device.clockSwitch_same {o : Device} (d : Device) :
    o.sameMemory d.clockSwitch = o.sameMemory d := by
  unfold Device.clockSwitch; simp

@[simp ↓] theorem Device.ioUv_same {o : Device} (d : Device) (vio held : Nat) :
    o.sameMemory (d.ioUv vio held) = o.sameMemory d := by
  unfold Device.ioUv; simp

@[simp ↓] theorem Device.ldOc_same {o : Device} (d : Device) (k held : Nat) :
    o.sameMemory (d.ldOc k held) = o.sameMemory d := by
  unfold Device.ldOc; simp

@[simp ↓] theorem Device.ldClear_same {o : Device} (d : Device) (v : Nat) :
    o.sameMemory (d.ldClear v) = o.sameMemory d := by
  unfold Device.ldClear; simp

/-! ### Machine/Sequence.lean -/

@[simp ↓] theorem Device.setSeq_same {o : Device} (d : Device) (st : Nat) :
    o.sameMemory (d.setSeq st) = o.sameMemory d := by
  unfold Device.setSeq; simp

@[simp ↓] theorem Device.modSeq_same {o : Device} (d : Device) (f : Seq → Seq) :
    o.sameMemory (d.modSeq f) = o.sameMemory d := by
  unfold Device.modSeq; simp

@[simp ↓] theorem Device.modSlot_same {o : Device} (d : Device) (k : Nat) (f : SlotSt → SlotSt) :
    o.sameMemory (d.modSlot k f) = o.sameMemory d := by
  unfold Device.modSlot; simp

@[simp ↓] theorem Device.countSlot_same {o : Device} (d : Device) (k : Nat) (f : FeedId) (r : Nat → Reg) :
    o.sameMemory (d.countSlot k f r) = o.sameMemory d := by
  unfold Device.countSlot; (repeat' split) <;> simp

@[simp ↓] theorem Device.bankDark_same {o : Device} (d : Device) (m : Nat) :
    o.sameMemory (d.bankDark m) = o.sameMemory d := by
  unfold Device.bankDark; simp

@[simp ↓] theorem Device.enterKeep_same {o : Device} (d : Device) :
    o.sameMemory d.enterKeep = o.sameMemory d := by
  unfold Device.enterKeep; simp

@[simp ↓] theorem Device.beginWake_same {o : Device} (d : Device) :
    o.sameMemory d.beginWake = o.sameMemory d := by
  unfold Device.beginWake; simp

@[simp ↓] theorem Device.requestWake_same {o : Device} (d : Device) :
    o.sameMemory d.requestWake = o.sameMemory d := by
  unfold Device.requestWake; simp

@[simp ↓] theorem Device.wakeStart_same {o : Device} (d : Device) :
    o.sameMemory d.wakeStart = o.sameMemory d := by
  unfold Device.wakeStart; simp

@[simp ↓] theorem Device.checkDone_same {o : Device} (d : Device) :
    o.sameMemory d.checkDone = o.sameMemory d := by
  unfold Device.checkDone; simp

@[simp ↓] theorem Device.powerUp_same {o : Device} (d : Device) :
    o.sameMemory d.powerUp = o.sameMemory d := by
  unfold Device.powerUp; simp

@[simp ↓] theorem Device.seqBegin_same {o : Device} (d : Device) :
    o.sameMemory d.seqBegin = o.sameMemory d := by
  unfold Device.seqBegin; simp

@[simp ↓] theorem Device.waitEnd_same {o : Device} (d : Device) :
    o.sameMemory d.waitEnd = o.sameMemory d := by
  unfold Device.waitEnd; simp

@[simp ↓] theorem Device.pllLock_same {o : Device} (d : Device) :
    o.sameMemory d.pllLock = o.sameMemory d := by
  unfold Device.pllLock; simp

@[simp ↓] theorem Device.enableTarget_same {o : Device} (d : Device) (k : Nat) :
    o.sameMemory (d.enableTarget k) = o.sameMemory d := by
  unfold Device.enableTarget; simp

@[simp ↓] theorem Device.slotEnable_same {o : Device} (d : Device) (k : Nat) :
    o.sameMemory (d.slotEnable k) = o.sameMemory d := by
  unfold Device.slotEnable; simp

@[simp ↓] theorem Device.downDone_same {o : Device} (d : Device) :
    o.sameMemory d.downDone = o.sameMemory d := by
  unfold Device.downDone; simp

@[simp ↓] theorem Device.checkDown_same {o : Device} (d : Device) :
    o.sameMemory d.checkDown = o.sameMemory d := by
  unfold Device.checkDown; simp

@[simp ↓] theorem Device.startPowerDown_same {o : Device} (d : Device) :
    o.sameMemory d.startPowerDown = o.sameMemory d := by
  unfold Device.startPowerDown; simp

@[simp ↓] theorem Device.disableTarget_same {o : Device} (d : Device) (k : Nat) :
    o.sameMemory (d.disableTarget k) = o.sameMemory d := by
  unfold Device.disableTarget; simp

@[simp ↓] theorem Device.slotDisable_same {o : Device} (d : Device) (k : Nat) :
    o.sameMemory (d.slotDisable k) = o.sameMemory d := by
  unfold Device.slotDisable; (repeat' split) <;> simp

@[simp ↓] theorem Device.railStopDone_same {o : Device} (d : Device) (r : Nat) :
    o.sameMemory (d.railStopDone r) = o.sameMemory d := by
  unfold Device.railStopDone; simp

@[simp ↓] theorem Device.offTimeout_same {o : Device} (d : Device) (k : Nat) :
    o.sameMemory (d.offTimeout k) = o.sameMemory d := by
  unfold Device.offTimeout; (repeat' split) <;> simp

@[simp ↓] theorem Device.requestOn_same {o : Device} (d : Device) :
    o.sameMemory d.requestOn = o.sameMemory d := by
  unfold Device.requestOn; simp

@[simp ↓] theorem Device.requestOff_same {o : Device} (d : Device) :
    o.sameMemory d.requestOff = o.sameMemory d := by
  unfold Device.requestOff; simp

@[simp ↓] theorem Device.seqCmd_same {o : Device} (d : Device) (v : Nat) :
    o.sameMemory (d.seqCmd v) = o.sameMemory d := by
  unfold Device.seqCmd; simp

@[simp ↓] theorem Device.seqReact_same {o : Device} (d : Device) (why : SafeCause) :
    o.sameMemory (d.seqReact why) = o.sameMemory d := by
  unfold Device.seqReact; simp

@[simp ↓] theorem Device.chance_same {o : Device} (d : Device) (k : Nat) :
    o.sameMemory (d.chance k) = o.sameMemory d := by
  unfold Device.chance; simp

@[simp ↓] theorem Device.runningFault_same {o : Device} (d : Device) (slot : Option Nat) (cause : Nat) :
    o.sameMemory (d.runningFault slot cause) = o.sameMemory d := by
  unfold Device.runningFault; (repeat' split) <;> simp

@[simp ↓] theorem Device.checkCancel_same {o : Device} (d : Device) :
    o.sameMemory d.checkCancel = o.sameMemory d := by
  unfold Device.checkCancel; simp

@[simp ↓] theorem Device.pfwExpiry_same {o : Device} (d : Device) :
    o.sameMemory d.pfwExpiry = o.sameMemory d := by
  unfold Device.pfwExpiry; simp

@[simp ↓] theorem Device.slotQualify_same {o : Device} (d : Device) (k : Nat) :
    o.sameMemory (d.slotQualify k) = o.sameMemory d := by
  unfold Device.slotQualify; simp

@[simp ↓] theorem Device.slotTimeout_same {o : Device} (d : Device) (k : Nat) :
    o.sameMemory (d.slotTimeout k) = o.sameMemory d := by
  unfold Device.slotTimeout; simp

@[simp ↓] theorem Device.slotPgChange_same {o : Device} (d : Device) (k : Nat) (pg : Bool) :
    o.sameMemory (d.slotPgChange k pg) = o.sameMemory d := by
  unfold Device.slotPgChange; simp

@[simp ↓] theorem Device.setPg_same {o : Device} (d : Device) (t : PgTarget) (pg : Bool) :
    o.sameMemory (d.setPg t pg) = o.sameMemory d := by
  unfold Device.setPg; simp

@[simp ↓] theorem Device.pgReading_same {o : Device} (d : Device) (z : PgTarget) :
    o.sameMemory (d.pgReading z) = o.sameMemory d := by
  unfold Device.pgReading; (repeat' split) <;> simp

@[simp ↓] theorem Device.pgCount_same {o : Device} (d : Device) (z : PgTarget) :
    o.sameMemory (d.pgCount z) = o.sameMemory d := by
  unfold Device.pgCount; (repeat' split) <;> simp

@[simp ↓] theorem Device.pgDeglitch_same {o : Device} (d : Device) (t : PgTarget) (held : Nat) :
    o.sameMemory (d.pgDeglitch t held) = o.sameMemory d := by
  unfold Device.pgDeglitch; simp

@[simp ↓] theorem Device.bankUv_same {o : Device} (d : Device) (m vbus held : Nat) :
    o.sameMemory (d.bankUv m vbus held) = o.sameMemory d := by
  unfold Device.bankUv; simp

@[simp ↓] theorem Device.bankOv_same {o : Device} (d : Device) (m vbus held : Nat) :
    o.sameMemory (d.bankOv m vbus held) = o.sameMemory d := by
  unfold Device.bankOv; simp

/-! ### Machine/Feeds.lean -/

@[simp ↓] theorem Device.modFeed_same {o : Device} (d : Device) (f : FeedId) (g : Feed → Feed) :
    o.sameMemory (d.modFeed f g) = o.sameMemory d := by
  unfold Device.modFeed; simp

@[simp ↓] theorem Device.feedAvail_same {o : Device} (d : Device) (f : FeedId) :
    o.sameMemory (d.feedAvail f) = o.sameMemory d := by
  unfold Device.feedAvail; simp

@[simp ↓] theorem Device.turnFeedOn_same {o : Device} (d : Device) (f : FeedId) :
    o.sameMemory (d.turnFeedOn f) = o.sameMemory d := by
  unfold Device.turnFeedOn; simp

@[simp ↓] theorem Device.gateOff_same {o : Device} (d : Device) (f : FeedId) :
    o.sameMemory (d.gateOff f) = o.sameMemory d := by
  unfold Device.gateOff; simp

@[simp ↓] theorem Device.selectFeed_same {o : Device} (d : Device) :
    o.sameMemory d.selectFeed = o.sameMemory d := by
  unfold Device.selectFeed; simp

@[simp ↓] theorem Device.startSwitch_same {o : Device} (d : Device) (incoming : FeedId) (cause : SwitchCause) :
    o.sameMemory (d.startSwitch incoming cause) = o.sameMemory d := by
  unfold Device.startSwitch; simp

@[simp ↓] theorem Device.selRefused_same {o : Device} (d : Device) :
    o.sameMemory d.selRefused = o.sameMemory d := by
  unfold Device.selRefused; simp

@[simp ↓] theorem Device.feedSelect_same {o : Device} (d : Device) (v : Nat) :
    o.sameMemory (d.feedSelect v) = o.sameMemory d := by
  unfold Device.feedSelect; simp only []; (repeat' split) <;> simp

@[simp ↓] theorem Device.selectAgain_same {o : Device} (d : Device) (x : Switchover) :
    o.sameMemory (d.selectAgain x) = o.sameMemory d := by
  unfold Device.selectAgain; (repeat' split) <;> simp

@[simp ↓] theorem Device.abortSwitch_same {o : Device} (d : Device) (x : Switchover) :
    o.sameMemory (d.abortSwitch x) = o.sameMemory d := by
  unfold Device.abortSwitch; simp

@[simp ↓] theorem Device.trigger_same {o : Device} (d : Device) (f : FeedId) (cause : SwitchCause) (stays : Bool) :
    o.sameMemory (d.trigger f cause stays) = o.sameMemory d := by
  unfold Device.trigger; (repeat' split) <;> simp

@[simp ↓] theorem Device.seeVin_same {o : Device} (d : Device) (f : FeedId) (vin : Nat) :
    o.sameMemory (d.seeVin f vin) = o.sameMemory d := by
  unfold Device.seeVin; simp

@[simp ↓] theorem Device.disqualify_same {o : Device} (d : Device) (f : FeedId) :
    o.sameMemory (d.disqualify f) = o.sameMemory d := by
  unfold Device.disqualify; simp

@[simp ↓] theorem Device.feedQualified_same {o : Device} (d : Device) (f : FeedId) (vin held : Nat) :
    o.sameMemory (d.feedQualified f vin held) = o.sameMemory d := by
  unfold Device.feedQualified; simp

@[simp ↓] theorem Device.qualLost_same {o : Device} (d : Device) (f : FeedId) (vin : Nat) :
    o.sameMemory (d.qualLost f vin) = o.sameMemory d := by
  unfold Device.qualLost; simp

@[simp ↓] theorem Device.feedUv_same {o : Device} (d : Device) (f : FeedId) (vin held : Nat) :
    o.sameMemory (d.feedUv f vin held) = o.sameMemory d := by
  unfold Device.feedUv; simp

@[simp ↓] theorem Device.feedOv_same {o : Device} (d : Device) (f : FeedId) (vin held : Nat) :
    o.sameMemory (d.feedOv f vin held) = o.sameMemory d := by
  unfold Device.feedOv; simp

@[simp ↓] theorem Device.inrushDone_same {o : Device} (d : Device) (f : FeedId) (vin vbus : Nat) :
    o.sameMemory (d.inrushDone f vin vbus) = o.sameMemory d := by
  unfold Device.inrushDone; simp

@[simp ↓] theorem Device.feedTrip_same {o : Device} (d : Device) (f : FeedId) (bit : Field) (ev : Nat) (shunt : Int) :
    o.sameMemory (d.feedTrip f bit ev shunt) = o.sameMemory d := by
  unfold Device.feedTrip; simp

@[simp ↓] theorem Device.feedInrushFail_same {o : Device} (d : Device) (f : FeedId) (shunt : Int) :
    o.sameMemory (d.feedInrushFail f shunt) = o.sameMemory d := by
  unfold Device.feedInrushFail; simp

@[simp ↓] theorem Device.feedTick_same {o : Device} (d : Device) (n : Nat) (f : FeedId) :
    o.sameMemory (d.feedTick n f) = o.sameMemory d := by
  unfold Device.feedTick; simp

@[simp ↓] theorem Device.feedOverload_same {o : Device} (d : Device) (f : FeedId) (shunt : Int) :
    o.sameMemory (d.feedOverload f shunt) = o.sameMemory d := by
  unfold Device.feedOverload; simp

@[simp ↓] theorem Device.feedShort_same {o : Device} (d : Device) (f : FeedId) (shunt : Int) :
    o.sameMemory (d.feedShort f shunt) = o.sameMemory d := by
  unfold Device.feedShort; simp

@[simp ↓] theorem Device.feedReverse_same {o : Device} (d : Device) (f : FeedId) (shunt : Int) :
    o.sameMemory (d.feedReverse f shunt) = o.sameMemory d := by
  unfold Device.feedReverse; simp

@[simp ↓] theorem Device.feedRetry_same {o : Device} (d : Device) (f : FeedId) :
    o.sameMemory (d.feedRetry f) = o.sameMemory d := by
  unfold Device.feedRetry; simp

@[simp ↓] theorem Device.feedClear_same {o : Device} (d : Device) (f : FeedId) (v : Nat) :
    o.sameMemory (d.feedClear f v) = o.sameMemory d := by
  unfold Device.feedClear; simp

@[simp ↓] theorem Device.feedDamage_same {o : Device} (d : Device) (f : FeedId) (bit : Field) (ev : Nat) :
    o.sameMemory (d.feedDamage f bit ev) = o.sameMemory d := by
  unfold Device.feedDamage; simp

@[simp ↓] theorem Device.feedDamageO_same {o : Device} (d : Device) (f : FeedId) (src vbus held : Nat) :
    o.sameMemory (d.feedDamageO f src vbus held) = o.sameMemory d := by
  unfold Device.feedDamageO; simp

@[simp ↓] theorem Device.feedDamageG_same {o : Device} (d : Device) (f : FeedId) (vgs : Nat) (shunt : Int) :
    o.sameMemory (d.feedDamageG f vgs shunt) = o.sameMemory d := by
  unfold Device.feedDamageG; simp

@[simp ↓] theorem Device.feedRevert_same {o : Device} (d : Device) :
    o.sameMemory d.feedRevert = o.sameMemory d := by
  unfold Device.feedRevert; simp

@[simp ↓] theorem Device.feedVerified_same {o : Device} (d : Device) :
    o.sameMemory d.feedVerified = o.sameMemory d := by
  unfold Device.feedVerified; (repeat' split) <;> simp

@[simp ↓] theorem Device.verifyFail_same {o : Device} (d : Device) (gateTest : Bool) :
    o.sameMemory (d.verifyFail gateTest) = o.sameMemory d := by
  unfold Device.verifyFail; (repeat' split) <;> simp

@[simp ↓] theorem Device.feedSwitch_same {o : Device} (d : Device) :
    o.sameMemory d.feedSwitch = o.sameMemory d := by
  unfold Device.feedSwitch; (repeat' split) <;> simp

/-! ### Machine/Power.lean -/

@[simp ↓] theorem Device.setHalted_same {o : Device} (d : Device) (b : Bool) :
    o.sameMemory (d.setHalted b) = o.sameMemory d := by
  unfold Device.setHalted; simp

@[simp ↓] theorem Device.edgeScan_same {o : Device} (d : Device) :
    o.sameMemory d.edgeScan = o.sameMemory d := by
  unfold Device.edgeScan; simp

@[simp ↓] theorem Device.pwrWake_same {o : Device} (d : Device) :
    o.sameMemory d.pwrWake = o.sameMemory d := by
  unfold Device.pwrWake; simp

@[simp ↓] theorem Device.pwrRefused_same {o : Device} (d : Device) (why : Nat) :
    o.sameMemory (d.pwrRefused why) = o.sameMemory d := by
  unfold Device.pwrRefused; simp

@[simp ↓] theorem Device.pwrRun_same {o : Device} (d : Device) :
    o.sameMemory d.pwrRun = o.sameMemory d := by
  unfold Device.pwrRun; simp

@[simp ↓] theorem Device.pwrKeep_same {o : Device} (d : Device) :
    o.sameMemory d.pwrKeep = o.sameMemory d := by
  unfold Device.pwrKeep; simp

@[simp ↓] theorem Device.pwrCmd_same {o : Device} (d : Device) (v : Nat) :
    o.sameMemory (d.pwrCmd v) = o.sameMemory d := by
  unfold Device.pwrCmd; simp

/-! ### Machine/Link.lean -/

@[simp ↓] theorem Device.modPort_same {o : Device} (d : Device) (p : Port) (f : PortSt → PortSt) :
    o.sameMemory (d.modPort p f) = o.sameMemory d := by
  unfold Device.modPort; simp

@[simp ↓] theorem Device.modRing_same {o : Device} (d : Device) (f : Ring → Ring) :
    o.sameMemory (d.modRing f) = o.sameMemory d := by
  unfold Device.modRing; simp

@[simp ↓] theorem Device.askQuery_same {o : Device} (d : Device) :
    o.sameMemory d.askQuery = o.sameMemory d := by
  unfold Device.askQuery; simp

@[simp ↓] theorem Device.modLive_same {o : Device} (d : Device) (p : Port) (f : Nat → CellBits → CellBits) :
    o.sameMemory (d.modLive p f) = o.sameMemory d := by
  unfold Device.modLive; simp

@[simp ↓] theorem Device.goDown_same {o : Device} (d : Device) (p : Port) (report : Bool) :
    o.sameMemory (d.goDown p report) = o.sameMemory d := by
  unfold Device.goDown; simp

@[simp ↓] theorem Device.syncLost_same {o : Device} (d : Device) (p : Port) (plus : Bool) (gs : List (BitVec 10)) (violations : Nat) :
    o.sameMemory (d.syncLost p plus gs violations) = o.sameMemory d := by
  unfold Device.syncLost; simp

@[simp ↓] theorem Device.retrain_same {o : Device} (d : Device) (v : Nat) :
    o.sameMemory (d.retrain v) = o.sameMemory d := by
  unfold Device.retrain; simp

@[simp ↓] theorem Device.syncAcquired_same {o : Device} (d : Device) (p : Port) (plus : Bool) (gs : List (BitVec 10)) :
    o.sameMemory (d.syncAcquired p plus gs) = o.sameMemory d := by
  unfold Device.syncAcquired; simp

@[simp ↓] theorem Device.cellOut_same {o : Device} (d : Device) (p : Port) (c : CellBits) (live : Option Nat) :
    o.sameMemory (d.cellOut p c live) = o.sameMemory d := by
  unfold Device.cellOut; simp

@[simp ↓] theorem Device.sendLink_same {o : Device} (d : Device) (p : Port) (pay : List Nat) :
    o.sameMemory (d.sendLink p pay) = o.sameMemory d := by
  unfold Device.sendLink; simp

@[simp ↓] theorem Device.linkOut_same {o : Device} (d : Device) (p : Port) (z : LinkOut) :
    o.sameMemory (d.linkOut p z) = o.sameMemory d := by
  unfold Device.linkOut; (repeat' split) <;> simp

@[simp ↓] theorem Device.startLink_same {o : Device} (d : Device) (p : Port) (incoming : Bool) :
    o.sameMemory (d.startLink p incoming) = o.sameMemory d := by
  unfold Device.startLink; (repeat' split) <;> simp

@[simp ↓] theorem Device.askLink_same {o : Device} (d : Device) (p : Port) (lo : LinkOut) (incoming : Bool) :
    o.sameMemory (d.askLink p lo incoming) = o.sameMemory d := by
  unfold Device.askLink; simp only [Device.startLink_same]; split <;> simp

@[simp ↓] theorem Device.helloSend_same {o : Device} (d : Device) (p : Port) (incoming : Bool) :
    o.sameMemory (d.helloSend p incoming) = o.sameMemory d := by
  unfold Device.helloSend; simp only []; split <;> simp

@[simp ↓] theorem Device.helloReceive_same {o : Device} (d : Device) (p : Port) :
    o.sameMemory (d.helloReceive p) = o.sameMemory d := by
  unfold Device.helloReceive; (repeat' split) <;> simp

@[simp ↓] theorem Device.helloTimeout_same {o : Device} (d : Device) (p : Port) :
    o.sameMemory (d.helloTimeout p) = o.sameMemory d := by
  unfold Device.helloTimeout; simp

@[simp ↓] theorem Device.pingSend_same {o : Device} (d : Device) (p : Port) (incoming : Bool) :
    o.sameMemory (d.pingSend p incoming) = o.sameMemory d := by
  unfold Device.pingSend; simp only []; split <;> simp

@[simp ↓] theorem Device.pingReceive_same {o : Device} (d : Device) (p : Port) (incoming : Bool) :
    o.sameMemory (d.pingReceive p incoming) = o.sameMemory d := by
  unfold Device.pingReceive; split <;> simp

@[simp ↓] theorem Device.portRises_same {o : Device} (d : Device) (p : Port) :
    o.sameMemory (d.portRises p) = o.sameMemory d := by
  unfold Device.portRises; simp

@[simp ↓] theorem Device.measured_same {o : Device} (d : Device) (p : Port) (rs : List Int) :
    o.sameMemory (d.measured p rs) = o.sameMemory d := by
  unfold Device.measured; simp

@[simp ↓] theorem Device.echoReceive_same {o : Device} (d : Device) (p : Port) :
    o.sameMemory (d.echoReceive p) = o.sameMemory d := by
  unfold Device.echoReceive; simp only []; (repeat' split) <;> simp

@[simp ↓] theorem Device.degrade_same {o : Device} (d : Device) (p : Port) :
    o.sameMemory (d.degrade p) = o.sameMemory d := by
  unfold Device.degrade; simp

@[simp ↓] theorem Device.linkDegraded_same {o : Device} (d : Device) :
    o.sameMemory d.linkDegraded = o.sameMemory d := by
  unfold Device.linkDegraded; simp

@[simp ↓] theorem Device.secondTick_same {o : Device} (d : Device) :
    o.sameMemory d.secondTick = o.sameMemory d := by
  unfold Device.secondTick; simp

@[simp ↓] theorem Device.cellForward_same {o : Device} (d : Device) (p : Port) (c : CellBits) (fwdDelay : Nat) :
    o.sameMemory (d.cellForward p c fwdDelay) = o.sameMemory d := by
  unfold Device.cellForward; simp

@[simp ↓] theorem Device.cellAbort_same {o : Device} (d : Device) (p : Port) :
    o.sameMemory (d.cellAbort p) = o.sameMemory d := by
  unfold Device.cellAbort; simp

@[simp ↓] theorem Device.deliverMsg_same {o : Device} (d : Device) (m : Msg) :
    o.sameMemory (d.deliverMsg m) = o.sameMemory d := by
  unfold Device.deliverMsg; simp

@[simp ↓] theorem Device.putSrc_same {o : Device} (d : Device) (x : SrcRec) :
    o.sameMemory (d.putSrc x) = o.sameMemory d := by
  unfold Device.putSrc; simp

@[simp ↓] theorem Device.noteSeg_same {o : Device} (d : Device) (src seq seg : Nat) (port : Option Port) :
    o.sameMemory (d.noteSeg src seq seg port) = o.sameMemory d := by
  unfold Device.noteSeg; (repeat' split) <;> simp

@[simp ↓] theorem Device.roomForPart_same {o : Device} (d : Device) :
    o.sameMemory d.roomForPart = o.sameMemory d := by
  unfold Device.roomForPart; simp

@[simp ↓] theorem Device.eastFirst_same {o : Device} (d : Device) (p : Port) (f : Cell) (stamp : Nat) :
    o.sameMemory (d.eastFirst p f stamp) = o.sameMemory d := by
  unfold Device.eastFirst; (repeat' split) <;> simp

@[simp ↓] theorem Device.assemble_same {o : Device} (d : Device) (p : Port) (f : Cell) (t : MsgType) (stamp : Nat) :
    o.sameMemory (d.assemble p f t stamp) = o.sameMemory d := by
  unfold Device.assemble; simp only []; (repeat' split) <;> simp

@[simp ↓] theorem Device.snoop_same {o : Device} (d : Device) (f : Cell) :
    o.sameMemory (d.snoop f) = o.sameMemory d := by
  unfold Device.snoop; simp

@[simp ↓] theorem Device.noteHops_same {o : Device} (d : Device) (p : Port) (f : Cell) :
    o.sameMemory (d.noteHops p f) = o.sameMemory d := by
  unfold Device.noteHops; simp

@[simp ↓] theorem Device.linkCell_same {o : Device} (d : Device) (p : Port) (f : Cell) (soc : Nat) :
    o.sameMemory (d.linkCell p f soc) = o.sameMemory d := by
  unfold Device.linkCell; simp only []; (repeat' split) <;> simp

@[simp ↓] theorem Device.dataCell_same {o : Device} (d : Device) (p : Port) (f : Cell) (soc : Nat) :
    o.sameMemory (d.dataCell p f soc) = o.sameMemory d := by
  unfold Device.dataCell; simp only []; (repeat' split) <;> simp

@[simp ↓] theorem Device.endCopy_same {o : Device} (d : Device) (p : Port) (c : CellBits) (a : Arrival) :
    o.sameMemory (d.endCopy p c a) = o.sameMemory d := by
  unfold Device.endCopy; simp

@[simp ↓] theorem Device.cellReceive_same {o : Device} (d : Device) (p : Port) (c : CellBits) (a : Arrival) :
    o.sameMemory (d.cellReceive p c a) = o.sameMemory d := by
  unfold Device.cellReceive; simp

@[simp ↓] theorem Device.rasmTimeout_same {o : Device} (d : Device) :
    o.sameMemory d.rasmTimeout = o.sameMemory d := by
  unfold Device.rasmTimeout; simp

@[simp ↓] theorem Device.forget_same {o : Device} (d : Device) (src : Nat) :
    o.sameMemory (d.forget src) = o.sameMemory d := by
  unfold Device.forget; (repeat' split) <;> simp

@[simp ↓] theorem Device.quietEnd_same {o : Device} (d : Device) :
    o.sameMemory d.quietEnd = o.sameMemory d := by
  unfold Device.quietEnd; simp

@[simp ↓] theorem Device.tres_same {o : Device} (d : Device) (st : Nat) :
    o.sameMemory (d.tres st) = o.sameMemory d := by
  unfold Device.tres; simp

@[simp ↓] theorem Device.sendTrans_same {o : Device} (d : Device) (t : Trans) :
    o.sameMemory (d.sendTrans t) = o.sameMemory d := by
  unfold Device.sendTrans; simp

@[simp ↓] theorem Device.startTrans_same {o : Device} (d : Device) (write : Bool) :
    o.sameMemory (d.startTrans write) = o.sameMemory d := by
  unfold Device.startTrans; simp

@[simp ↓] theorem Device.tctl_same {o : Device} (d : Device) (v : Nat) :
    o.sameMemory (d.tctl v) = o.sameMemory d := by
  unfold Device.tctl; simp

@[simp ↓] theorem Device.transTimeout_same {o : Device} (d : Device) :
    o.sameMemory d.transTimeout = o.sameMemory d := by
  unfold Device.transTimeout; (repeat' split) <;> simp

@[simp ↓] theorem Device.responseReceive_same {o : Device} (d : Device) :
    o.sameMemory d.responseReceive = o.sameMemory d := by
  unfold Device.responseReceive
  split
  · rfl
  · rename_i h
    have h2 := Device.takeMsg_same (o := o) h
    (repeat' split) <;> simp [h2]

/-! ### Machine/Charger.lean -/

@[simp ↓] theorem Device.modChg_same {o : Device} (d : Device) (f : Charger → Charger) :
    o.sameMemory (d.modChg f) = o.sameMemory d := by
  unfold Device.modChg; simp

@[simp ↓] theorem Device.setPhase_same {o : Device} (d : Device) (p : Nat) :
    o.sameMemory (d.setPhase p) = o.sameMemory d := by
  unfold Device.setPhase; simp

@[simp ↓] theorem Device.noteVbat_same {o : Device} (d : Device) (vbat : Nat) :
    o.sameMemory (d.noteVbat vbat) = o.sameMemory d := by
  unfold Device.noteVbat; simp

@[simp ↓] theorem Device.enterDetect_same {o : Device} (d : Device) :
    o.sameMemory d.enterDetect = o.sameMemory d := by
  unfold Device.enterDetect; simp

@[simp ↓] theorem Device.chargerGo_same {o : Device} (d : Device) :
    o.sameMemory d.chargerGo = o.sameMemory d := by
  unfold Device.chargerGo; simp

@[simp ↓] theorem Device.chgin_same {o : Device} (d : Device) (avail : Bool) :
    o.sameMemory (d.chgin avail) = o.sameMemory d := by
  unfold Device.chgin; simp

@[simp ↓] theorem Device.newCycle_same {o : Device} (d : Device) (vbat : Nat) (mayBeDone : Bool) :
    o.sameMemory (d.newCycle vbat mayBeDone) = o.sameMemory d := by
  unfold Device.newCycle; simp

@[simp ↓] theorem Device.detectSample_same {o : Device} (d : Device) (vbat : Nat) :
    o.sameMemory (d.detectSample vbat) = o.sameMemory d := by
  unfold Device.detectSample; simp

@[simp ↓] theorem Device.detectResult_same {o : Device} (d : Device) (vbat : Nat) :
    o.sameMemory (d.detectResult vbat) = o.sameMemory d := by
  unfold Device.detectResult; simp

@[simp ↓] theorem Device.detectRepeat_same {o : Device} (d : Device) :
    o.sameMemory d.detectRepeat = o.sameMemory d := by
  unfold Device.detectRepeat; simp

@[simp ↓] theorem Device.nextPhase_same {o : Device} (d : Device) (vbat : Nat) :
    o.sameMemory (d.nextPhase vbat) = o.sameMemory d := by
  unfold Device.nextPhase; simp

@[simp ↓] theorem Device.phaseChange_same {o : Device} (d : Device) (vbat ibat held : Nat) (vloop : Bool) :
    o.sameMemory (d.phaseChange vbat ibat held vloop) = o.sameMemory d := by
  exact (Device.chgEvent_same _ _ _ _ _ (fun _ => by simp)).trans (by simp)

@[simp ↓] theorem Device.chgTrip_same {o : Device} (d : Device) (bit : Field) (ev : Nat) (args : List Nat) :
    o.sameMemory (d.chgTrip bit ev args) = o.sameMemory d := by
  unfold Device.chgTrip; simp

@[simp ↓] theorem Device.batShort_same {o : Device} (d : Device) (vbat : Nat) :
    o.sameMemory (d.batShort vbat) = o.sameMemory d := by
  exact (Device.chgEvent_same _ _ _ _ _ (fun _ => by simp)).trans (by simp)

@[simp ↓] theorem Device.batOv_same {o : Device} (d : Device) (vbat held : Nat) :
    o.sameMemory (d.batOv vbat held) = o.sameMemory d := by
  exact (Device.chgEvent_same _ _ _ _ _ (fun _ => by simp)).trans (by simp)

@[simp ↓] theorem Device.removed_same {o : Device} (d : Device) :
    o.sameMemory d.removed = o.sameMemory d := by
  unfold Device.removed; simp

@[simp ↓] theorem Device.batRemoved_same {o : Device} (d : Device) (ibat0 ibat1 vbat : Nat) :
    o.sameMemory (d.batRemoved ibat0 ibat1 vbat) = o.sameMemory d := by
  exact (Device.chgEvent_same _ _ _ _ _ (fun _ => by simp)).trans (by simp)

@[simp ↓] theorem Device.removalCheck_same {o : Device} (d : Device) (vbat : Nat) :
    o.sameMemory (d.removalCheck vbat) = o.sameMemory d := by
  unfold Device.removalCheck
  split
  · exact (Device.chgEvent_same _ _ _ _ _ (fun _ => by simp)).trans (by simp)
  · rfl

@[simp ↓] theorem Device.batCutoff_same {o : Device} (d : Device) (vbat held : Nat) :
    o.sameMemory (d.batCutoff vbat held) = o.sameMemory d := by
  unfold Device.batCutoff; simp

@[simp ↓] theorem Device.chgClr_same {o : Device} (d : Device) :
    o.sameMemory d.chgClr = o.sameMemory d := by
  unfold Device.chgClr; simp

@[simp ↓] theorem Device.chgCmd_same {o : Device} (d : Device) (v : Nat) :
    o.sameMemory (d.chgCmd v) = o.sameMemory d := by
  unfold Device.chgCmd; simp

/-! ### Machine/Watchdog.lean -/

@[simp ↓] theorem Device.modWdt_same {o : Device} (d : Device) (f : Wdt → Wdt) :
    o.sameMemory (d.modWdt f) = o.sameMemory d := by
  unfold Device.modWdt; simp

@[simp ↓] theorem Device.coreDomain_same {o : Device} (d : Device) :
    o.sameMemory d.coreDomain = o.sameMemory d := by
  unfold Device.coreDomain; simp

@[simp ↓] theorem Device.newPeriod_same {o : Device} (d : Device) :
    o.sameMemory d.newPeriod = o.sameMemory d := by
  unfold Device.newPeriod; simp

@[simp ↓] theorem Device.bootPeriod_same {o : Device} (d : Device) :
    o.sameMemory d.bootPeriod = o.sameMemory d := by
  unfold Device.bootPeriod; simp

@[simp ↓] theorem Device.expire_same {o : Device} (d : Device) (cause : Nat) :
    o.sameMemory (d.expire cause) = o.sameMemory d := by
  unfold Device.expire; simp

@[simp ↓] theorem Device.svcBad_same {o : Device} (d : Device) (counted : Bool) :
    o.sameMemory (d.svcBad counted) = o.sameMemory d := by
  unfold Device.svcBad; simp

@[simp ↓] theorem Device.served_same {o : Device} (d : Device) :
    o.sameMemory d.served = o.sameMemory d := by
  unfold Device.served; simp

@[simp ↓] theorem Device.service_same {o : Device} (d : Device) :
    o.sameMemory d.service = o.sameMemory d := by
  unfold Device.service; simp

@[simp ↓] theorem Device.wdtWrite_same {o : Device} (d : Device) (w : Writer) (v : Nat) :
    o.sameMemory (d.wdtWrite w v) = o.sameMemory d := by
  unfold Device.wdtWrite; simp

@[simp ↓] theorem Device.checkinOne_same {o : Device} (d : Device) (w : Writer) (k : Nat) :
    o.sameMemory (d.checkinOne w k) = o.sameMemory d := by
  unfold Device.checkinOne; simp

@[simp ↓] theorem Device.checkin_same {o : Device} (d : Device) (w : Writer) (v : Nat) :
    o.sameMemory (d.checkin w v) = o.sameMemory d := by
  unfold Device.checkin; simp

@[simp ↓] theorem Device.wdtLate_same {o : Device} (d : Device) :
    o.sameMemory d.wdtLate = o.sameMemory d := by
  unfold Device.wdtLate; simp

@[simp ↓] theorem Device.prewarn_same {o : Device} (d : Device) :
    o.sameMemory d.prewarn = o.sameMemory d := by
  unfold Device.prewarn; simp

@[simp ↓] theorem Device.clkstop_same {o : Device} (d : Device) (periods : Nat) :
    o.sameMemory (d.clkstop periods) = o.sameMemory d := by
  unfold Device.clkstop; simp

@[simp ↓] theorem Device.clkdev_same {o : Device} (d : Device) (edges : Nat) (monStopped : Bool) :
    o.sameMemory (d.clkdev edges monStopped) = o.sameMemory d := by
  unfold Device.clkdev; simp

@[simp ↓] theorem Device.wdxEnd_same {o : Device} (d : Device) :
    o.sameMemory d.wdxEnd = o.sameMemory d := by
  unfold Device.wdxEnd; (repeat' split) <;> simp

@[simp ↓] theorem Device.resetRelease_same {o : Device} (d : Device) :
    o.sameMemory d.resetRelease = o.sameMemory d := by
  unfold Device.resetRelease; (repeat' split) <;> simp

/-! ### Machine/Otp.lean -/

@[simp ↓] theorem Device.otpCounts_same {o : Device} (d : Device) :
    o.sameMemory d.otpCounts = o.sameMemory d := by
  unfold Device.otpCounts; simp

@[simp ↓] theorem Device.otpCheck_same {o : Device} (d : Device) :
    o.sameMemory d.otpCheck = o.sameMemory d := by
  unfold Device.otpCheck; simp

@[simp ↓] theorem Device.floorRegs_same {o : Device} (d : Device) :
    o.sameMemory d.floorRegs = o.sameMemory d := by
  unfold Device.floorRegs; simp

@[simp ↓] theorem Device.burnedReg_same {o : Device} (d : Device) :
    o.sameMemory d.burnedReg = o.sameMemory d := by
  unfold Device.burnedReg; simp

@[simp ↓] theorem Device.otpRefused_same {o : Device} (d : Device) (why : Nat) :
    o.sameMemory (d.otpRefused why) = o.sameMemory d := by
  unfold Device.otpRefused; simp

@[simp ↓] theorem Device.finalDone_same {o : Device} (d : Device) (r : Nat) :
    o.sameMemory (d.finalDone r) = o.sameMemory d := by
  unfold Device.finalDone; simp

@[simp ↓] theorem Device.verifyFailed_same {o : Device} (d : Device) (a : Nat) :
    o.sameMemory (d.verifyFailed a) = o.sameMemory d := by
  unfold Device.verifyFailed; simp

@[simp ↓] theorem Device.repaired_same {o : Device} (d : Device) (a : Nat) :
    o.sameMemory (d.repaired a) = o.sameMemory d := by
  unfold Device.repaired; simp

@[simp ↓] theorem Device.otpDone_same {o : Device} (d : Device) :
    o.sameMemory d.otpDone = o.sameMemory d := by
  unfold Device.otpDone; (repeat' split) <;> simp

@[simp ↓] theorem Device.otpLocks_same {o : Device} (d : Device) :
    o.sameMemory d.otpLocks = o.sameMemory d := by
  unfold Device.otpLocks; simp

@[simp ↓] theorem Device.lockSet_same {o : Device} (d : Device) (v : Nat) :
    o.sameMemory (d.lockSet v) = o.sameMemory d := by
  unfold Device.lockSet; simp

/-! ### Machine/Image.lean -/

@[simp ↓] theorem Device.authenticate_same {o : Device} (d : Device) (rig : Bool) (slot : Nat) :
    o.sameMemory (d.authenticate rig slot).1 = o.sameMemory d := by
  unfold Device.authenticate; simp only []; (repeat' split) <;> simp

/-! ### Machine/Store.lean -/

@[simp ↓] theorem Device.storeEnergy_same {o : Device} (d : Device) (env : EnergyEnv) (us : Nat) :
    o.sameMemory (d.storeEnergy env us).2 = o.sameMemory d := by
  unfold Device.storeEnergy; simp

@[simp ↓] theorem Device.spareCount_same {o : Device} (d : Device) :
    o.sameMemory d.spareCount = o.sameMemory d := by
  unfold Device.spareCount; simp

@[simp ↓] theorem Device.queueRegs_same {o : Device} (d : Device) :
    o.sameMemory d.queueRegs = o.sameMemory d := by
  unfold Device.queueRegs; simp

@[simp ↓] theorem Device.enqueue_same {o : Device} (d : Device) (q : List (RecBody × Nat)) :
    o.sameMemory (d.enqueue q) = o.sameMemory d := by
  unfold Device.enqueue; simp

@[simp ↓] theorem Device.defer_same {o : Device} (d : Device) (b : RecBody) (t : Nat) :
    o.sameMemory (d.defer b t) = o.sameMemory d := by
  unfold Device.defer; simp

@[simp ↓] theorem Device.openSector_same {o : Device} (d : Device) (journal intact : Bool) :
    o.sameMemory (d.openSector journal intact) = o.sameMemory d := by
  unfold Device.openSector; simp

@[simp ↓] theorem Device.putRecord_same {o : Device} (d : Device) (b : RecBody) (t : Nat) (intact : Bool) :
    o.sameMemory (d.putRecord b t intact) = o.sameMemory d := by
  unfold Device.putRecord; simp

@[simp ↓] theorem Device.startOp_same {o : Device} (d : Device) (op : StoreOp) :
    o.sameMemory (d.startOp op) = o.sameMemory d := by
  unfold Device.startOp; simp

@[simp ↓] theorem Device.mayWrite_same {o : Device} (d : Device) (env : EnergyEnv) (b : RecBody) :
    o.sameMemory (d.mayWrite env b).2 = o.sameMemory d := by
  unfold Device.mayWrite; (repeat' split) <;> simp

@[simp ↓] theorem Device.eraseAhead_same {o : Device} (d : Device) (env : EnergyEnv) :
    o.sameMemory (d.eraseAhead env) = o.sameMemory d := by
  unfold Device.eraseAhead; simp

@[simp ↓] theorem Device.journalDue_same {o : Device} (d : Device) (bs : List RecBody) :
    o.sameMemory (d.journalDue bs) = o.sameMemory d := by
  unfold Device.journalDue; simp

@[simp ↓] theorem Device.counterJournal_same {o : Device} (d : Device) :
    o.sameMemory d.counterJournal = o.sameMemory d := by
  unfold Device.counterJournal; simp

@[simp ↓] theorem Device.latencyJournal_same {o : Device} (d : Device) :
    o.sameMemory d.latencyJournal = o.sameMemory d := by
  unfold Device.latencyJournal; simp

@[simp ↓] theorem Device.clockJournal_same {o : Device} (d : Device) :
    o.sameMemory d.clockJournal = o.sameMemory d := by
  unfold Device.clockJournal; simp

@[simp ↓] theorem Device.cntClear_same {o : Device} (d : Device) (v : Nat) :
    o.sameMemory (d.cntClear v) = o.sameMemory d := by
  unfold Device.cntClear
  simp only []
  split
  · rfl
  · simp only [Device.modStore_same, Device.raise_same, Device.same_fold]
    refine Device.same_each (fun o d i => ?_) o _ d
    cases cntReg i <;> simp [Option.elim]

@[simp ↓] theorem Device.readOut_same {o : Device} (d : Device) (l : List Sector) :
    o.sameMemory (d.readOut l) = o.sameMemory d := by
  unfold Device.readOut; simp

@[simp ↓] theorem Device.restoreClock_same {o : Device} (d : Device) :
    o.sameMemory d.restoreClock = o.sameMemory d := by
  unfold Device.restoreClock; (repeat' split) <;> simp

@[simp ↓] theorem Device.writeWall_same {o : Device} (d : Device) (v : Nat) :
    o.sameMemory (d.writeWall v) = o.sameMemory d := by
  unfold Device.writeWall; simp

@[simp ↓] theorem Device.beginScrub_same {o : Device} (d : Device) :
    o.sameMemory d.beginScrub = o.sameMemory d := by
  unfold Device.beginScrub; simp

@[simp ↓] theorem Device.scrubStart_same {o : Device} (d : Device) :
    o.sameMemory d.scrubStart = o.sameMemory d := by
  unfold Device.scrubStart; simp

@[simp ↓] theorem Device.badBlock_same {o : Device} (d : Device) (a : Nat) :
    o.sameMemory (d.badBlock a) = o.sameMemory d := by
  unfold Device.badBlock; simp

@[simp ↓] theorem Device.writeXaddr_same {o : Device} (d : Device) (v : Nat) :
    o.sameMemory (d.writeXaddr v) = o.sameMemory d := by
  unfold Device.writeXaddr; simp

@[simp ↓] theorem Device.readXdata_same {o : Device} (d : Device) :
    o.sameMemory d.readXdata = o.sameMemory d := by
  unfold Device.readXdata; simp

@[simp ↓] theorem Device.storeRegs_same {o : Device} (d : Device) :
    o.sameMemory d.storeRegs = o.sameMemory d := by
  unfold Device.storeRegs; simp

/-! ### Machine/Security.lean -/

@[simp ↓] theorem Device.modSec_same {o : Device} (d : Device) (f : Security → Security) :
    o.sameMemory (d.modSec f) = o.sameMemory d := by
  unfold Device.modSec; simp

@[simp ↓] theorem Device.readLife_same {o : Device} (d : Device) :
    o.sameMemory d.readLife = o.sameMemory d := by
  unfold Device.readLife; simp

@[simp ↓] theorem Device.lcRefused_same {o : Device} (d : Device) (why : Nat) :
    o.sameMemory (d.lcRefused why) = o.sameMemory d := by
  unfold Device.lcRefused; simp

@[simp ↓] theorem Device.newNonce_same {o : Device} (d : Device) :
    o.sameMemory d.newNonce = o.sameMemory d := by
  unfold Device.newNonce; simp

@[simp ↓] theorem Device.haltRelease_same {o : Device} (d : Device) :
    o.sameMemory d.haltRelease = o.sameMemory d := by
  unfold Device.haltRelease; simp

@[simp ↓] theorem Device.endAuth_same {o : Device} (d : Device) :
    o.sameMemory d.endAuth = o.sameMemory d := by
  unfold Device.endAuth; simp

@[simp ↓] theorem Device.grant_same {o : Device} (d : Device) (scope : Nat) :
    o.sameMemory (d.grant scope) = o.sameMemory d := by
  unfold Device.grant; simp

@[simp ↓] theorem Device.debugAuth_same {o : Device} (d : Device) (slot scope : Nat) (pubkey sig : BitVec 512) (age : Nat) :
    o.sameMemory (d.debugAuth slot scope pubkey sig age) = o.sameMemory d := by
  unfold Device.debugAuth; simp

@[simp ↓] theorem Device.debugHalt_same {o : Device} (d : Device) :
    o.sameMemory d.debugHalt = o.sameMemory d := by
  unfold Device.debugHalt; simp

@[simp ↓] theorem Device.scanEnter_same {o : Device} (d : Device) :
    o.sameMemory d.scanEnter = o.sameMemory d := by
  unfold Device.scanEnter; simp

/-! ### Machine/Rigging.lean -/

@[simp ↓] theorem Device.rigReset_same {o : Device} (d : Device) (pages : List Nat) :
    o.sameMemory (d.rigReset pages) = o.sameMemory d := rfl

@[simp ↓] theorem Device.setAddr_same {o : Device} (d : Device) (a : Nat) (rigged : Bool) :
    o.sameMemory (d.setAddr a rigged) = o.sameMemory d := by
  unfold Device.setAddr; simp

@[simp ↓] theorem Device.unrig_same {o : Device} (d : Device) (carryOn : Bool) :
    o.sameMemory (d.unrig carryOn) = o.sameMemory d := by
  unfold Device.unrig; simp

@[simp ↓] theorem Device.tryRig_same {o : Device} (d : Device) (slot : Nat) :
    o.sameMemory (d.tryRig slot).1 = o.sameMemory d := by
  unfold Device.tryRig; simp only []; (repeat' split) <;> simp

@[simp ↓] theorem Device.rigFail_same {o : Device} (d : Device) (slot : Nat) (e : RigErr) :
    o.sameMemory (d.rigFail slot e) = o.sameMemory d := by
  unfold Device.rigFail; simp

@[simp ↓] theorem Device.setShadow_same {o : Device} (d : Device) (x : Shadow) :
    o.sameMemory (d.setShadow x) = o.sameMemory d := by
  unfold Device.setShadow; simp

@[simp ↓] theorem Device.finishActivation_same {o : Device} (d : Device) :
    o.sameMemory d.finishActivation = o.sameMemory d := by
  unfold Device.finishActivation; simp

@[simp ↓] theorem Device.loadBegin_same {o : Device} (d : Device) :
    o.sameMemory d.loadBegin = o.sameMemory d := by
  unfold Device.loadBegin; simp

@[simp ↓] theorem Device.dropSequence_same {o : Device} (d : Device) :
    o.sameMemory d.dropSequence = o.sameMemory d := by
  unfold Device.dropSequence; simp

@[simp ↓] theorem Device.loadRefused_same {o : Device} (d : Device) :
    o.sameMemory d.loadRefused = o.sameMemory d := by
  unfold Device.loadRefused; simp

@[simp ↓] theorem Device.commitRec_same {o : Device} (d : Device) (rec : RigRec) :
    o.sameMemory (d.commitRec rec) = o.sameMemory d := by
  unfold Device.commitRec; simp

@[simp ↓] theorem Device.startLearning_same {o : Device} (d : Device) (n : Nat) :
    o.sameMemory (d.startLearning n) = o.sameMemory d := by
  unfold Device.startLearning; simp only []; (repeat' split) <;> simp

@[simp ↓] theorem Device.commitChan_same {o : Device} (d : Device) (rs : List RigRec) (n : Nat) :
    o.sameMemory (d.commitChan rs n) = o.sameMemory d := by
  unfold Device.commitChan; (repeat' split) <;> simp

@[simp ↓] theorem Device.commitSys_same {o : Device} (d : Device) (x : Shadow) :
    o.sameMemory (d.commitSys x) = o.sameMemory d := by
  unfold Device.commitSys; simp

@[simp ↓] theorem Device.riggingCommit_same {o : Device} (d : Device) :
    o.sameMemory d.riggingCommit = o.sameMemory d := by
  unfold Device.riggingCommit; (repeat' split) <;> simp

@[simp ↓] theorem Device.rigCorrupt_same {o : Device} (d : Device) :
    o.sameMemory d.rigCorrupt = o.sameMemory d := by
  unfold Device.rigCorrupt; simp

end Sys2Proof.Machine
end

