-- ==== Sys2Proof/Laws/State.lean ====
section
/-! SUPPORT. Laws/State.lean: what each basic update leaves of every part of the device, one rewrite rule per
part and update, each true by definition; and the part that an update changes. -/
namespace Sys2Proof.Machine

@[simp] theorem Device.wr_rest (d : Device) (r : Reg) (v : Nat) :
    (d.wr r v).chans = d.chans ∧ (d.wr r v).banks = d.banks ∧ (d.wr r v).rck = d.rck ∧ (d.wr r v).store = d.store ∧
    (d.wr r v).sects = d.sects ∧ (d.wr r v).ringMap = d.ringMap ∧ (d.wr r v).coreRes = d.coreRes ∧
    (d.wr r v).events = d.events ∧ (d.wr r v).logged = d.logged ∧ (d.wr r v).ring = d.ring ∧
    (d.wr r v).feedA = d.feedA ∧ (d.wr r v).feedB = d.feedB ∧ (d.wr r v).switch = d.switch ∧
    (d.wr r v).rails = d.rails ∧ (d.wr r v).int = d.int ∧ (d.wr r v).seq = d.seq ∧ (d.wr r v).adc = d.adc ∧
    (d.wr r v).chg = d.chg ∧ (d.wr r v).chgLast = d.chgLast ∧ (d.wr r v).wdt = d.wdt ∧ (d.wr r v).sec = d.sec ∧
    (d.wr r v).otp = d.otp ∧ (d.wr r v).flash = d.flash ∧ (d.wr r v).shadow = d.shadow ∧ (d.wr r v).upd = d.upd ∧
    (d.wr r v).twi = d.twi ∧ (d.wr r v).clk = d.clk ∧ (d.wr r v).fresh = d.fresh ∧ (d.wr r v).coreBuf = d.coreBuf ∧
    (d.wr r v).feedClk = d.feedClk ∧ (d.wr r v).free = d.free :=
  ⟨rfl, rfl, rfl, rfl, rfl, rfl, rfl, rfl, rfl, rfl, rfl, rfl, rfl, rfl, rfl, rfl, rfl, rfl, rfl, rfl,
    rfl, rfl, rfl, rfl, rfl, rfl, rfl, rfl, rfl, rfl, rfl⟩

@[simp] theorem Device.setFld_rest (d : Device) (f : Field) (v : Nat) :
    (d.setFld f v).chans = d.chans ∧ (d.setFld f v).banks = d.banks ∧ (d.setFld f v).rck = d.rck ∧
    (d.setFld f v).store = d.store ∧ (d.setFld f v).sects = d.sects ∧ (d.setFld f v).ringMap = d.ringMap ∧
    (d.setFld f v).coreRes = d.coreRes ∧ (d.setFld f v).events = d.events ∧ (d.setFld f v).logged = d.logged ∧
    (d.setFld f v).ring = d.ring ∧ (d.setFld f v).feedA = d.feedA ∧ (d.setFld f v).feedB = d.feedB ∧
    (d.setFld f v).switch = d.switch ∧ (d.setFld f v).rails = d.rails ∧ (d.setFld f v).int = d.int ∧
    (d.setFld f v).seq = d.seq ∧ (d.setFld f v).adc = d.adc ∧ (d.setFld f v).chg = d.chg ∧
    (d.setFld f v).chgLast = d.chgLast ∧ (d.setFld f v).wdt = d.wdt ∧ (d.setFld f v).sec = d.sec ∧
    (d.setFld f v).otp = d.otp ∧ (d.setFld f v).flash = d.flash ∧ (d.setFld f v).shadow = d.shadow ∧
    (d.setFld f v).upd = d.upd ∧ (d.setFld f v).twi = d.twi ∧ (d.setFld f v).clk = d.clk ∧
    (d.setFld f v).fresh = d.fresh ∧ (d.setFld f v).coreBuf = d.coreBuf ∧ (d.setFld f v).feedClk = d.feedClk ∧
    (d.setFld f v).free = d.free :=
  ⟨rfl, rfl, rfl, rfl, rfl, rfl, rfl, rfl, rfl, rfl, rfl, rfl, rfl, rfl, rfl, rfl, rfl, rfl, rfl, rfl,
    rfl, rfl, rfl, rfl, rfl, rfl, rfl, rfl, rfl, rfl, rfl⟩

@[simp] theorem Device.setFlag_rest (d : Device) (f : Field) (b : Bool) :
    (d.setFlag f b).chans = d.chans ∧ (d.setFlag f b).banks = d.banks ∧ (d.setFlag f b).rck = d.rck ∧
    (d.setFlag f b).store = d.store ∧ (d.setFlag f b).sects = d.sects ∧ (d.setFlag f b).ringMap = d.ringMap ∧
    (d.setFlag f b).coreRes = d.coreRes ∧ (d.setFlag f b).events = d.events ∧ (d.setFlag f b).logged = d.logged ∧
    (d.setFlag f b).ring = d.ring ∧ (d.setFlag f b).feedA = d.feedA ∧ (d.setFlag f b).feedB = d.feedB ∧
    (d.setFlag f b).switch = d.switch ∧ (d.setFlag f b).rails = d.rails ∧ (d.setFlag f b).int = d.int ∧
    (d.setFlag f b).seq = d.seq ∧ (d.setFlag f b).adc = d.adc ∧ (d.setFlag f b).chg = d.chg ∧
    (d.setFlag f b).chgLast = d.chgLast ∧ (d.setFlag f b).wdt = d.wdt ∧ (d.setFlag f b).sec = d.sec ∧
    (d.setFlag f b).otp = d.otp ∧ (d.setFlag f b).flash = d.flash ∧ (d.setFlag f b).shadow = d.shadow ∧
    (d.setFlag f b).upd = d.upd ∧ (d.setFlag f b).twi = d.twi ∧ (d.setFlag f b).clk = d.clk ∧
    (d.setFlag f b).fresh = d.fresh ∧ (d.setFlag f b).coreBuf = d.coreBuf ∧ (d.setFlag f b).feedClk = d.feedClk ∧
    (d.setFlag f b).free = d.free :=
  ⟨rfl, rfl, rfl, rfl, rfl, rfl, rfl, rfl, rfl, rfl, rfl, rfl, rfl, rfl, rfl, rfl, rfl, rfl, rfl, rfl,
    rfl, rfl, rfl, rfl, rfl, rfl, rfl, rfl, rfl, rfl, rfl⟩

@[simp] theorem Device.setBit_rest (d : Device) (r : Reg) (i : Nat) (b : Bool) :
    (d.setBit r i b).chans = d.chans ∧ (d.setBit r i b).banks = d.banks ∧ (d.setBit r i b).rck = d.rck ∧
    (d.setBit r i b).store = d.store ∧ (d.setBit r i b).sects = d.sects ∧ (d.setBit r i b).ringMap = d.ringMap ∧
    (d.setBit r i b).coreRes = d.coreRes ∧ (d.setBit r i b).events = d.events ∧
    (d.setBit r i b).logged = d.logged ∧ (d.setBit r i b).ring = d.ring ∧ (d.setBit r i b).feedA = d.feedA ∧
    (d.setBit r i b).feedB = d.feedB ∧ (d.setBit r i b).switch = d.switch ∧ (d.setBit r i b).rails = d.rails ∧
    (d.setBit r i b).int = d.int ∧ (d.setBit r i b).seq = d.seq ∧ (d.setBit r i b).adc = d.adc ∧
    (d.setBit r i b).chg = d.chg ∧ (d.setBit r i b).chgLast = d.chgLast ∧ (d.setBit r i b).wdt = d.wdt ∧
    (d.setBit r i b).sec = d.sec ∧ (d.setBit r i b).otp = d.otp ∧ (d.setBit r i b).flash = d.flash ∧
    (d.setBit r i b).shadow = d.shadow ∧ (d.setBit r i b).upd = d.upd ∧ (d.setBit r i b).twi = d.twi ∧
    (d.setBit r i b).clk = d.clk ∧ (d.setBit r i b).fresh = d.fresh ∧ (d.setBit r i b).coreBuf = d.coreBuf ∧
    (d.setBit r i b).feedClk = d.feedClk ∧ (d.setBit r i b).free = d.free :=
  ⟨rfl, rfl, rfl, rfl, rfl, rfl, rfl, rfl, rfl, rfl, rfl, rfl, rfl, rfl, rfl, rfl, rfl, rfl, rfl, rfl,
    rfl, rfl, rfl, rfl, rfl, rfl, rfl, rfl, rfl, rfl, rfl⟩

@[simp] theorem Device.noteSet_rest (d : Device) (a b : Nat) :
    (d.noteSet a b).regs = d.regs ∧ (d.noteSet a b).chans = d.chans ∧ (d.noteSet a b).banks = d.banks ∧
    (d.noteSet a b).rck = d.rck ∧ (d.noteSet a b).store = d.store ∧ (d.noteSet a b).sects = d.sects ∧
    (d.noteSet a b).ringMap = d.ringMap ∧ (d.noteSet a b).coreRes = d.coreRes ∧ (d.noteSet a b).events = d.events ∧
    (d.noteSet a b).logged = d.logged ∧ (d.noteSet a b).ring = d.ring ∧ (d.noteSet a b).feedA = d.feedA ∧
    (d.noteSet a b).feedB = d.feedB ∧ (d.noteSet a b).switch = d.switch ∧ (d.noteSet a b).rails = d.rails ∧
    (d.noteSet a b).int = d.int ∧ (d.noteSet a b).seq = d.seq ∧ (d.noteSet a b).adc = d.adc ∧
    (d.noteSet a b).chg = d.chg ∧ (d.noteSet a b).chgLast = d.chgLast ∧ (d.noteSet a b).wdt = d.wdt ∧
    (d.noteSet a b).sec = d.sec ∧ (d.noteSet a b).otp = d.otp ∧ (d.noteSet a b).flash = d.flash ∧
    (d.noteSet a b).shadow = d.shadow ∧ (d.noteSet a b).upd = d.upd ∧ (d.noteSet a b).twi = d.twi ∧
    (d.noteSet a b).clk = d.clk ∧ (d.noteSet a b).coreBuf = d.coreBuf ∧ (d.noteSet a b).feedClk = d.feedClk ∧
    (d.noteSet a b).free = d.free :=
  ⟨rfl, rfl, rfl, rfl, rfl, rfl, rfl, rfl, rfl, rfl, rfl, rfl, rfl, rfl, rfl, rfl, rfl, rfl, rfl, rfl,
    rfl, rfl, rfl, rfl, rfl, rfl, rfl, rfl, rfl, rfl, rfl⟩

@[simp] theorem Device.raise_rest (d : Device) (f : Field) :
    (d.raise f).chans = d.chans ∧ (d.raise f).banks = d.banks ∧ (d.raise f).rck = d.rck ∧
    (d.raise f).store = d.store ∧ (d.raise f).sects = d.sects ∧ (d.raise f).ringMap = d.ringMap ∧
    (d.raise f).coreRes = d.coreRes ∧ (d.raise f).events = d.events ∧ (d.raise f).logged = d.logged ∧
    (d.raise f).ring = d.ring ∧ (d.raise f).feedA = d.feedA ∧ (d.raise f).feedB = d.feedB ∧
    (d.raise f).switch = d.switch ∧ (d.raise f).rails = d.rails ∧ (d.raise f).int = d.int ∧
    (d.raise f).seq = d.seq ∧ (d.raise f).adc = d.adc ∧ (d.raise f).chg = d.chg ∧ (d.raise f).chgLast = d.chgLast ∧
    (d.raise f).wdt = d.wdt ∧ (d.raise f).sec = d.sec ∧ (d.raise f).otp = d.otp ∧ (d.raise f).flash = d.flash ∧
    (d.raise f).shadow = d.shadow ∧ (d.raise f).upd = d.upd ∧ (d.raise f).twi = d.twi ∧ (d.raise f).clk = d.clk ∧
    (d.raise f).coreBuf = d.coreBuf ∧ (d.raise f).feedClk = d.feedClk ∧ (d.raise f).free = d.free :=
  ⟨rfl, rfl, rfl, rfl, rfl, rfl, rfl, rfl, rfl, rfl, rfl, rfl, rfl, rfl, rfl, rfl, rfl, rfl, rfl, rfl,
    rfl, rfl, rfl, rfl, rfl, rfl, rfl, rfl, rfl, rfl⟩

@[simp] theorem Device.raiseBit_rest (d : Device) (r : Reg) (i : Nat) :
    (d.raiseBit r i).chans = d.chans ∧ (d.raiseBit r i).banks = d.banks ∧ (d.raiseBit r i).rck = d.rck ∧
    (d.raiseBit r i).store = d.store ∧ (d.raiseBit r i).sects = d.sects ∧ (d.raiseBit r i).ringMap = d.ringMap ∧
    (d.raiseBit r i).coreRes = d.coreRes ∧ (d.raiseBit r i).events = d.events ∧
    (d.raiseBit r i).logged = d.logged ∧ (d.raiseBit r i).ring = d.ring ∧ (d.raiseBit r i).feedA = d.feedA ∧
    (d.raiseBit r i).feedB = d.feedB ∧ (d.raiseBit r i).switch = d.switch ∧ (d.raiseBit r i).rails = d.rails ∧
    (d.raiseBit r i).int = d.int ∧ (d.raiseBit r i).seq = d.seq ∧ (d.raiseBit r i).adc = d.adc ∧
    (d.raiseBit r i).chg = d.chg ∧ (d.raiseBit r i).chgLast = d.chgLast ∧ (d.raiseBit r i).wdt = d.wdt ∧
    (d.raiseBit r i).sec = d.sec ∧ (d.raiseBit r i).otp = d.otp ∧ (d.raiseBit r i).flash = d.flash ∧
    (d.raiseBit r i).shadow = d.shadow ∧ (d.raiseBit r i).upd = d.upd ∧ (d.raiseBit r i).twi = d.twi ∧
    (d.raiseBit r i).clk = d.clk ∧ (d.raiseBit r i).coreBuf = d.coreBuf ∧ (d.raiseBit r i).feedClk = d.feedClk ∧
    (d.raiseBit r i).free = d.free :=
  ⟨rfl, rfl, rfl, rfl, rfl, rfl, rfl, rfl, rfl, rfl, rfl, rfl, rfl, rfl, rfl, rfl, rfl, rfl, rfl, rfl,
    rfl, rfl, rfl, rfl, rfl, rfl, rfl, rfl, rfl, rfl⟩

@[simp] theorem Device.countSat_rest (d : Device) (r : Reg) (n : Nat) :
    (d.countSat r n).chans = d.chans ∧ (d.countSat r n).banks = d.banks ∧ (d.countSat r n).rck = d.rck ∧
    (d.countSat r n).store = d.store ∧ (d.countSat r n).sects = d.sects ∧ (d.countSat r n).ringMap = d.ringMap ∧
    (d.countSat r n).coreRes = d.coreRes ∧ (d.countSat r n).events = d.events ∧
    (d.countSat r n).logged = d.logged ∧ (d.countSat r n).ring = d.ring ∧ (d.countSat r n).feedA = d.feedA ∧
    (d.countSat r n).feedB = d.feedB ∧ (d.countSat r n).switch = d.switch ∧ (d.countSat r n).rails = d.rails ∧
    (d.countSat r n).int = d.int ∧ (d.countSat r n).seq = d.seq ∧ (d.countSat r n).adc = d.adc ∧
    (d.countSat r n).chg = d.chg ∧ (d.countSat r n).chgLast = d.chgLast ∧ (d.countSat r n).wdt = d.wdt ∧
    (d.countSat r n).sec = d.sec ∧ (d.countSat r n).otp = d.otp ∧ (d.countSat r n).flash = d.flash ∧
    (d.countSat r n).shadow = d.shadow ∧ (d.countSat r n).upd = d.upd ∧ (d.countSat r n).twi = d.twi ∧
    (d.countSat r n).clk = d.clk ∧ (d.countSat r n).fresh = d.fresh ∧ (d.countSat r n).coreBuf = d.coreBuf ∧
    (d.countSat r n).feedClk = d.feedClk ∧ (d.countSat r n).free = d.free :=
  ⟨rfl, rfl, rfl, rfl, rfl, rfl, rfl, rfl, rfl, rfl, rfl, rfl, rfl, rfl, rfl, rfl, rfl, rfl, rfl, rfl,
    rfl, rfl, rfl, rfl, rfl, rfl, rfl, rfl, rfl, rfl, rfl⟩

@[simp] theorem Device.count_rest (d : Device) (r : Reg) (n : Nat) :
    (d.count r n).chans = d.chans ∧ (d.count r n).banks = d.banks ∧ (d.count r n).rck = d.rck ∧
    (d.count r n).store = d.store ∧ (d.count r n).sects = d.sects ∧ (d.count r n).ringMap = d.ringMap ∧
    (d.count r n).coreRes = d.coreRes ∧ (d.count r n).events = d.events ∧ (d.count r n).logged = d.logged ∧
    (d.count r n).ring = d.ring ∧ (d.count r n).feedA = d.feedA ∧ (d.count r n).feedB = d.feedB ∧
    (d.count r n).switch = d.switch ∧ (d.count r n).rails = d.rails ∧ (d.count r n).int = d.int ∧
    (d.count r n).seq = d.seq ∧ (d.count r n).adc = d.adc ∧ (d.count r n).chg = d.chg ∧
    (d.count r n).chgLast = d.chgLast ∧ (d.count r n).wdt = d.wdt ∧ (d.count r n).sec = d.sec ∧
    (d.count r n).otp = d.otp ∧ (d.count r n).flash = d.flash ∧ (d.count r n).shadow = d.shadow ∧
    (d.count r n).upd = d.upd ∧ (d.count r n).twi = d.twi ∧ (d.count r n).clk = d.clk ∧
    (d.count r n).fresh = d.fresh ∧ (d.count r n).coreBuf = d.coreBuf ∧ (d.count r n).feedClk = d.feedClk ∧
    (d.count r n).free = d.free :=
  ⟨rfl, rfl, rfl, rfl, rfl, rfl, rfl, rfl, rfl, rfl, rfl, rfl, rfl, rfl, rfl, rfl, rfl, rfl, rfl, rfl,
    rfl, rfl, rfl, rfl, rfl, rfl, rfl, rfl, rfl, rfl, rfl⟩

@[simp] theorem Device.setChan_rest (d : Device) (n : Nat) (c : Chan) :
    (d.setChan n c).regs = d.regs ∧ (d.setChan n c).banks = d.banks ∧ (d.setChan n c).rck = d.rck ∧
    (d.setChan n c).store = d.store ∧ (d.setChan n c).sects = d.sects ∧ (d.setChan n c).ringMap = d.ringMap ∧
    (d.setChan n c).coreRes = d.coreRes ∧ (d.setChan n c).events = d.events ∧ (d.setChan n c).logged = d.logged ∧
    (d.setChan n c).ring = d.ring ∧ (d.setChan n c).feedA = d.feedA ∧ (d.setChan n c).feedB = d.feedB ∧
    (d.setChan n c).switch = d.switch ∧ (d.setChan n c).rails = d.rails ∧ (d.setChan n c).int = d.int ∧
    (d.setChan n c).seq = d.seq ∧ (d.setChan n c).adc = d.adc ∧ (d.setChan n c).chg = d.chg ∧
    (d.setChan n c).chgLast = d.chgLast ∧ (d.setChan n c).wdt = d.wdt ∧ (d.setChan n c).sec = d.sec ∧
    (d.setChan n c).otp = d.otp ∧ (d.setChan n c).flash = d.flash ∧ (d.setChan n c).shadow = d.shadow ∧
    (d.setChan n c).upd = d.upd ∧ (d.setChan n c).twi = d.twi ∧ (d.setChan n c).clk = d.clk ∧
    (d.setChan n c).fresh = d.fresh ∧ (d.setChan n c).coreBuf = d.coreBuf ∧ (d.setChan n c).feedClk = d.feedClk ∧
    (d.setChan n c).free = d.free :=
  ⟨rfl, rfl, rfl, rfl, rfl, rfl, rfl, rfl, rfl, rfl, rfl, rfl, rfl, rfl, rfl, rfl, rfl, rfl, rfl, rfl,
    rfl, rfl, rfl, rfl, rfl, rfl, rfl, rfl, rfl, rfl, rfl⟩

@[simp] theorem Device.modChan_rest (d : Device) (n : Nat) (f : Chan → Chan) :
    (d.modChan n f).regs = d.regs ∧ (d.modChan n f).banks = d.banks ∧ (d.modChan n f).rck = d.rck ∧
    (d.modChan n f).store = d.store ∧ (d.modChan n f).sects = d.sects ∧ (d.modChan n f).ringMap = d.ringMap ∧
    (d.modChan n f).coreRes = d.coreRes ∧ (d.modChan n f).events = d.events ∧ (d.modChan n f).logged = d.logged ∧
    (d.modChan n f).ring = d.ring ∧ (d.modChan n f).feedA = d.feedA ∧ (d.modChan n f).feedB = d.feedB ∧
    (d.modChan n f).switch = d.switch ∧ (d.modChan n f).rails = d.rails ∧ (d.modChan n f).int = d.int ∧
    (d.modChan n f).seq = d.seq ∧ (d.modChan n f).adc = d.adc ∧ (d.modChan n f).chg = d.chg ∧
    (d.modChan n f).chgLast = d.chgLast ∧ (d.modChan n f).wdt = d.wdt ∧ (d.modChan n f).sec = d.sec ∧
    (d.modChan n f).otp = d.otp ∧ (d.modChan n f).flash = d.flash ∧ (d.modChan n f).shadow = d.shadow ∧
    (d.modChan n f).upd = d.upd ∧ (d.modChan n f).twi = d.twi ∧ (d.modChan n f).clk = d.clk ∧
    (d.modChan n f).fresh = d.fresh ∧ (d.modChan n f).coreBuf = d.coreBuf ∧ (d.modChan n f).feedClk = d.feedClk ∧
    (d.modChan n f).free = d.free :=
  ⟨rfl, rfl, rfl, rfl, rfl, rfl, rfl, rfl, rfl, rfl, rfl, rfl, rfl, rfl, rfl, rfl, rfl, rfl, rfl, rfl,
    rfl, rfl, rfl, rfl, rfl, rfl, rfl, rfl, rfl, rfl, rfl⟩

@[simp] theorem Device.setBank_rest (d : Device) (m : Nat) (b : Bank) :
    (d.setBank m b).regs = d.regs ∧ (d.setBank m b).chans = d.chans ∧ (d.setBank m b).rck = d.rck ∧
    (d.setBank m b).store = d.store ∧ (d.setBank m b).sects = d.sects ∧ (d.setBank m b).ringMap = d.ringMap ∧
    (d.setBank m b).coreRes = d.coreRes ∧ (d.setBank m b).events = d.events ∧ (d.setBank m b).logged = d.logged ∧
    (d.setBank m b).ring = d.ring ∧ (d.setBank m b).feedA = d.feedA ∧ (d.setBank m b).feedB = d.feedB ∧
    (d.setBank m b).switch = d.switch ∧ (d.setBank m b).rails = d.rails ∧ (d.setBank m b).int = d.int ∧
    (d.setBank m b).seq = d.seq ∧ (d.setBank m b).adc = d.adc ∧ (d.setBank m b).chg = d.chg ∧
    (d.setBank m b).chgLast = d.chgLast ∧ (d.setBank m b).wdt = d.wdt ∧ (d.setBank m b).sec = d.sec ∧
    (d.setBank m b).otp = d.otp ∧ (d.setBank m b).flash = d.flash ∧ (d.setBank m b).shadow = d.shadow ∧
    (d.setBank m b).upd = d.upd ∧ (d.setBank m b).twi = d.twi ∧ (d.setBank m b).clk = d.clk ∧
    (d.setBank m b).fresh = d.fresh ∧ (d.setBank m b).coreBuf = d.coreBuf ∧ (d.setBank m b).feedClk = d.feedClk ∧
    (d.setBank m b).free = d.free :=
  ⟨rfl, rfl, rfl, rfl, rfl, rfl, rfl, rfl, rfl, rfl, rfl, rfl, rfl, rfl, rfl, rfl, rfl, rfl, rfl, rfl,
    rfl, rfl, rfl, rfl, rfl, rfl, rfl, rfl, rfl, rfl, rfl⟩

@[simp] theorem Device.modBank_rest (d : Device) (m : Nat) (f : Bank → Bank) :
    (d.modBank m f).regs = d.regs ∧ (d.modBank m f).chans = d.chans ∧ (d.modBank m f).rck = d.rck ∧
    (d.modBank m f).store = d.store ∧ (d.modBank m f).sects = d.sects ∧ (d.modBank m f).ringMap = d.ringMap ∧
    (d.modBank m f).coreRes = d.coreRes ∧ (d.modBank m f).events = d.events ∧ (d.modBank m f).logged = d.logged ∧
    (d.modBank m f).ring = d.ring ∧ (d.modBank m f).feedA = d.feedA ∧ (d.modBank m f).feedB = d.feedB ∧
    (d.modBank m f).switch = d.switch ∧ (d.modBank m f).rails = d.rails ∧ (d.modBank m f).int = d.int ∧
    (d.modBank m f).seq = d.seq ∧ (d.modBank m f).adc = d.adc ∧ (d.modBank m f).chg = d.chg ∧
    (d.modBank m f).chgLast = d.chgLast ∧ (d.modBank m f).wdt = d.wdt ∧ (d.modBank m f).sec = d.sec ∧
    (d.modBank m f).otp = d.otp ∧ (d.modBank m f).flash = d.flash ∧ (d.modBank m f).shadow = d.shadow ∧
    (d.modBank m f).upd = d.upd ∧ (d.modBank m f).twi = d.twi ∧ (d.modBank m f).clk = d.clk ∧
    (d.modBank m f).fresh = d.fresh ∧ (d.modBank m f).coreBuf = d.coreBuf ∧ (d.modBank m f).feedClk = d.feedClk ∧
    (d.modBank m f).free = d.free :=
  ⟨rfl, rfl, rfl, rfl, rfl, rfl, rfl, rfl, rfl, rfl, rfl, rfl, rfl, rfl, rfl, rfl, rfl, rfl, rfl, rfl,
    rfl, rfl, rfl, rfl, rfl, rfl, rfl, rfl, rfl, rfl, rfl⟩

@[simp] theorem Device.setRail_rest (d : Device) (r : Nat) (x : Rail) :
    (d.setRail r x).regs = d.regs ∧ (d.setRail r x).chans = d.chans ∧ (d.setRail r x).banks = d.banks ∧
    (d.setRail r x).rck = d.rck ∧ (d.setRail r x).store = d.store ∧ (d.setRail r x).sects = d.sects ∧
    (d.setRail r x).ringMap = d.ringMap ∧ (d.setRail r x).coreRes = d.coreRes ∧ (d.setRail r x).events = d.events ∧
    (d.setRail r x).logged = d.logged ∧ (d.setRail r x).ring = d.ring ∧ (d.setRail r x).feedA = d.feedA ∧
    (d.setRail r x).feedB = d.feedB ∧ (d.setRail r x).switch = d.switch ∧ (d.setRail r x).int = d.int ∧
    (d.setRail r x).seq = d.seq ∧ (d.setRail r x).adc = d.adc ∧ (d.setRail r x).chg = d.chg ∧
    (d.setRail r x).chgLast = d.chgLast ∧ (d.setRail r x).wdt = d.wdt ∧ (d.setRail r x).sec = d.sec ∧
    (d.setRail r x).otp = d.otp ∧ (d.setRail r x).flash = d.flash ∧ (d.setRail r x).shadow = d.shadow ∧
    (d.setRail r x).upd = d.upd ∧ (d.setRail r x).twi = d.twi ∧ (d.setRail r x).clk = d.clk ∧
    (d.setRail r x).fresh = d.fresh ∧ (d.setRail r x).coreBuf = d.coreBuf ∧ (d.setRail r x).feedClk = d.feedClk ∧
    (d.setRail r x).free = d.free :=
  ⟨rfl, rfl, rfl, rfl, rfl, rfl, rfl, rfl, rfl, rfl, rfl, rfl, rfl, rfl, rfl, rfl, rfl, rfl, rfl, rfl,
    rfl, rfl, rfl, rfl, rfl, rfl, rfl, rfl, rfl, rfl, rfl⟩

@[simp] theorem Device.modRail_rest (d : Device) (r : Nat) (f : Rail → Rail) :
    (d.modRail r f).regs = d.regs ∧ (d.modRail r f).chans = d.chans ∧ (d.modRail r f).banks = d.banks ∧
    (d.modRail r f).rck = d.rck ∧ (d.modRail r f).store = d.store ∧ (d.modRail r f).sects = d.sects ∧
    (d.modRail r f).ringMap = d.ringMap ∧ (d.modRail r f).coreRes = d.coreRes ∧ (d.modRail r f).events = d.events ∧
    (d.modRail r f).logged = d.logged ∧ (d.modRail r f).ring = d.ring ∧ (d.modRail r f).feedA = d.feedA ∧
    (d.modRail r f).feedB = d.feedB ∧ (d.modRail r f).switch = d.switch ∧ (d.modRail r f).int = d.int ∧
    (d.modRail r f).seq = d.seq ∧ (d.modRail r f).adc = d.adc ∧ (d.modRail r f).chg = d.chg ∧
    (d.modRail r f).chgLast = d.chgLast ∧ (d.modRail r f).wdt = d.wdt ∧ (d.modRail r f).sec = d.sec ∧
    (d.modRail r f).otp = d.otp ∧ (d.modRail r f).flash = d.flash ∧ (d.modRail r f).shadow = d.shadow ∧
    (d.modRail r f).upd = d.upd ∧ (d.modRail r f).twi = d.twi ∧ (d.modRail r f).clk = d.clk ∧
    (d.modRail r f).fresh = d.fresh ∧ (d.modRail r f).coreBuf = d.coreBuf ∧ (d.modRail r f).feedClk = d.feedClk ∧
    (d.modRail r f).free = d.free :=
  ⟨rfl, rfl, rfl, rfl, rfl, rfl, rfl, rfl, rfl, rfl, rfl, rfl, rfl, rfl, rfl, rfl, rfl, rfl, rfl, rfl,
    rfl, rfl, rfl, rfl, rfl, rfl, rfl, rfl, rfl, rfl, rfl⟩

@[simp] theorem Device.nextFree_rest (d : Device) :
    d.nextFree.regs = d.regs ∧ d.nextFree.chans = d.chans ∧ d.nextFree.banks = d.banks ∧ d.nextFree.rck = d.rck ∧
    d.nextFree.store = d.store ∧ d.nextFree.sects = d.sects ∧ d.nextFree.ringMap = d.ringMap ∧
    d.nextFree.coreRes = d.coreRes ∧ d.nextFree.events = d.events ∧ d.nextFree.logged = d.logged ∧
    d.nextFree.ring = d.ring ∧ d.nextFree.feedA = d.feedA ∧ d.nextFree.feedB = d.feedB ∧
    d.nextFree.switch = d.switch ∧ d.nextFree.rails = d.rails ∧ d.nextFree.int = d.int ∧ d.nextFree.seq = d.seq ∧
    d.nextFree.adc = d.adc ∧ d.nextFree.chg = d.chg ∧ d.nextFree.chgLast = d.chgLast ∧ d.nextFree.wdt = d.wdt ∧
    d.nextFree.sec = d.sec ∧ d.nextFree.otp = d.otp ∧ d.nextFree.flash = d.flash ∧ d.nextFree.shadow = d.shadow ∧
    d.nextFree.upd = d.upd ∧ d.nextFree.twi = d.twi ∧ d.nextFree.clk = d.clk ∧ d.nextFree.fresh = d.fresh ∧
    d.nextFree.coreBuf = d.coreBuf ∧ d.nextFree.feedClk = d.feedClk :=
  ⟨rfl, rfl, rfl, rfl, rfl, rfl, rfl, rfl, rfl, rfl, rfl, rfl, rfl, rfl, rfl, rfl, rfl, rfl, rfl, rfl,
    rfl, rfl, rfl, rfl, rfl, rfl, rfl, rfl, rfl, rfl, rfl⟩

@[simp] theorem Device.modRck_rest (d : Device) (f : Rck → Rck) :
    (d.modRck f).regs = d.regs ∧ (d.modRck f).chans = d.chans ∧ (d.modRck f).banks = d.banks ∧
    (d.modRck f).store = d.store ∧ (d.modRck f).sects = d.sects ∧ (d.modRck f).ringMap = d.ringMap ∧
    (d.modRck f).coreRes = d.coreRes ∧ (d.modRck f).events = d.events ∧ (d.modRck f).logged = d.logged ∧
    (d.modRck f).ring = d.ring ∧ (d.modRck f).feedA = d.feedA ∧ (d.modRck f).feedB = d.feedB ∧
    (d.modRck f).switch = d.switch ∧ (d.modRck f).rails = d.rails ∧ (d.modRck f).int = d.int ∧
    (d.modRck f).seq = d.seq ∧ (d.modRck f).adc = d.adc ∧ (d.modRck f).chg = d.chg ∧
    (d.modRck f).chgLast = d.chgLast ∧ (d.modRck f).wdt = d.wdt ∧ (d.modRck f).sec = d.sec ∧
    (d.modRck f).otp = d.otp ∧ (d.modRck f).flash = d.flash ∧ (d.modRck f).shadow = d.shadow ∧
    (d.modRck f).upd = d.upd ∧ (d.modRck f).twi = d.twi ∧ (d.modRck f).clk = d.clk ∧ (d.modRck f).fresh = d.fresh ∧
    (d.modRck f).coreBuf = d.coreBuf ∧ (d.modRck f).feedClk = d.feedClk ∧ (d.modRck f).free = d.free :=
  ⟨rfl, rfl, rfl, rfl, rfl, rfl, rfl, rfl, rfl, rfl, rfl, rfl, rfl, rfl, rfl, rfl, rfl, rfl, rfl, rfl,
    rfl, rfl, rfl, rfl, rfl, rfl, rfl, rfl, rfl, rfl, rfl⟩

@[simp] theorem Device.modRing_rest (d : Device) (f : Ring → Ring) :
    (d.modRing f).regs = d.regs ∧ (d.modRing f).chans = d.chans ∧ (d.modRing f).banks = d.banks ∧
    (d.modRing f).rck = d.rck ∧ (d.modRing f).store = d.store ∧ (d.modRing f).sects = d.sects ∧
    (d.modRing f).ringMap = d.ringMap ∧ (d.modRing f).coreRes = d.coreRes ∧ (d.modRing f).events = d.events ∧
    (d.modRing f).logged = d.logged ∧ (d.modRing f).feedA = d.feedA ∧ (d.modRing f).feedB = d.feedB ∧
    (d.modRing f).switch = d.switch ∧ (d.modRing f).rails = d.rails ∧ (d.modRing f).int = d.int ∧
    (d.modRing f).seq = d.seq ∧ (d.modRing f).adc = d.adc ∧ (d.modRing f).chg = d.chg ∧
    (d.modRing f).chgLast = d.chgLast ∧ (d.modRing f).wdt = d.wdt ∧ (d.modRing f).sec = d.sec ∧
    (d.modRing f).otp = d.otp ∧ (d.modRing f).flash = d.flash ∧ (d.modRing f).shadow = d.shadow ∧
    (d.modRing f).upd = d.upd ∧ (d.modRing f).twi = d.twi ∧ (d.modRing f).clk = d.clk ∧
    (d.modRing f).fresh = d.fresh ∧ (d.modRing f).coreBuf = d.coreBuf ∧ (d.modRing f).feedClk = d.feedClk ∧
    (d.modRing f).free = d.free :=
  ⟨rfl, rfl, rfl, rfl, rfl, rfl, rfl, rfl, rfl, rfl, rfl, rfl, rfl, rfl, rfl, rfl, rfl, rfl, rfl, rfl,
    rfl, rfl, rfl, rfl, rfl, rfl, rfl, rfl, rfl, rfl, rfl⟩

@[simp] theorem Device.modInt_rest (d : Device) (f : IntReg → IntReg) :
    (d.modInt f).regs = d.regs ∧ (d.modInt f).chans = d.chans ∧ (d.modInt f).banks = d.banks ∧
    (d.modInt f).rck = d.rck ∧ (d.modInt f).store = d.store ∧ (d.modInt f).sects = d.sects ∧
    (d.modInt f).ringMap = d.ringMap ∧ (d.modInt f).coreRes = d.coreRes ∧ (d.modInt f).events = d.events ∧
    (d.modInt f).logged = d.logged ∧ (d.modInt f).ring = d.ring ∧ (d.modInt f).feedA = d.feedA ∧
    (d.modInt f).feedB = d.feedB ∧ (d.modInt f).switch = d.switch ∧ (d.modInt f).rails = d.rails ∧
    (d.modInt f).seq = d.seq ∧ (d.modInt f).adc = d.adc ∧ (d.modInt f).chg = d.chg ∧
    (d.modInt f).chgLast = d.chgLast ∧ (d.modInt f).wdt = d.wdt ∧ (d.modInt f).sec = d.sec ∧
    (d.modInt f).otp = d.otp ∧ (d.modInt f).flash = d.flash ∧ (d.modInt f).shadow = d.shadow ∧
    (d.modInt f).upd = d.upd ∧ (d.modInt f).twi = d.twi ∧ (d.modInt f).clk = d.clk ∧ (d.modInt f).fresh = d.fresh ∧
    (d.modInt f).coreBuf = d.coreBuf ∧ (d.modInt f).feedClk = d.feedClk ∧ (d.modInt f).free = d.free :=
  ⟨rfl, rfl, rfl, rfl, rfl, rfl, rfl, rfl, rfl, rfl, rfl, rfl, rfl, rfl, rfl, rfl, rfl, rfl, rfl, rfl,
    rfl, rfl, rfl, rfl, rfl, rfl, rfl, rfl, rfl, rfl, rfl⟩

@[simp] theorem Device.modSeq_rest (d : Device) (f : Seq → Seq) :
    (d.modSeq f).regs = d.regs ∧ (d.modSeq f).chans = d.chans ∧ (d.modSeq f).banks = d.banks ∧
    (d.modSeq f).rck = d.rck ∧ (d.modSeq f).store = d.store ∧ (d.modSeq f).sects = d.sects ∧
    (d.modSeq f).ringMap = d.ringMap ∧ (d.modSeq f).coreRes = d.coreRes ∧ (d.modSeq f).events = d.events ∧
    (d.modSeq f).logged = d.logged ∧ (d.modSeq f).ring = d.ring ∧ (d.modSeq f).feedA = d.feedA ∧
    (d.modSeq f).feedB = d.feedB ∧ (d.modSeq f).switch = d.switch ∧ (d.modSeq f).rails = d.rails ∧
    (d.modSeq f).int = d.int ∧ (d.modSeq f).adc = d.adc ∧ (d.modSeq f).chg = d.chg ∧
    (d.modSeq f).chgLast = d.chgLast ∧ (d.modSeq f).wdt = d.wdt ∧ (d.modSeq f).sec = d.sec ∧
    (d.modSeq f).otp = d.otp ∧ (d.modSeq f).flash = d.flash ∧ (d.modSeq f).shadow = d.shadow ∧
    (d.modSeq f).upd = d.upd ∧ (d.modSeq f).twi = d.twi ∧ (d.modSeq f).clk = d.clk ∧ (d.modSeq f).fresh = d.fresh ∧
    (d.modSeq f).coreBuf = d.coreBuf ∧ (d.modSeq f).feedClk = d.feedClk ∧ (d.modSeq f).free = d.free :=
  ⟨rfl, rfl, rfl, rfl, rfl, rfl, rfl, rfl, rfl, rfl, rfl, rfl, rfl, rfl, rfl, rfl, rfl, rfl, rfl, rfl,
    rfl, rfl, rfl, rfl, rfl, rfl, rfl, rfl, rfl, rfl, rfl⟩

@[simp] theorem Device.modAdc_rest (d : Device) (f : Adc → Adc) :
    (d.modAdc f).regs = d.regs ∧ (d.modAdc f).chans = d.chans ∧ (d.modAdc f).banks = d.banks ∧
    (d.modAdc f).rck = d.rck ∧ (d.modAdc f).store = d.store ∧ (d.modAdc f).sects = d.sects ∧
    (d.modAdc f).ringMap = d.ringMap ∧ (d.modAdc f).coreRes = d.coreRes ∧ (d.modAdc f).events = d.events ∧
    (d.modAdc f).logged = d.logged ∧ (d.modAdc f).ring = d.ring ∧ (d.modAdc f).feedA = d.feedA ∧
    (d.modAdc f).feedB = d.feedB ∧ (d.modAdc f).switch = d.switch ∧ (d.modAdc f).rails = d.rails ∧
    (d.modAdc f).int = d.int ∧ (d.modAdc f).seq = d.seq ∧ (d.modAdc f).chg = d.chg ∧
    (d.modAdc f).chgLast = d.chgLast ∧ (d.modAdc f).wdt = d.wdt ∧ (d.modAdc f).sec = d.sec ∧
    (d.modAdc f).otp = d.otp ∧ (d.modAdc f).flash = d.flash ∧ (d.modAdc f).shadow = d.shadow ∧
    (d.modAdc f).upd = d.upd ∧ (d.modAdc f).twi = d.twi ∧ (d.modAdc f).clk = d.clk ∧ (d.modAdc f).fresh = d.fresh ∧
    (d.modAdc f).coreBuf = d.coreBuf ∧ (d.modAdc f).feedClk = d.feedClk ∧ (d.modAdc f).free = d.free :=
  ⟨rfl, rfl, rfl, rfl, rfl, rfl, rfl, rfl, rfl, rfl, rfl, rfl, rfl, rfl, rfl, rfl, rfl, rfl, rfl, rfl,
    rfl, rfl, rfl, rfl, rfl, rfl, rfl, rfl, rfl, rfl, rfl⟩

@[simp] theorem Device.modChg_rest (d : Device) (f : Charger → Charger) :
    (d.modChg f).regs = d.regs ∧ (d.modChg f).chans = d.chans ∧ (d.modChg f).banks = d.banks ∧
    (d.modChg f).rck = d.rck ∧ (d.modChg f).store = d.store ∧ (d.modChg f).sects = d.sects ∧
    (d.modChg f).ringMap = d.ringMap ∧ (d.modChg f).coreRes = d.coreRes ∧ (d.modChg f).events = d.events ∧
    (d.modChg f).logged = d.logged ∧ (d.modChg f).ring = d.ring ∧ (d.modChg f).feedA = d.feedA ∧
    (d.modChg f).feedB = d.feedB ∧ (d.modChg f).switch = d.switch ∧ (d.modChg f).rails = d.rails ∧
    (d.modChg f).int = d.int ∧ (d.modChg f).seq = d.seq ∧ (d.modChg f).adc = d.adc ∧
    (d.modChg f).chgLast = d.chgLast ∧ (d.modChg f).wdt = d.wdt ∧ (d.modChg f).sec = d.sec ∧
    (d.modChg f).otp = d.otp ∧ (d.modChg f).flash = d.flash ∧ (d.modChg f).shadow = d.shadow ∧
    (d.modChg f).upd = d.upd ∧ (d.modChg f).twi = d.twi ∧ (d.modChg f).clk = d.clk ∧ (d.modChg f).fresh = d.fresh ∧
    (d.modChg f).coreBuf = d.coreBuf ∧ (d.modChg f).feedClk = d.feedClk ∧ (d.modChg f).free = d.free :=
  ⟨rfl, rfl, rfl, rfl, rfl, rfl, rfl, rfl, rfl, rfl, rfl, rfl, rfl, rfl, rfl, rfl, rfl, rfl, rfl, rfl,
    rfl, rfl, rfl, rfl, rfl, rfl, rfl, rfl, rfl, rfl, rfl⟩

@[simp] theorem Device.modWdt_rest (d : Device) (f : Wdt → Wdt) :
    (d.modWdt f).regs = d.regs ∧ (d.modWdt f).chans = d.chans ∧ (d.modWdt f).banks = d.banks ∧
    (d.modWdt f).rck = d.rck ∧ (d.modWdt f).store = d.store ∧ (d.modWdt f).sects = d.sects ∧
    (d.modWdt f).ringMap = d.ringMap ∧ (d.modWdt f).coreRes = d.coreRes ∧ (d.modWdt f).events = d.events ∧
    (d.modWdt f).logged = d.logged ∧ (d.modWdt f).ring = d.ring ∧ (d.modWdt f).feedA = d.feedA ∧
    (d.modWdt f).feedB = d.feedB ∧ (d.modWdt f).switch = d.switch ∧ (d.modWdt f).rails = d.rails ∧
    (d.modWdt f).int = d.int ∧ (d.modWdt f).seq = d.seq ∧ (d.modWdt f).adc = d.adc ∧ (d.modWdt f).chg = d.chg ∧
    (d.modWdt f).chgLast = d.chgLast ∧ (d.modWdt f).sec = d.sec ∧ (d.modWdt f).otp = d.otp ∧
    (d.modWdt f).flash = d.flash ∧ (d.modWdt f).shadow = d.shadow ∧ (d.modWdt f).upd = d.upd ∧
    (d.modWdt f).twi = d.twi ∧ (d.modWdt f).clk = d.clk ∧ (d.modWdt f).fresh = d.fresh ∧
    (d.modWdt f).coreBuf = d.coreBuf ∧ (d.modWdt f).feedClk = d.feedClk ∧ (d.modWdt f).free = d.free :=
  ⟨rfl, rfl, rfl, rfl, rfl, rfl, rfl, rfl, rfl, rfl, rfl, rfl, rfl, rfl, rfl, rfl, rfl, rfl, rfl, rfl,
    rfl, rfl, rfl, rfl, rfl, rfl, rfl, rfl, rfl, rfl, rfl⟩

@[simp] theorem Device.modSec_rest (d : Device) (f : Security → Security) :
    (d.modSec f).regs = d.regs ∧ (d.modSec f).chans = d.chans ∧ (d.modSec f).banks = d.banks ∧
    (d.modSec f).rck = d.rck ∧ (d.modSec f).store = d.store ∧ (d.modSec f).sects = d.sects ∧
    (d.modSec f).ringMap = d.ringMap ∧ (d.modSec f).coreRes = d.coreRes ∧ (d.modSec f).events = d.events ∧
    (d.modSec f).logged = d.logged ∧ (d.modSec f).ring = d.ring ∧ (d.modSec f).feedA = d.feedA ∧
    (d.modSec f).feedB = d.feedB ∧ (d.modSec f).switch = d.switch ∧ (d.modSec f).rails = d.rails ∧
    (d.modSec f).int = d.int ∧ (d.modSec f).seq = d.seq ∧ (d.modSec f).adc = d.adc ∧ (d.modSec f).chg = d.chg ∧
    (d.modSec f).chgLast = d.chgLast ∧ (d.modSec f).wdt = d.wdt ∧ (d.modSec f).otp = d.otp ∧
    (d.modSec f).flash = d.flash ∧ (d.modSec f).shadow = d.shadow ∧ (d.modSec f).upd = d.upd ∧
    (d.modSec f).twi = d.twi ∧ (d.modSec f).clk = d.clk ∧ (d.modSec f).fresh = d.fresh ∧
    (d.modSec f).coreBuf = d.coreBuf ∧ (d.modSec f).feedClk = d.feedClk ∧ (d.modSec f).free = d.free :=
  ⟨rfl, rfl, rfl, rfl, rfl, rfl, rfl, rfl, rfl, rfl, rfl, rfl, rfl, rfl, rfl, rfl, rfl, rfl, rfl, rfl,
    rfl, rfl, rfl, rfl, rfl, rfl, rfl, rfl, rfl, rfl, rfl⟩

@[simp] theorem Device.modOtp_rest (d : Device) (f : Otp → Otp) :
    (d.modOtp f).regs = d.regs ∧ (d.modOtp f).chans = d.chans ∧ (d.modOtp f).banks = d.banks ∧
    (d.modOtp f).rck = d.rck ∧ (d.modOtp f).store = d.store ∧ (d.modOtp f).sects = d.sects ∧
    (d.modOtp f).ringMap = d.ringMap ∧ (d.modOtp f).coreRes = d.coreRes ∧ (d.modOtp f).events = d.events ∧
    (d.modOtp f).logged = d.logged ∧ (d.modOtp f).ring = d.ring ∧ (d.modOtp f).feedA = d.feedA ∧
    (d.modOtp f).feedB = d.feedB ∧ (d.modOtp f).switch = d.switch ∧ (d.modOtp f).rails = d.rails ∧
    (d.modOtp f).int = d.int ∧ (d.modOtp f).seq = d.seq ∧ (d.modOtp f).adc = d.adc ∧ (d.modOtp f).chg = d.chg ∧
    (d.modOtp f).chgLast = d.chgLast ∧ (d.modOtp f).wdt = d.wdt ∧ (d.modOtp f).sec = d.sec ∧
    (d.modOtp f).flash = d.flash ∧ (d.modOtp f).shadow = d.shadow ∧ (d.modOtp f).upd = d.upd ∧
    (d.modOtp f).twi = d.twi ∧ (d.modOtp f).clk = d.clk ∧ (d.modOtp f).fresh = d.fresh ∧
    (d.modOtp f).coreBuf = d.coreBuf ∧ (d.modOtp f).feedClk = d.feedClk ∧ (d.modOtp f).free = d.free :=
  ⟨rfl, rfl, rfl, rfl, rfl, rfl, rfl, rfl, rfl, rfl, rfl, rfl, rfl, rfl, rfl, rfl, rfl, rfl, rfl, rfl,
    rfl, rfl, rfl, rfl, rfl, rfl, rfl, rfl, rfl, rfl, rfl⟩

@[simp] theorem Device.modStore_rest (d : Device) (f : Store → Store) :
    (d.modStore f).regs = d.regs ∧ (d.modStore f).chans = d.chans ∧ (d.modStore f).banks = d.banks ∧
    (d.modStore f).rck = d.rck ∧ (d.modStore f).store = d.store ∧ (d.modStore f).sects = d.sects ∧
    (d.modStore f).ringMap = d.ringMap ∧ (d.modStore f).coreRes = d.coreRes ∧ (d.modStore f).events = d.events ∧
    (d.modStore f).logged = d.logged ∧ (d.modStore f).ring = d.ring ∧ (d.modStore f).feedA = d.feedA ∧
    (d.modStore f).feedB = d.feedB ∧ (d.modStore f).switch = d.switch ∧ (d.modStore f).rails = d.rails ∧
    (d.modStore f).int = d.int ∧ (d.modStore f).seq = d.seq ∧ (d.modStore f).adc = d.adc ∧
    (d.modStore f).chg = d.chg ∧ (d.modStore f).chgLast = d.chgLast ∧ (d.modStore f).wdt = d.wdt ∧
    (d.modStore f).sec = d.sec ∧ (d.modStore f).otp = d.otp ∧ (d.modStore f).shadow = d.shadow ∧
    (d.modStore f).upd = d.upd ∧ (d.modStore f).twi = d.twi ∧ (d.modStore f).clk = d.clk ∧
    (d.modStore f).fresh = d.fresh ∧ (d.modStore f).coreBuf = d.coreBuf ∧ (d.modStore f).feedClk = d.feedClk ∧
    (d.modStore f).free = d.free :=
  ⟨rfl, rfl, rfl, rfl, rfl, rfl, rfl, rfl, rfl, rfl, rfl, rfl, rfl, rfl, rfl, rfl, rfl, rfl, rfl, rfl,
    rfl, rfl, rfl, rfl, rfl, rfl, rfl, rfl, rfl, rfl, rfl⟩

@[simp] theorem Device.modUpd_rest (d : Device) (f : Upd → Upd) :
    (d.modUpd f).regs = d.regs ∧ (d.modUpd f).chans = d.chans ∧ (d.modUpd f).banks = d.banks ∧
    (d.modUpd f).rck = d.rck ∧ (d.modUpd f).store = d.store ∧ (d.modUpd f).sects = d.sects ∧
    (d.modUpd f).ringMap = d.ringMap ∧ (d.modUpd f).coreRes = d.coreRes ∧ (d.modUpd f).events = d.events ∧
    (d.modUpd f).logged = d.logged ∧ (d.modUpd f).ring = d.ring ∧ (d.modUpd f).feedA = d.feedA ∧
    (d.modUpd f).feedB = d.feedB ∧ (d.modUpd f).switch = d.switch ∧ (d.modUpd f).rails = d.rails ∧
    (d.modUpd f).int = d.int ∧ (d.modUpd f).seq = d.seq ∧ (d.modUpd f).adc = d.adc ∧ (d.modUpd f).chg = d.chg ∧
    (d.modUpd f).chgLast = d.chgLast ∧ (d.modUpd f).wdt = d.wdt ∧ (d.modUpd f).sec = d.sec ∧
    (d.modUpd f).otp = d.otp ∧ (d.modUpd f).flash = d.flash ∧ (d.modUpd f).shadow = d.shadow ∧
    (d.modUpd f).twi = d.twi ∧ (d.modUpd f).clk = d.clk ∧ (d.modUpd f).fresh = d.fresh ∧
    (d.modUpd f).coreBuf = d.coreBuf ∧ (d.modUpd f).feedClk = d.feedClk ∧ (d.modUpd f).free = d.free :=
  ⟨rfl, rfl, rfl, rfl, rfl, rfl, rfl, rfl, rfl, rfl, rfl, rfl, rfl, rfl, rfl, rfl, rfl, rfl, rfl, rfl,
    rfl, rfl, rfl, rfl, rfl, rfl, rfl, rfl, rfl, rfl, rfl⟩

@[simp] theorem Device.modTwi_rest (d : Device) (f : Twi → Twi) :
    (d.modTwi f).regs = d.regs ∧ (d.modTwi f).chans = d.chans ∧ (d.modTwi f).banks = d.banks ∧
    (d.modTwi f).rck = d.rck ∧ (d.modTwi f).store = d.store ∧ (d.modTwi f).sects = d.sects ∧
    (d.modTwi f).ringMap = d.ringMap ∧ (d.modTwi f).coreRes = d.coreRes ∧ (d.modTwi f).events = d.events ∧
    (d.modTwi f).logged = d.logged ∧ (d.modTwi f).ring = d.ring ∧ (d.modTwi f).feedA = d.feedA ∧
    (d.modTwi f).feedB = d.feedB ∧ (d.modTwi f).switch = d.switch ∧ (d.modTwi f).rails = d.rails ∧
    (d.modTwi f).int = d.int ∧ (d.modTwi f).seq = d.seq ∧ (d.modTwi f).adc = d.adc ∧ (d.modTwi f).chg = d.chg ∧
    (d.modTwi f).chgLast = d.chgLast ∧ (d.modTwi f).wdt = d.wdt ∧ (d.modTwi f).sec = d.sec ∧
    (d.modTwi f).otp = d.otp ∧ (d.modTwi f).flash = d.flash ∧ (d.modTwi f).shadow = d.shadow ∧
    (d.modTwi f).upd = d.upd ∧ (d.modTwi f).clk = d.clk ∧ (d.modTwi f).fresh = d.fresh ∧
    (d.modTwi f).coreBuf = d.coreBuf ∧ (d.modTwi f).feedClk = d.feedClk ∧ (d.modTwi f).free = d.free :=
  ⟨rfl, rfl, rfl, rfl, rfl, rfl, rfl, rfl, rfl, rfl, rfl, rfl, rfl, rfl, rfl, rfl, rfl, rfl, rfl, rfl,
    rfl, rfl, rfl, rfl, rfl, rfl, rfl, rfl, rfl, rfl, rfl⟩

@[simp] theorem Device.modRck_rck (d : Device) (f : Rck → Rck) : (d.modRck f).rck = f d.rck := rfl
@[simp] theorem Device.modRing_ring (d : Device) (f : Ring → Ring) : (d.modRing f).ring = f d.ring := rfl
@[simp] theorem Device.modInt_int (d : Device) (f : IntReg → IntReg) : (d.modInt f).int = f d.int := rfl
@[simp] theorem Device.modSeq_seq (d : Device) (f : Seq → Seq) : (d.modSeq f).seq = f d.seq := rfl
@[simp] theorem Device.modAdc_adc (d : Device) (f : Adc → Adc) : (d.modAdc f).adc = f d.adc := rfl
@[simp] theorem Device.modChg_chg (d : Device) (f : Charger → Charger) : (d.modChg f).chg = f d.chg := rfl
@[simp] theorem Device.modWdt_wdt (d : Device) (f : Wdt → Wdt) : (d.modWdt f).wdt = f d.wdt := rfl
@[simp] theorem Device.modSec_sec (d : Device) (f : Security → Security) : (d.modSec f).sec = f d.sec := rfl
@[simp] theorem Device.modOtp_otp (d : Device) (f : Otp → Otp) : (d.modOtp f).otp = f d.otp := rfl
@[simp] theorem Device.modStore_flash (d : Device) (f : Store → Store) : (d.modStore f).flash = f d.flash := rfl
@[simp] theorem Device.modUpd_upd (d : Device) (f : Upd → Upd) : (d.modUpd f).upd = f d.upd := rfl
@[simp] theorem Device.modTwi_twi (d : Device) (f : Twi → Twi) : (d.modTwi f).twi = f d.twi := rfl
@[simp] theorem Device.nextFree_free (d : Device) : d.nextFree.free = d.free + 1 := rfl

/-! ## Parts of the vectors -/

@[simp] theorem Device.setChan_chan_same (d : Device) (n : Nat) (c : Chan) (h : n < 160) : (d.setChan n c).chan n = c := by
  simp [Device.setChan, Device.chan, h]
@[simp] theorem Device.setChan_chan_ne (d : Device) {n k : Nat} (c : Chan) (h : n ≠ k) : (d.setChan n c).chan k = d.chan k := by
  simp [Device.setChan, Device.chan, h]
@[simp] theorem Device.modChan_chan_same (d : Device) (n : Nat) (f : Chan → Chan) (h : n < 160) :
    (d.modChan n f).chan n = f (d.chan n) := Device.setChan_chan_same d n _ h
@[simp] theorem Device.modChan_chan_ne (d : Device) {n k : Nat} (f : Chan → Chan) (h : n ≠ k) :
    (d.modChan n f).chan k = d.chan k := Device.setChan_chan_ne d _ h
@[simp] theorem Device.setBank_bank_same (d : Device) (m : Nat) (b : Bank) (h : m < 4) : (d.setBank m b).bank m = b := by
  simp [Device.setBank, Device.bank, h]
@[simp] theorem Device.setBank_bank_ne (d : Device) {m k : Nat} (b : Bank) (h : m ≠ k) : (d.setBank m b).bank k = d.bank k := by
  simp [Device.setBank, Device.bank, h]
@[simp] theorem Device.modBank_bank_same (d : Device) (m : Nat) (f : Bank → Bank) (h : m < 4) :
    (d.modBank m f).bank m = f (d.bank m) := Device.setBank_bank_same d m _ h
@[simp] theorem Device.modBank_bank_ne (d : Device) {m k : Nat} (f : Bank → Bank) (h : m ≠ k) :
    (d.modBank m f).bank k = d.bank k := Device.setBank_bank_ne d _ h
@[simp] theorem Device.setRail_rail_same (d : Device) (r : Nat) (x : Rail) (h : r < 4) : (d.setRail r x).rail r = x := by
  simp [Device.setRail, Device.rail, h]
@[simp] theorem Device.setRail_rail_ne (d : Device) {r k : Nat} (x : Rail) (h : r ≠ k) : (d.setRail r x).rail k = d.rail k := by
  simp [Device.setRail, Device.rail, h]
@[simp] theorem Device.modRail_rail_same (d : Device) (r : Nat) (f : Rail → Rail) (h : r < 4) :
    (d.modRail r f).rail r = f (d.rail r) := Device.setRail_rail_same d r _ h
@[simp] theorem Device.modRail_rail_ne (d : Device) {r k : Nat} (f : Rail → Rail) (h : r ≠ k) :
    (d.modRail r f).rail k = d.rail k := Device.setRail_rail_ne d _ h
@[simp] theorem Device.setFeed_feed_same (d : Device) (f : FeedId) (x : Feed) : (d.setFeed f x).feed f = x := by cases f <;> rfl
@[simp] theorem Device.setFeed_feed_other (d : Device) (f : FeedId) (x : Feed) :
    (d.setFeed f x).feed (otherFeed f) = d.feed (otherFeed f) := by cases f <;> rfl
@[simp] theorem Device.setPort_port_same (d : Device) (p : Port) (x : PortSt) : (d.setPort p x).port p = x := by cases p <;> rfl
@[simp] theorem Device.setPort_port_other (d : Device) (p : Port) (x : PortSt) :
    (d.setPort p x).port (otherPort p) = d.port (otherPort p) := by cases p <;> rfl
@[simp] theorem Device.setFeed_regs (d : Device) (f : FeedId) (x : Feed) : (d.setFeed f x).regs = d.regs := by cases f <;> rfl
@[simp] theorem Device.setPort_regs (d : Device) (p : Port) (x : PortSt) : (d.setPort p x).regs = d.regs := by cases p <;> rfl

end Sys2Proof.Machine
end

