-- ==== Sys2Proof/Laws/Regs.lean ====
section
/-! SUPPORT. Laws/Regs.lean: the register file: a register reads what was written to it, cut to its width, a write
leaves every other register alone, and so for fields. -/
namespace Sys2Proof.Machine

/-! ## Keyed lists -/

theorem look_del_same {α : Type} (l : List (Nat × α)) (a : Nat) : look (del l a) a = none := by
  induction l with
  | nil => rfl
  | cons e t ih =>
    obtain ⟨b, v⟩ := e
    by_cases h : b = a
    · simpa [del, h] using ih
    · simpa [del, look, h] using ih

theorem look_del_ne {α : Type} (l : List (Nat × α)) {a b : Nat} (h : a ≠ b) : look (del l a) b = look l b := by
  induction l with
  | nil => rfl
  | cons e t ih =>
    obtain ⟨k, v⟩ := e
    by_cases hk : k = a
    · subst hk; simpa [del, look, h] using ih
    · by_cases hb : k = b
      · subst hb; simp [del, look, hk]
      · simpa [del, look, hk, hb] using ih

theorem look_ins_same {α : Type} (l : List (Nat × α)) (a : Nat) (v : α) (h : look l a = none) : look (ins l a v) a = some v := by
  induction l with
  | nil => simp [ins, look]
  | cons e t ih =>
    obtain ⟨k, w⟩ := e
    have hk : k ≠ a := by
      intro hk; simp [look, hk] at h
    simp only [look, hk, if_false] at h
    simp only [ins]
    split
    · simp [look]
    · simpa [look, hk] using ih h

theorem look_ins_ne {α : Type} (l : List (Nat × α)) {a b : Nat} (v : α) (h : a ≠ b) : look (ins l a v) b = look l b := by
  induction l with
  | nil => simp [ins, look, h]
  | cons e t ih =>
    obtain ⟨k, w⟩ := e
    simp only [ins]
    split
    · simp [look, h]
    · simp only [look]; split
      · rfl
      · exact ih

theorem look_put_same {α : Type} (l : List (Nat × α)) (a : Nat) (v : α) : look (put l a v) a = some v :=
  look_ins_same _ _ _ (look_del_same l a)

theorem look_put_ne {α : Type} (l : List (Nat × α)) {a b : Nat} (v : α) (h : a ≠ b) : look (put l a v) b = look l b :=
  (look_ins_ne _ v h).trans (look_del_ne l h)

theorem look_putD_same {α : Type} [DecidableEq α] (l : List (Nat × α)) (a : Nat) (v dflt : α) :
    (look (putD l a v dflt) a).getD dflt = v := by
  unfold putD; split
  · simp [look_del_same, *]
  · simp [look_put_same]

theorem look_putD_ne {α : Type} [DecidableEq α] (l : List (Nat × α)) {a b : Nat} (v dflt : α) (h : a ≠ b) :
    look (putD l a v dflt) b = look l b := by
  unfold putD; split
  · exact look_del_ne l h
  · exact look_put_ne l v h

/-! ## Registers -/

@[simp] theorem Device.rd_wr_same (d : Device) (r : Reg) (v : Nat) : (d.wr r v).rd r = v % 2 ^ r.width :=
  look_putD_same _ _ _ _

theorem Device.rd_wr_ne (d : Device) {r q : Reg} (v : Nat) (h : r.addr ≠ q.addr) : (d.wr r v).rd q = d.rd q := by
  show (look _ _).getD _ = (look _ _).getD _
  rw [show (d.wr r v).regs = putD d.regs r.addr (v % 2 ^ r.width) r.reset from rfl, look_putD_ne _ _ _ h]

/-- A device that holds the same registers reads the same. -/
theorem Device.rd_congr {d e : Device} (h : d.regs = e.regs) (r : Reg) : d.rd r = e.rd r := by
  unfold Device.rd; rw [h]
theorem Device.fld_congr {d e : Device} (h : d.regs = e.regs) (f : Field) : d.fld f = e.fld f := by
  unfold Device.fld; rw [Device.rd_congr h]
theorem Device.flag_congr {d e : Device} (h : d.regs = e.regs) (f : Field) : d.flag f = e.flag f := by
  unfold Device.flag; rw [Device.fld_congr h]

/-! ## Bits -/

theorem bitsOf_lt (x lo w : Nat) : bitsOf x lo w < 2 ^ w := Nat.mod_lt _ (Nat.two_pow_pos w)

theorem bitsOf_testBit (x lo w i : Nat) : (bitsOf x lo w).testBit i = (decide (i < w) && x.testBit (lo + i)) := by
  simp [bitsOf, Nat.testBit_mod_two_pow, Nat.testBit_div_two_pow, Nat.add_comm]

theorem setBits_testBit (x lo w v i : Nat) :
    (setBits x lo w v).testBit i =
      if i < lo then x.testBit i else if i < lo + w then v.testBit (i - lo) else x.testBit i := by
  have e : setBits x lo w v = 2 ^ lo * (2 ^ w * (x / 2 ^ (lo + w)) + v % 2 ^ w) + x % 2 ^ lo := by
    unfold setBits; rw [Nat.pow_add]; ring
  rw [e, Nat.testBit_two_pow_mul_add _ (Nat.mod_lt _ (Nat.two_pow_pos lo))]
  by_cases h1 : i < lo
  · simp [h1, Nat.testBit_mod_two_pow]
  · rw [if_neg h1, if_neg h1, Nat.testBit_two_pow_mul_add _ (Nat.mod_lt _ (Nat.two_pow_pos w))]
    by_cases h2 : i < lo + w
    · rw [if_pos h2, if_pos (by omega)]; simp [Nat.testBit_mod_two_pow]; omega
    · rw [if_neg h2, if_neg (by omega), Nat.testBit_div_two_pow]; congr 1; omega

theorem bitsOf_setBits_same (x lo w v : Nat) : bitsOf (setBits x lo w v) lo w = v % 2 ^ w := by
  apply Nat.eq_of_testBit_eq; intro i
  rw [bitsOf_testBit, setBits_testBit, Nat.testBit_mod_two_pow]
  by_cases h : i < w
  · simp [h]
  · simp [h]

theorem bitsOf_setBits_ne (x v : Nat) {lo w lo' w' : Nat} (h : lo + w ≤ lo' ∨ lo' + w' ≤ lo) :
    bitsOf (setBits x lo w v) lo' w' = bitsOf x lo' w' := by
  apply Nat.eq_of_testBit_eq; intro i
  rw [bitsOf_testBit, bitsOf_testBit, setBits_testBit]
  by_cases hi : i < w'
  · simp only [hi, decide_true, Bool.true_and]
    split
    · rfl
    · rw [if_neg (by omega)]
  · simp [hi]

theorem bitsOf_mod (x : Nat) {lo w n : Nat} (h : lo + w ≤ n) : bitsOf (x % 2 ^ n) lo w = bitsOf x lo w := by
  apply Nat.eq_of_testBit_eq; intro i
  rw [bitsOf_testBit, bitsOf_testBit, Nat.testBit_mod_two_pow]
  by_cases hi : i < w
  · have : lo + i < n := by omega
    simp [hi, this]
  · simp [hi]

/-! ## Fields -/

theorem Device.fld_wr_same (d : Device) (f : Field) (v : Nat) (h : f.lo + f.w ≤ f.reg.width) :
    (d.wr f.reg v).fld f = bitsOf v f.lo f.w := by
  unfold Device.fld; rw [Device.rd_wr_same, bitsOf_mod _ h]

theorem Device.fld_wr_ne (d : Device) {r : Reg} {f : Field} (v : Nat) (h : r.addr ≠ f.reg.addr) :
    (d.wr r v).fld f = d.fld f := by
  unfold Device.fld; rw [Device.rd_wr_ne d v h]

/-- A field reads what was written to it. -/
theorem Device.fld_setFld_same (d : Device) (f : Field) (v : Nat) (h : f.lo + f.w ≤ f.reg.width) :
    (d.setFld f v).fld f = v % 2 ^ f.w := by
  unfold Device.setFld; rw [Device.fld_wr_same d f _ h, bitsOf_setBits_same]

/-- A field of another register stays. -/
theorem Device.fld_setFld_reg (d : Device) {f g : Field} (v : Nat) (h : f.reg.addr ≠ g.reg.addr) :
    (d.setFld f v).fld g = d.fld g := Device.fld_wr_ne d _ h

theorem Device.rd_setFld_ne (d : Device) {f : Field} {q : Reg} (v : Nat) (h : f.reg.addr ≠ q.addr) :
    (d.setFld f v).rd q = d.rd q := Device.rd_wr_ne d _ h

/-- A field of the same register beside it stays. -/
theorem Device.fld_setFld_beside (d : Device) {f g : Field} (v : Nat) (hr : f.reg = g.reg)
    (h : f.lo + f.w ≤ g.lo ∨ g.lo + g.w ≤ f.lo) (hw : g.lo + g.w ≤ g.reg.width) :
    (d.setFld f v).fld g = d.fld g := by
  unfold Device.setFld
  rw [hr, Device.fld_wr_same d g _ hw, bitsOf_setBits_ne _ _ h]; rfl

/-! ## One-bit fields -/

theorem Device.flag_setFlag_same (d : Device) (f : Field) (b : Bool) (hw : f.w = 1) (h : f.lo + f.w ≤ f.reg.width) :
    (d.setFlag f b).flag f = b := by
  unfold Device.flag Device.setFlag; rw [Device.fld_setFld_same d f _ h, hw]; cases b <;> rfl

theorem Device.flag_setFlag_reg (d : Device) {f g : Field} (b : Bool) (h : f.reg.addr ≠ g.reg.addr) :
    (d.setFlag f b).flag g = d.flag g := by
  unfold Device.flag Device.setFlag; rw [Device.fld_setFld_reg d _ h]

theorem Device.flag_setFlag_beside (d : Device) {f g : Field} (b : Bool) (hr : f.reg = g.reg)
    (h : f.lo + f.w ≤ g.lo ∨ g.lo + g.w ≤ f.lo) (hw : g.lo + g.w ≤ g.reg.width) :
    (d.setFlag f b).flag g = d.flag g := by
  unfold Device.flag Device.setFlag; rw [Device.fld_setFld_beside d _ hr h hw]

/-- What raising a bit notes beside it (R6) is read by no register. -/
@[simp] theorem Device.rd_noteSet (d : Device) (a b : Nat) (r : Reg) : (d.noteSet a b).rd r = d.rd r := rfl
@[simp] theorem Device.fld_noteSet (d : Device) (a b : Nat) (f : Field) : (d.noteSet a b).fld f = d.fld f := rfl
@[simp] theorem Device.flag_noteSet (d : Device) (a b : Nat) (f : Field) : (d.noteSet a b).flag f = d.flag f := rfl

theorem Device.rd_raise_ne (d : Device) {f : Field} {q : Reg} (h : f.reg.addr ≠ q.addr) : (d.raise f).rd q = d.rd q :=
  Device.rd_setFld_ne d _ h
theorem Device.fld_raise_reg (d : Device) {f g : Field} (h : f.reg.addr ≠ g.reg.addr) : (d.raise f).fld g = d.fld g :=
  Device.fld_setFld_reg d _ h
theorem Device.flag_raise_reg (d : Device) {f g : Field} (h : f.reg.addr ≠ g.reg.addr) : (d.raise f).flag g = d.flag g :=
  Device.flag_setFlag_reg d true h
theorem Device.rd_raiseBit_ne (d : Device) {r q : Reg} (i : Nat) (h : r.addr ≠ q.addr) : (d.raiseBit r i).rd q = d.rd q :=
  Device.rd_setFld_ne d (f := ⟨r, i, 1⟩) _ h

theorem Device.flag_raise (d : Device) (f : Field) (hw : f.w = 1) (h : f.lo + f.w ≤ f.reg.width) : (d.raise f).flag f = true :=
  Device.flag_setFlag_same d f true hw h
theorem Device.flag_lower (d : Device) (f : Field) (hw : f.w = 1) (h : f.lo + f.w ≤ f.reg.width) : (d.lower f).flag f = false :=
  Device.flag_setFlag_same d f false hw h

/-! ## Counters -/

theorem Device.rd_countSat_same (d : Device) (r : Reg) (n : Nat) :
    (d.countSat r n).rd r = min (d.rd r + n) (2 ^ r.width - 1) := by
  unfold Device.countSat; rw [Device.rd_wr_same]
  exact Nat.mod_eq_of_lt (by have := Nat.two_pow_pos r.width; omega)

theorem Device.rd_countSat_ne (d : Device) {r q : Reg} (n : Nat) (h : r.addr ≠ q.addr) : (d.countSat r n).rd q = d.rd q :=
  Device.rd_wr_ne d _ h

theorem Device.fld_countSat_ne (d : Device) {r : Reg} {f : Field} (n : Nat) (h : r.addr ≠ f.reg.addr) :
    (d.countSat r n).fld f = d.fld f := Device.fld_wr_ne d _ h

theorem Device.flag_countSat_ne (d : Device) {r : Reg} {f : Field} (n : Nat) (h : r.addr ≠ f.reg.addr) :
    (d.countSat r n).flag f = d.flag f := by unfold Device.flag; rw [Device.fld_countSat_ne d n h]

theorem Device.flag_wr_ne (d : Device) {r : Reg} {f : Field} (v : Nat) (h : r.addr ≠ f.reg.addr) :
    (d.wr r v).flag f = d.flag f := by unfold Device.flag; rw [Device.fld_wr_ne d v h]

theorem Device.rd_count_same (d : Device) (r : Reg) (n : Nat) : (d.count r n).rd r = (d.rd r + n) % 2 ^ r.width :=
  Device.rd_wr_same d r _

/-! ## At reset -/

/-- No register is listed after reset, so each reads its Reset value (R409). -/
theorem Device.rd_reset (r : Reg) : Device.reset.rd r = r.reset := rfl

end Sys2Proof.Machine
end

