-- ==== Sys2Proof/Laws/Ops.lean ====
section
/-! SUPPORT. Laws/Ops.lean: what logging, counting and repeated steps do, and how a meaning answers. -/
namespace Sys2Proof.Machine

/-! ## Meanings -/

theorem State.run_powered (s : State) (f : Device → Device) (h : s.dev.powered = true) :
    s.run f = .next { s with dev := f s.dev } := by simp [State.run, h]

theorem State.run_unpowered (s : State) (f : Device → Device) (h : s.dev.powered = false) : s.run f = .next s := by
  simp [State.run, h]

/-- Every meaning written with `run` answers a next state with the queue as it was. -/
theorem State.run_answers (s : State) (f : Device → Device) : ∃ t, s.run f = .next t ∧ t.pending = s.pending :=
  ⟨_, rfl, rfl⟩
theorem State.runAny_answers (s : State) (f : Device → Device) : ∃ t, s.runAny f = .next t ∧ t.pending = s.pending :=
  ⟨_, rfl, rfl⟩
theorem State.runIf_answers (s : State) {ok : Bool} (f : Device → Device) (h : ok = true) :
    ∃ t, s.runIf ok f = .next t ∧ t.pending = s.pending := by
  subst h; exact ⟨_, rfl, rfl⟩

/-- A next state of a meaning is the device it makes, or the old one where the helm is unpowered. -/
theorem State.run_next {s t : State} {f : Device → Device} (h : s.run f = .next t) :
    t.pending = s.pending ∧ (t.dev = f s.dev ∨ t.dev = s.dev) := by
  unfold State.run at h
  injection h with h; subst h
  refine ⟨rfl, ?_⟩
  cases s.dev.powered <;> simp
theorem State.runAny_next {s t : State} {f : Device → Device} (h : s.runAny f = .next t) :
    t.pending = s.pending ∧ t.dev = f s.dev := by
  unfold State.runAny at h
  injection h with h; subst h
  exact ⟨rfl, rfl⟩
theorem State.runIf_next {s t : State} {ok : Bool} {f : Device → Device} (h : s.runIf ok f = .next t) :
    ok = true ∧ t.pending = s.pending ∧ (t.dev = f s.dev ∨ t.dev = s.dev) := by
  unfold State.runIf at h
  split at h
  · exact ⟨by assumption, State.run_next h⟩
  · cases h

/-! ## Repeated steps -/

/-- What every single step keeps, the steps together keep. -/
theorem Device.each_keeps {α : Type} {P : Device → Prop} {f : Device → α → Device} (h : ∀ d a, P d → P (f d a)) :
    ∀ (l : List α) (d : Device), P d → P (d.each l f)
  | [], _, hd => hd
  | a :: t, d, hd => Device.each_keeps h t (f d a) (h d a hd)

theorem Device.each_same {α β : Type} (g : Device → β) {f : Device → α → Device} (h : ∀ d a, g (f d a) = g d) :
    ∀ (l : List α) (d : Device), g (d.each l f) = g d
  | [], _ => rfl
  | a :: t, d => (Device.each_same g h t (f d a)).trans (h d a)

theorem Device.when_same {β : Type} (g : Device → β) (d : Device) (c : Bool) {f : Device → Device} (h : g (f d) = g d) :
    g (d.when c f) = g d := by unfold Device.when; split <;> simp [h]

@[simp] theorem Device.when_true (d : Device) (f : Device → Device) : d.when true f = f d := rfl
@[simp] theorem Device.when_false (d : Device) (f : Device → Device) : d.when false f = d := rfl

/-! ## The log -/

/-- Sending an event to the head touches the EVENT queue and, where it overflows, the two registers that say
so. -/
theorem Device.toHead_rest (d : Device) (e : Event) (front : Bool) :
    let d' := d.toHead e front
    d'.chans = d.chans ∧ d'.banks = d.banks ∧ d'.rck = d.rck ∧ d'.store = d.store ∧ d'.sects = d.sects ∧
    d'.ringMap = d.ringMap ∧ d'.coreRes = d.coreRes ∧ d'.events = d.events ∧ d'.logged = d.logged ∧
    d'.feedA = d.feedA ∧ d'.feedB = d.feedB ∧ d'.switch = d.switch ∧ d'.rails = d.rails ∧ d'.int = d.int ∧
    d'.seq = d.seq ∧ d'.adc = d.adc ∧ d'.chg = d.chg ∧ d'.chgLast = d.chgLast ∧ d'.wdt = d.wdt ∧ d'.sec = d.sec ∧
    d'.otp = d.otp ∧ d'.flash = d.flash ∧ d'.shadow = d.shadow ∧ d'.upd = d.upd ∧ d'.twi = d.twi ∧ d'.clk = d.clk ∧
    d'.coreBuf = d.coreBuf ∧ d'.feedClk = d.feedClk ∧ d'.free = d.free := by
  unfold Device.toHead
  split
  · simp
  · split <;> dsimp only <;> split <;> simp

theorem Device.rd_toHead (d : Device) (e : Event) (front : Bool) {r : Reg} (h1 : RING.RSTAT.addr ≠ r.addr)
    (h2 : RING.EVDROPCNT.addr ≠ r.addr) : (d.toHead e front).rd r = d.rd r := by
  unfold Device.toHead
  split
  · rfl
  · split <;> dsimp only <;> split <;>
      first
      | rfl
      | (rw [Device.rd_countSat_ne _ _ h2, Device.rd_raise_ne _ h1]; rfl)

/-- Logging appends the event with the tide stamp; beside that it only sends it. -/
theorem Device.log_events (d : Device) (code : Nat) (args : List Nat) (front : Bool) :
    (d.log code args front).events = d.events ++ [{ code := code, tide := d.now, args := args }] := by
  unfold Device.log; exact (Device.toHead_rest _ _ _).2.2.2.2.2.2.2.1

@[simp] theorem Device.log_rest (d : Device) (code : Nat) (args : List Nat) (front : Bool) :
    (d.log code args front).chans = d.chans ∧ (d.log code args front).banks = d.banks ∧
    (d.log code args front).rck = d.rck ∧ (d.log code args front).store = d.store ∧
    (d.log code args front).sects = d.sects ∧ (d.log code args front).ringMap = d.ringMap ∧
    (d.log code args front).coreRes = d.coreRes ∧ (d.log code args front).logged = d.logged ∧
    (d.log code args front).feedA = d.feedA ∧ (d.log code args front).feedB = d.feedB ∧
    (d.log code args front).switch = d.switch ∧ (d.log code args front).rails = d.rails ∧
    (d.log code args front).int = d.int ∧ (d.log code args front).seq = d.seq ∧
    (d.log code args front).adc = d.adc ∧ (d.log code args front).chg = d.chg ∧
    (d.log code args front).chgLast = d.chgLast ∧ (d.log code args front).wdt = d.wdt ∧
    (d.log code args front).sec = d.sec ∧ (d.log code args front).otp = d.otp ∧
    (d.log code args front).flash = d.flash ∧ (d.log code args front).shadow = d.shadow ∧
    (d.log code args front).upd = d.upd ∧ (d.log code args front).twi = d.twi ∧
    (d.log code args front).clk = d.clk ∧ (d.log code args front).coreBuf = d.coreBuf ∧
    (d.log code args front).feedClk = d.feedClk ∧ (d.log code args front).free = d.free := by
  have h := Device.toHead_rest { d with events := d.events ++ [{ code := code, tide := d.now, args := args }] }
    { code := code, tide := d.now, args := args } front
  obtain ⟨a0, a1, a2, a3, a4, a5, a6, _, a8, a9, a10, a11, a12, a13, a14, a15,
    a16, a17, a18, a19, a20, a21, a22, a23, a24, a25, a26, a27, a28⟩ := h
  exact ⟨a0, a1, a2, a3, a4, a5, a6, a8, a9, a10, a11, a12, a13, a14, a15, a16,
    a17, a18, a19, a20, a21, a22, a23, a24, a25, a26, a27, a28⟩

theorem Device.rd_log (d : Device) (code : Nat) (args : List Nat) (front : Bool) {r : Reg} (h1 : RING.RSTAT.addr ≠ r.addr)
    (h2 : RING.EVDROPCNT.addr ≠ r.addr) : (d.log code args front).rd r = d.rd r := by
  unfold Device.log; rw [Device.rd_toHead _ _ _ h1 h2]; rfl

theorem Device.fld_log (d : Device) (code : Nat) (args : List Nat) (front : Bool) {f : Field}
    (h1 : RING.RSTAT.addr ≠ f.reg.addr) (h2 : RING.EVDROPCNT.addr ≠ f.reg.addr) :
    (d.log code args front).fld f = d.fld f := by unfold Device.fld; rw [Device.rd_log d _ _ _ h1 h2]

theorem Device.flag_log (d : Device) (code : Nat) (args : List Nat) (front : Bool) {f : Field}
    (h1 : RING.RSTAT.addr ≠ f.reg.addr) (h2 : RING.EVDROPCNT.addr ≠ f.reg.addr) :
    (d.log code args front).flag f = d.flag f := by unfold Device.flag; rw [Device.fld_log d _ _ _ h1 h2]

theorem Device.powered_log (d : Device) (code : Nat) (args : List Nat) (front : Bool) :
    (d.log code args front).powered = d.powered := by unfold Device.powered; simp

end Sys2Proof.Machine
end

