-- ==== Sys2Proof/Laws/Memory.lean ====
section
/-! SUPPORT. Laws/Memory.lean: the canonical form of the flash slots and the OTP array, which every operation that
writes them keeps, and what a byte or a word reads after a write. -/
namespace Sys2Proof.Machine

/-! ## The canonical form -/

section
variable {α : Type} [DecidableEq α] {dflt : Nat → α}

theorem canonical_cons {a : Nat} {v : α} {t : List (Nat × α)} :
    canonical dflt ((a, v) :: t) = true ↔ v ≠ dflt a ∧ (∀ e ∈ t, a < e.1) ∧ canonical dflt t = true := by
  simp [canonical, and_assoc]

theorem canonical_filter {l : List (Nat × α)} (p : Nat × α → Bool) (h : canonical dflt l = true) :
    canonical dflt (l.filter p) = true := by
  induction l with
  | nil => exact h
  | cons e t ih =>
    obtain ⟨a, v⟩ := e
    obtain ⟨h1, h2, h3⟩ := canonical_cons.1 h
    rw [List.filter_cons]
    split
    · exact canonical_cons.2 ⟨h1, fun e he => h2 e (List.mem_filter.1 he).1, ih h3⟩
    · exact ih h3

theorem canonical_del {l : List (Nat × α)} (a : Nat) (h : canonical dflt l = true) : canonical dflt (del l a) = true :=
  canonical_filter _ h

omit [DecidableEq α] in
theorem mem_ins {l : List (Nat × α)} {a : Nat} {v : α} {e : Nat × α} (h : e ∈ ins l a v) : e = (a, v) ∨ e ∈ l := by
  induction l with
  | nil => simpa [ins] using h
  | cons x t ih =>
    obtain ⟨b, w⟩ := x
    unfold ins at h
    split at h
    · simpa using h
    · rcases List.mem_cons.1 h with h | h
      · exact .inr (by simp [h])
      · rcases ih h with h | h
        · exact .inl h
        · exact .inr (List.mem_cons_of_mem _ h)

theorem canonical_ins {l : List (Nat × α)} {a : Nat} {v : α} (h : canonical dflt l = true) (hv : v ≠ dflt a)
    (hn : ∀ e ∈ l, e.1 ≠ a) : canonical dflt (ins l a v) = true := by
  induction l with
  | nil => exact canonical_cons.2 ⟨hv, by simp, rfl⟩
  | cons x t ih =>
    obtain ⟨b, w⟩ := x
    obtain ⟨h1, h2, h3⟩ := canonical_cons.1 h
    have hb : b ≠ a := hn (b, w) (by simp)
    unfold ins
    split
    · rename_i hab
      refine canonical_cons.2 ⟨hv, fun e he => ?_, h⟩
      rcases List.mem_cons.1 he with he | he
      · subst he; exact hab
      · exact Nat.lt_trans hab (h2 e he)
    · rename_i hab
      refine canonical_cons.2 ⟨h1, fun e he => ?_, ih h3 fun e he => hn e (List.mem_cons_of_mem _ he)⟩
      rcases mem_ins he with he | he
      · subst he; show b < a; omega
      · exact h2 e he

/-- A store under one key keeps the canonical form. -/
theorem canonical_putD {l : List (Nat × α)} (a : Nat) (v : α) (h : canonical dflt l = true) :
    canonical dflt (putD l a v (dflt a)) = true := by
  unfold putD
  split
  · exact canonical_del a h
  · rename_i hv
    refine canonical_ins (canonical_del a h) hv fun e he => ?_
    simpa using (List.mem_filter.1 he).2

theorem canonical_append {l m : List (Nat × α)} (hl : canonical dflt l = true) (hm : canonical dflt m = true)
    (h : ∀ e ∈ l, ∀ f ∈ m, e.1 < f.1) : canonical dflt (l ++ m) = true := by
  induction l with
  | nil => exact hm
  | cons x t ih =>
    obtain ⟨b, w⟩ := x
    obtain ⟨h1, h2, h3⟩ := canonical_cons.1 hl
    refine canonical_cons.2 ⟨h1, fun e he => ?_, ih h3 fun e he => h e (List.mem_cons_of_mem _ he)⟩
    rcases List.mem_append.1 he with he | he
    · exact h2 e he
    · exact h (b, w) (by simp) e he
end

/-! ## Flash bytes -/

theorem asCells_range {bs : List Nat} : ∀ {a : Nat}, ∀ c ∈ asCells a bs, a ≤ c.1 ∧ c.1 < a + bs.length := by
  induction bs with
  | nil => intro a c hc; simp [asCells] at hc
  | cons b t ih =>
    intro a c hc
    unfold asCells at hc
    split at hc
    · have := ih c hc; simp; omega
    · rcases List.mem_cons.1 hc with hc | hc
      · subst hc; simp
      · have := ih c hc; simp; omega

theorem asCells_wf (bs : List Nat) : ∀ a, Memory.wf (asCells a bs) = true := by
  induction bs with
  | nil => intro a; rfl
  | cons b t ih =>
    intro a
    unfold asCells
    split
    · exact ih _
    · rename_i hb
      refine canonical_cons.2 ⟨fun h => hb ?_, fun e he => ?_, ih _⟩
      · have := congrArg BitVec.toNat h; simpa using this
      · have := (asCells_range e he).1; omega

/-- A write of consecutive bytes keeps the canonical form. -/
theorem Bytes.write_wf {m : Bytes} (a : Nat) (bs : List Nat) (h : Memory.wf m = true) :
    Memory.wf (Bytes.write m a bs) = true := by
  unfold Bytes.write
  refine canonical_append (canonical_append (canonical_filter _ h) (asCells_wf bs a) ?_) (canonical_filter _ h) ?_
  · intro e he f hf
    have h1 := (List.mem_filter.1 he).2
    have h2 := (asCells_range f hf).1
    simp at h1; omega
  · intro e he f hf
    have h2 := (List.mem_filter.1 hf).2
    simp at h2
    rcases List.mem_append.1 he with he | he
    · have h1 := (List.mem_filter.1 he).2; simp at h1; omega
    · have h1 := (asCells_range e he).2; omega

/-- An erase keeps the canonical form. -/
theorem Bytes.erase_wf {m : Bytes} (a n : Nat) (h : Memory.wf m = true) : Memory.wf (Bytes.erase m a n) = true :=
  canonical_filter _ h

/-- The byte at an address, by lookup; an unlisted one reads 0xFF. -/
def byteIn (m : Bytes) (a : Nat) : Nat := ((look m a).map BitVec.toNat).getD 0xFF

theorem look_of_lt {α : Type} {l : List (Nat × α)} {a : Nat} (h : ∀ e ∈ l, a < e.1) : look l a = none := by
  induction l with
  | nil => rfl
  | cons e t ih =>
    obtain ⟨b, v⟩ := e
    have hb : b ≠ a := by have := h (b, v) (by simp); simp at this; omega
    simp [look, hb, ih fun e he => h e (List.mem_cons_of_mem _ he)]

/-- One byte of canonical flash is what is listed under its address, or 0xFF. -/
theorem flashRead_byte {d : Device} (h : Memory.wf d.flash.flash = true) (a : Nat) :
    d.flashRead a 1 = [byteIn d.flash.flash a] := by
  unfold Device.flashRead byteIn
  generalize d.flash.flash = m at h ⊢
  induction m with
  | nil => rfl
  | cons e t ih =>
    obtain ⟨b, v⟩ := e
    obtain ⟨-, h2, h3⟩ := canonical_cons.1 h
    by_cases hab : a ≤ b
    · by_cases hb : b = a
      · simp [hb, readRun, look]
      · have hl : look t a = none := look_of_lt fun e he => by have := h2 e he; omega
        simp [hab, readRun, look, hb, hl]
    · have hb : b ≠ a := by omega
      simpa [List.filter_cons, hab, look, hb] using ih h3

theorem look_append {α : Type} (l m : List (Nat × α)) (a : Nat) :
    look (l ++ m) a = (look l a).or (look m a) := by
  induction l with
  | nil => simp [look]
  | cons e t ih =>
    obtain ⟨b, v⟩ := e
    by_cases hb : b = a <;> simp [look, hb, ih]

theorem look_filter_of {α : Type} {p : Nat × α → Bool} (l : List (Nat × α)) {a : Nat} (hp : ∀ v, p (a, v) = true) :
    look (l.filter p) a = look l a := by
  induction l with
  | nil => rfl
  | cons e t ih =>
    obtain ⟨b, v⟩ := e
    by_cases hb : b = a
    · subst hb; simp [hp, look]
    · rw [List.filter_cons]; split <;> simp [look, hb, ih]

theorem look_filter_not {α : Type} {p : Nat × α → Bool} (l : List (Nat × α)) {a : Nat} (hp : ∀ v, p (a, v) = false) :
    look (l.filter p) a = none := by
  induction l with
  | nil => rfl
  | cons e t ih =>
    obtain ⟨b, v⟩ := e
    rw [List.filter_cons]
    split
    · rename_i h
      by_cases hb : b = a
      · subst hb; simp [hp] at h
      · simp [look, hb, ih]
    · exact ih

theorem look_asCells_out {bs : List Nat} {a x : Nat} (h : x < a ∨ a + bs.length ≤ x) : look (asCells a bs) x = none := by
  cases hl : look (asCells a bs) x with
  | none => rfl
  | some v =>
    have hm : ∀ (l : Bytes) (w : BitVec 8), look l x = some w → (x, w) ∈ l := by
      intro l; induction l with
      | nil => intro w h; simp [look] at h
      | cons e t ih =>
        obtain ⟨b, u⟩ := e
        intro w h
        by_cases hb : b = x
        · subst hb; simp [look] at h; simp [h]
        · simp [look, hb] at h; exact List.mem_cons_of_mem _ (ih w h)
    have := asCells_range _ (hm _ _ hl)
    simp at this; omega

theorem byteIn_asCells {bs : List Nat} : ∀ {a i : Nat}, i < bs.length →
    byteIn (asCells a bs) (a + i) = bs.getD i 0 % 256 := by
  induction bs with
  | nil => intro a i h; simp at h
  | cons b t ih =>
    intro a i h
    cases i with
    | zero =>
      unfold asCells byteIn
      split
      · rename_i hb
        rw [look_asCells_out (.inl (by omega))]; simp [hb]
      · simp [look]
    | succ i =>
      have ht : i < t.length := by simpa using h
      have := ih (a := a + 1) ht
      unfold asCells
      split
      · simpa [Nat.add_assoc, Nat.add_comm 1 i] using this
      · unfold byteIn at this ⊢
        have hne : ¬ a = a + (i + 1) := by omega
        simp only [look, hne, if_false]
        simpa [Nat.add_assoc, Nat.add_comm 1 i] using this

/-- Bytes written to an erased store read back as a run. -/
theorem readRun_asCells (bs : List Nat) : ∀ a, readRun bs.length a (asCells a bs) = bs.map (· % 256) := by
  induction bs with
  | nil => intro a; rfl
  | cons b t ih =>
    intro a
    by_cases hb : b % 256 = 0xFF
    · have hne : ∀ c ∈ asCells (a + 1) t, c.1 ≠ a := fun c hc => by have := asCells_range c hc; omega
      have h1 : readRun (t.length + 1) a (asCells (a + 1) t) = 0xFF :: readRun t.length (a + 1) (asCells (a + 1) t) := by
        cases hl : asCells (a + 1) t with
        | nil => rfl
        | cons c r => obtain ⟨k, v⟩ := c; simp [readRun, hne (k, v) (by simp [hl])]
      simp [asCells, hb, h1, ih]
    · simp [asCells, hb, readRun, ih]

theorem flashRead_flashWrite_empty {d : Device} {a n : Nat} {bs : List Nat} (h : d.flash.flash = []) (hn : n = bs.length) :
    (d.flashWrite a bs).flashRead a n = bs.map (· % 256) := by
  have : (asCells a bs).filter (fun c => decide (a ≤ c.1)) = asCells a bs :=
    List.filter_eq_self.2 fun c hc => by simpa using (asCells_range c hc).1
  simp [Device.flashRead, Device.flashWrite, Device.modStore, Bytes.write, h, hn, this, readRun_asCells]

/-- Outside the written bytes every byte reads as before. -/
theorem Bytes.write_out (m : Bytes) {a x : Nat} {bs : List Nat} (h : x < a ∨ a + bs.length ≤ x) :
    byteIn (Bytes.write m a bs) x = byteIn m x := by
  unfold byteIn Bytes.write
  rw [look_append, look_append, look_asCells_out h]
  rcases h with h | h
  · rw [look_filter_of (p := fun c => decide (c.1 < a)) m (by simp [h]),
      look_filter_not (p := fun c => decide (a + bs.length ≤ c.1)) m (by simp; omega)]
    simp
  · rw [look_filter_not (p := fun c => decide (c.1 < a)) m (by simp; omega),
      look_filter_of (p := fun c => decide (a + bs.length ≤ c.1)) m (by simp [h])]
    simp

/-- A written byte reads back. -/
theorem Bytes.write_in (m : Bytes) {a i : Nat} {bs : List Nat} (h : i < bs.length) :
    byteIn (Bytes.write m a bs) (a + i) = bs.getD i 0 % 256 := by
  rw [← byteIn_asCells (a := a) h]
  unfold byteIn Bytes.write
  rw [look_append, look_append, look_filter_not (p := fun c => decide (c.1 < a)) m (by simp),
    look_filter_not (p := fun c => decide (a + bs.length ≤ c.1)) m (by simp; omega)]
  simp

theorem Bytes.erase_in (m : Bytes) {a n x : Nat} (h1 : a ≤ x) (h2 : x < a + n) : byteIn (Bytes.erase m a n) x = 0xFF := by
  unfold byteIn Bytes.erase
  rw [look_filter_not m (by intro v; simp; omega)]; rfl

theorem Bytes.erase_out (m : Bytes) {a n x : Nat} (h : x < a ∨ a + n ≤ x) : byteIn (Bytes.erase m a n) x = byteIn m x := by
  unfold byteIn Bytes.erase
  rw [look_filter_of m (by intro v; simp; omega)]

theorem Device.flashWrite_wf {d : Device} (a : Nat) (bs : List Nat) (h : Memory.wf d.flash.flash = true) :
    Memory.wf (d.flashWrite a bs).flash.flash = true := Bytes.write_wf a bs h

theorem Device.flashErase_wf {d : Device} (a n : Nat) (h : Memory.wf d.flash.flash = true) :
    Memory.wf (d.flashErase a n).flash.flash = true := Bytes.erase_wf a n h

/-! ## OTP words -/

/-- Both margins of the array in canonical form. -/
def Otp.wf (o : Otp) : Bool := canonical (fun _ => 0) o.norm && canonical (fun _ => 0) o.tight

theorem Otp.wf_iff {o : Otp} : o.wf = true ↔
    canonical (fun _ => 0) o.norm = true ∧ canonical (fun _ => 0) o.tight = true := by simp [Otp.wf]

theorem Otp.burnWord_wf {o : Otp} (bad : BurnFailures) (p bits : Nat) (h : o.wf = true) : (o.burnWord bad p bits).wf = true := by
  obtain ⟨h1, h2⟩ := Otp.wf_iff.1 h
  exact Otp.wf_iff.2 ⟨canonical_putD (dflt := fun _ => 0) p _ h1, canonical_putD (dflt := fun _ => 0) p _ h2⟩

theorem Otp.flagCopy_wf {o : Otp} (p : Nat) (h : o.wf = true) : (o.flagCopy p).wf = true := h

theorem Otp.foldl_wf {β : Type} {f : Otp → β → Otp} (hf : ∀ o b, o.wf = true → (f o b).wf = true) :
    ∀ (l : List β) (o : Otp), o.wf = true → (l.foldl f o).wf = true
  | [], _, h => h
  | b :: t, o, h => Otp.foldl_wf hf t (f o b) (hf o b h)

theorem Otp.burnLogical_wf {o : Otp} (bad : BurnFailures) (l bits : Nat) (h : o.wf = true) :
    (o.burnLogical bad l bits).wf = true := by
  unfold Otp.burnLogical
  exact Otp.foldl_wf (fun o p h => Otp.flagCopy_wf p (Otp.burnWord_wf bad _ _ h)) _ _ h

theorem Otp.finalise_wf {o : Otp} (bad : BurnFailures) (r : Nat) (h : o.wf = true) : (o.finalise bad r).1.wf = true := by
  unfold Otp.finalise
  dsimp only
  split
  · exact Otp.burnLogical_wf bad _ _ (Otp.foldl_wf (fun _ _ h => Otp.burnLogical_wf bad _ _ h) _ _ h)
  · exact Otp.foldl_wf (fun _ _ h => Otp.burnLogical_wf bad _ _ h) _ _ h

theorem Otp.reburn_wf {o : Otp} (bad : BurnFailures) (l : Nat) (h : o.wf = true) : (o.reburn bad l).wf = true := by
  unfold Otp.reburn
  exact Otp.foldl_wf (fun o (b : Nat × Nat) h => Otp.flagCopy_wf b.1 (Otp.burnWord_wf bad _ _ h)) _ _ h

theorem Otp.repair_wf {o : Otp} (bad : BurnFailures) (p l k : Nat) (h : o.wf = true) : (o.repair bad p l k).wf = true := by
  unfold Otp.repair
  exact Otp.foldl_wf (f := Otp.flagCopy) (fun _ p h => Otp.flagCopy_wf p h) _ _
    (Otp.foldl_wf (fun _ (b : Nat × Nat) h => Otp.burnWord_wf bad b.1 b.2 h) _ _ h)

theorem Otp.capTight_wf {o : Otp} (p : Nat) (h : o.wf = true) : (o.capTight p).wf = true := by
  obtain ⟨h1, h2⟩ := Otp.wf_iff.1 h
  exact Otp.wf_iff.2 ⟨h1, canonical_putD (dflt := fun _ => 0) p _ h2⟩

theorem lose_wf {m : Words} (p bits free : Nat) (h : canonical (fun _ => 0) m = true) :
    canonical (fun _ => 0) (lose m p bits free) = true := canonical_putD (dflt := fun _ => 0) p _ h

/-- A power collapse during a burn keeps the array's form. -/
theorem Device.otpCollapse_wf {d : Device} (h : d.otp.wf = true) : d.otpCollapse.otp.wf = true := by
  unfold Device.otpCollapse
  split
  · exact h
  · dsimp only
    show (Device.each _ _ _).otp.wf = true
    refine Device.each_keeps (P := fun d => d.otp.wf = true) (fun d b h => ?_) _ _
      (Device.each_keeps (P := fun d => d.otp.wf = true) (fun d b h => ?_) _ _ h)
    · refine Otp.capTight_wf _ ?_
      obtain ⟨h1, h2⟩ := Otp.wf_iff.1 h
      exact Otp.wf_iff.2 ⟨h1, lose_wf _ _ _ h2⟩
    · obtain ⟨h1, h2⟩ := Otp.wf_iff.1 h
      exact Otp.wf_iff.2 ⟨lose_wf _ _ _ h1, h2⟩

end Sys2Proof.Machine
end

