-- ==== Sys2Proof/Tests/Slice0.lean ====
section
/-! SUPPORT. Tests/Slice0.lean: witness_<Statement> shows concrete states and operands that meet the premises of the
statement of that name, clause by clause; test_<what> checks one operation or one command against the spec's worked
examples and rules. -/
-- One theorem at a time: each kernel check that waits for another holds a thread with its whole stack.
set_option Elab.async false
open Sys2Proof Sys2Proof.Machine
namespace Sys2Proof.Tests

/-- A small state: reset with `f` applied, no bit of it set in this very tick. -/
def st (f : Device → Device) : State := { dev := { f Device.reset with fresh := (0, []) }, pending := [] }
/-- In RUN, rigged, the PLL locked, the core booted. -/
def inRun (d : Device) : Device :=
  let d := ((d.setFld SEC.PSTAT_STATE 4).raise SYS.RIG_RIGGED).modRck fun r => { r with pll := true, tide := 5000000 }
  { d with clk := 5000000, feedClk := 5000000, sec := { d.sec with bootDue := false } }
/-- Bank 0 on its link, its isolator closed; then also released. -/
def bank0 (d : Device) : Device := d.modBank 0 fun b => { b with link := true, enabled := true, isoGate := true }
def bank0r (d : Device) : Device := (bank0 d).lower (BANK.STAT_HELD 0)
def head (d : Device) : Device := d.setFld RCK.CFG_ROLE 1
def on0 (d : Device) : Device := (d.raise (CHS.STAT_CMD 0)).raise (CHS.STAT_OUT 0)
/-- An edge's bits, and its check byte (R54, R57). -/
def edgeBits (fire seq idx tt act late arg : Nat) : Nat :=
  fire + seq * 2 ^ 48 + idx * 2 ^ 80 + tt * 2 ^ 92 + act * 2 ^ 96 + late * 2 ^ 99 + arg * 2 ^ 104
def edgeChk (x : Nat) : Nat := crc8 (toBytes 15 x)
/-- Position known: SYNC and tide locked. -/
def synced (d : Device) : Device := (d.raise RCK.STAT_SYNC).raise RCK.STAT_TIDE_LOCK
def ringUp (d : Device) : Device := ((inRun d).setFld (RING.PSTAT_STATE 0) portUp).wr RING.ADDR 5
/-- What taking the oldest message of a type gives. -/
def taken (s : State) (t : MsgType) : Msg × Device := (s.dev.takeMsg t).getD ({ type := t, addr := 0, data := [] }, s.dev)
def takenE (s : State) (r : Bool) : Msg × Device := (s.dev.takeEnum r).getD ({ type := .enum, addr := 0, data := [] }, s.dev)
/-- A message in the inbox. -/
def boxed (f : Device → Device) (m : Msg) : State := st fun d => (f (ringUp d)).modRing fun r => { r with inbox := [m] }

theorem forall_some {α : Type} {o : Option α} {P : α → Prop} (h : ∀ a ∈ o, P a) : ∀ a, o = some a → P a := h


namespace W1

def held0 : State := st fun d => (bank0 (inRun d)).raise (BANK.STAT_HELD 0)
def live0 : State := st fun d => on0 (bank0r (inRun d))
def live9 : State := { live0 with dev := live0.dev.modBank 0 fun b => { b with validAt := 4999000 } }
def cmd0 : State := st fun d => (on0 (bank0r (inRun d))).modBank 0 fun b => { b with validAt := 4999000, cmds := [⟨0, false, true, 0⟩], count := some 15 }
def cmd1 : State := st fun d => ((bank0r (inRun d)).raise (CHS.STAT_CMD 0)).modBank 0 fun b => { b with validAt := 4999000, cmds := [⟨0, true, true, 0⟩], count := some 15 }
def cmd2 : State := { cmd0 with dev := cmd0.dev.modBank 0 fun b => { b with validAt := 1000 } }
def eOn : Nat := edgeBits 1000000 1 0 0 0 0 0
def run1 : State := st fun d => synced (bank0r (inRun d)) |>.wr EDGE.WIN eOn
def eSect : Nat := edgeBits 1000000 1 0 1 0 0 0
def run2 : State := st fun d => { synced (bank0r (inRun d)) |>.wr EDGE.WIN eSect with sects := [(0, 3)] }
def scan1 : State := st fun d => { synced (bank0r (inRun d)) with store := [{ ch := 0, fire := 0, seq := 1, src := .host, act := .on, feff := 0, late := false, drop := false, tgt := 0 }, { ch := 1, fire := 9, seq := 1, src := .host, act := .on, feff := 9, late := false, drop := false, tgt := 1 }] }
def drv : State := st fun d => { (bank0r (inRun d)).modChan 0 fun c => { c with pendMode := some 3 } with clk := 0, rck := { d.rck with pll := true, tide := 0 } }
def pwm (k : Nat) : State := st fun d => { ((((bank0r (inRun d)).setFld (CH.CFG_MODE 0) 1).raise (CHS.STAT_CMD 0)).setFld (CHS.DEFF_DUTY 0) k).modChan 0 fun c => { c with bankOn := true } with clk := 0 }
def first : State := { pwm 512 with dev := ((pwm 512).dev.raise (CHS.STAT_OUT 0)).modChan 0 fun c => { c with firstPulse := true, pulse := some 30000000 } }
def peak : State := st fun d => ((on0 (bank0r (inRun d))).raise (CHS.STAT_PEAK 0) |>.raise (CHS.STAT_SAFE 0)).setFld (CH.LIM_TPEAK 0) 5
def peakF : State := { peak with dev := { peak.dev with fresh := (5000000, [((CHS.STAT 0).addr, 2)]) } }
def learn (f : Nat) : State := st fun d => ((inRun d).lower (CHS.STAT_UNL_ON 0)).modChan 0 fun c => { c with lminOn := 100, lmaxOn := 1000, ldefOn := 500, search := some (true, 4000000), learnOn := { c.learnOn with lat := 50000, fails := f } }
def inr : State := st fun d => (on0 (bank0r (inRun d))).setFld (CH.PROT_TINR 0) 10 |>.modChan 0 fun c => { c with inrush := some 4000000 }
def ovl : State := st fun d => (on0 (bank0r (inRun d))).setFld (CH.PROT_TFLT 0) 10 |>.modChan 0 fun c => { c with ftmr := 1000 }
def trip1 (t : TripState) : State := st fun d => (((bank0r (inRun d)).setFld (CHS.STAT_FAULT 0) 2).setBit (BANK.TRIPS 0) 0 true).raise (CHS.STAT_CMD 0) |>.modChan 0 fun c => { c with trip := t, watch := true, retries := 2 }
def trip2 : State := { trip1 .waiting with dev := { (trip1 .waiting).dev with clk := 200000000 } }
def hot1 : State := { trip1 .latched with dev := (trip1 .latched).dev.modChan 0 fun c => { c with hot := true, clearPend := true } }
def hot2 : State := { trip2 with dev := trip2.dev.modChan 0 fun c => { c with hot := true, retryPend := true } }
def open0 : State := st fun d => ((((bank0r (inRun d)).raise (CH.PROT_OLOFF 0)).raise (CH.PROT_OLON 0)).setFld (CH.PROT_DMG 0) 3).raise (CH.PROT_DREACT 0)
def open1 : State := { open0 with dev := (on0 open0.dev).modChan 0 fun c => { c with dispatch := some 4979000 } }
def open2 : State := { open0 with dev := ((on0 open0.dev).setFld (CH.CFG_MODE 0) 1).modChan 0 fun c => { c with pulses := 9 } }
def iso (x : IsoStep) : State := st fun d => (on0 (bank0r (inRun d))).modBank 0 fun b => { b with iso := x }
def isoD (x : IsoStep) : State := st fun d => ((bank0 (inRun d)).raise (BANK.STAT_ISO 0)).modBank 0 fun b => { b with iso := x }
def noIso : State := { iso .none with dev := (iso .none).dev.raise (BANK.STAT_NOISO 0) }
def damaged : State := { isoD .none with dev := ((isoD .none).dev.setFld (CHS.STAT_FAULT 0) 5).modChan 0 fun c => { c with trip := .latched } }
def now5 : State := { live0 with dev := live0.dev.strike .ring }
def now6 : State := { now5 with dev := now5.dev.setFlag BANK.STRIKESTAT_PIN false }
def strk (low : Bool) : State := st fun d => ((on0 (bank0r (inRun d))).raise BANK.STRIKESTAT_ACTIVE).setFlag BANK.STRIKESTAT_PIN low
theorem witness_BankDies :
    (held0.dev.powered = true) ∧ (held0.dev.flag (BANK.STAT_HELD 0) = true) ∧
        (live0.dev.powered = true) ∧ (live0.dev.flag (BANK.STAT_HELD 0) = false) ∧ (live0.dev.bankSupplied 0 =
      true) ∧ ((live0.dev.bank 0).validAt + 2000 < live0.dev.clk) ∧
        (live9.dev.powered = true) ∧ (live9.dev.flag (BANK.STAT_HELD 0) = false) ∧ (live9.dev.bankSupplied 0 =
      true) ∧ (live9.dev.clk ≤ (live9.dev.bank 0).validAt + 2000) ∧
        (held0.dev.flag (BANK.STAT_ISO 0) = false) ∧ ((held0.dev.bank 0).iso = IsoStep.none) ∧ ((held0.dev.bank
      0).enabled = true) ∧ (held0.dev.bankSupplied 0 = true) := by decide +kernel
theorem witness_LinkFrames :
        (cmd0.dev.powered = true) ∧ ((cmd0.dev.bank 0).link = true) ∧ (∀ n ∈ [(39 : ChanId)], bankOf ↑n = 0) ∧
      (cmd0.dev.clk ≤ (cmd0.dev.bank 0).validAt + 2163) ∧ (∀ c ∈ (cmd0.dev.bank 0).count, (c + 1) % 16 =
      BitVec.toNat (0 : BitVec 4)) ∧
        (cmd1.dev.powered = true) ∧ ((cmd1.dev.bank 0).link = true) ∧ (cmd1.dev.clk ≤ (cmd1.dev.bank 0).validAt +
      2163) ∧ (∀ c ∈ (cmd1.dev.bank 0).count, (c + 1) % 16 = BitVec.toNat (0 : BitVec 4)) ∧
        (∀ n ∈ [], bankOf ↑n = 0) ∧ (false = false ∨ ∃ c, (cmd0.dev.bank 0).count = some c ∧ (c + 1) % 16 ≠
      BitVec.toNat (0 : BitVec 4)) ∧
    (true = false ∨ ∃ c, (cmd0.dev.bank 0).count = some c ∧ (c + 1) % 16 ≠ BitVec.toNat (1 : BitVec 4)) ∧
        (cmd2.dev.powered = true) ∧ ((cmd2.dev.bank 0).link = true) ∧ ((cmd2.dev.bank 0).validAt + 2163 <
      cmd2.dev.clk) ∧ (cmd2.dev.flag (BANK.STAT_HELD 0) = false) ∧ (cmd2.dev.bankSupplied 0 = true) := by decide +kernel
theorem witness_EdgesEntered :
        (run1.dev.powered = true) ∧ (run1.dev.admits Writer.host) ∧ ((run1.dev.setFld (Machine.Field.mk EDGE.WIN
      120 8) (BitVec.ofNat 8 (edgeChk eOn)).toNat).enterable (writerSource Writer.host) (edgeReq ((run1.dev.setFld
      (Machine.Field.mk EDGE.WIN 120 8) (BitVec.ofNat 8 (edgeChk eOn)).toNat).rd EDGE.WIN))) ∧
        ((run1.dev.setFld (Machine.Field.mk EDGE.WIN 120 8) (BitVec.ofNat 8 (edgeChk eOn + 1)).toNat).isHead =
      true → (edgeReq ((run1.dev.setFld (Machine.Field.mk EDGE.WIN 120 8) (BitVec.ofNat 8 (edgeChk eOn +
      1)).toNat).rd EDGE.WIN)).ttype = 2 → Writer.host = Writer.ring) ∧ ((run1.dev.setFld (Machine.Field.mk
      EDGE.WIN 120 8) (BitVec.ofNat 8 (edgeChk eOn + 1)).toNat).check6 (writerSource Writer.host) (edgeReq
      ((run1.dev.setFld (Machine.Field.mk EDGE.WIN 120 8) (BitVec.ofNat 8 (edgeChk eOn + 1)).toNat).rd EDGE.WIN))
      true = some Code.badCheck) ∧
    (run1.dev.enterable Source.core (edgeReq (BitVec.ofNat 128 (eOn + edgeChk eOn * 2 ^ 120)).toNat)) ∧
        (run1.dev.isHead = true → (edgeReq (BitVec.ofNat 128 (eOn + (edgeChk eOn + 1) * 2 ^ 120)).toNat).ttype ≠
      2) ∧ (run1.dev.check6 Source.core (edgeReq (BitVec.ofNat 128 (eOn + (edgeChk eOn + 1) * 2 ^ 120)).toNat)
      true = some Code.badCheck) ∧
        (run2.dev.powered = true) ∧ (run2.dev.admits Writer.host) ∧ ((run2.dev.setFld (Machine.Field.mk EDGE.WIN
      120 8) (BitVec.ofNat 8 (edgeChk eSect)).toNat).enterable (writerSource Writer.host) (edgeReq
      ((run2.dev.setFld (Machine.Field.mk EDGE.WIN 120 8) (BitVec.ofNat 8 (edgeChk eSect)).toNat).rd EDGE.WIN))) := by
  and_intros <;> first
    | decide +kernel
    | exact fun h => nomatch h
theorem witness_ScanReachesEveryMark :
    (scan1.dev.powered = true) ∧ (scan1.dev.inRun = true) ∧ (scan1.dev.flag RCK.STAT_SYNC = true) := by decide +kernel
theorem witness_FlushDiscards :
    (scan1.dev.powered = true) ∧ (scan1.dev.admits Writer.host) := by
  and_intros <;> first
    | decide +kernel
    | exact fun h => nomatch h
theorem witness_ChannelDrive :
        (drv.dev.powered = true) ∧ (drv.dev.isLead 0 = true) ∧ (drv.dev.slotNow 0 = true) ∧ ((drv.dev.chan
      0).pendMode = some 3) ∧
        ((pwm 512).dev.powered = true) ∧ ((pwm 512).dev.isLead 0 = true) ∧ ((pwm 512).dev.slotNow 0 = true) ∧
      (((pwm 512).dev.chan 0).pendMode = none) ∧ ((pwm 512).dev.fld (CH.CFG_MODE 0) = 1) ∧ ((pwm 512).dev.flag
      (CHS.STAT_CMD 0) = true) ∧ ((pwm 512).dev.mayConduct 0 = true) ∧ (((pwm 512).dev.chan 0).bankOn = true) ∧
      (((pwm 512).dev.chan 0).firstPulse = false) ∧
        ((pwm 0).dev.powered = true) ∧ ((pwm 0).dev.isLead 0 = true) ∧ ((pwm 0).dev.slotNow 0 = true) ∧ (((pwm
      0).dev.chan 0).pendMode = none) ∧ ((pwm 0).dev.fld (CH.CFG_MODE 0) = 1) ∧ ((pwm 0).dev.flag (CHS.STAT_CMD 0)
      = true) ∧ ((pwm 0).dev.mayConduct 0 = true) ∧ (((pwm 0).dev.chan 0).bankOn = true) ∧ (((pwm 0).dev.chan
      0).firstPulse = false) ∧
        ((pwm 1023).dev.powered = true) ∧ ((pwm 1023).dev.isLead 0 = true) ∧ ((pwm 1023).dev.slotNow 0 = true) ∧
      (((pwm 1023).dev.chan 0).pendMode = none) ∧ ((pwm 1023).dev.fld (CH.CFG_MODE 0) = 1) ∧ ((pwm 1023).dev.flag
      (CHS.STAT_CMD 0) = true) ∧ ((pwm 1023).dev.mayConduct 0 = true) ∧ (((pwm 1023).dev.chan 0).bankOn = true) ∧
      (((pwm 1023).dev.chan 0).firstPulse = false) ∧
        (first.dev.powered = true) ∧ (first.dev.isLead 0 = true) ∧ (first.dev.slotNow 0 = true) ∧ ((first.dev.chan
      0).pendMode = none) ∧ (first.dev.fld (CH.CFG_MODE 0) = 1) ∧ (first.dev.flag (CHS.STAT_CMD 0) = true) ∧
      (first.dev.mayConduct 0 = true) ∧ ((first.dev.chan 0).bankOn = true) ∧ ((first.dev.chan 0).firstPulse =
      true) ∧ (first.dev.flag (CHS.STAT_OUT 0) = true) ∧ ((first.dev.chan 0).pulse = some 30000000) ∧
      (first.dev.onTimeOf 0 = OnTime.ticks (match first.dev.onTimeOf 0 with | OnTime.ticks t => t | x => 0)) ∧
        (peak.dev.powered = true) ∧ (peak.dev.flag (CHS.STAT_PEAK (peak.dev.lead 0)) = true) ∧ ((peak.dev.chan
      (peak.dev.lead 0)).onAt + peak.dev.fld (CH.LIM_TPEAK (peak.dev.lead 0)) * 10000 ≤ peak.dev.clk) ∧
        (peak.dev.admits Writer.host) ∧ (peak.dev.safeHeld = false) ∧ (BitVec.getLsbD (4 : BitVec 16) 2 = true) ∧
      ((peak.dev.freshBits (CHS.STAT 0)).testBit 2 = false) ∧
        (peakF.dev.powered = true) ∧ (peakF.dev.admits Writer.host) ∧ (peakF.dev.safeHeld = false) ∧
      ((peakF.dev.freshBits (CHS.STAT 0)).testBit 2 = true) ∧
        (BitVec.getLsbD (1 : BitVec 8) 0 = true) ∧ (∀ (n : ChanId), (peak.dev.freshBits (CHS.STAT ↑n)).testBit 2 =
      false) := by
  and_intros <;> first
    | decide +kernel
    | exact fun h => nomatch h
    | exact forall_some (by decide +kernel)
theorem witness_LatencyLearns :
        ((learn 7).dev.powered = true) ∧ (((learn 7).dev.chan 0).search = some (true, 4000000)) ∧ (4000000 + 2 *
      ((((learn 7).dev.chan 0).lmaxOn) * 100) ≤ (learn 7).dev.now) ∧ ((learn 7).dev.flag (unlField 0 true) =
      false) ∧ (40000 < 2 * ((((learn 7).dev.chan 0).lmaxOn) * 100)) ∧
    (7 ≤ ((learn 7).dev.learnOf 0 true).fails) ∧
    (some 200000 = none ∨ ∃ v, some 200000 = some v ∧ 2 * ((((learn 7).dev.chan 0).lmaxOn) * 100) ≤ v) := by
  and_intros <;> first
    | decide +kernel
    | exact Or.inr ⟨_, rfl, by decide +kernel⟩
theorem witness_ChannelTrips :
        (inr.dev.powered = true) ∧ (inr.dev.bankLive (bankOf 0)) ∧ (inr.dev.fld (CHS.STAT_FAULT (inr.dev.lead 0))
      = 0) ∧ (inr.dev.isLead 0 = true) ∧ (inr.dev.out 0 = true) ∧ (inr.dev.fld (CH.CFG_MODE 0) ≤ 1) ∧
      ((inr.dev.chan 0).inrush = some 4000000) ∧ (4000000 + inr.dev.fld (CH.PROT_TINR 0) * msec ≤ inr.dev.clk) ∧
      (inr.dev.clk < 4000000 + bankLate (inr.dev.fld (CH.PROT_TINR 0) * msec)) ∧ (limitLow (50 * inr.dev.fld
      (CH.PROT_IINR 0) * (inr.dev.gang 0).length) ≤ BitVec.toNat (4000 : BitVec 16)) ∧
        (ovl.dev.powered = true) ∧ (ovl.dev.bankLive (bankOf 0)) ∧ (ovl.dev.fld (CHS.STAT_FAULT (ovl.dev.lead 0))
      = 0) ∧ (ovl.dev.isLead 0 = true) ∧ (ovl.dev.out 0 = true) ∧ (ovl.dev.fld (CH.CFG_MODE 0) ≤ 1) ∧
      (ovl.dev.inInrush 0 = false) ∧ (100 * ovl.dev.fld (CH.PROT_TFLT 0) ≤ (ovl.dev.chan 0).ftmr) ∧
    (shortLow (inr.dev.shortLimit 0) ≤ BitVec.toNat (9000 : BitVec 16)) ∧
    (inr.dev.bankSupplied (bankOf 0) = true) ∧ (165 ≤ 165) := by
  and_intros <;> first
    | decide +kernel
    | (unfold Device.bankLive; decide +kernel)
theorem witness_TripsEnd :
        ((trip1 TripState.latched).dev.powered = true) ∧ ((trip1 TripState.latched).dev.admits Writer.host) ∧
      (BitVec.getLsbD (1 : BitVec 64) 0 = true) ∧ (((trip1 TripState.latched).dev.freshBits (BANK.TRIPS
      0)).testBit 0 = false) ∧ (((trip1 TripState.latched).dev.chan (40 * 0 + 0)).trip ≠ TripState.none) ∧ ((trip1
      TripState.latched).dev.gangHot (40 * 0 + 0) = false) ∧
        ((trip1 TripState.waiting).dev.powered = true) ∧ (((trip1 TripState.waiting).dev.chan 0).trip =
      TripState.waiting) ∧ ((trip1 TripState.waiting).dev.gangHot 0 = false) ∧ (((trip1
      TripState.waiting).dev.chan 0).tripAt + (trip1 TripState.waiting).dev.rd BANK.RETRYBASE * msec * 2 ^ ((trip1
      TripState.waiting).dev.chan 0).retries ≤ (trip1 TripState.waiting).dev.clk) ∧ ((trip1
      TripState.waiting).dev.flag BANK.STRIKESTAT_ACTIVE = false) ∧ ((trip1 TripState.waiting).dev.flag
      (BANK.STAT_HELD (bankOf 0)) = false) ∧
        (trip2.dev.powered = true) ∧ ((trip2.dev.chan 0).trip = TripState.waiting) ∧ (trip2.dev.gangHot 0 = false)
      ∧ ((trip2.dev.chan 0).tripAt + trip2.dev.rd BANK.RETRYBASE * msec * 2 ^ (trip2.dev.chan 0).retries ≤
      trip2.dev.clk) ∧ (trip2.dev.flag BANK.STRIKESTAT_ACTIVE = false) ∧ (trip2.dev.flag (BANK.STAT_HELD (bankOf
      0)) = false) ∧
    ((trip2.dev.chan 0).watch = true) ∧ ((trip2.dev.chan 0).retryAt + second ≤ trip2.dev.clk) ∧
        (hot1.dev.powered = true) ∧ (149 < 150) ∧ (∀ k ∈ hot1.dev.gang (hot1.dev.lead 0), k ≠ 0 → (hot1.dev.chan
      k).hot = false) ∧ ((hot1.dev.chan (hot1.dev.lead 0)).clearPend = true) ∧ ((hot1.dev.chan (hot1.dev.lead
      0)).trip ≠ TripState.none) ∧
        (hot2.dev.powered = true) ∧ (∀ k ∈ hot2.dev.gang (hot2.dev.lead 0), k ≠ 0 → (hot2.dev.chan k).hot = false)
      ∧ ((hot2.dev.chan (hot2.dev.lead 0)).clearPend = false) ∧ ((hot2.dev.chan (hot2.dev.lead 0)).retryPend =
      true) ∧ ((hot2.dev.chan (hot2.dev.lead 0)).trip = TripState.waiting) ∧ (hot2.dev.retryDue (hot2.dev.lead 0)
      = true) ∧ (hot2.dev.otherHold (hot2.dev.lead 0) = false) := by
  and_intros <;> first
    | decide +kernel
    | exact fun h => nomatch h
theorem witness_OpenLoadsAndDamage :
        (open0.dev.powered = true) ∧ (open0.dev.flag (CH.PROT_OLOFF 0) = true) ∧ (open0.dev.bankSupplied (bankOf
      0) = true) ∧ (open0.dev.out 0 = false) ∧ ((open0.dev.chan 0).offAt + 5 * msec + 1000000 ≤ open0.dev.clk) ∧
      (10 * msec ≤ 1000000) ∧ ((750 : Int) ≤ BitVec.toInt (750 : BitVec 16)) ∧ (600 ≤ 1200) ∧ (1200 ≤ 3200) ∧
        (open1.dev.powered = true) ∧ (open1.dev.flag (CH.PROT_OLON 0) = true) ∧ (open1.dev.isLead 0 = true) ∧
      (open1.dev.flag (CHS.STAT_CMD 0) = true) ∧ (open1.dev.mayConduct 0 = true) ∧ (∀ (i held : Nat),
      Undercurrent.level 0 2000000 = Undercurrent.level i held → i < open1.dev.ucLimit 0 ∧ 20 * msec ≤ held ∧
      open1.dev.fld (CH.CFG_MODE 0) = 0 ∧ open1.dev.out 0 = true ∧ (open1.dev.chan 0).onAt + 5 * msec + held ≤
      open1.dev.clk) ∧ (∀ (is : List Nat), Undercurrent.level 0 2000000 = Undercurrent.pulses is → is.length = 8 ∧
      (∀ i ∈ is, i < open1.dev.ucLimit 0) ∧ open1.dev.fld (CH.CFG_MODE 0) = 1 ∧ 8 ≤ (open1.dev.chan 0).pulses) ∧
        (open2.dev.powered = true) ∧ (open2.dev.flag (CH.PROT_OLON 0) = true) ∧ (open2.dev.isLead 0 = true) ∧
      (open2.dev.flag (CHS.STAT_CMD 0) = true) ∧ (open2.dev.mayConduct 0 = true) ∧ (∀ (i held : Nat),
      Undercurrent.pulses [0, 0, 0, 0, 0, 0, 0, 0] = Undercurrent.level i held → i < open2.dev.ucLimit 0 ∧ 20 *
      msec ≤ held ∧ open2.dev.fld (CH.CFG_MODE 0) = 0 ∧ open2.dev.out 0 = true ∧ (open2.dev.chan 0).onAt + 5 *
      msec + held ≤ open2.dev.clk) ∧ (∀ (is : List Nat), Undercurrent.pulses [0, 0, 0, 0, 0, 0, 0, 0] =
      Undercurrent.pulses is → is.length = 8 ∧ (∀ i ∈ is, i < open2.dev.ucLimit 0) ∧ open2.dev.fld (CH.CFG_MODE 0)
      = 1 ∧ 8 ≤ (open2.dev.chan 0).pulses) ∧
        (open0.dev.bankLive (bankOf 0)) ∧ (open0.dev.fld (CHS.STAT_FAULT (open0.dev.lead 0)) = 0) ∧ (open0.dev.fld
      (CH.PROT_DMG 0) % 2 = 1) ∧ (open0.dev.isLead 0 = true) ∧ ((open0.dev.chan 0).offAt + 200000 ≤ open0.dev.clk)
      ∧ (2 * msec ≤ 200000) ∧ ((5 : Int) * ↑300 < (2 : Int) * BitVec.toInt (1000 : BitVec 16)) ∧
        (open1.dev.bankLive (bankOf 0)) ∧ (open1.dev.fld (CHS.STAT_FAULT (open1.dev.lead 0)) = 0) ∧ (open1.dev.fld
      (CH.PROT_DMG (open1.dev.lead 0)) / 2 = 1) ∧ (open1.dev.out 0 = true) ∧ ((open1.dev.chan (open1.dev.lead
      0)).dispatch = some 4979000) ∧ (4979000 + 20000 ≤ open1.dev.clk) ∧ (open1.dev.clk < 4979000 + bankLate
      20000) := by
  and_intros <;> first
    | decide +kernel
    | (unfold Device.bankLive; decide +kernel)
    | (intro _ _ h; cases h; decide +kernel)
    | (intro _ h; cases h; decide +kernel)
    | (intro _ _ h; cases h; done)
    | (intro _ h; cases h; done)
theorem witness_BankIsolation :
        ((iso IsoStep.none).dev.powered = true) ∧ ((iso IsoStep.none).dev.admits Writer.host) ∧ ((iso
      IsoStep.none).dev.flag (BANK.STAT_ISO 0) = false) ∧ (((iso IsoStep.none).dev.bank 0).iso = IsoStep.none) ∧
        (noIso.dev.powered = true) ∧ (noIso.dev.admits Writer.host) ∧ (noIso.dev.flag (BANK.STAT_ISO 0) = false) ∧
      ((noIso.dev.bank 0).iso = IsoStep.none) ∧
        ((iso (IsoStep.opening true)).dev.powered = true) ∧ (((iso (IsoStep.opening true)).dev.bank 0).iso =
      IsoStep.opening true) ∧ (((iso (IsoStep.opening true)).dev.bank 0).closePend = none) ∧
        (damaged.dev.powered = true) ∧ (damaged.dev.admits Writer.host) ∧ ((damaged.dev.bank 0).iso =
      IsoStep.none) ∧ (damaged.dev.flag (BANK.STAT_ISO 0) = true) ∧ ((damaged.dev.bank 0).link = true) ∧
      (damaged.dev.flag (BANK.STAT_NOISO 0) = false) ∧ (damaged.dev.bankDamaged 0 = true) ∧
        ((isoD IsoStep.none).dev.powered = true) ∧ ((isoD IsoStep.none).dev.admits Writer.host) ∧ (((isoD
      IsoStep.none).dev.bank 0).iso = IsoStep.none) ∧ ((isoD IsoStep.none).dev.flag (BANK.STAT_ISO 0) = true) ∧
      (((isoD IsoStep.none).dev.bank 0).link = true) ∧ ((isoD IsoStep.none).dev.bankDamaged 0 = false) ∧ (∀ t ∈
      ((isoD IsoStep.none).dev.bank 0).tripRec, t.2.1 ≠ 5) := by
  and_intros <;> first
    | decide +kernel
    | exact fun h => nomatch h
theorem witness_Strike :
        (live0.dev.powered = true) ∧ (live0.dev.struckNow = false) ∧ (live0.dev.flag BANK.STRIKESTAT_ACTIVE =
      false) ∧ (live0.dev.flag BANK.STRIKESTAT_PIN = false) ∧
    (live0.dev.admits Writer.host) ∧
    (now6.dev.powered = true) ∧ (now6.dev.admits Writer.host) ∧ (now6.dev.struckNow = true) ∧
    (now6.dev.flag BANK.STRIKESTAT_PIN = false) ∧
        ((strk true).dev.powered = true) ∧ ((strk true).dev.admits Writer.host) ∧ ((strk true).dev.flag
      BANK.STRIKESTAT_PIN = true) ∧
        ((strk false).dev.powered = true) ∧ ((strk false).dev.admits Writer.host) ∧ ((strk false).dev.flag
      BANK.STRIKESTAT_PIN = false) ∧ ((strk false).dev.struckNow = false) ∧ ((strk false).dev.flag
      BANK.STRIKESTAT_ACTIVE = true) := by
  and_intros <;> first
    | decide +kernel
    | exact fun h => nomatch h

end W1

namespace W2

def travel (src : RckSource) : State := st fun d => (head (inRun d)).modRck fun r => { r with src := src }
def travelF : State := { travel .radar with dev := ((travel .radar).dev.setFld RCK.FILT_TF0 5).setFld RCK.FILT_TFR 5 }
def radarRev : State := { travel .radar with dev := ((travel .radar).dev.raise RCK.CFG_RADDIR).raise RCK.HDIR_REVERSE }
def hostSrc : State := st fun d => (((head (inRun d)).setFld RCK.CFG_SRC 4).setFld RCK.CFG_YAWSRC 2).modRck fun r => { r with src := .host, hspeedAt := some 0, hyawAt := some 0, vEst := 5, tide := 500000000 }
def hostOk : State := { hostSrc with dev := (hostSrc.dev.lower RCK.STAT_SPEED_STALE).lower RCK.STAT_YAW_STALE }
def hostNo : State := { hostOk with dev := hostOk.dev.setFld RCK.CFG_FALLBK 7 }
def encF : State := st fun d => (head (inRun d)).modRck fun r => { r with src := .mean, tide := 100000000, stamps1 := [⟨99999000, 2 ^ 34⟩, ⟨99990000, 2 ^ 34⟩], vEnc1 := 500000, fast1 := some 1000 }
def encR : State := st fun d => (head (inRun d)).modRck fun r => { r with src := .solo 1, failed := some 0, resumed := true }
def hd : State := st fun d => (head (ringUp d)).modRck fun r => { r with due := 5000000 }
def beaconMsg : Msg := { type := .beacon, addr := 9, data := [0,0, 3,0, 2] ++ List.replicate 31 0, bcast := true, stamp := 4999000, age := 1000 }
def memb (age : Nat) : State := st fun d => ((synced (ringUp d)).modRing fun r => { r with inbox := [{ beaconMsg with age := age }] }).modRck fun r => { r with tL := 4999000, tRecv := 4999000 }
def membH : State := { memb 1000 with dev := head (memb 1000).dev }
def fly (n : Nat) (role : Nat) : State := st fun d => (((synced (ringUp d)).setFld RCK.CFG_ROLE role).raise RCK.STAT_FLYWHEEL).modRck fun r => { r with tL := 4000000, tRecv := 4000000, missing := n, tide := 500000000 }
def port (st_ : Nat) : State := st fun d => (((inRun d).setFld (RING.PSTAT_STATE 0) st_).wr RING.ADDR 5)
def comma : BitVec 10 := 0b0011111010
def idle : Bool → Nat → List (BitVec 10)
  | _, 0 => []
  | plus, n + 1 => let k : BitVec 10 := if plus then ~~~ comma else comma
                   let p := groupRd plus k
                   let q : BitVec 10 := BitVec.ofNat 10 (dataGroup p 0xC5)
                   k :: q :: idle (groupRd p q) n
def silent : State := { port portUp with dev := ((port portUp).dev.modRck fun r => { r with tide := 300000 }).modPort .east fun x => { x with helloRx := 200000 } }
def enab : State := { port portDown with dev := (port portDown).dev.raise RING.LCFG_ENE }
def hello (ok : Bool) (n : Nat) : State := { port portUp with dev := (port portUp).dev.modPort .east fun x => { x with rx := [.hello ok 1 7 1 1], badRx := n } }
def pings (m : LinkMsg) (n : Nat) (st_ : Nat) : State := { port st_ with dev := ((port st_).dev.raise (RING.PSTAT_PEERRX 0)).modPort .east fun x => { x with rx := [m], helloOk := true, results := List.replicate n 100, pingT1 := some 4000000, pingOut := some n } }
def cellOf (type src seg hop : Nat) (link : Bool) (pay : List Nat) : CellBits := BitVec.ofNat 160 (cellBytes link src type seg true 0xFFF 1 hop 1 pay)
def arr (v m : Nat) : Arrival := ⟨v, 0, m, 50⟩
def deg (n : Nat) : State := { port portUp with dev := (((port portUp).dev.setFld RING.LCFG_DEGTHR 10).modPort .east fun x => { x with crcRise := n }).modRing fun r => { r with degSec := 3, second := 4 } }
def both : State := st fun d => ((((inRun d).setFld (RING.PSTAT_STATE 0) portUp).setFld (RING.PSTAT_STATE 1) portUp).wr RING.ADDR 5)
def fw : State := { both with dev := (both.dev.modPort .west fun x => { x with fwd := [{ cell := cellOf 6 9 0 1 false [] }, { cell := cellOf 6 9 1 1 false [], live := some 30 }], out := 5, outLive := some 30 }) }
def lk : State := { both with dev := (both.dev.modPort .west fun x => { x with linkq := [.hello] }) }
def strikeTx : TxMsg := { msg := { type := .strike, addr := 0xFFF, data := List.replicate 9 0 }, segE := none, segW := some 0 }
def own : State := { fw with dev := (fw.dev.modRing fun r => { r with txq := [strikeTx] }).lower RING.LSTAT_QUIET }
def readTx : TxMsg := { msg := { type := .read, addr := 9, data := List.replicate 14 1 }, segE := some 1, segW := some 0 }
def own2 : State := { both with dev := (both.dev.modRing fun r => { r with txq := [readTx] }).lower RING.LSTAT_QUIET }
theorem witness_CountedDistance :
        ((travel (RckSource.enc (0 : Fin 2))).dev.powered = true) ∧ (1 < (travel (RckSource.enc (0 : Fin
      2))).dev.encFilter 0) ∧
    (travelF.dev.powered = true) ∧ (1 < travelF.dev.encFilter 0) ∧
    ((travel (RckSource.enc (0 : Fin 2))).dev.encFilter 0 ≤ 20) ∧
    (EncStep.aLeadsB ≠ EncStep.illegal) ∧
        ((travel (RckSource.enc (1 : Fin 2))).dev.powered = true) ∧ ((travel (RckSource.enc (1 : Fin
      2))).dev.encFilter 1 ≤ 63) ∧ (EncStep.bLeadsA ≠ EncStep.illegal) ∧
    (1 < travelF.dev.fld RCK.FILT_TFR) ∧
    ((travel RckSource.radar).dev.powered = true) ∧ ((travel RckSource.radar).dev.fld RCK.FILT_TFR ≤ 63) ∧
    (radarRev.dev.powered = true) ∧ (radarRev.dev.fld RCK.FILT_TFR ≤ 63) := by decide +kernel
theorem witness_HostReckoningWrites :
    (hostSrc.dev.powered = true) ∧ (hostSrc.dev.admits Writer.host) ∧
    (BitVec.getLsbD (1 : BitVec 8) 0 = true) := by
  and_intros <;> first
    | decide +kernel
    | exact fun h => nomatch h
theorem witness_SourcesStaleAndLost :
        (hostOk.dev.powered = true) ∧ (hostOk.dev.hostSource = true ∨ hostOk.dev.rck.src = RckSource.host) ∧
      (hostOk.dev.past hostOk.dev.rck.hspeedAt (hostOk.dev.rd RCK.HTO * msec) = true) ∧ (hostOk.dev.flag
      RCK.STAT_SPEED_STALE = false) ∧
        (hostOk.dev.fld RCK.CFG_YAWSRC = 2) ∧ (hostOk.dev.past hostOk.dev.rck.hyawAt (hostOk.dev.rd RCK.HTO *
      msec) = true) ∧ (hostOk.dev.flag RCK.STAT_YAW_STALE = false) ∧
        (hostOk.dev.rck.src = RckSource.host) ∧ (hostOk.dev.rck.srcLost = false) ∧ (hostOk.dev.past
      hostOk.dev.rck.hspeedAt ((hostOk.dev.rd RCK.HTO + hostOk.dev.rd RCK.FLYTO) * msec) = true) ∧
        (hostNo.dev.powered = true) ∧ (hostNo.dev.rck.src = RckSource.host) ∧ (hostNo.dev.rck.srcLost = false) ∧
      (hostNo.dev.past hostNo.dev.rck.hspeedAt ((hostNo.dev.rd RCK.HTO + hostNo.dev.rd RCK.FLYTO) * msec) = true)
      ∧
        (encF.dev.powered = true) ∧ (encF.dev.rigged = true) ∧ (encF.dev.rck.failed ≠ some (0 : Fin 2)) ∧
      (encF.dev.silentFrom (0 : Fin 2) = some 1000) ∧ (1000 + 500 * msec ≤ encF.dev.now) ∧
        (encR.dev.powered = true) ∧ (encR.dev.admits Writer.host) ∧ (BitVec.getLsbD (1 : BitVec 8) 0 = true) ∧
      (encR.dev.rck.failed ≠ none) ∧ (encR.dev.rck.resumed = true) ∧
    (encR.dev.isHead = true) ∧ (encR.dev.speedNow = 0) := by
  and_intros <;> first
    | decide +kernel
    | exact fun h => nomatch h
theorem witness_Beacons :
    (hd.dev.powered = true) ∧ (hd.dev.isHead = true) ∧ (hd.dev.rck.due ≤ hd.dev.now) ∧
        ((memb 9999999).dev.powered = true) ∧ ((memb 9999999).dev.onTime = true) ∧ ((memb 9999999).dev.takeMsg
      MsgType.beacon = some ((taken (memb 9999999) MsgType.beacon).1, (taken (memb 9999999) MsgType.beacon).2)) ∧
      ((memb 9999999).dev.rd RCK.AMAX * usec ≤ (taken (memb 9999999) MsgType.beacon).1.age) ∧
        ((memb 1000).dev.powered = true) ∧ ((memb 1000).dev.onTime = true) ∧ ((memb 1000).dev.takeMsg
      MsgType.beacon = some ((taken (memb 1000) MsgType.beacon).1, (taken (memb 1000) MsgType.beacon).2)) ∧
      ((taken (memb 1000) MsgType.beacon).1.age < (memb 1000).dev.rd RCK.AMAX * usec) ∧ ((memb 1000).dev.isHead =
      false) ∧ ((memb 1000).dev.rd RCK.EPOCH ≤ fieldAt (taken (memb 1000) MsgType.beacon).1.data 2 2) ∧
        (membH.dev.powered = true) ∧ (membH.dev.onTime = true) ∧ (membH.dev.takeMsg MsgType.beacon = some ((taken
      membH MsgType.beacon).1, (taken membH MsgType.beacon).2)) ∧ ((taken membH MsgType.beacon).1.age <
      membH.dev.rd RCK.AMAX * usec) ∧ (membH.dev.isHead = true) ∧ (membH.dev.rd RCK.EPOCH < fieldAt (taken membH
      MsgType.beacon).1.data 2 2) ∧
        ((fly 3 0).dev.powered = true) ∧ ((fly 3 0).dev.flag RCK.STAT_TIDE_LOCK = true) ∧ ((fly 3 0).dev.isHead =
      false) ∧ ((fly 3 0).dev.rck.tL + ((fly 3 0).dev.rck.missing + 1) * 25000 + (fly 3 0).dev.rd RCK.AMAX * usec
      ≤ (fly 3 0).dev.now) ∧ ((fly 3 0).dev.isStandby = false ∨ (fly 3 0).dev.rck.missing < 3 ∨ (fly 3
      0).dev.suspended = true) ∧
        ((fly 2 2).dev.powered = true) ∧ ((fly 2 2).dev.flag RCK.STAT_TIDE_LOCK = true) ∧ ((fly 2 2).dev.isHead =
      false) ∧ ((fly 2 2).dev.rck.tL + ((fly 2 2).dev.rck.missing + 1) * 25000 + (fly 2 2).dev.rd RCK.AMAX * usec
      ≤ (fly 2 2).dev.now) ∧ ((fly 2 2).dev.isStandby = false ∨ (fly 2 2).dev.rck.missing < 3 ∨ (fly 2
      2).dev.suspended = true) ∧
        ((fly 3 2).dev.powered = true) ∧ ((fly 3 2).dev.flag RCK.STAT_TIDE_LOCK = true) ∧ ((fly 3 2).dev.isHead =
      false) ∧ ((fly 3 2).dev.rck.tL + ((fly 3 2).dev.rck.missing + 1) * 25000 + (fly 3 2).dev.rd RCK.AMAX * usec
      ≤ (fly 3 2).dev.now) ∧ ((fly 3 2).dev.isStandby = true) ∧ (3 ≤ (fly 3 2).dev.rck.missing) ∧ ((fly 3
      2).dev.suspended = false) ∧
        ((fly 3 0).dev.flag RCK.STAT_FLYWHEEL = true) ∧ ((fly 3 0).dev.suspended = false) ∧ ((fly 3
      0).dev.rck.tRecv + (fly 3 0).dev.rd RCK.FLYTO * msec ≤ (fly 3 0).dev.now) := by decide +kernel
theorem witness_PortStates :
        ((port portSync).dev.powered = true) ∧ ((port portSync).dev.portState Port.east = portSync ∨ (port
      portSync).dev.portState Port.east = portUp) ∧ (loses false (List.replicate 32 (0 : BitVec 10)) = true) ∧
        ((port portUp).dev.powered = true) ∧ ((port portUp).dev.portState Port.east = portSync ∨ (port
      portUp).dev.portState Port.east = portUp) ∧
        (silent.dev.powered = true) ∧ (silent.dev.portState Port.east = portSync ∨ silent.dev.portState Port.east
      = portUp) ∧ ((silent.dev.port Port.east).helloRx + msec ≤ silent.dev.now) ∧
    ((port portUp).dev.admits Writer.host) ∧ (BitVec.getLsbD (1 : BitVec 8) (PortIx Port.east) = true) ∧
        (enab.dev.powered = true) ∧ (enab.dev.portState Port.east = portDown) ∧ (enab.dev.rck.pll = true) ∧
      (enab.dev.portEnabled Port.east = true) ∧ (acquires false (idle false 33) = true) ∧
        ((port portUp).dev.portState Port.east = portSync ∨ (port portUp).dev.isUp Port.east = true) ∧ ((((port
      portUp).dev.port Port.east).helloTx + if (port portUp).dev.isUp Port.east = true then 25000 else 1000) ≤
      (port portUp).dev.now) ∧ (List.find? ((port portUp).dev.linkReady Port.east) ((port portUp).dev.port
      Port.east).linkq = none) ∧ ((port portUp).dev.ownTurn Port.east false = true) ∧
        ((port portSync).dev.portState Port.east = portSync ∨ (port portSync).dev.isUp Port.east = true) ∧
      ((((port portSync).dev.port Port.east).helloTx + if (port portSync).dev.isUp Port.east = true then 25000
      else 1000) ≤ (port portSync).dev.now) ∧ (List.find? ((port portSync).dev.linkReady Port.east) ((port
      portSync).dev.port Port.east).linkq = none) ∧ ((port portSync).dev.ownTurn Port.east false = true) ∧
    ((port portUp).dev.ownTurn Port.east true = false) ∧
        ((hello true 2).dev.powered = true) ∧ (((hello true 2).dev.port Port.east).rx = [LinkMsg.hello true 1 7 1
      1]) ∧
        ((hello false 1).dev.powered = true) ∧ (((hello false 1).dev.port Port.east).rx = [LinkMsg.hello false 1 7
      1 1]) ∧ (((hello false 1).dev.port Port.east).badRx < 2) ∧
        ((hello false 2).dev.powered = true) ∧ (((hello false 2).dev.port Port.east).rx = [LinkMsg.hello false 1 7
      1 1]) ∧ (2 ≤ ((hello false 2).dev.port Port.east).badRx) ∧ ((hello false 2).dev.portState Port.east =
      portSync ∨ (hello false 2).dev.isUp Port.east = true) := by
  and_intros <;> first
    | decide +kernel
    | exact fun h => nomatch h
theorem witness_PortsMeasure :
        ((pings (LinkMsg.ping 0 4999000) 0 portSync).dev.powered = true) ∧ ((pings (LinkMsg.ping 0 4999000) 0
      portSync).dev.isUp Port.east = true ∨ (pings (LinkMsg.ping 0 4999000) 0 portSync).dev.portState Port.east =
      portSync ∧ ((pings (LinkMsg.ping 0 4999000) 0 portSync).dev.port Port.east).helloOk = true) ∧ ((pings
      (LinkMsg.ping 0 4999000) 0 portSync).dev.pingDue Port.east ≤ (pings (LinkMsg.ping 0 4999000) 0
      portSync).dev.now) ∧ ((pings (LinkMsg.ping 0 4999000) 0 portSync).dev.ownTurn Port.east false = true) ∧
      (List.find? ((pings (LinkMsg.ping 0 4999000) 0 portSync).dev.linkReady Port.east) ((pings (LinkMsg.ping 0
      4999000) 0 portSync).dev.port Port.east).linkq = none) ∧
        ((pings (LinkMsg.ping 0 4999000) 0 portUp).dev.powered = true) ∧ ((pings (LinkMsg.ping 0 4999000) 0
      portUp).dev.isUp Port.east = true ∨ (pings (LinkMsg.ping 0 4999000) 0 portUp).dev.portState Port.east =
      portSync ∧ ((pings (LinkMsg.ping 0 4999000) 0 portUp).dev.port Port.east).helloOk = true) ∧ ((pings
      (LinkMsg.ping 0 4999000) 0 portUp).dev.pingDue Port.east ≤ (pings (LinkMsg.ping 0 4999000) 0
      portUp).dev.now) ∧ ((pings (LinkMsg.ping 0 4999000) 0 portUp).dev.ownTurn Port.east false = true) ∧
      (List.find? ((pings (LinkMsg.ping 0 4999000) 0 portUp).dev.linkReady Port.east) ((pings (LinkMsg.ping 0
      4999000) 0 portUp).dev.port Port.east).linkq = none) ∧
        (((pings (LinkMsg.ping 0 4999000) 0 portSync).dev.port Port.east).rx = [LinkMsg.ping 0 4999000]) ∧
      (((pings (LinkMsg.ping 0 4999000) 0 portSync).dev.port Port.east).linkq.contains (LinkOut.echo 0 4999000) =
      false) ∧ ((pings (LinkMsg.ping 0 4999000) 0 portSync).dev.linkReady Port.east (LinkOut.echo 0 4999000) =
      true) ∧
        ((pings (LinkMsg.ping 0 4999000) 0 portSync).dev.ownTurn Port.east true = false ∨ (pings (LinkMsg.ping 0
      4999000) 0 portSync).dev.linkReady Port.east (LinkOut.echo 0 4999000) = false) ∧
        ((pings (LinkMsg.echo 3 50 4000150) 3 portSync).dev.powered = true) ∧ (((pings (LinkMsg.echo 3 50 4000150)
      3 portSync).dev.port Port.east).rx = [LinkMsg.echo 3 50 4000150]) ∧ (((pings (LinkMsg.echo 3 50 4000150) 3
      portSync).dev.port Port.east).pingT1 = some 4000000) ∧ (((pings (LinkMsg.echo 3 50 4000150) 3
      portSync).dev.port Port.east).pingOut = some 3) ∧ (((↑4000150 - ↑4000000 - ↑50) :: ((pings (LinkMsg.echo 3
      50 4000150) 3 portSync).dev.port Port.east).results).length < 16) ∧
        ((pings (LinkMsg.echo 15 50 4000150) 15 portSync).dev.powered = true) ∧ (((pings (LinkMsg.echo 15 50
      4000150) 15 portSync).dev.port Port.east).rx = [LinkMsg.echo 15 50 4000150]) ∧ (((pings (LinkMsg.echo 15 50
      4000150) 15 portSync).dev.port Port.east).pingT1 = some 4000000) ∧ (((pings (LinkMsg.echo 15 50 4000150) 15
      portSync).dev.port Port.east).pingOut = some 15) ∧ (16 ≤ ((↑4000150 - ↑4000000 - ↑50) :: ((pings
      (LinkMsg.echo 15 50 4000150) 15 portSync).dev.port Port.east).results).length) ∧ ((pings (LinkMsg.echo 15 50
      4000150) 15 portSync).dev.portState Port.east = portSync) ∧ (∀ x ∈ (↑4000150 - ↑4000000 - ↑50) :: ((pings
      (LinkMsg.echo 15 50 4000150) 15 portSync).dev.port Port.east).results, ∀ y ∈ (↑4000150 - ↑4000000 - ↑50) ::
      ((pings (LinkMsg.echo 15 50 4000150) 15 portSync).dev.port Port.east).results, x - y ≤ (8 : Int)) := by decide +kernel
theorem witness_CellsCounted :
        ((port portUp).dev.powered = true) ∧ ((port portUp).dev.portState Port.east = portSync ∨ (port
      portUp).dev.isUp Port.east = true) ∧ (startsCell (cellOf 6 9 0 1 false []) = true) ∧ ((arr 2 0).violations ≠
      0) ∧
    ((arr 0 3).violations = 0) ∧ ((arr 0 3).missing ≠ 0) ∧
        (startsCell (sealCell true (BitVec.toNat (cellOf 6 9 0 1 false []))) = true) ∧ ((arr 0 0).violations = 0)
      ∧ ((arr 0 0).missing = 0) ∧ ((cellFields (BitVec.toNat (sealCell true (BitVec.toNat (cellOf 6 9 0 1 false
      []))))).crc = (cellFields (BitVec.toNat (sealCell true (BitVec.toNat (cellOf 6 9 0 1 false []))))).crcCalc
      ^^^ 65535) ∧
        (startsCell (cellOf 6 9 0 1 false [] ^^^ (256 : CellBits)) = true) ∧ ((cellFields (BitVec.toNat (cellOf 6
      9 0 1 false [] ^^^ (256 : CellBits)))).crc ≠ (cellFields (BitVec.toNat (cellOf 6 9 0 1 false [] ^^^ (256 :
      CellBits)))).crcCalc ^^^ 65535) ∧ ((cellFields (BitVec.toNat (cellOf 6 9 0 1 false [] ^^^ (256 :
      CellBits)))).crc ≠ (cellFields (BitVec.toNat (cellOf 6 9 0 1 false [] ^^^ (256 : CellBits)))).crcCalc ∨
      ¬((cellFields (BitVec.toNat (cellOf 6 9 0 1 false [] ^^^ (256 : CellBits)))).link = true ↔ (cellFields
      (BitVec.toNat (cellOf 6 9 0 1 false [] ^^^ (256 : CellBits)))).type = 0)) ∧
        ((cellFields (BitVec.toNat (cellOf 6 9 0 1 false []))).crc = (cellFields (BitVec.toNat (cellOf 6 9 0 1
      false []))).crcCalc) ∧ ((cellFields (BitVec.toNat (cellOf 6 9 0 1 false []))).link = true ↔ (cellFields
      (BitVec.toNat (cellOf 6 9 0 1 false []))).type = 0) ∧
        ((port portSync).dev.powered = true) ∧ ((port portSync).dev.portState Port.east = portSync ∨ (port
      portSync).dev.isUp Port.east = true) ∧ (startsCell (cellOf 0 9 0 1 true [0, 1, 7]) = true) ∧ ((cellFields
      (BitVec.toNat (cellOf 0 9 0 1 true [0, 1, 7]))).crc = (cellFields (BitVec.toNat (cellOf 0 9 0 1 true [0, 1,
      7]))).crcCalc) ∧ ((cellFields (BitVec.toNat (cellOf 0 9 0 1 true [0, 1, 7]))).link = true ↔ (cellFields
      (BitVec.toNat (cellOf 0 9 0 1 true [0, 1, 7]))).type = 0) ∧
        (startsCell (cellOf 2 9 0 1 false [1]) = true) ∧ ((cellFields (BitVec.toNat (cellOf 2 9 0 1 false
      [1]))).crc = (cellFields (BitVec.toNat (cellOf 2 9 0 1 false [1]))).crcCalc) ∧ ((cellFields (BitVec.toNat
      (cellOf 2 9 0 1 false [1]))).link = true ↔ (cellFields (BitVec.toNat (cellOf 2 9 0 1 false [1]))).type = 0)
      ∧
        ((deg 11).dev.powered = true) ∧ ((deg 11).dev.ring.degSec < (deg 11).dev.ring.second) ∧ ((deg 11).dev.fld
      RING.LCFG_DEGTHR < ((deg 11).dev.port Port.east).crcRise) ∧ ((deg 11).dev.flag (RING.PSTAT_DEGRADED (PortIx
      Port.east)) = false) ∧
        ((deg 10).dev.powered = true) ∧ ((deg 10).dev.ring.degSec < (deg 10).dev.ring.second) ∧ (((deg
      10).dev.port Port.east).crcRise ≤ (deg 10).dev.fld RING.LCFG_DEGTHR) := by decide +kernel
theorem witness_CellsForwarded :
        (both.dev.powered = true) ∧ (both.dev.upFor Port.east decideTicks = true) ∧ (startsCell (cellOf 6 5 0 1
      false []) = true) ∧ ((cellFields (BitVec.toNat (cellOf 6 5 0 1 false []))).link = false) ∧ (both.dev.ownSrc
      (cellFields (BitVec.toNat (cellOf 6 5 0 1 false []))).src = true) ∧
        (startsCell (cellOf 6 9 0 1 false []) = true) ∧ ((cellFields (BitVec.toNat (cellOf 6 9 0 1 false
      []))).link = false) ∧ (both.dev.ownSrc (cellFields (BitVec.toNat (cellOf 6 9 0 1 false []))).src = false) ∧
      (both.dev.isUp (otherPort Port.east) = true) ∧ ((cellFields (BitVec.toNat (cellOf 6 9 0 1 false []))).hop +
      1 < both.dev.rd RING.HOPLIM) ∧
        (startsCell (cellOf 6 9 0 4095 false []) = true) ∧ ((cellFields (BitVec.toNat (cellOf 6 9 0 4095 false
      []))).link = false) ∧ (both.dev.ownSrc (cellFields (BitVec.toNat (cellOf 6 9 0 4095 false []))).src = false)
      ∧ (both.dev.rd RING.HOPLIM ≤ (cellFields (BitVec.toNat (cellOf 6 9 0 4095 false []))).hop + 1) ∧
    (fw.dev.powered = true) ∧ (fw.dev.portState Port.east = portSync ∨ fw.dev.isUp Port.east = true) ∧
        (lk.dev.powered = true) ∧ (lk.dev.portState Port.west = portSync ∨ lk.dev.isUp Port.west = true) ∧
      (lk.dev.ownTurn Port.west false = true) ∧ (List.find? (lk.dev.linkReady Port.west) (lk.dev.port
      Port.west).linkq = some LinkOut.hello) ∧
        (fw.dev.isUp Port.west = true) ∧ (fw.dev.ring.evq = []) ∧ ((fw.dev.ring.txq.all fun m => m.msg.type !=
      MsgType.strike) = true) ∧ ((fw.dev.port Port.west).freeAt ≤ fw.dev.clk + 32) ∧ (List.find? (fun y =>
      isStrikeCell y.cell) (fw.dev.port Port.west).fwd = some (Fwd.mk (cellOf 6 9 0 1 false []) none) ∨ List.find?
      (fun y => isStrikeCell y.cell) (fw.dev.port Port.west).fwd = none ∧ (fw.dev.port Port.west).fwd.head? = some
      (Fwd.mk (cellOf 6 9 0 1 false []) none)) ∧
        (own.dev.powered = true) ∧ (own.dev.isUp Port.west = true) ∧ (own.dev.ring.evq = []) ∧ (own.dev.ring.txq =
      [strikeTx]) ∧ (strikeTx.msg.type = MsgType.strike) ∧ (strikeTx.seg Port.west = some 0) ∧ (strikeTx.undecided
      = false) ∧ (strikeTx.ahead Port.west = 0) ∧ (own.dev.maySend MsgType.strike strikeTx.msg.data = true) ∧
      (own.dev.flag RING.LSTAT_QUIET = false) ∧ ((own.dev.port Port.west).freeAt ≤ own.dev.clk) ∧
        (own2.dev.powered = true) ∧ (own2.dev.isUp Port.west = true) ∧ (own2.dev.ring.evq = []) ∧
      (own2.dev.ring.txq = [readTx]) ∧ (readTx.msg.type ≠ MsgType.strike) ∧ (readTx.msg.type ≠ MsgType.write) ∧
      (readTx.seg Port.west = some 0) ∧ (readTx.undecided = false) ∧ (own2.dev.maySend readTx.msg.type
      readTx.msg.data = true) ∧ (own2.dev.flag RING.LSTAT_QUIET = false) ∧ (readTx.fresh Port.west = false ∨
      own2.dev.budgetLeft = true) ∧ (own2.dev.ownTurn Port.west false = true) ∧ (List.find? (own2.dev.linkReady
      Port.west) (own2.dev.port Port.west).linkq = none) ∧
        (own2.dev.isUp Port.east = true) ∧ (readTx.seg Port.east = some 1) ∧ (readTx.fresh Port.east = false ∨
      own2.dev.budgetLeft = true) ∧ (own2.dev.ownTurn Port.east false = true) ∧ (List.find? (own2.dev.linkReady
      Port.east) (own2.dev.port Port.east).linkq = none) := by
  and_intros <;> first
    | decide +kernel

end W2

namespace W3

def edgePay : List Nat := 1 :: toBytes 16 (edgeBits 1000000 1 0 0 0 0 0 + edgeChk (edgeBits 1000000 1 0 0 0 0 0) * 2 ^ 120)
def edgeM : State := boxed (fun d => synced (bank0r d)) { type := .edge, addr := 9, data := edgePay }
def edge16 (f q : Nat) : List Nat := toBytes 16 (edgeBits f q 0 0 0 0 0 + edgeChk (edgeBits f q 0 0 0 0 0) * 2 ^ 120)
def edgeM2 : State := boxed (fun d => synced (bank0r d)) { type := .edge, addr := 9, data := 2 :: edge16 1000000 1 ++ edge16 2000000 2 }
def strikeM (rx : Bool) : State := boxed (fun d => d.setFlag BANK.STRIKECFG_RINGRX rx) { type := .strike, addr := 9, data := List.replicate 9 0 }
def eventM : State := boxed head { type := .event, addr := 9, data := List.replicate 18 1 }
def part1 : Partial := { src := 9, seq := 1, type := .edge, port := none, segs := [], last := none, since := 4000000 }
def parts : State := st fun d => (ringUp d).modRing fun r => { r with parts := [part1], srcs := [⟨9, 1, [], 200000⟩], quietTo := 5000000 }
def readM (n : Nat) : State := boxed id { type := .read, addr := 9, data := [7, 1, 0, n] }
def kept1 (w : Bool) : Kept := { src := 9, tid := 7, write := w, resp := [7, 0, 1, 4, 1, 2, 3, 4] }
def readK : State := let s := readM 4; { s with dev := s.dev.modRing fun r => { r with kept := [kept1 false] } }
def writeM (h : Nat) : State := boxed (fun d => d.setFld RCK.HEAD_ADDR h) { type := .write, addr := 9, data := [7, 3, 0, 1, 5] }
def writeK : State := let s := writeM 9; { s with dev := s.dev.modRing fun r => { r with kept := [kept1 true] } }
def readB : State := boxed id { type := .read, addr := 9, data := [7, 1, 0, 4], bcast := true }
def halted : State := let s := readM 4; { s with dev := s.dev.raise SEC.DBG_HALTED }
def tdst (dst : Nat) : State := st fun d => (ringUp d).wr RING.TDST dst
def tdst0 : State := { tdst 9 with dev := (tdst 9).dev.raise RING.RSTAT_BYPASS }
def open1 (k : Nat) : Trans := { dst := 9, write := false, tid := 7, data := [], tries := k, queued := 0, sent := some 0 }
def respM : State := boxed (fun d => d.raise RING.TRES_BUSY) { type := .response, addr := 9, data := [7, 0, 1, 0, 5] }
def respM' (k : Nat) : State := let s := respM; { s with dev := s.dev.modRing fun r => { r with trans := [open1 k] } }
def enumS : State := st fun d => (head (ringUp d)).modRing fun r => { r with queryPend := true }
def queryM : State := boxed id { type := .enum, addr := 9, data := [0, 3, 0] ++ List.replicate 17 0 }
def reportM : State := boxed head { type := .enum, addr := 9, data := [1, 3, 0] ++ List.replicate 17 0 }
def win (role : Nat) (hd : Bool) : State := st fun d => ((ringUp d).setFld RING.CFG_ROLE role).modRing fun r => { r with window := some 4000000, heard := hd }
def feed0 (q on inr : Bool) : State := st fun d => ((((inRun d).setFlag (FEED.FSTAT_QUALIFIED 0) q).setFlag (FEED.FSTAT_ON 0) on).setFlag (FEED.FSTAT_INRUSH 0) inr).modFeed .fa fun x => { x with onAt := 4999000 }
def dark (q : Bool) : State := { feed0 q false false with dev := (((feed0 q false false).dev.setFlag (FEED.FSTAT_QUALIFIED 1) true).raise (FEED.FSTAT_AVAIL 0) |>.raise (FEED.FSTAT_AVAIL 1)).modSec fun x => { x with supply := .off } }
def feedT (onB : Bool) : State := st fun d => (((((inRun d).setFlag (FEED.FSTAT_ON 0) onB).setFld (FEED.FCFG_DMG 0) 3).raise (FEED.FCFG_RETRY 0)).raise (FEED.FCFG_DREACT 0)).modFeed .fa fun x => { x with tripped := true } 
def inrF : State := { feedT true with dev := ((feedT true).dev.raise (FEED.FSTAT_INRUSH 0)).modRck fun r => { r with tide := 500000000 } }
def ovf : State := { feedT true with dev := (feedT true).dev.modFeed .fa fun x => { x with ftmr := 100000000 } }
def late : State := { feedT true with dev := { (feedT true).dev with feedClk := 200000000 } }
def inrL : State := { late with dev := late.dev.raise (FEED.FSTAT_INRUSH 0) }
def dmgG : State := { feedT true with dev := (feedT true).dev.modFeed .fa fun x => { x with onAt := 4979500 } }
def sw (usable : Bool) : State := st fun d => ((((inRun d).setFlag (FEED.FSTAT_ON 0) true).setFld FEED.STAT_ACTIVE 1).setFlag (FEED.FSTAT_QUALIFIED 1) usable).raise (FEED.FSTAT_AVAIL 1)
def none1 : State := { sw true with dev := (sw true).dev.setFld FEED.STAT_ACTIVE 0 }
def rvt : State := { sw true with dev := { ((sw true).dev.raise FEED.CFG_REVERT).raise FEED.CFG_PRI with feedClk := 100000000000 } }
def swing (v : Bool) (t : Nat) : Switchover := { t0 := t, incoming := .fb, cause := .uv, verified := v }
def mid (v : Bool) (t : Nat) : State := { sw true with dev := { ((sw true).dev.raise FEED.STAT_SWITCHING) with switch := some (swing v t) } }
def rail (st_ : Nat) (f : Rail → Rail) : State := st fun d => ((((((inRun d).setFld (CV.CFG_NPH 0) 2).setFld (CV.STAT_STATE 0) st_).wr (CV.VREF 0) 1000).wr (CV.VMIN 0) 500).wr (CV.VMAX 0) 1500).modRail 0 f
def railW : State := rail cvStart fun x => { x with sampled := true, waiting := true }
def railR : State := rail cvStart fun x => { x with sampled := true, ref := 1000000 }
def railS : State := { rail cvSlew (fun x => { x with ref := 1000000, atTarget := some 0, pgSince := some 0 }) with dev := (rail cvSlew (fun x => { x with ref := 1000000, atTarget := some 0, pgSince := some 0 })).dev.modRck fun r => { r with tide := 500000000 } }
def act (f : Rail → Rail) : State := let s := rail cvRun f; { s with dev := (s.dev.setBit CV.PHACT 0 true).setBit CV.PHACT 1 true }
def oc1 : State := act fun x => { x with oc := 10000000, bad := [(1, 10)] }
def clampShort : State := act fun x => { x with clampAt := some 4999999, afterClamp := some false }
def clampLong : State := act fun x => { x with clampAt := some 4000000 }
def reg (f : Rail → Rail) : State := act fun x => f { x with ref := 1000000 }
def brk : State := { reg id with dev := (reg id).dev.raise (CV.STAT_BRAKE 0) }
def shd0 : State := reg fun x => { x with shedding := some (1, 0), periods := 16 }
def shd : State := { shd0 with dev := shd0.dev.raise (CV.STAT_SHEDDING 0) }
def brkS : State := shd
def hold : State := { reg id with dev := ((reg id).dev.wr (CV.ISHED 0) 100).setFld (CV.CFG_MINPH 0) 1 }
def one : State := { reg id with dev := (reg id).dev.setBit CV.PHACT 1 false }
def pll0 : State := st fun d => (inRun d).wr INT.IB0V 95
def pll1 : State := st fun d => ((inRun d).raise INT.STAT_CLK)
def ld : State := st fun d => ((inRun d).setFld INT.LDCFG_EN 7).modInt fun x => { x with slotOn := [0, 1, 2] }
def ldl : State := { ld with dev := ld.dev.setFld INT.STAT_LDOFF 7 }
theorem witness_MessagesDelivered :
        (edgeM.dev.powered = true) ∧ (edgeM.dev.takeMsg MsgType.edge = some ((taken edgeM MsgType.edge).1, (taken
      edgeM MsgType.edge).2)) ∧ ((taken edgeM MsgType.edge).2.enterable Source.head (edgeReq (fieldAt (taken edgeM
      MsgType.edge).1.data 1 16))) ∧ (byteAt (taken edgeM MsgType.edge).1.data 0 = 1) ∧
        (edgeM2.dev.powered = true) ∧ (edgeM2.dev.takeMsg MsgType.edge = some ((taken edgeM2 MsgType.edge).1,
      (taken edgeM2 MsgType.edge).2)) ∧ ((taken edgeM2 MsgType.edge).2.enterable Source.head (edgeReq (fieldAt
      (taken edgeM2 MsgType.edge).1.data 1 16))) ∧ (byteAt (taken edgeM2 MsgType.edge).1.data 0 = 2) ∧ (((taken
      edgeM2 MsgType.edge).2.submit Source.head (fieldAt (taken edgeM2 MsgType.edge).1.data 1 16)).1.enterable
      Source.head (edgeReq (fieldAt (taken edgeM2 MsgType.edge).1.data 17 16))) ∧
        ((strikeM true).dev.powered = true) ∧ ((strikeM true).dev.takeMsg MsgType.strike = some ((taken (strikeM
      true) MsgType.strike).1, (taken (strikeM true) MsgType.strike).2)) ∧ ((strikeM true).dev.flag
      BANK.STRIKECFG_RINGRX = true) ∧
        ((strikeM false).dev.powered = true) ∧ ((strikeM false).dev.takeMsg MsgType.strike = some ((taken (strikeM
      false) MsgType.strike).1, (taken (strikeM false) MsgType.strike).2)) ∧ ((strikeM false).dev.flag
      BANK.STRIKECFG_RINGRX = false) ∧
        (eventM.dev.powered = true) ∧ (eventM.dev.takeMsg MsgType.event = some ((taken eventM MsgType.event).1,
      (taken eventM MsgType.event).2)) ∧ (eventM.dev.isHead = true) ∧
    (parts.dev.powered = true) ∧ (part1 ∈ parts.dev.ring.parts) ∧ (part1.since + 2 * msec ≤ parts.dev.now) ∧
        (parts.dev.srcRec (BitVec.toNat (9 : BitVec 12)) = some (SrcRec.mk 9 1 [] 200000)) ∧ ((SrcRec.mk 9 1 []
      200000).lastCell + 40 * msec ≤ parts.dev.clk) ∧
    (parts.dev.flag RING.LSTAT_QUIET = true) ∧ (parts.dev.ring.quietTo ≤ parts.dev.clk) := by
  and_intros <;> first
    | decide +kernel
theorem witness_Transactions :
        ((readM 4).dev.powered = true) ∧ ((readM 4).dev.coreRuns = true) ∧ ((taken (readM 4) MsgType.read).1.bcast
      = false) ∧ ((readM 4).dev.takeMsg MsgType.read = some ((taken (readM 4) MsgType.read).1, (taken (readM 4)
      MsgType.read).2)) ∧ ((taken (readM 4) MsgType.read).2.keptFor (taken (readM 4) MsgType.read).1 = none) ∧
        ((readM 0).dev.powered = true) ∧ ((readM 0).dev.coreRuns = true) ∧ ((taken (readM 0) MsgType.read).1.bcast
      = false) ∧ ((readM 0).dev.takeMsg MsgType.read = some ((taken (readM 0) MsgType.read).1, (taken (readM 0)
      MsgType.read).2)) ∧ ((taken (readM 0) MsgType.read).2.keptFor (taken (readM 0) MsgType.read).1 = none) ∧
        (readK.dev.powered = true) ∧ (readK.dev.coreRuns = true) ∧ ((taken readK MsgType.read).1.bcast = false) ∧
      (readK.dev.takeMsg MsgType.read = some ((taken readK MsgType.read).1, (taken readK MsgType.read).2)) ∧
      ((taken readK MsgType.read).2.keptFor (taken readK MsgType.read).1 = some (kept1 false)) ∧
        ((writeM 9).dev.powered = true) ∧ ((writeM 9).dev.coreRuns = true) ∧ ((taken (writeM 9)
      MsgType.write).1.bcast = false) ∧ ((writeM 9).dev.takeMsg MsgType.write = some ((taken (writeM 9)
      MsgType.write).1, (taken (writeM 9) MsgType.write).2)) ∧ ((taken (writeM 9) MsgType.write).1.addr = (writeM
      9).dev.fld RCK.HEAD_ADDR) ∧ ((taken (writeM 9) MsgType.write).2.keptFor (taken (writeM 9) MsgType.write).1 =
      none) ∧
        (writeK.dev.powered = true) ∧ (writeK.dev.coreRuns = true) ∧ ((taken writeK MsgType.write).1.bcast =
      false) ∧ (writeK.dev.takeMsg MsgType.write = some ((taken writeK MsgType.write).1, (taken writeK
      MsgType.write).2)) ∧ ((taken writeK MsgType.write).1.addr = writeK.dev.fld RCK.HEAD_ADDR) ∧ ((taken writeK
      MsgType.write).2.keptFor (taken writeK MsgType.write).1 = some (kept1 true)) ∧
        ((writeM 8).dev.powered = true) ∧ ((writeM 8).dev.coreRuns = true) ∧ ((taken (writeM 8)
      MsgType.write).1.bcast = false) ∧ ((writeM 8).dev.takeMsg MsgType.write = some ((taken (writeM 8)
      MsgType.write).1, (taken (writeM 8) MsgType.write).2)) ∧ ((taken (writeM 8) MsgType.write).1.addr ≠ (writeM
      8).dev.fld RCK.HEAD_ADDR) ∧
        (readB.dev.powered = true) ∧ (readB.dev.coreRuns = true) ∧ ((taken readB MsgType.read).1.bcast = true) ∧
      (readB.dev.takeMsg MsgType.read = some ((taken readB MsgType.read).1, (taken readB MsgType.read).2)) ∧
    (halted.dev.powered = true) ∧ (halted.dev.coreRuns = false) ∧
        ((tdst 9).dev.powered = true) ∧ ((tdst 9).dev.admits Writer.host) ∧ ((tdst 9).dev.flag RING.TRES_BUSY =
      false) ∧ ((tdst 9).dev.addr ≠ 0 ∧ (tdst 9).dev.flag RING.RSTAT_BYPASS = false ∧ (tdst 9).dev.flag
      RING.RSTAT_CONFLICT = false) ∧ ((tdst 9).dev.rd RING.TDST % 4096 ≠ 0) ∧ ((tdst 9).dev.rd RING.TDST % 4096 ≠
      4095) ∧
        ((tdst 4095).dev.powered = true) ∧ ((tdst 4095).dev.admits Writer.host) ∧ ((tdst 4095).dev.flag
      RING.TRES_BUSY = false) ∧ ((tdst 4095).dev.addr ≠ 0 ∧ (tdst 4095).dev.flag RING.RSTAT_BYPASS = false ∧ (tdst
      4095).dev.flag RING.RSTAT_CONFLICT = false) ∧ ((tdst 4095).dev.rd RING.TDST % 4096 = 4095) ∧
        (tdst0.dev.powered = true) ∧ (tdst0.dev.admits Writer.host) ∧ (tdst0.dev.flag RING.TRES_BUSY = false) ∧
      (¬(tdst0.dev.addr ≠ 0 ∧ tdst0.dev.flag RING.RSTAT_BYPASS = false ∧ tdst0.dev.flag RING.RSTAT_CONFLICT =
      false)) ∧
        ((respM' 0).dev.powered = true) ∧ ((respM' 0).dev.takeMsg MsgType.response = some ((taken (respM' 0)
      MsgType.response).1, (taken (respM' 0) MsgType.response).2)) ∧ (List.find? (fun x => x.dst == (taken (respM'
      0) MsgType.response).1.addr && x.tid == byteAt (taken (respM' 0) MsgType.response).1.data 0) (respM'
      0).dev.ring.trans = some (open1 0)) ∧
        (List.find? (respM' 0).dev.transLate (respM' 0).dev.ring.trans = some (open1 0)) ∧ ((open1 0).tries <
      (respM' 0).dev.rd RING.TRETRY) ∧
        ((respM' 7).dev.powered = true) ∧ (List.find? (respM' 7).dev.transLate (respM' 7).dev.ring.trans = some
      (open1 7)) ∧ ((respM' 7).dev.rd RING.TRETRY ≤ (open1 7).tries) := by
  and_intros <;> first
    | decide +kernel
    | exact fun h => nomatch h
theorem witness_Enumeration :
        (enumS.dev.powered = true) ∧ (enumS.dev.isHead = true) ∧ (enumS.dev.ring.queryPend = true ∨
      enumS.dev.ring.lastQuery + enumS.dev.rd RING.ENUMP * 100 * msec ≤ enumS.dev.now) ∧
        (queryM.dev.powered = true) ∧ (queryM.dev.takeEnum false = some ((takenE queryM false).1, (takenE queryM
      false).2)) ∧ (queryM.dev.isHead = false) ∧ (queryM.dev.addr ≠ 0) ∧ (queryM.dev.flag RING.RSTAT_CONFLICT =
      false) ∧
        (reportM.dev.powered = true) ∧ (reportM.dev.takeEnum true = some ((takenE reportM true).1, (takenE reportM
      true).2)) ∧ (reportM.dev.isHead = true) ∧
        ((win 1 false).dev.powered = true) ∧ ((win 1 false).dev.ring.window = some 4000000) ∧ (4000000 + 2 * msec
      ≤ (win 1 false).dev.now) ∧ ((win 1 false).dev.ring.windowDone = false) ∧ ((win 1 false).dev.rigged = true) ∧
      ((win 1 false).dev.fld RING.CFG_ROLE = 1) ∧ ((win 1 false).dev.ring.heard = false) ∧
        ((win 1 true).dev.powered = true) ∧ ((win 1 true).dev.ring.window = some 4000000) ∧ (4000000 + 2 * msec ≤
      (win 1 true).dev.now) ∧ ((win 1 true).dev.ring.windowDone = false) ∧ ((win 1 true).dev.rigged = true) ∧
      ((win 1 true).dev.fld RING.CFG_ROLE = 1) ∧ ((win 1 true).dev.ring.heard = true) ∧
        ((win 2 true).dev.powered = true) ∧ ((win 2 true).dev.ring.window = some 4000000) ∧ (4000000 + 2 * msec ≤
      (win 2 true).dev.now) ∧ ((win 2 true).dev.ring.windowDone = false) ∧ ((win 2 true).dev.rigged = true) ∧
      ((win 2 true).dev.fld RING.CFG_ROLE = 2) := by decide +kernel
theorem witness_FeedsQualify :
        ((feed0 false false false).dev.feedQual FeedId.fa = false) ∧ ((feed0 false false false).dev.inWindow
      FeedId.fa (BitVec.toNat (1400 : BitVec 16)) = true) ∧ ((feed0 false false false).dev.fld (FEED.FCFG_QUAL
      (FeedIx FeedId.fa)) * msec ≤ 4000000) ∧ (((feed0 false false false).dev.feed FeedId.fa).lostAt + 4000000 ≤
      (feed0 false false false).dev.feedClk) ∧
        ((dark true).dev.powered = false) ∧ ((dark true).pending = []) ∧ ((dark true).dev.activeFeed = none) ∧
      ((dark true).dev.flag FEED.STAT_SWITCHING = false) ∧ ((dark true).dev.usable (dark true).dev.priFeed = true)
      ∧
        ((dark false).dev.powered = false) ∧ ((dark false).pending = []) ∧ ((dark false).dev.activeFeed = none) ∧
      ((dark false).dev.flag FEED.STAT_SWITCHING = false) ∧ ((dark false).dev.usable (dark false).dev.priFeed =
      false) ∧ ((dark false).dev.usable (otherFeed (dark false).dev.priFeed) = true) ∧
        ((feed0 true false false).dev.powered = true) ∧ ((feed0 true false false).dev.inWindow FeedId.fa
      (BitVec.toNat (100 : BitVec 16)) = false) ∧
        ((feed0 true true true).dev.powered = true) ∧ ((feed0 true true true).dev.feedOn FeedId.fa = true) ∧
      ((feed0 true true true).dev.flag (FEED.FSTAT_INRUSH (FeedIx FeedId.fa)) = true) ∧ ((feed0 true true
      true).dev.feedClk < (feed0 true true true).dev.inrushEnd FeedId.fa) ∧ ((feed0 true true true).dev.flag
      (FEED.FSTAT_LIMIT (FeedIx FeedId.fa)) = false) ∧ (BitVec.toNat (1400 : BitVec 16) ≤ BitVec.toNat (1350 :
      BitVec 16) + 50) ∧ (BitVec.toNat (1350 : BitVec 16) < BitVec.toNat (1400 : BitVec 16) + 50) ∧
        ((feed0 true true false).dev.powered = true) ∧ ((feed0 true true false).dev.feedLive FeedId.fa = true) ∧
      ((feed0 true true false).dev.rd (FEED.FILT (FeedIx FeedId.fa)) * usec ≤ 1000000) ∧ (BitVec.toNat (100 :
      BitVec 16) < (feed0 true true false).dev.rd (FEED.UV (FeedIx FeedId.fa))) ∧
    ((feed0 true true false).dev.rd (FEED.OV (FeedIx FeedId.fa)) ≤ BitVec.toNat (65535 : BitVec 16)) := by decide +kernel
theorem witness_FeedTrips :
        (inrL.dev.powered = true) ∧ (inrL.dev.feedOn FeedId.fa = true) ∧ (inrL.dev.flag (FEED.FSTAT_INRUSH (FeedIx
      FeedId.fa)) = true) ∧ (inrL.dev.inrushEnd FeedId.fa ≤ inrL.dev.feedClk) ∧
        (ovf.dev.powered = true) ∧ (ovf.dev.feedOn FeedId.fa = true) ∧ (ovf.dev.flag (FEED.FSTAT_INRUSH (FeedIx
      FeedId.fa)) = false) ∧ (ovf.dev.fld (FEED.FCFG_TFLT (FeedIx FeedId.fa)) * msec ≤ (ovf.dev.feed
      FeedId.fa).ftmr) ∧
        ((feedT true).dev.powered = true) ∧ ((feedT true).dev.feedLive FeedId.fa = true) ∧ ((2 : Int) * ↑((feedT
      true).dev.shuntLimit FeedId.fa) ≤ (60000 : Int)) ∧
    ((-500 : Int) ≤ (-500 : Int)) ∧ (∀ (x : Switchover), (feedT true).dev.switch = some x → x.again = none) ∧
        (late.dev.powered = true) ∧ (late.dev.flag (FEED.FCFG_RETRY (FeedIx FeedId.fa)) = true) ∧ ((late.dev.feed
      FeedId.fa).tripped = true) ∧ ((late.dev.feed FeedId.fa).tripAt + second ≤ late.dev.feedClk) ∧
        (late.dev.admits Writer.host) ∧ (BitVec.getLsbD (1 : BitVec 8) 0 = true) ∧ ((late.dev.feed
      FeedId.fa).tripped = true ∨ (late.dev.feed FeedId.fa).outOfService = true) ∧
        ((feedT false).dev.powered = true) ∧ (((feedT false).dev.fld (FEED.FCFG_DMG (FeedIx FeedId.fa))).testBit 0
      = true) ∧ ((feedT false).dev.feedOn FeedId.fa = false) ∧ (BitVec.toNat (1000 : BitVec 16) < 2 * BitVec.toNat
      (1000 : BitVec 16)) ∧ (2 * msec ≤ 300000) ∧ (((feedT false).dev.feed FeedId.fa).offAt + 300000 ≤ (feedT
      false).dev.feedClk) ∧
        (dmgG.dev.powered = true) ∧ ((dmgG.dev.fld (FEED.FCFG_DMG (FeedIx FeedId.fa))).testBit 1 = true) ∧
      (dmgG.dev.feedOn FeedId.fa = true) ∧ ((dmgG.dev.feed FeedId.fa).onAt + 20000 ≤ dmgG.dev.feedClk) ∧
      (dmgG.dev.feedClk < (dmgG.dev.feed FeedId.fa).onAt + 21000) ∧ (BitVec.toNat (10 : BitVec 8) < 20) ∧ ((10 :
      Int) * (100 : Int) < (50 : Int) * ↑(dmgG.dev.fld (Machine.Field.mk (FEED.VINR (FeedIx FeedId.fa)) 0 10))) ∧
      (∀ (x : Switchover), dmgG.dev.switch = some x → x.again = none) := by
  and_intros <;> first
    | decide +kernel
    | exact fun h => nomatch h
    | exact forall_some (by decide +kernel)
theorem witness_FeedSwitchover :
        ((sw true).dev.powered = true) ∧ ((sw true).dev.admits Writer.host) ∧ (BitVec.getLsbD (3 : BitVec 8) 0 =
      true) ∧ (BitVec.getLsbD (3 : BitVec 8) 1 = true) ∧
        (BitVec.getLsbD (2 : BitVec 8) 0 = (FeedId.fb == FeedId.fa)) ∧ (BitVec.getLsbD (2 : BitVec 8) 1 =
      (FeedId.fb == FeedId.fb)) ∧ ((sw true).dev.switch = none) ∧ ((sw true).dev.activeFeed = some (otherFeed
      FeedId.fb)) ∧ ((sw true).dev.usable FeedId.fb = true) ∧
        ((sw false).dev.powered = true) ∧ ((sw false).dev.admits Writer.host) ∧ ((sw false).dev.switch = none) ∧
      ((sw false).dev.activeFeed = some (otherFeed FeedId.fb)) ∧ ((sw false).dev.usable FeedId.fb = false) ∧
        (none1.dev.powered = true) ∧ (none1.dev.admits Writer.host) ∧ (none1.dev.switch = none) ∧
      (none1.dev.activeFeed = none) ∧ (none1.dev.usable FeedId.fb = true) ∧
        (rvt.dev.powered = true) ∧ (rvt.dev.flag FEED.CFG_REVERT = true) ∧ (rvt.dev.flag FEED.STAT_MANUAL = false)
      ∧ (rvt.dev.switch = none) ∧ (rvt.dev.activeFeed = some (otherFeed rvt.dev.priFeed)) ∧ (rvt.dev.usable
      rvt.dev.priFeed = true) ∧ ((rvt.dev.feed rvt.dev.priFeed).qualAt + rvt.dev.fld FEED.CFG_RVT * 100 * msec ≤
      rvt.dev.feedClk) ∧
        ((mid false 5000000).dev.powered = true) ∧ ((mid false 5000000).dev.admits Writer.host) ∧ ((mid false
      5000000).dev.switch = some (swing false 5000000)) ∧ ((swing false 5000000).cause.own = false) ∧ ((swing
      false 5000000).t0 = (mid false 5000000).dev.feedClk) ∧
        ((mid false 4999700).dev.powered = true) ∧ ((mid false 4999700).dev.switch = some (swing false 4999700)) ∧
      ((swing false 4999700).verified = false) ∧ ((swing false 4999700).t0 + 300 ≤ (mid false
      4999700).dev.feedClk) ∧ ((mid false 4999700).dev.feedClk ≤ (swing false 4999700).t0 + 800) ∧
        ((mid true 4999700).dev.powered = true) ∧ ((mid true 4999700).dev.switch = some (swing true 4999700)) ∧
      ((swing true 4999700).verified = true) ∧ ((swing true 4999700).again = none) ∧
        ((mid false 4999200).dev.powered = true) ∧ ((mid false 4999200).dev.switch = some (swing false 4999200)) ∧
      ((swing false 4999200).verified = false) ∧ ((swing false 4999200).t0 + 800 ≤ (mid false
      4999200).dev.feedClk) := by
  and_intros <;> first
    | decide +kernel
    | exact fun h => nomatch h
theorem witness_RailsRun :
        ((rail cvStart id).dev.powered = true) ∧ ((rail cvStart id).dev.cvState 0 = cvStart) ∧ (((rail cvStart
      id).dev.rail 0).sampled = false) ∧ (((rail cvStart id).dev.rail 0).enAt + 2000 ≤ (rail cvStart id).dev.now)
      ∧
        (railW.dev.powered = true) ∧ (railW.dev.cvState 0 = cvStart) ∧ ((railW.dev.rail 0).waiting = true) ∧ (1000
      * 100000 < railW.dev.refT 0 * 101) ∧
        (railR.dev.powered = true) ∧ (railR.dev.cvState 0 = cvStart) ∧ ((railR.dev.rail 0).sampled = true) ∧
      ((railR.dev.rail 0).waiting = false) ∧ ((railR.dev.rail 0).clampAt = none) ∧ ((railR.dev.rail 0).ref =
      railR.dev.refT 0) ∧
        ((rail cvStop id).dev.powered = true) ∧ ((rail cvStop id).dev.cvState 0 = cvStop) ∧ (((rail cvStop
      id).dev.rail 0).ref = 0) ∧ (((rail cvStop id).dev.rail 0).clampAt = none) ∧
        ((rail cvRun id).dev.powered = true) ∧ ((rail cvRun id).dev.admits Writer.host) ∧ ((rail cvRun id).dev.rd
      (CV.VMIN 0) ≤ BitVec.toNat (1200 : BitVec 16)) ∧ (BitVec.toNat (1200 : BitVec 16) < (rail cvRun id).dev.rd
      (CV.VMAX 0)) ∧
        (BitVec.toNat (1500 : BitVec 16) < (rail cvRun id).dev.rd (CV.VMIN 0) ∨ (rail cvRun id).dev.rd (CV.VMAX 0)
      ≤ BitVec.toNat (1500 : BitVec 16)) ∧
    (1 ≤ BitVec.toNat (500 : BitVec 16)) ∧ (BitVec.toNat (500 : BitVec 16) ≤ 500) ∧
    (BitVec.toNat (501 : BitVec 16) = 0 ∨ 500 < BitVec.toNat (501 : BitVec 16)) ∧
        (railS.dev.powered = true) ∧ (railS.dev.admits Writer.host) ∧ (railS.dev.slewDone 0 = true) ∧
      ((railS.dev.rail 0).pgSince = some 0) ∧ (0 + railS.dev.rd (CV.SETTLE 0) * usec ≤ railS.dev.now) ∧
      (railS.dev.pgLow 0 1000 = false) ∧ (railS.dev.pgHigh 0 1000 = false) ∧
    ((railS.dev.rail 0).atTarget = some 0) ∧ (0 + 10 * railS.dev.rd (CV.SETTLE 0) * usec ≤ railS.dev.now) := by
  and_intros <;> first
    | decide +kernel
    | exact fun h => nomatch h
theorem witness_RailsTrip :
        (oc1.dev.powered = true) ∧ (oc1.dev.regulating 0 = true) ∧ (oc1.dev.rd (CV.TOC 0) * oc1.dev.fld
      (CV.CFG_FSW 0) ≤ (oc1.dev.rail 0).oc) ∧
    (1 ∈ oc1.dev.active 0) ∧ (10 ≤ (look (oc1.dev.rail 0).bad 1).getD 0) ∧
        ((act id).dev.powered = true) ∧ ((act id).dev.regulating 0 = true) ∧ (usec ≤ 100) ∧ (max ((act
      id).dev.rail 0).ref ((act id).dev.refT 0) * (100 + (act id).dev.fld (CV.CFG_OVF 0)) ≤ 2000 * 100000) ∧
        (clampShort.dev.powered = true) ∧ ((clampShort.dev.rail 0).clampAt = some 4999999) ∧ (4999999 + 10 * msec
      ≤ clampShort.dev.now ∨ 80 * 10000 < clampShort.dev.refT 0) ∧
        (clampLong.dev.powered = true) ∧ ((clampLong.dev.rail 0).clampAt = some 4000000) ∧ (4000000 + 10 * msec ≤
      clampLong.dev.now ∨ 8000 * 10000 < clampLong.dev.refT 0) ∧
        ((reg id).dev.powered = true) ∧ ((reg id).dev.cvState 0 = cvRun ∨ (reg id).dev.cvState 0 = cvSlew) ∧
      (((reg id).dev.rail 0).clampAt = none) ∧ ((reg id).dev.flag (CV.STAT_BRAKE 0) = false) ∧ (((reg id).dev.rail
      0).ref * (100 + (reg id).dev.fld (CV.CFG_BRK 0)) ≤ 1100 * 100000) ∧
        (brk.dev.powered = true) ∧ (brk.dev.flag (CV.STAT_BRAKE 0) = true) ∧ (1005 * 100000 < (brk.dev.rail 0).ref
      * 101) ∧
        (brkS.dev.powered = true) ∧ (brkS.dev.cvState 0 = cvRun ∨ brkS.dev.cvState 0 = cvSlew) ∧ ((brkS.dev.rail
      0).clampAt = none) ∧ (brkS.dev.flag (CV.STAT_BRAKE 0) = false) ∧ ((brkS.dev.rail 0).ref * (100 +
      brkS.dev.fld (CV.CFG_BRK 0)) ≤ 1100 * 100000) ∧
        (hold.dev.powered = true) ∧ (hold.dev.managed 0 = true) ∧ (hold.dev.flag (CV.STAT_SHEDDING 0) = false) ∧
      (hold.dev.fld (CV.CFG_MINPH 0) < (hold.dev.active 0).length) ∧ (BitVec.toNat (0 : BitVec 16) < hold.dev.rd
      (CV.ISHED 0) * ((hold.dev.active 0).length - 1)) ∧ ((hold.dev.rail 0).holdoff ≤ hold.dev.now) ∧ (hold.dev.rd
      (CV.SHOLD 0) * msec ≤ 100000000) ∧
        (one.dev.powered = true) ∧ (one.dev.managed 0 = true) ∧ (one.dev.flag (CV.STAT_SHEDDING 0) = false) ∧
      (one.dev.rd (CV.IADD 0) * (one.dev.active 0).length ≤ BitVec.toNat (65535 : BitVec 16)) ∧ (List.find? (fun n
      => !one.dev.bit CV.PHACT n) (one.dev.phases 0) = some 1) ∧
    (970 * 100000 < (one.dev.rail 0).ref * 98) ∧
        (shd.dev.powered = true) ∧ (shd.dev.managed 0 = true) ∧ (shd.dev.flag (CV.STAT_SHEDDING 0) = true) ∧
      (shd.dev.rd (CV.IADD 0) * ((shd.dev.active 0).length - 1) ≤ BitVec.toNat (65535 : BitVec 16)) ∧
    (970 * 100000 < (shd.dev.rail 0).ref * 98) ∧
    (1 < 8) ∧ ((shd.dev.rail 0).shedding = some (1, 0)) ∧ (0 + 16 ≤ (shd.dev.rail 0).periods) := by decide +kernel
theorem witness_InternalRegulators :
        (pll0.dev.powered = true) ∧ (pll0.dev.admits Writer.host) ∧ (90 ≤ BitVec.toNat (180 : BitVec 16)) ∧
      (BitVec.toNat (180 : BitVec 16) ≤ 180) ∧
    (BitVec.toNat (181 : BitVec 16) < 90 ∨ 180 < BitVec.toNat (181 : BitVec 16)) ∧
    (pll0.dev.rck.pll = true) ∧ (pll0.dev.flag INT.STAT_CLK = false) ∧ (pll0.dev.rd INT.IB0V < 100) ∧
        (pll1.dev.powered = true) ∧ (pll1.dev.admits Writer.host) ∧ (pll1.dev.rck.pll = true) ∧ (pll1.dev.flag
      INT.STAT_CLK = true) ∧ (100 ≤ pll1.dev.rd INT.IB0V) ∧ (1000000 ≤ pll1.dev.int.ib0) ∧ (pll1.dev.int.above +
      2000 ≤ pll1.dev.now) ∧
    (10 * BitVec.toNat (100 : BitVec 16) < 9 * pll1.dev.rd INT.IB1V) ∧ (100 * usec ≤ 10000) ∧
    (ld.dev.powered = true) ∧ (ld.dev.admits Writer.host) ∧ (ld.dev.ldOn 2 = true) ∧ (10 * msec ≤ 1000000) ∧
    (ldl.dev.powered = true) ∧ (ldl.dev.admits Writer.host) ∧ (BitVec.getLsbD (8 : BitVec 8) (2 + 1) = true) := by
  and_intros <;> first
    | decide +kernel
    | exact fun h => nomatch h

end W3

namespace W4

def keep (f : Device → Device) : State := st fun d => f (d.modRck fun r => { r with tide := 5000000 })
def feedUp (d : Device) : Device := ((d.setFld FEED.STAT_ACTIVE 1).setFlag (FEED.FSTAT_ON 0) true).modFeed .fa fun x => { x with good := true }
def goingDown : State := st fun d => (inRun d).setFld SEQ.STAT_STATE seqPowerDown
def pend : State := keep fun d => (feedUp d).raise SEC.PSTAT_WAKEPEND
def trn : State := keep fun d => d.raise SEC.PSTAT_TRANS
def slot (k t : Nat) (d : Device) : Device := ((d.setFld (SEQ.SLOTA_TYPE k) t).setFld (SEQ.SLOTA_DEP k) 0x1F).raise SYS.RIG_RIGGED
def wait : State := keep fun d => (slot 0 2 d).setFld SEQ.STAT_STATE seqWait
def up (f : Device → Device) : State := keep fun d => f ((slot 0 2 (feedUp d)).setFld SEQ.STAT_STATE seqUp)
def en0 (d : Device) : Device := ((d.setBit SEQ.ENMASK 0 true).modSlot 0 fun x => { x with enAt := 4000000, qualFrom := some 0 }).modSeq fun x => { x with pgFeed := true }
def late (d : Device) : Device := ((d.setBit SEQ.ENMASK 0 true).modSlot 0 fun x => { x with enAt := 0 }).modRck fun r => { r with tide := 1000000000000 }
def onS (f : Device → Device) : State := st fun d => f ((slot 0 2 (feedUp (inRun d))).setFld SEQ.STAT_STATE seqOn |>.setBit SEQ.ENMASK 0 true |>.setBit SEQ.QUALMASK 0 true)
def warn (d : Device) : Device := (d.raise SEQ.STAT_PFWACT).modRck fun r => { r with tide := 1000000000 }
def dwn (d : Device) : Device := (d.setFld SEQ.STAT_STATE seqPowerDown).modSeq fun x => { x with downAt := [(0, 5000000)] }
def dwnR (d : Device) : Device := (((slot 0 1 d).setFld SEQ.STAT_STATE seqPowerDown).setFld (CV.STAT_STATE 0) 4).modSeq (fun x => { x with railsDown := [(0, 0)] }) |>.modRck fun r => { r with tide := 1000000000000 }
def pgl (d : Device) : Device := ((d.modFeed .fa fun x => { x with good := false }).modSeq fun x => { x with pgFeed := true })
def sby (d : Device) : Device := d.setFld SEC.PSTAT_STATE 3
def unrigged : State := onS fun d => (sby d).lower SYS.RIG_RIGGED
def runDue : State := onS fun d => { sby d with sec := { d.sec with runAtScan := true } }
def waking : State := keep fun d => d.raise SEC.PSTAT_WAKEPEND
def fw (d : Device) : Device := { d with sec := { d.sec with bootDue := false } }
def jn : State := st fun d => ((fw (inRun d)).raise CNT.JSTAT_PENDING).modRck fun r => { r with tide := 360000000000 }
def conv (job : AdcJob) (ph : LoopPhase) : State := st fun d => (bank0 (inRun d)).modAdc fun a => { a with a := { a.a with job := job, began := 4999960, loop := { a.a.loop with phase := ph } }, tags := [⟨0, 5, 0, false⟩] }
def convS : State := { conv .loop (.conv 0) with dev := (conv .loop (.conv 0)).dev.modBank 0 fun b => { b with link := false } }
def xw : State := { conv .idle (.waiting 0) with dev := ((conv .idle (.waiting 0)).dev.modAdc fun a => { a with table := [(0, 2^39)] }).setFld ADC.CFG_XWAIT 100 }
def done : State := { conv .idle .off with dev := (conv .idle .off).dev.raise (ADCD.URES_DONE 0) }
def full : State := st fun d => (bank0 (inRun d)).modAdc fun a => { a with tags := (List.range 4).map fun k => ⟨k, 5, 0, false⟩ }
def chg (ph : Nat) (f : Charger → Charger := id) (t : Nat := 5000000) : State := st fun d => (((d.raise CHG.CFG_EN).raise CHG.STAT_CHGIN).setFld CHG.STAT_PHASE ph).modChg f |>.modRck fun r => { r with tide := t }
def noin : State := { chg 0 with dev := (chg 0).dev.lower CHG.STAT_CHGIN }
def sourcing : State := chg 1 (fun x => { x with sourcing := true })
def sourced : State := chg 1 (fun x => { x with sourcing := true }) 7000000
def absentLong : State := chg 1 (fun x => { x with absent := true }) 100000000
def topoff : State := { chg 4 with dev := (chg 4).dev.setFld CHG.CFG_TOPOFF 3 }
def overtime : State := chg 3 (fun x => { x with safe2 := 10 ^ 18 })
def susp : State := { chg 3 with dev := ((chg 3).dev.raise CHG.STAT_NTCSUSP).wr CHG.NTCHI 40000 }
def cut : State := { noin with dev := noin.dev.raise CHG.STAT_FETON }
def envOk : EnergyEnv := { vsys := 5000, vhold := 27000, temp := 25*128 }
def shp : State := { noin with dev := fw (noin.dev.raise CHG.STAT_SHIPPEND) }
def shpB : State := { noin with dev := fw ((noin.dev.raise CHG.STAT_SHIPPEND).raise CHG.STAT_PRESENT) }
def inShip : State := { noin with dev := { noin.dev with sec := { noin.dev.sec with supply := .ship } } }
def wd (n : Nat) (f : Device → Device := id) : State := st fun d => f ((((fw (inRun d)).lower WDT.STAT_BOOT).wr WDT.CNT n))
def rst : State := wd 1 fun d => d.modWdt fun w => { w with resetTo := some 5000000, wdxTo := some 5000000 }
def oneMissing : State := wd 20000 fun d => (d.wr WDT.SLOTEN 3).wr WDT.CHK 1
def ck (en chk surp : Nat) : State := wd 1 fun d => ((d.wr WDT.SLOTEN en).wr WDT.CHK chk).wr WDT.SURPF surp
def ckAt (e : Nat) : State := { ck 255 0 0 with dev := (ck 255 0 0).dev.modWdt fun w => { w with servedAt := some (ck 255 0 0).dev.clk, ended := e } }
theorem witness_PowerUp :
        ((keep id).dev.powered = true) ∧ ((keep id).dev.admits Writer.host) ∧ ((keep id).dev.seqState = seqDown) ∧
      ((keep id).dev.inKeep = true) ∧ ((keep id).dev.flag SEC.PSTAT_TRANS = false) ∧
        ((keep feedUp).dev.powered = true) ∧ ((keep feedUp).dev.admits Writer.host) ∧ ((keep feedUp).dev.seqState
      = seqDown) ∧ ((keep feedUp).dev.inKeep = true) ∧ ((keep feedUp).dev.flag SEC.PSTAT_TRANS = false) ∧
        (goingDown.dev.powered = true) ∧ (goingDown.dev.admits Writer.host) ∧ (goingDown.dev.seqState =
      seqPowerDown) ∧
        (pend.dev.powered = true) ∧ (pend.dev.flag SEC.PSTAT_WAKEPEND = true) ∧ (pend.dev.inKeep = true) ∧
      (pend.dev.feedGood = true) ∧
    (trn.dev.powered = true) ∧ (trn.dev.flag SEC.PSTAT_TRANS = true) ∧ (trn.dev.rck.pll = false) ∧
        (wait.dev.powered = true) ∧ (wait.dev.seqState = seqWait) ∧ (wait.dev.offTimePast = true) ∧ (∃ k ∈
      allSlots, wait.dev.slotUsed k = true) ∧
        ((up id).dev.powered = true) ∧ ((up id).dev.seqState = seqUp) ∧ ((up id).dev.slotDue 0 = true) ∧ (∀ j < 0,
      (up id).dev.slotDue j = false) ∧
        ((up en0).dev.powered = true) ∧ ((up en0).dev.seqState = seqUp) ∧ ((up en0).dev.slotEnabled 0 = true) ∧
      ((up en0).dev.slotQualified 0 = false) ∧ ((up en0).dev.slotPg 0 = true) ∧ (((up en0).dev.slotSt 0).qualFrom
      = some 0) ∧ (0 + (up en0).dev.fld (SEQ.SLOTB_QUAL 0) * msec ≤ (up en0).dev.now) ∧ (0 + (up en0).dev.fld
      (SEQ.SLOTB_QUAL 0) * msec < (up en0).dev.timeoutTide 0) ∧
        ((up late).dev.powered = true) ∧ ((up late).dev.seqState = seqUp) ∧ ((up late).dev.slotEnabled 0 = true) ∧
      ((up late).dev.slotQualified 0 = false) ∧ ((up late).dev.timeoutTide 0 ≤ (up late).dev.now) ∧ ((up
      late).dev.slotPg 0 = false ∨ ∀ (t : Nat), (up late).dev.qualTide 0 = some t → (up late).dev.timeoutTide 0 ≤
      t) := by
  and_intros <;> first
    | decide +kernel
    | exact fun h => nomatch h
    | exact forall_some (by decide +kernel)
theorem witness_PowerDown :
        ((onS id).dev.powered = true) ∧ (∃ k ∈ allSlots, (onS id).dev.slotEnabled k = true) ∧ ((onS id).dev.admits
      Writer.host) ∧ ((onS id).dev.seqState = seqUp ∨ (onS id).dev.seqState = seqOn) ∧
    ((onS id).dev.admitsWright Writer.host) ∧
        ((onS warn).dev.powered = true) ∧ (∃ k ∈ allSlots, (onS warn).dev.slotEnabled k = true) ∧ ((onS
      warn).dev.flag SEQ.STAT_PFWACT = true) ∧ ((onS warn).dev.seqState = seqOn) ∧ ((onS warn).dev.pfwEnd ≤ (onS
      warn).dev.now) ∧
        ((onS dwn).dev.powered = true) ∧ (look (onS dwn).dev.seq.downAt 0 = some 5000000) ∧ ((onS
      dwn).dev.seqState = seqPowerDown) ∧ (5000000 ≤ (onS dwn).dev.now) ∧ (∀ e ∈ (onS dwn).dev.seq.downAt, 5000000
      ≤ e.2 ∧ (e.2 = 5000000 → e.1 ≤ 0)) ∧
        ((onS dwnR).dev.powered = true) ∧ (look (onS dwnR).dev.seq.railsDown 0 = some 0) ∧ ((onS dwnR).dev.slotSel
      0 < 4) ∧ ((onS dwnR).dev.seqState = seqPowerDown) ∧ ((onS dwnR).dev.cvState ((onS dwnR).dev.slotSel 0) ≠
      cvOff) ∧ (0 + 2 ^ (onS dwnR).dev.fld (SEQ.SLOTB_TO 0) * msec ≤ (onS dwnR).dev.now) ∧
    (20 * usec ≤ 2000) ∧
    ((onS pgl).dev.powered = true) ∧
        ((onS bank0).dev.powered = true) ∧ (((onS bank0).dev.bank 0).link = true) ∧ (100 < (onS bank0).dev.rd
      SEQ.BUV) ∧
    ((onS bank0).dev.rd SEQ.BOV ≤ 65535) := by
  and_intros <;> first
    | decide +kernel
    | exact fun h => nomatch h
theorem witness_PowerCommands :
        ((keep id).dev.powered = true) ∧ ((keep id).dev.admitsWright Writer.host) ∧ ((keep id).dev.inKeep = true)
      ∧ ((keep id).dev.flag SEC.PSTAT_TRANS = false) ∧
        ((keep feedUp).dev.powered = true) ∧ ((keep feedUp).dev.admitsWright Writer.host) ∧ ((keep
      feedUp).dev.inKeep = true) ∧ ((keep feedUp).dev.flag SEC.PSTAT_TRANS = false) ∧
        ((onS sby).dev.powered = true) ∧ ((onS sby).dev.admitsWright Writer.host) ∧ ((onS sby).dev.fld
      SEC.PSTAT_STATE = stStandby) ∧ ((onS sby).dev.rigged = true) ∧ ((onS sby).dev.seqState = seqOn) ∧ ((onS
      sby).dev.flag RING.RSTAT_BYPASS = false) ∧ ((onS sby).dev.flag SEC.DBG_HALTED = false) ∧ (((onS
      sby).dev.flag SEC.PCFG_STRIKEDROP && (onS sby).dev.flag BANK.STRIKESTAT_ACTIVE) = false) ∧
        ((onS id).dev.powered = true) ∧ ((onS id).dev.admitsWright Writer.host) ∧ ((onS id).dev.fld
      SEC.PSTAT_STATE ≠ stStandby ∨ (onS id).dev.rigged = false ∨ (onS id).dev.seqState ≠ seqOn ∨ (onS
      id).dev.flag RING.RSTAT_BYPASS = true ∨ (onS id).dev.flag SEC.DBG_HALTED = true ∨ ((onS id).dev.flag
      SEC.PCFG_STRIKEDROP && (onS id).dev.flag BANK.STRIKESTAT_ACTIVE) = true) ∧
        (unrigged.dev.powered = true) ∧ (unrigged.dev.admitsWright Writer.host) ∧ (unrigged.dev.fld
      SEC.PSTAT_STATE ≠ stStandby ∨ unrigged.dev.rigged = false ∨ unrigged.dev.seqState ≠ seqOn ∨
      unrigged.dev.flag RING.RSTAT_BYPASS = true ∨ unrigged.dev.flag SEC.DBG_HALTED = true ∨ (unrigged.dev.flag
      SEC.PCFG_STRIKEDROP && unrigged.dev.flag BANK.STRIKESTAT_ACTIVE) = true) ∧
        (runDue.dev.powered = true) ∧ (runDue.dev.admitsWright Writer.host) ∧ (runDue.dev.fld SEC.PSTAT_STATE =
      stStandby) ∧ (runDue.dev.sec.runAtScan = true) ∧
    ((onS id).dev.inRun = true) ∧
        (waking.dev.powered = true) ∧ (waking.dev.admitsWright Writer.host) ∧ (waking.dev.inKeep = true) ∧
      (waking.dev.seqState = seqDown) := by
  and_intros <;> first
    | decide +kernel
    | exact fun h => nomatch h
theorem witness_JournalFallsDue :
    (jn.dev.powered = true) ∧ (jn.dev.coreRuns = true) ∧ (jn.dev.flag CNT.JSTAT_PENDING = true) ∧
    (jn.dev.flash.latDue = true ∨ jn.dev.inRun = true ∧ jn.dev.flash.latAt + 600 * second ≤ jn.dev.now) ∧
    (jn.dev.flash.clockDue = true ∨ jn.dev.flash.clockAt + 3600 * second ≤ jn.dev.now) ∧
        (jn.dev.admits Writer.host) ∧ (∃ i < 60, BitVec.getLsbD (65535 : BitVec 16) (i / 6) = true ∧
      BitVec.getLsbD (65535 : BitVec 16) (10 + i % 6) = true) := by
  and_intros <;> first
    | decide +kernel
    | exact fun h => nomatch h
theorem witness_Measurement :
        ((conv (AdcJob.urgent 0) LoopPhase.off).dev.powered = true) ∧ (((conv (AdcJob.urgent 0)
      LoopPhase.off).dev.conv AdcId.a).began + 40 ≤ (conv (AdcJob.urgent 0) LoopPhase.off).dev.clk) ∧ (((conv
      (AdcJob.urgent 0) LoopPhase.off).dev.conv AdcId.a).job = AdcJob.urgent (Urgent.mk 0 5 0 false).tag) ∧
      (List.find? (fun y => y.tag == (Urgent.mk 0 5 0 false).tag) (conv (AdcJob.urgent 0)
      LoopPhase.off).dev.adc.tags = some (Urgent.mk 0 5 0 false)) ∧ ((Urgent.mk 0 5 0 false).tag < 4) ∧ ((conv
      (AdcJob.urgent 0) LoopPhase.off).dev.measurable (Urgent.mk 0 5 0 false).input = true) ∧
        ((conv AdcJob.loop (LoopPhase.conv 0)).dev.powered = true) ∧ (((conv AdcJob.loop (LoopPhase.conv
      0)).dev.conv AdcId.a).began + 40 ≤ (conv AdcJob.loop (LoopPhase.conv 0)).dev.clk) ∧ (((conv AdcJob.loop
      (LoopPhase.conv 0)).dev.conv AdcId.a).job = AdcJob.loop ∨ ((conv AdcJob.loop (LoopPhase.conv 0)).dev.conv
      AdcId.a).job = AdcJob.pair) ∧ ((conv AdcJob.loop (LoopPhase.conv 0)).dev.measurable ((conv AdcJob.loop
      (LoopPhase.conv 0)).dev.entryInput ((conv AdcJob.loop (LoopPhase.conv 0)).dev.conv AdcId.a).loop.entry) =
      true) ∧
        (convS.dev.powered = true) ∧ ((convS.dev.conv AdcId.a).began + 40 ≤ convS.dev.clk) ∧ ((convS.dev.conv
      AdcId.a).job = AdcJob.loop ∨ (convS.dev.conv AdcId.a).job = AdcJob.pair) ∧ (convS.dev.measurable
      (convS.dev.entryInput (convS.dev.conv AdcId.a).loop.entry) = false) ∧
        ((conv (AdcJob.urgent 0) (LoopPhase.delay 5000000)).dev.powered = true) ∧ (((conv (AdcJob.urgent 0)
      (LoopPhase.delay 5000000)).dev.conv AdcId.a).loop.phase = LoopPhase.delay 5000000) ∧ (5000000 ≤ (conv
      (AdcJob.urgent 0) (LoopPhase.delay 5000000)).dev.clk) ∧
        (xw.dev.powered = true) ∧ (xw.dev.waitTill AdcId.a = some 10000) ∧ (10000 ≤ xw.dev.clk) ∧ (xw.dev.waitsFor
      (otherAdc AdcId.a) ≠ xw.dev.waitsFor AdcId.a) ∧
    (done.dev.powered = true) ∧ (done.dev.admits Writer.host) ∧ (done.dev.flag (ADCD.URES_DONE 0) = true) ∧
        (full.dev.powered = true) ∧ (isCore Writer.host = true ∨ Writer.host = Writer.host) ∧ (List.find? (fun t
      => full.dev.adc.tags.all fun u => u.tag != t) (List.range 4) = none) ∧
        ((conv AdcJob.idle LoopPhase.off).dev.powered = true) ∧ (List.find? (fun t => (conv AdcJob.idle
      LoopPhase.off).dev.adc.tags.all fun u => u.tag != t) (List.range 4) = some 1) ∧ (inputOk (BitVec.toNat (511
      : BitVec 16) % 512) = false ∨ BitVec.toNat (511 : BitVec 16) / 512 % 4 = 3) ∧
        (List.find? (fun t => convS.dev.adc.tags.all fun u => u.tag != t) (List.range 4) = some 1) ∧ (inputOk
      (BitVec.toNat (5 : BitVec 16) % 512) = true) ∧ (BitVec.toNat (5 : BitVec 16) / 512 % 4 ≠ 3) ∧
      (¬((convS.dev.inKeep = false ∨ inputKeep (BitVec.toNat (5 : BitVec 16) % 512) = true) ∧ convS.dev.measurable
      (BitVec.toNat (5 : BitVec 16) % 512) = true)) ∧
        (isCore Writer.wright = true ∨ Writer.wright = Writer.host) ∧ (((conv AdcJob.idle
      LoopPhase.off).dev.inKeep = false ∨ inputKeep (BitVec.toNat (5 : BitVec 16) % 512) = true) ∧ (conv
      AdcJob.idle LoopPhase.off).dev.measurable (BitVec.toNat (5 : BitVec 16) % 512) = true) := by
  and_intros <;> first
    | decide +kernel
    | exact fun h => nomatch h
theorem witness_ChargeCycle :
    (noin.dev.powered = true) ∧ (noin.dev.flag CHG.STAT_CHGIN = false) ∧ (max 6000 (8000 + 2000) ≤ 30000) ∧
    ((chg 3).dev.powered = true) ∧ ((chg 3).dev.flag CHG.STAT_CHGIN = true) ∧ (9999 < max 6000 (8000 + 2000)) ∧
        ((chg 1).dev.powered = true) ∧ ((chg 1).dev.phase = chgDetect) ∧ ((chg 1).dev.chg.sourcing = false) ∧
      ((chg 1).dev.chg.absent = false) ∧ ((chg 1).dev.chg.phaseAt + 20 * msec ≤ (chg 1).dev.now) ∧ (999 < 1000) ∧
    (1000 ≤ 1000) ∧
    (1000 ≤ 60000) ∧
        (sourcing.dev.powered = true) ∧ (sourcing.dev.phase = chgDetect) ∧ (sourcing.dev.chg.sourcing = true) ∧
      (sourcing.dev.now < sourcing.dev.chg.phaseAt + 70 * msec) ∧ (sourcing.dev.ceiling ≤ 60000 + 50) ∧
    (1000 + 50 < sourcing.dev.ceiling) ∧
        (sourced.dev.powered = true) ∧ (sourced.dev.phase = chgDetect) ∧ (sourced.dev.chg.sourcing = true) ∧
      (sourced.dev.chg.phaseAt + 70 * msec ≤ sourced.dev.now) ∧
        (absentLong.dev.powered = true) ∧ (absentLong.dev.phase = chgDetect) ∧ (absentLong.dev.chg.absent = true)
      ∧ (absentLong.dev.chg.phaseAt + second ≤ absentLong.dev.now) ∧
        ((chg 2).dev.powered = true) ∧ ((chg 2).dev.flag CHG.STAT_NTCSUSP = false) ∧ ((chg 2).dev.timerOut =
      false) ∧ ((chg 2).dev.chgFirst = true) ∧ ((chg 2).dev.phase = chgPre) ∧ ((chg 2).dev.preMv ≤ 9000) ∧ (16 *
      msec ≤ 1600000 ∧ (chg 2).dev.chg.phaseAt + 16 * msec ≤ (chg 2).dev.now) ∧
    (2000 < (chg 2).dev.preMv) ∧
        ((chg 3).dev.flag CHG.STAT_NTCSUSP = false) ∧ ((chg 3).dev.timerOut = false) ∧ ((chg 3).dev.chgFirst =
      true) ∧ ((chg 3).dev.phase = chgCc) ∧
        ((chg 4).dev.powered = true) ∧ ((chg 4).dev.flag CHG.STAT_NTCSUSP = false) ∧ ((chg 4).dev.timerOut =
      false) ∧ ((chg 4).dev.chgFirst = true) ∧ ((chg 4).dev.phase = chgCv) ∧ ((chg 4).dev.rd CHG.ITERM * 10 ≤
      10000) ∧
        (0 < (chg 4).dev.rd CHG.ITERM * 10) ∧ (16 * msec ≤ 1600000 ∧ (chg 4).dev.chg.phaseAt + 16 * msec ≤ (chg
      4).dev.now) ∧
        (topoff.dev.powered = true) ∧ (topoff.dev.flag CHG.STAT_NTCSUSP = false) ∧ (topoff.dev.timerOut = false) ∧
      (topoff.dev.chgFirst = true) ∧ (topoff.dev.phase = chgCv) ∧ (0 < topoff.dev.rd CHG.ITERM * 10) ∧ (16 * msec
      ≤ 1600000 ∧ topoff.dev.chg.phaseAt + 16 * msec ≤ topoff.dev.now) ∧
        ((chg 5 id 1000000000000).dev.powered = true) ∧ ((chg 5 id 1000000000000).dev.flag CHG.STAT_NTCSUSP =
      false) ∧ ((chg 5 id 1000000000000).dev.timerOut = false) ∧ ((chg 5 id 1000000000000).dev.chgFirst = true) ∧
      ((chg 5 id 1000000000000).dev.phase = chgTop) ∧ ((chg 5 id 1000000000000).dev.chg.phaseAt + (chg 5 id
      1000000000000).dev.fld CHG.CFG_TOPOFF * 60 * second ≤ (chg 5 id 1000000000000).dev.now) ∧
        ((chg 6).dev.powered = true) ∧ ((chg 6).dev.flag CHG.STAT_NTCSUSP = false) ∧ ((chg 6).dev.timerOut =
      false) ∧ ((chg 6).dev.chgFirst = true) ∧ ((chg 6).dev.phase = chgDone) ∧ (2000 < (chg 6).dev.recharge) ∧ (16
      * msec ≤ 1600000 ∧ (chg 6).dev.chg.phaseAt + 16 * msec ≤ (chg 6).dev.now) := by
  and_intros <;> first
    | decide +kernel
theorem witness_ChargerFaults :
        ((chg 2 id 10000000).dev.powered = true) ∧ ((chg 2 id 10000000).dev.chgFirst = true) ∧ ((chg 2 id
      10000000).dev.timerOut = false) ∧ ((chg 2 id 10000000).dev.flag CHG.STAT_NTCSUSP = false) ∧ ((chg 2 id
      10000000).dev.phase = chgPre) ∧ (900 < 1000) ∧ ((chg 2 id 10000000).dev.chg.phaseAt + 100 * msec ≤ (chg 2 id
      10000000).dev.now) ∧ ((chg 2 id 10000000).dev.now < (chg 2 id 10000000).dev.chg.phaseAt + 100 * msec + 3052)
      ∧
    (overtime.dev.powered = true) ∧ (overtime.dev.chgFirst = true) ∧ (overtime.dev.timerOut = true) ∧
        ((chg 3).dev.powered = true) ∧ ((chg 3).dev.chgFirst = true) ∧ ((chg 3).dev.timerOut = false) ∧ ((chg
      3).dev.charging = true) ∧ ((chg 3).dev.ceiling + 100 * (chg 3).dev.cells ≤ 60000) ∧ (msec ≤ 100000) ∧
        ((chg 4).dev.powered = true) ∧ ((chg 4).dev.chgFirst = true) ∧ ((chg 4).dev.cycling = true) ∧ (20 ≤ 20) ∧
      (9 < 10) ∧ ((chg 4).dev.ceiling ≤ 60000 + 20 * (chg 4).dev.cells) ∧
        ((chg 5 (fun x => Charger.mk 0 x.sourcing x.absent x.vbat x.checkAt x.safe2 x.pre2)
      1003052000).dev.powered = true) ∧ ((chg 5 (fun x => Charger.mk 0 x.sourcing x.absent x.vbat x.checkAt
      x.safe2 x.pre2) 1003052000).dev.chgFirst = true) ∧ ((chg 5 (fun x => Charger.mk 0 x.sourcing x.absent x.vbat
      x.checkAt x.safe2 x.pre2) 1003052000).dev.phase = chgTop ∨ (chg 5 (fun x => Charger.mk 0 x.sourcing x.absent
      x.vbat x.checkAt x.safe2 x.pre2) 1003052000).dev.phase = chgDone) ∧ ((chg 5 (fun x => Charger.mk 0
      x.sourcing x.absent x.vbat x.checkAt x.safe2 x.pre2) 1003052000).dev.chg.checkAt + 10 * second + 20 * msec ≤
      (chg 5 (fun x => Charger.mk 0 x.sourcing x.absent x.vbat x.checkAt x.safe2 x.pre2) 1003052000).dev.now) ∧
        ((chg 6 id 1003052000).dev.powered = true) ∧ ((chg 6 id 1003052000).dev.chgFirst = true) ∧ ((chg 6 id
      1003052000).dev.phase = chgTop ∨ (chg 6 id 1003052000).dev.phase = chgDone) ∧ ((chg 6 id
      1003052000).dev.chg.checkAt + 10 * second + 20 * msec ≤ (chg 6 id 1003052000).dev.now) ∧ (1000 ≤ 1000) ∧
    ((chg 7).dev.powered = true) ∧ ((chg 7).dev.admits Writer.host) ∧ ((chg 7).dev.phase = chgFault) ∧
        (second ≤ 100000000) ∧ (BitVec.toNat (65535 : BitVec 16) < (chg 3).dev.rd CHG.NTCLO ∨ (chg 3).dev.rd
      CHG.NTCHI ≤ BitVec.toNat (65535 : BitVec 16)) ∧
        (susp.dev.powered = true) ∧ (susp.dev.rd CHG.NTCLO ≤ BitVec.toNat (30000 : BitVec 16)) ∧ (BitVec.toNat
      (30000 : BitVec 16) < susp.dev.rd CHG.NTCHI) ∧
        (cut.dev.powered = true) ∧ (cut.dev.flag CHG.STAT_FETON = true) ∧ (cut.dev.flag CHG.STAT_CHGIN = false) ∧
      (100 < cut.dev.rd CHG.VCUT * 20 * cut.dev.cells) ∧ (100 * msec ≤ 10000000) := by
  and_intros <;> first
    | decide +kernel
    | exact fun h => nomatch h
theorem witness_ShipMode :
    (noin.dev.powered = true) ∧ (noin.dev.admits Writer.host) ∧
        (shp.dev.powered = true) ∧ (4499 < 4500) ∧ (second ≤ 100000000) ∧ (shp.dev.flag CHG.STAT_SHIPPEND = true)
      ∧ (shp.dev.inKeep = true) ∧ (shp.dev.coreAlive = true) ∧ (shp.dev.sec.bootDue = false) ∧
        (shpB.dev.powered = true) ∧ (shpB.dev.flag CHG.STAT_SHIPPEND = true) ∧ (shpB.dev.inKeep = true) ∧
      (shpB.dev.coreAlive = true) ∧ (shpB.dev.sec.bootDue = false) ∧
    (inShip.dev.sec.supply = Supply.ship) ∧
    (99999999 < second) := by
  and_intros <;> first
    | decide +kernel
    | exact fun h => nomatch h
theorem witness_Watchdog :
        ((wd 20000).dev.powered = true) ∧ ((wd 20000).dev.frozen = false) ∧ ((wd 20000).dev.coreHeld = false) ∧
      (Writer.wright ≠ Writer.hand) ∧ ((wd 20000).dev.admits Writer.wright) ∧ ((wd 20000).dev.mayServe
      Writer.wright = true) ∧ ((wd 20000).dev.rd WDT.CNT < (wd 20000).dev.wdtLimit) ∧ ((wd 20000).dev.flag
      WDT.STAT_BOOT = true ∨ (wd 20000).dev.rd WDT.TMINT ≤ (wd 20000).dev.rd WDT.CNT ∧ (wd 20000).dev.missingSlots
      = 0) ∧
        ((wd 1 fun x => x.raise WDT.STAT_BOOT).dev.powered = true) ∧ ((wd 1 fun x => x.raise
      WDT.STAT_BOOT).dev.frozen = false) ∧ ((wd 1 fun x => x.raise WDT.STAT_BOOT).dev.coreHeld = false) ∧ ((wd 1
      fun x => x.raise WDT.STAT_BOOT).dev.admits Writer.wright) ∧ ((wd 1 fun x => x.raise
      WDT.STAT_BOOT).dev.mayServe Writer.wright = true) ∧ ((wd 1 fun x => x.raise WDT.STAT_BOOT).dev.rd WDT.CNT <
      (wd 1 fun x => x.raise WDT.STAT_BOOT).dev.wdtLimit) ∧ ((wd 1 fun x => x.raise WDT.STAT_BOOT).dev.flag
      WDT.STAT_BOOT = true ∨ (wd 1 fun x => x.raise WDT.STAT_BOOT).dev.rd WDT.TMINT ≤ (wd 1 fun x => x.raise
      WDT.STAT_BOOT).dev.rd WDT.CNT ∧ (wd 1 fun x => x.raise WDT.STAT_BOOT).dev.missingSlots = 0) ∧
        ((wd 1).dev.powered = true) ∧ ((wd 1).dev.frozen = false) ∧ ((wd 1).dev.coreHeld = false) ∧ ((wd
      1).dev.admits Writer.wright) ∧ ((wd 1).dev.mayServe Writer.wright = true) ∧ ((wd 1).dev.rd WDT.CNT < (wd
      1).dev.wdtLimit) ∧ ((wd 1).dev.flag WDT.STAT_BOOT = false) ∧ ((wd 1).dev.rd WDT.CNT < (wd 1).dev.rd
      WDT.TMINT) ∧
        ((wd 40000).dev.powered = true) ∧ ((wd 40000).dev.frozen = false) ∧ ((wd 40000).dev.coreHeld = false) ∧
      ((wd 40000).dev.admits Writer.wright) ∧ ((wd 40000).dev.mayServe Writer.wright = true) ∧ ((wd
      40000).dev.wdtLimit ≤ (wd 40000).dev.rd WDT.CNT) ∧
        (Writer.host ≠ Writer.hand) ∧ ((wd 1).dev.admits Writer.host) ∧ ((wd 1).dev.mayServe Writer.host = false ∨
      (90 : BitVec 8) ≠ (90 : BitVec 8)) ∧
    ((wd 1).dev.mayServe Writer.wright = false ∨ (91 : BitVec 8) ≠ (90 : BitVec 8)) ∧
        ((wd 32000).dev.powered = true) ∧ ((wd 32000).dev.frozen = false) ∧ ((wd 32000).dev.coreHeld = false) ∧
      ((wd 32000).dev.wdt.warned = false) ∧ ((wd 32000).dev.wdt.warn ≠ 0) ∧ ((wd 32000).dev.wdtLimit ≤ (wd
      32000).dev.rd WDT.CNT + (wd 32000).dev.wdt.warn) ∧
        ((wd 1).dev.flag WDT.STAT_MONSTOP = false) ∧ (4 ≤ 4) ∧ ((wd 1).dev.wdt.resumedAt + 4 * (wd
      1).dev.monitorPeriod ≤ (wd 1).dev.clk) ∧
    (rst.dev.powered = true) ∧ (rst.dev.wdt.resetTo = some 5000000) ∧ (5000000 ≤ rst.dev.now) ∧
    (rst.dev.wdt.wdxTo = some 5000000) := by
  and_intros <;> first
    | decide +kernel
    | exact fun h => nomatch h
theorem witness_ServiceRefused :
        (oneMissing.dev.powered = true) ∧ (Writer.wright ≠ Writer.hand) ∧ (oneMissing.dev.admits Writer.wright) ∧
      (oneMissing.dev.frozen = false) ∧ (oneMissing.dev.coreHeld = false) ∧ (oneMissing.dev.mayServe Writer.wright
      = true) ∧ (oneMissing.dev.flag WDT.STAT_BOOT = false) ∧ (oneMissing.dev.rd WDT.TMINT ≤ oneMissing.dev.rd
      WDT.CNT) ∧ (oneMissing.dev.rd WDT.CNT < oneMissing.dev.rd WDT.TMAXT) ∧ (∃ k < 8, oneMissing.dev.bit
      WDT.SLOTEN k = true ∧ oneMissing.dev.bit WDT.CHK k = false) := by
  and_intros <;> first
    | decide +kernel
    | exact fun h => nomatch h
theorem witness_CheckIns :
        ((ck 0 0 0).dev.powered = true) ∧ ((ck 0 0 0).dev.admits Writer.wright) ∧ ((ck 0 0 0).dev.frozen = false)
      ∧ ((ck 0 0 0).dev.coreHeld = false) ∧ (BitVec.toNat (128 : BitVec 8) = 2 ^ 7) ∧ ((ck 0 0 0).dev.bit
      WDT.SLOTEN 7 = false) ∧
        ((ck 255 0 0).dev.powered = true) ∧ ((ck 255 0 0).dev.admits Writer.host) ∧ ((ck 255 0 0).dev.frozen =
      false) ∧ ((ck 255 0 0).dev.coreHeld = false) ∧ ((ck 255 0 0).dev.bit WDT.SLOTEN 7 = true) ∧ ((ck 255 0
      0).dev.ownsSlot Writer.host 7 = false) ∧
        ((ck 255 0 0).dev.admits Writer.hand) ∧ ((ck 255 0 0).dev.ownsSlot Writer.hand 7 = true) ∧ ((ck 255 0
      0).dev.wdt.servedAt ≠ some (ck 255 0 0).dev.clk) ∧ ((ck 255 0 0).dev.bit WDT.CHK 7 = false) ∧
        ((ck 255 128 0).dev.powered = true) ∧ ((ck 255 128 0).dev.admits Writer.hand) ∧ ((ck 255 128 0).dev.frozen
      = false) ∧ ((ck 255 128 0).dev.coreHeld = false) ∧ ((ck 255 128 0).dev.bit WDT.SLOTEN 7 = true) ∧ ((ck 255
      128 0).dev.ownsSlot Writer.hand 7 = true) ∧ ((ck 255 128 0).dev.wdt.servedAt ≠ some (ck 255 128 0).dev.clk)
      ∧ ((ck 255 128 0).dev.bit WDT.CHK 7 = true) ∧ ((ck 255 128 0).dev.bit WDT.SURPF 7 = false) ∧
        ((ck 255 128 128).dev.powered = true) ∧ ((ck 255 128 128).dev.admits Writer.hand) ∧ ((ck 255 128
      128).dev.frozen = false) ∧ ((ck 255 128 128).dev.coreHeld = false) ∧ ((ck 255 128 128).dev.bit WDT.SLOTEN 7
      = true) ∧ ((ck 255 128 128).dev.ownsSlot Writer.hand 7 = true) ∧ ((ck 255 128 128).dev.wdt.servedAt ≠ some
      (ck 255 128 128).dev.clk) ∧ ((ck 255 128 128).dev.bit WDT.CHK 7 = true) ∧ ((ck 255 128 128).dev.bit
      WDT.SURPF 7 = true) ∧
        ((ckAt 0).dev.powered = true) ∧ ((ckAt 0).dev.admits Writer.hand) ∧ ((ckAt 0).dev.frozen = false) ∧ ((ckAt
      0).dev.coreHeld = false) ∧ ((ckAt 0).dev.bit WDT.SLOTEN 7 = true) ∧ ((ckAt 0).dev.ownsSlot Writer.hand 7 =
      true) ∧ ((ckAt 0).dev.wdt.servedAt = some (ckAt 0).dev.clk) ∧ ((ckAt 0).dev.wdt.ended.testBit 7 = false) ∧
        ((ckAt 128).dev.powered = true) ∧ ((ckAt 128).dev.admits Writer.hand) ∧ ((ckAt 128).dev.frozen = false) ∧
      ((ckAt 128).dev.coreHeld = false) ∧ ((ckAt 128).dev.bit WDT.SLOTEN 7 = true) ∧ ((ckAt 128).dev.ownsSlot
      Writer.hand 7 = true) ∧ ((ckAt 128).dev.wdt.servedAt = some (ckAt 128).dev.clk) ∧ ((ckAt
      128).dev.wdt.ended.testBit 7 = true) ∧ ((ckAt 128).dev.bit WDT.SURPF 7 = false) := by
  and_intros <;> first
    | decide +kernel
    | exact fun h => nomatch h

end W4

namespace W5

def fw (d : Device) : Device := { d with sec := { d.sec with bootDue := false } }
def healthy (d : Device) : Device := ((d.raise CHG.STAT_PRESENT).raise CHG.STAT_FETON).modChg fun c => { c with vbat := 10000 }
def envOk : EnergyEnv := { vsys := 5000, vhold := 27000, temp := 25*128 }
def sby (f : Device → Device) : State := st fun d => f ((healthy (fw (inRun d))).setFld SEC.PSTAT_STATE 3)
def prov : State := sby fun d => d.setFld SEC.LIFE_STATE 1
def clos (n : Nat) : State := sby fun d => { d.setFld SEC.DBG_DSTATE dbgClosed with sec := { d.sec with fails := n } }
def auth (f : Device → Device) : State := sby fun d => f (d.setFld SEC.DBG_DSTATE dbgAuth)
def deployedRun : State := auth fun d => (d.setFld SEC.LIFE_STATE 2).setFld SEC.PSTAT_STATE 4
def deployed : State := auth fun d => (d.setFld SEC.LIFE_STATE 2)
def haltDue : State := auth fun d => { d with sec := { d.sec with haltAtScan := true } }
def ship : State := st fun d => { inRun d with sec := { d.sec with supply := .ship } }
def scanning : State := st fun d => (inRun d).raise SEC.DBG_SCAN
def otp (a data : Nat) (f : Device → Device := id) : State := sby fun d => f ((d.wr OTP.ADDR a).wr OTP.WDATA data)
def finalised : State := otp 0x110 5 fun d => d.setFld (OTP.RSTAT_STATE 4) 1
def locked : State := otp 0x110 5 fun d => d.setFld OTP.LOCKS_PLOCK 0x3F
def fin : State := otp 4 0 fun d => { d with otp := { d.otp with norm := [(0x260, 2), (0x5E0, 2), (0x960, 2)], tight := [(0x260, 2), (0x5E0, 2), (0x960, 2)] } }
def weak : State := otp 0x108 0 fun d => { d with otp := { d.otp with norm := [(0x260, 2)], tight := [], weak := [0x260] } }
def repair : State := otp 0x260 0
def nospare : State := otp 0x260 0 fun d => { d with otp := { d.otp with norm := (List.range 170).map fun k => (recordBase k, 1) } }
def running (x : OtpRun) : State := otp 0 0 fun d => { (d.raise OTP.STAT_BUSY) with otp := { d.otp with run := some x } }
def ev1 : Event := { code := 0x101, tide := 1000 }
def sec1 : Sector := ⟨244, 0, [⟨5, 0, .sector 0 0 0, true⟩]⟩
def stor (f : Device → Device) : State := sby fun d => f ((((d.raise STORE.STAT_PRESENT).wr STORE.SIZE 32)).modStore fun x => { x with log := [sec1], journal := [{ sec1 with num := 4 }] })
def evs : State := stor fun d => { d with events := [ev1] }
def fullSec : Sector := ⟨244, 0, List.replicate 1024 ⟨5, 0, .sector 0 0 0, true⟩⟩
def evFull : State := stor fun d => { d.modStore (fun x => { x with log := [fullSec] }) with events := [ev1] }
def noStore : State := sby fun d => { d with events := [ev1] }
def retS : State := stor fun d => d.modStore fun x => { x with retiring := [(200, 2)] }
def poorS : State := stor fun d => ((d.lower CHG.STAT_PRESENT).wr STORE.CHOLD 0).modStore fun x => { x with retiring := [(200, 2)], tProg := 3000 }
def opn : State := stor fun d => d.modStore fun x => { x with opening := [.clock 1 2 3] }
def jr : State := stor fun d => d.modStore fun x => { x with ready := [(.clock 1 2 3, 7)] }
def qu : State := stor fun d => d.modStore fun x => { x with queue := [(.clock 1 2 3, 7)] }
def opE : State := stor fun d => (d.raise STORE.STAT_BUSY).modStore fun x => { x with op := some (.record (.event ev1 1 2) 1000) }
def opX : State := stor fun d => (d.raise STORE.STAT_BUSY).modStore fun x => { x with op := some .eraseLog }
def due : State := stor fun d => d.wr STORE.SCLK sixMonths
def scrubbing : State := stor fun d => d.raise STORE.STAT_SCRUBBING
def reading : State := stor fun d => d.wr STORE.XADDR 0x40000
def stg (n : Nat) : State := stor fun d => (d.raise STORE.XSTAT_STAGING).modStore fun x => { x with staged := List.replicate n 0, stageBase := 0x40000 }
theorem witness_LifecycleAndKeys :
        ((sby id).dev.powered = true) ∧ ((sby id).dev.admitsWright Writer.wright) ∧ (BitVec.toNat (1 : BitVec 32)
      / 65536 ≠ 24257) ∧
        ((st inRun).dev.powered = true) ∧ ((st inRun).dev.admitsWright Writer.wright) ∧ (BitVec.toNat (1589706753
      : BitVec 32) / 65536 = 24257) ∧ ((st inRun).dev.inRun = true) ∧
        (BitVec.toNat (1589706754 : BitVec 32) / 65536 = 24257) ∧ ((sby id).dev.inRun = false) ∧ (lcInTable (sby
      id).dev.lifecycle (BitVec.toNat (1589706754 : BitVec 32) % 4) = false) ∧
        (lcInTable (sby id).dev.lifecycle (BitVec.toNat (1589706753 : BitVec 32) % 4) = true) ∧ ((sby
      id).dev.lcCond (BitVec.toNat (1589706753 : BitVec 32) % 4) = false) ∧
        ((sby id).dev.admitsWright Writer.host) ∧ (BitVec.toNat (1589706755 : BitVec 32) / 65536 = 24257) ∧
      (lcInTable (sby id).dev.lifecycle (BitVec.toNat (1589706755 : BitVec 32) % 4) = true) ∧ ((sby id).dev.lcCond
      (BitVec.toNat (1589706755 : BitVec 32) % 4) = true) ∧ ((sby id).dev.otpMayStart Writer.host envOk ≠ none ∨
      (sby id).dev.otpEnergyOk envOk (List.foldl (fun n i => n + 4 * onesIn ((sby id).dev.otp.lifeBits i
      4294967295)) 0 (lcMarkers (BitVec.toNat (1589706755 : BitVec 32) % 4))) = false) ∧
        ((sby id).dev.otpMayStart Writer.wright envOk = none) ∧ ((sby id).dev.otpEnergyOk envOk (List.foldl (fun n
      i => n + 4 * onesIn ((sby id).dev.otp.lifeBits i 4294967295)) 0 (lcMarkers (BitVec.toNat (1589706755 :
      BitVec 32) % 4))) = true) ∧
        (prov.dev.powered = true) ∧ (prov.dev.admitsWright Writer.wright) ∧ (BitVec.toNat (182 : BitVec 8) / 8 =
      22) ∧ (prov.dev.lifecycle = lcProvisioned ∨ prov.dev.lifecycle = lcDeployed) ∧ (∀ j ∈ classSlots
      (BitVec.toNat (182 : BitVec 8) % 8), j = BitVec.toNat (182 : BitVec 8) % 8 ∨ prov.dev.keyUsable j = false) := by
  and_intros <;> first
    | decide +kernel
    | exact fun h => nomatch h
theorem witness_DebugAccess :
        ((clos 2).dev.powered = true) ∧ ((clos 2).dev.dbgPasses 5 (BitVec.toNat (1 : BitVec 8)) (0 : BitVec 512)
      (0 : BitVec 512) 0 = false) ∧
        ((auth fun x => x.raise SEC.DBG_HALTED).dev.powered = true) ∧ ((auth fun x => x.raise
      SEC.DBG_HALTED).dev.admitsWright Writer.wright) ∧ ((auth fun x => x.raise SEC.DBG_HALTED).dev.fld
      SEC.DBG_DSTATE = dbgAuth) ∧
        ((sby id).dev.powered = true) ∧ ((sby id).dev.dbgCore = true) ∧ ((sby id).dev.flag SEC.DBG_HALTED = false)
      ∧ ((sby id).dev.flag SEC.DBG_HALTREQ = false) ∧ ((sby id).dev.lifecycle ≠ lcDeployed) ∧
        (deployedRun.dev.powered = true) ∧ (deployedRun.dev.dbgCore = true) ∧ (deployedRun.dev.flag SEC.DBG_HALTED
      = false) ∧ (deployedRun.dev.flag SEC.DBG_HALTREQ = false) ∧ (deployedRun.dev.lifecycle = lcDeployed) ∧
      (deployedRun.dev.inRun = true) ∧
        (deployed.dev.powered = true) ∧ (deployed.dev.dbgCore = true) ∧ (deployed.dev.flag SEC.DBG_HALTED = false)
      ∧ (deployed.dev.flag SEC.DBG_HALTREQ = false) ∧ (deployed.dev.lifecycle = lcDeployed) ∧ (deployed.dev.inRun
      = false) ∧
    (haltDue.dev.powered = true) ∧ (haltDue.dev.sec.haltAtScan = true) ∧
    ((auth fun x => x.raise SEC.DBG_HALTED).dev.flag SEC.DBG_HALTED = true) ∧
    ((sby id).dev.dbgScan = true) ∧ ((sby id).dev.flag SEC.DBG_SCAN = false) := by
  and_intros <;> first
    | decide +kernel
    | exact fun h => nomatch h
theorem witness_PowerOnAndBoot :
    (ship.dev.sec.supply = Supply.ship) ∧
    (5000 ≤ 5000) ∧
    (4999 < 5000) ∧
    (scanning.dev.powered = true) ∧ (scanning.dev.flag SEC.DBG_SCAN = true) ∧
        (State.reset.dev.powered = true) ∧ (State.reset.dev.sec.bootDue = true) ∧ (State.reset.dev.coreAlive =
      true) ∧ (State.reset.dev.storeIdle = true) := by decide +kernel
theorem witness_OtpCommands :
        ((otp 272 5).dev.powered = true) ∧ ((otp 272 5).dev.admitsWright Writer.host) ∧ ((otp 272
      5).dev.otpMayStart Writer.host envOk = some otpSource) ∧
        (finalised.dev.powered = true) ∧ (finalised.dev.admitsWright Writer.wright) ∧ (finalised.dev.otpMayStart
      Writer.wright envOk = none) ∧ (otpAddr finalised.dev < otpWords) ∧ (regionOf (otpAddr finalised.dev) ≠
      rLife) ∧ (regionOf (otpAddr finalised.dev) ≠ rDig) ∧ (otpAddr finalised.dev ≠ headerOf (regionOf (otpAddr
      finalised.dev)) ∨ (finalised.dev.rd OTP.WDATA).testBit 31 = false) ∧ (finalised.dev.regionState (regionOf
      (otpAddr finalised.dev)) ≠ 0) ∧
        (locked.dev.powered = true) ∧ (locked.dev.admitsWright Writer.wright) ∧ (locked.dev.otpMayStart
      Writer.wright envOk = none) ∧ (otpAddr locked.dev < otpWords) ∧ (regionOf (otpAddr locked.dev) ≠ rLife) ∧
      (regionOf (otpAddr locked.dev) ≠ rDig) ∧ (otpAddr locked.dev ≠ headerOf (regionOf (otpAddr locked.dev)) ∨
      (locked.dev.rd OTP.WDATA).testBit 31 = false) ∧ (locked.dev.regionState (regionOf (otpAddr locked.dev)) = 0)
      ∧ (locked.dev.plock (regionOf (otpAddr locked.dev)) = true) ∧
        ((otp 272 5).dev.admitsWright Writer.wright) ∧ ((otp 272 5).dev.otpMayStart Writer.wright envOk = none) ∧
      (otpAddr (otp 272 5).dev < otpWords) ∧ (regionOf (otpAddr (otp 272 5).dev) ≠ rLife) ∧ (regionOf (otpAddr
      (otp 272 5).dev) ≠ rDig) ∧ (otpAddr (otp 272 5).dev ≠ headerOf (regionOf (otpAddr (otp 272 5).dev)) ∨ ((otp
      272 5).dev.rd OTP.WDATA).testBit 31 = false) ∧ ((otp 272 5).dev.regionState (regionOf (otpAddr (otp 272
      5).dev)) = 0) ∧ ((otp 272 5).dev.plock (regionOf (otpAddr (otp 272 5).dev)) = false) ∧ ((otp 272
      5).dev.otpEnergyOk envOk (burnCount ((otp 272 5).dev.otp.burnsOf (otpAddr (otp 272 5).dev) (lacking ((otp
      272 5).dev.rd OTP.WDATA) ((otp 272 5).dev.otp.normal (otpAddr (otp 272 5).dev))))) = true) ∧
        (fin.dev.powered = true) ∧ (fin.dev.admitsWright Writer.wright) ∧ (fin.dev.otpMayStart Writer.wright envOk
      = none) ∧ (finalisable.contains (otpAddr fin.dev) = true) ∧ (fin.dev.otp.length (otpAddr fin.dev) ≠ 0) ∧
      (fin.dev.otp.beyond (otpAddr fin.dev) = false) ∧ (fin.dev.regionState (otpAddr fin.dev) = 0) ∧
      (fin.dev.plock (otpAddr fin.dev) = false) ∧ (fin.dev.otpEnergyOk envOk (burnCount (fin.dev.otp.finaliseBurns
      (otpAddr fin.dev))) = true) ∧
    (∀ p ∈ copiesOf (otpAddr (otp 272 5).dev), p ∉ (otp 272 5).dev.otp.weak) ∧
        (weak.dev.powered = true) ∧ (weak.dev.admitsWright Writer.wright) ∧ (weak.dev.otpMayStart Writer.wright
      envOk = none) ∧ (otpAddr weak.dev < otpWords) ∧ (∃ p ∈ copiesOf (otpAddr weak.dev), p ∈ weak.dev.otp.weak) ∧
      (weak.dev.otpEnergyOk envOk (burnCount (List.map (fun pb => (weak.dev.otp.homeOf pb.1, pb.2))
      (weak.dev.otp.weakBits (otpAddr weak.dev)))) = true) ∧
        (repair.dev.powered = true) ∧ (repair.dev.admitsWright Writer.wright) ∧ (repair.dev.otpMayStart
      Writer.wright envOk = none) ∧ (repair.dev.otp.repairTarget 171 (otpAddr repair.dev) = some 264) ∧
      (repair.dev.otp.firstBlank = some 0) ∧ (repair.dev.otpEnergyOk envOk (burnCount (repair.dev.otp.repairBurns
      (otpAddr repair.dev) 264 0)) = true) ∧
        (nospare.dev.powered = true) ∧ (nospare.dev.admitsWright Writer.wright) ∧ (nospare.dev.otpMayStart
      Writer.wright envOk = none) ∧ (nospare.dev.otp.repairTarget 171 (otpAddr nospare.dev) = some 264) ∧
      (nospare.dev.otp.firstBlank = none) ∧
        ((running (OtpRun.mk 0 4 (some 4) false [] [])).dev.powered = true) ∧ ((running (OtpRun.mk 0 4 (some 4)
      false [] [])).dev.otp.run = some (OtpRun.mk 0 4 (some 4) false [] [])) ∧
        ((running (OtpRun.mk 9 4 none true [] [])).dev.powered = true) ∧ ((running (OtpRun.mk 9 4 none true []
      [])).dev.otp.run = some (OtpRun.mk 9 4 none true [] [])) ∧
    (repair.dev.flag OTP.STAT_SESSION = false) ∧ (repair.dev.coreRuns = true) := by
  and_intros <;> first
    | decide +kernel
    | exact fun h => nomatch h
theorem witness_RecordsWritten :
        (evs.dev.powered = true) ∧ (evs.dev.coreRuns = true) ∧ (evs.dev.storeIdle = true) ∧
      (evs.dev.flash.retiring = []) ∧ (evs.dev.events = [ev1]) ∧ (evs.dev.present = true ∧ evs.dev.areaReady false
      = true ∧ (evs.dev.storeEnergy envOk evs.dev.flash.tProg).1 = true) ∧ (areaFull (evs.dev.area false) = false)
      ∧ (evs.dev.flash.droppedSince = 0) ∧
        (evFull.dev.powered = true) ∧ (evFull.dev.coreRuns = true) ∧ (evFull.dev.storeIdle = true) ∧
      (evFull.dev.flash.retiring = []) ∧ (evFull.dev.events = [ev1]) ∧ (evFull.dev.present = true ∧
      evFull.dev.areaReady false = true ∧ (evFull.dev.storeEnergy envOk evFull.dev.flash.tProg).1 = true) ∧
      (¬areaFull (evFull.dev.area false) = false) ∧
        (noStore.dev.powered = true) ∧ (noStore.dev.coreRuns = true) ∧ (noStore.dev.storeIdle = true) ∧
      (noStore.dev.flash.retiring = []) ∧ (noStore.dev.events = [ev1]) ∧ (¬(noStore.dev.present = true ∧
      noStore.dev.areaReady false = true ∧ (noStore.dev.storeEnergy envOk noStore.dev.flash.tProg).1 = true)) ∧
      (noStore.dev.flash.queue.length < 32) ∧
        (retS.dev.powered = true) ∧ (retS.dev.coreRuns = true) ∧ (retS.dev.storeIdle = true) ∧
      (retS.dev.flash.retiring = [(200, 2)]) ∧ (4 ≤ 200) ∧ (retS.dev.freeSpares ≠ []) ∧ ((retS.dev.storeEnergy
      envOk retS.dev.flash.tProg).1 = true) ∧
        (poorS.dev.powered = true) ∧ (poorS.dev.coreRuns = true) ∧ (poorS.dev.storeIdle = true) ∧
      (poorS.dev.flash.retiring = [(200, 2)]) ∧ (poorS.dev.freeSpares ≠ []) ∧ ((poorS.dev.storeEnergy envOk
      poorS.dev.flash.tProg).1 = false) ∧
        (opn.dev.powered = true) ∧ (opn.dev.coreRuns = true) ∧ (opn.dev.storeIdle = true) ∧
      (opn.dev.flash.retiring = []) ∧ (opn.dev.events = []) ∧ (opn.dev.flash.opening = [RecBody.clock 1 2 3]) ∧
      (opn.dev.present = true ∧ opn.dev.areaReady (isJournal (RecBody.clock 1 2 3)) = true ∧ (opn.dev.storeEnergy
      envOk opn.dev.flash.tProg).1 = true) ∧ (areaFull (opn.dev.area (isJournal (RecBody.clock 1 2 3))) = false) ∧
      (isJournal (RecBody.clock 1 2 3) = true) ∧
        (jr.dev.powered = true) ∧ (jr.dev.coreRuns = true) ∧ (jr.dev.storeIdle = true) ∧ (jr.dev.flash.retiring =
      []) ∧ (jr.dev.events = []) ∧ (jr.dev.flash.opening = []) ∧ (jr.dev.flash.ready = [(RecBody.clock 1 2 3, 7)])
      ∧ (jr.dev.present = true ∧ jr.dev.areaReady (isJournal (RecBody.clock 1 2 3)) = true ∧ (jr.dev.storeEnergy
      envOk jr.dev.flash.tProg).1 = true) ∧ (areaFull (jr.dev.area (isJournal (RecBody.clock 1 2 3))) = false) ∧
      (isJournal (RecBody.clock 1 2 3) = true ∨ jr.dev.flash.droppedSince = 0) ∧
        (qu.dev.powered = true) ∧ (qu.dev.coreRuns = true) ∧ (qu.dev.storeIdle = true) ∧ (qu.dev.flash.retiring =
      []) ∧ (qu.dev.flash.queue = [(RecBody.clock 1 2 3, 7)]) ∧ (qu.dev.retryNow = true) ∧ (qu.dev.present = true
      ∧ qu.dev.areaReady (isJournal (RecBody.clock 1 2 3)) = true ∧ (qu.dev.storeEnergy envOk
      qu.dev.flash.tProg).1 = true) ∧ (areaFull (qu.dev.area (isJournal (RecBody.clock 1 2 3))) = false) ∧
      (qu.dev.flash.droppedSince = 0) ∧ (isJournal (RecBody.clock 1 2 3) = true → qu.dev.flash.opening = []) ∧
        (opE.dev.powered = true) ∧ (opE.dev.flash.op = some (StoreOp.record (RecBody.event ev1 1 2) 1000)) ∧
      (ev1.code ≠ Ev.LOG_DROPPED) ∧ (opE.dev.flash.log.getLast? = some sec1) ∧
    (opE.dev.flash.queue.length < 32) ∧
    (opX.dev.powered = true) ∧ (opX.dev.flash.op = some StoreOp.eraseLog) := by
  and_intros <;> first
    | decide +kernel
theorem witness_ScrubAndWindow :
        (due.dev.powered = true) ∧ (due.dev.admits Writer.host) ∧ (due.dev.coreRuns = true) ∧ (due.dev.present =
      true) ∧
    (due.dev.rd STORE.TSCRUB + sixMonths ≤ due.dev.rd STORE.SCLK) ∧
        (scrubbing.dev.powered = true) ∧ (scrubbing.dev.admits Writer.host) ∧ (scrubbing.dev.coreRuns = true) ∧
      (scrubbing.dev.flag STORE.STAT_SCRUBBING = true) ∧
        (reading.dev.powered = true) ∧ (reading.dev.admits Writer.host) ∧ (reading.dev.present = true) ∧
      (reading.dev.flag STORE.XSTAT_STAGING = false) ∧ (inSlots (reading.dev.rd STORE.XADDR % 2 ^ 31) = true) ∧
        ((stg 3).dev.powered = true) ∧ ((stg 3).dev.admits Writer.host) ∧ ((stg 3).dev.flag STORE.XSTAT_STAGING =
      true) ∧ (inSlots (stg 3).dev.flash.stageBase = true) ∧ ((stg 3).dev.flash.staged.length + 1 < 2048) := by
  and_intros <;> first
    | decide +kernel
    | exact fun h => nomatch h

end W5

namespace W6

def fw (d : Device) : Device := { d with sec := { d.sec with bootDue := false } }
def healthy (d : Device) : Device := ((d.raise CHG.STAT_PRESENT).raise CHG.STAT_FETON).modChg fun c => { c with vbat := 10000 }
def envOk : EnergyEnv := { vsys := 5000, vhold := 27000, temp := 25*128 }
def sby (f : Device → Device) : State := st fun d => f ((healthy (fw (inRun d))).setFld SEC.PSTAT_STATE 3)
def ev1 : Event := { code := 0x101, tide := 1000 }
def sec1 : Sector := ⟨244, 0, [⟨5, 0, .sector 0 0 0, true⟩]⟩
def stor (f : Device → Device) : State := sby fun d => f ((((d.raise STORE.STAT_PRESENT).wr STORE.SIZE 32)).modStore fun x => { x with log := [sec1], journal := [{ sec1 with num := 4 }] })
def ld : State := stor fun d => { d with sec := { d.sec with loadDue := true } }
def shadow1 : Shadow := { slot := 0, fellback := false, recs := [], skipped := [], imgid := 7, version := 1, fmt := 1, chver := 0 }
def loaded : State := stor fun d => { d with shadow := some shadow1 }
def mnt (f : Device → Device := id) : State := stor fun d => f (d.raise UPD.CTL_MAINT)
def eOn : Nat := edgeBits 1000000 1 0 0 0 0 0
def mrun : State := mnt fun d => synced (bank0r (inRun d))
def notServing : State := stor fun d => { d with sec := { d.sec with bootDue := true } }
def er : State := mnt fun d => { (d.setFld UPD.STAT_XSTATE xErasing) with upd := { d.upd with toErase := [0, 63] } }
def rcv (f : Device → Device := id) : State := mnt fun d => f ((d.setFld UPD.STAT_XSTATE xReceiving).wr UPD.XLEN 1500)
def poor : State := rcv fun d => (d.lower CHG.STAT_PRESENT).wr STORE.CHOLD 0 |>.modStore fun x => { x with tProg := 3000 }
def blockIn : State := rcv fun d => d.wr UPD.RXMAP 1
def ver (f : Device → Device := id) : State := mnt fun d => f (d.setFld UPD.STAT_XSTATE xVerifying)
def tab : List Nat := toBytes 2 0xA2 ++ List.replicate 14 0 ++ toBytes 2 1 ++ List.replicate 14 0 ++ [0x11]
def rdy (f : Device → Device := id) : State := mnt fun d => f (({ ((d.setFld RCK.CFG_ROLE 1).flashWrite (slotBase false 0 + 256) tab).flashWrite (slotBase false 1 + 256) tab with upd := { d.upd with readyFw := true } }).wr (UPD.SLOTID 1) 7 |>.wr UPD.AEPOCH 6000000 |>.wr UPD.AID 7 |>.wr UPD.ATGT 1 |>.wr UPD.ACOND 1)
def actM (tgt : Nat) : State := { rdy with dev := (ringUp rdy.dev).modRing fun r => { r with inbox := [{ type := .activate, addr := 9, data := activatePay 6000000 1 7 tgt }] } }
def armedS (c : Nat) : State := rdy fun d => { (d.raise UPD.STAT_ARMED).wr UPD.ARMTIDE 5000000 with upd := { d.upd with armed := activatePay 5000000 c 7 1 } }
def armedInRun : State := { armedS 1 with dev := (armedS 1).dev.setFld SEC.PSTAT_STATE 4 }
def suspended : State := mnt fun d => { d with upd := { d.upd with suspend := some 1000000 } }
def trial : State := mnt fun d => (d.raise UPD.STAT_FWTRIAL).modStore fun x => { x with hdr0 := some (1, { blankHdr with trial := 1, tries := 2 }) }
def tw (page ptr : Nat) (f : Device → Device := id) : State := mnt fun d => f { d with twi := { d.twi with page := page, ptr := ptr } }
def att : State := tw 0 0 fun d => ((d.raise TWI.CFG_ATTEN).raise SYS.ICFG_IRQEN).raise WDT.STAT_PREWARN
def ctl (w r : Nat) : State := tw 0 0 fun d => (d.wr TWI.CWLEN w).wr TWI.CRLEN r
def busy (t : Nat) : State := tw 0 0 fun d => { (d.raise TWI.CRES_BUSY).setFld TWI.CFG_CRETRY 1 with twi := { d.twi with tries := t } }
theorem witness_Rigging :
    (loaded.dev.powered = true) ∧ (loaded.dev.shadow = some shadow1) ∧
    ((stor id).dev.powered = true) ∧ ((stor id).dev.rigged = true) := by decide +kernel
theorem witness_ServicePort :
    ((stor id).dev.powered = true) ∧ ((stor id).dev.coreServes = true) ∧
        (1 ≤ BitVec.toNat (64 : BitVec 8)) ∧ (BitVec.toNat (64 : BitVec 8) ≤ 64) ∧ (BitVec.toNat (192 : BitVec 8)
      + BitVec.toNat (64 : BitVec 8) ≤ 256) ∧ (BitVec.toNat (11 : BitVec 8) ≠ 14) ∧
        (BitVec.toNat (64 : BitVec 8) = 0 ∨ 64 < BitVec.toNat (64 : BitVec 8) ∨ 256 < BitVec.toNat (193 : BitVec
      8) + BitVec.toNat (64 : BitVec 8)) ∧
    ((stor id).dev.maint = false) ∧
        (mnt.dev.powered = true) ∧ (mnt.dev.coreServes = true) ∧ (mnt.dev.maint = true) ∧ (writeFits
      Writer.service (BitVec.toNat (254 : BitVec 8)) [(1 : BitVec 8)].length = true) ∧
        (mrun.dev.powered = true) ∧ (mrun.dev.coreServes = true) ∧ (mrun.dev.maint = true) ∧ (mrun.dev.enterable
      Source.svc (edgeReq (BitVec.ofNat 128 (eOn + edgeChk eOn * 2 ^ 120)).toNat)) ∧
    (notServing.dev.powered = true) ∧ (notServing.dev.coreServes = false) ∧
        (BitVec.toNat (1 : BitVec 8) < 2) ∧ (mnt.dev.onTrial = false) ∧ (mnt.dev.flag UPD.STAT_ARMED = false) ∧
      (mnt.dev.xstate ≠ xVerifying) ∧ (lengthOk (BitVec.toNat (1 : BitVec 8) == 1) (BitVec.toNat (260 : BitVec
      32)) = true) ∧
    (lengthOk (BitVec.toNat (1 : BitVec 8) == 1) (BitVec.toNat (259 : BitVec 32)) = false) ∧
        ((mnt fun x => x.raise UPD.STAT_FWTRIAL).dev.powered = true) ∧ ((mnt fun x => x.raise
      UPD.STAT_FWTRIAL).dev.coreServes = true) ∧ ((mnt fun x => x.raise UPD.STAT_FWTRIAL).dev.onTrial = true ∨
      (mnt fun x => x.raise UPD.STAT_FWTRIAL).dev.flag UPD.STAT_ARMED = true ∨ (mnt fun x => x.raise
      UPD.STAT_FWTRIAL).dev.xstate = xVerifying) ∧
        (er.dev.powered = true) ∧ (er.dev.coreServes = true) ∧ (er.dev.xstate = xErasing) ∧ (er.dev.present =
      true) ∧ (er.dev.storeIdle = true) ∧ ((er.dev.storeEnergy envOk er.dev.flash.tErase).1 = true) ∧
      (er.dev.memoryWf = true) ∧
        (rcv.dev.powered = true) ∧ (rcv.dev.coreServes = true) ∧ (rcv.dev.xstate = xReceiving) ∧ (frameOk
      (rcv.dev.rd UPD.XLEN) (BitVec.toNat (1024 : BitVec 32)) (List.replicate 476 (5 : BitVec 8)).length = true) ∧
      ((pagesOf (BitVec.toNat (1024 : BitVec 32)) (List.replicate 476 (5 : BitVec 8)).length).all
      rcv.dev.upd.pages.contains = false) ∧ ((rcv.dev.storeEnergy envOk rcv.dev.flash.tProg).1 = true) ∧
      (rcv.dev.present = true) ∧ (rcv.dev.memoryWf = true) ∧
        (poor.dev.powered = true) ∧ (poor.dev.coreServes = true) ∧ (poor.dev.xstate = xReceiving) ∧ (frameOk
      (poor.dev.rd UPD.XLEN) (BitVec.toNat (1024 : BitVec 32)) (List.replicate 476 (5 : BitVec 8)).length = true)
      ∧ ((pagesOf (BitVec.toNat (1024 : BitVec 32)) (List.replicate 476 (5 : BitVec 8)).length).all
      poor.dev.upd.pages.contains = false) ∧ ((poor.dev.storeEnergy envOk poor.dev.flash.tProg).1 = false) ∧
        (blockIn.dev.powered = true) ∧ (blockIn.dev.coreServes = true) ∧ (blockIn.dev.xstate = xReceiving) ∧
      (blockIn.dev.received = true) ∧
    (rcv.dev.received = false) ∧
        (ver.dev.powered = true) ∧ (ver.dev.coreServes = true) ∧ (ver.dev.xstate = xVerifying) ∧
      (ver.dev.authReason ver.dev.xrig (ver.dev.inactiveSlot ver.dev.xrig) ≠ 0) := by
  and_intros <;> first
    | decide +kernel
theorem witness_Activation :
        (rdy.dev.powered = true) ∧ (rdy.dev.isHead = true) ∧ (rdy.dev.admitsWright Writer.wright) ∧ (rdy.dev.now +
      10 * msec ≤ rdy.dev.rd UPD.AEPOCH) ∧ (rdy.dev.rd UPD.ACOND < 4) ∧ (rdy.dev.flag UPD.STAT_ARMED = false ∧
      (aFw (activatePay (rdy.dev.rd UPD.AEPOCH) (rdy.dev.rd UPD.ACOND) (rdy.dev.rd UPD.AID) (rdy.dev.rd UPD.ATGT))
      = true ∨ aRg (activatePay (rdy.dev.rd UPD.AEPOCH) (rdy.dev.rd UPD.ACOND) (rdy.dev.rd UPD.AID) (rdy.dev.rd
      UPD.ATGT)) = true) ∧ rdy.dev.armChecks (activatePay (rdy.dev.rd UPD.AEPOCH) (rdy.dev.rd UPD.ACOND)
      (rdy.dev.rd UPD.AID) (rdy.dev.rd UPD.ATGT)) = none) ∧
        (rdy.dev.now + 10 * msec ≤ BitVec.toNat (6000000 : BitVec 64)) ∧ (BitVec.toNat (1 : BitVec 8) < 4) ∧
      (rdy.dev.flag UPD.STAT_ARMED = false ∧ (aFw (activatePay (BitVec.toNat (6000000 : BitVec 64)) (BitVec.toNat
      (1 : BitVec 8)) (BitVec.toNat (7 : BitVec 32)) (BitVec.toNat (1 : BitVec 8))) = true ∨ aRg (activatePay
      (BitVec.toNat (6000000 : BitVec 64)) (BitVec.toNat (1 : BitVec 8)) (BitVec.toNat (7 : BitVec 32))
      (BitVec.toNat (1 : BitVec 8))) = true) ∧ rdy.dev.armChecks (activatePay (BitVec.toNat (6000000 : BitVec 64))
      (BitVec.toNat (1 : BitVec 8)) (BitVec.toNat (7 : BitVec 32)) (BitVec.toNat (1 : BitVec 8))) = none) ∧
      (rdy.dev.coreServes = true) ∧
    (mnt.dev.powered = true) ∧ (mnt.dev.admitsWright Writer.wright) ∧ (mnt.dev.isHead = false) ∧
        ((actM 1).dev.powered = true) ∧ ((actM 1).dev.coreRuns = true) ∧ ((actM 1).dev.takeMsg MsgType.activate =
      some ((taken (actM 1) MsgType.activate).1, (taken (actM 1) MsgType.activate).2)) ∧ ((taken (actM 1)
      MsgType.activate).2.flag UPD.STAT_ARMED = false ∧ (aFw (List.map (byteAt (taken (actM 1)
      MsgType.activate).1.data) (List.range 14)) = true ∨ aRg (List.map (byteAt (taken (actM 1)
      MsgType.activate).1.data) (List.range 14)) = true) ∧ (taken (actM 1) MsgType.activate).2.armChecks (List.map
      (byteAt (taken (actM 1) MsgType.activate).1.data) (List.range 14)) = none) ∧
        ((actM 0).dev.powered = true) ∧ ((actM 0).dev.coreRuns = true) ∧ ((actM 0).dev.takeMsg MsgType.activate =
      some ((taken (actM 0) MsgType.activate).1, (taken (actM 0) MsgType.activate).2)) ∧ (aFw (List.map (byteAt
      (taken (actM 0) MsgType.activate).1.data) (List.range 14)) = false) ∧ (aRg (List.map (byteAt (taken (actM 0)
      MsgType.activate).1.data) (List.range 14)) = false) ∧
    (rdy.dev.xstate ≠ xVerifying) ∧
        (armedInRun.dev.powered = true) ∧ (armedInRun.dev.coreRuns = true) ∧ (armedInRun.dev.upd.repeating = none)
      ∧ (armedInRun.dev.flag UPD.STAT_ARMED = true) ∧ (armedInRun.dev.rd UPD.ARMTIDE ≤ armedInRun.dev.now) ∧
      (armedInRun.dev.runChecks armedInRun.dev.upd.armed ≠ none ∨ armedInRun.dev.condHolds (aCond
      armedInRun.dev.upd.armed) = false) ∧
        ((armedS 1).dev.powered = true) ∧ ((armedS 1).dev.coreRuns = true) ∧ ((armedS 1).dev.upd.repeating = none)
      ∧ ((armedS 1).dev.flag UPD.STAT_ARMED = true) ∧ ((armedS 1).dev.rd UPD.ARMTIDE ≤ (armedS 1).dev.now) ∧
      ((armedS 1).dev.runChecks (armedS 1).dev.upd.armed = none) ∧ ((armedS 1).dev.condHolds (aCond (armedS
      1).dev.upd.armed) = true) ∧ ((armedS 1).dev.present = true) ∧ ((armedS 1).dev.storeIdle = true) ∧ (((armedS
      1).dev.storeEnergy envOk (armedS 1).dev.flash.tProg).1 = true) ∧ (((armedS 1).dev.storeEnergy envOk (armedS
      1).dev.flash.tErase).1 = true) ∧
        (suspended.dev.powered = true) ∧ (suspended.dev.upd.suspend = some 1000000) ∧ (1000000 + 40 * msec ≤
      suspended.dev.now) ∧
        (trial.dev.powered = true) ∧ (trial.dev.bootHdr.trial ≠ 0) ∧ (trial.dev.present = true) ∧
      (trial.dev.storeIdle = true) ∧ ((trial.dev.storeEnergy envOk trial.dev.flash.tProg).1 = true) ∧
      ((trial.dev.storeEnergy envOk trial.dev.flash.tErase).1 = true) ∧ (trial.dev.admitsWright Writer.wright) ∧
    (trial.dev.maint = true) ∧ (trial.dev.coreServes = true) := by
  and_intros <;> first
    | decide +kernel
    | exact fun h => nomatch h
theorem witness_TwoWire :
    (mnt.dev.powered = true) ∧
        ((tw 1 0).dev.powered = true) ∧ ((80 : BitVec 8) ≠ (255 : BitVec 8)) ∧ ((tw 1 0).dev.twi.page ≠ 18) ∧
      (regOf (tw 1 0).dev.twi.page (BitVec.toNat (80 : BitVec 8)) = some RCK.HSPEED) ∧ (RCK.HSPEED.addr = (tw 1
      0).dev.twi.page * 256 + BitVec.toNat (80 : BitVec 8)) ∧ (8 < RCK.HSPEED.width) ∧ (RCK.HSPEED.width ≤ 64) ∧
      (1 < RCK.HSPEED.bytes) ∧
        ((tw 1 80).dev.powered = true) ∧ (RCK.HSPEED.addr = (tw 1 80).dev.twi.page * 256 + (tw 1 80).dev.twi.ptr)
      ∧ (RCK.HSPEED.addr ≠ STORE.XDATA.addr) ∧ (∀ i < RCK.HSPEED.bytes, (tw 1 80).dev.twi.ptr + i < 255 ∧ regOf
      (tw 1 80).dev.twi.page ((tw 1 80).dev.twi.ptr + i) = some RCK.HSPEED) ∧
        (att.dev.powered = true) ∧ (att.dev.pulseOwed = true) ∧ (att.dev.flag TWI.STAT_BUSBUSY = false) ∧
      (att.dev.flag TWI.STAT_CBUSY = false) ∧
    (att.dev.attPending = true) ∧ (∀ a ∈ [(63 : BitVec 7)], att.dev.twiAddr ≤ a.toNat) ∧
    ((tw 0 0).dev.powered = true) ∧ ((tw 0 0).dev.attPending = false) ∧
        ((ctl 8 32).dev.powered = true) ∧ ((ctl 8 32).dev.admits Writer.wright) ∧ (BitVec.getLsbD (1 : BitVec 8) 0
      = true) ∧ (isCore Writer.wright = true) ∧ ((ctl 8 32).dev.flag TWI.CRES_BUSY = false) ∧ (1 ≤ (ctl 8
      32).dev.rd TWI.CWLEN + (ctl 8 32).dev.rd TWI.CRLEN) ∧ ((ctl 8 32).dev.rd TWI.CWLEN ≤ 8) ∧ ((ctl 8 32).dev.rd
      TWI.CRLEN ≤ 32) ∧
        ((ctl 9 32).dev.powered = true) ∧ ((ctl 9 32).dev.admits Writer.wright) ∧ (isCore Writer.wright = false ∨
      (ctl 9 32).dev.rd TWI.CWLEN + (ctl 9 32).dev.rd TWI.CRLEN = 0 ∨ 8 < (ctl 9 32).dev.rd TWI.CWLEN ∨ 32 < (ctl
      9 32).dev.rd TWI.CRLEN) ∧
        ((ctl 1 1).dev.powered = true) ∧ ((ctl 1 1).dev.admits Writer.host) ∧ (isCore Writer.host = false ∨ (ctl 1
      1).dev.rd TWI.CWLEN + (ctl 1 1).dev.rd TWI.CRLEN = 0 ∨ 8 < (ctl 1 1).dev.rd TWI.CWLEN ∨ 32 < (ctl 1
      1).dev.rd TWI.CRLEN) ∧
        ((busy 0).dev.powered = true) ∧ ((busy 0).dev.flag TWI.CRES_BUSY = true) ∧ ((busy 0).dev.flag
      TWI.STAT_BUSBUSY = false ∨ 50 * usec ≤ 0) ∧
        ((busy 1).dev.powered = true) ∧ ((busy 1).dev.flag TWI.CRES_BUSY = true) ∧ ((busy 1).dev.flag
      TWI.STAT_BUSBUSY = false ∨ 50 * usec ≤ 0) ∧ ((busy 1).dev.fld TWI.CFG_CRETRY ≤ (busy 1).dev.twi.tries) ∧
    ((busy 0).dev.twi.tries < (busy 0).dev.fld TWI.CFG_CRETRY) ∧
    ((busy 0).dev.twiTimeoutTicks ≤ 4000000) ∧
    ((tw 0 0).dev.admits Writer.host) ∧
    (att.dev.admits Writer.host) := by
  and_intros <;> first
    | decide +kernel
    | exact fun h => nomatch h
theorem witness_HandMayNotWrite :
        ((tw 0 0).dev.powered = true) ∧ (wrightWriter (Instr.pwrRun Writer.hand) = some Writer.hand) ∧ (wrightOnly
      (Instr.pwrRun Writer.hand) = some (17, 6)) := by decide +kernel

end W6
/-! ## Witnesses written out by hand -/

/-- What a command leaves; where it stops, the state it began in. -/
def after (c : Instr) (s : State) : Device := match exec c s with | .next t => t.dev | _ => s.dev

def isNext (o : Host.Outcome State Fault Refusal) : Bool := match o with | .next _ => true | _ => false
def faultOf (o : Host.Outcome State Fault Refusal) : Option Fault := match o with | .fault f => some f | _ => none
def inRunState : State := st inRun

theorem witness_StepTakesFront : step { inRunState with pending := [.edgeScan] } = exec .edgeScan inRunState := by rfl
theorem witness_EmptyQueueTicks : State.reset.pending = [] := by rfl
theorem witness_NoStepStops : State.reset.queueWf = true := by rfl
theorem witness_MemoryStaysCanonical : State.reset.dev.memoryWf = true ∧ isNext (step State.reset) = true := by
  decide +kernel
theorem witness_UnpoweredTakesNoPart : W5.ship.dev.powered = false ∧ isNext (exec .edgeScan W5.ship) = true := by
  decide +kernel
theorem witness_MemoryFrame : mayStore .edgeScan = false ∧ isNext (exec .edgeScan inRunState) = true := by
  decide +kernel
theorem witness_RegisterFrames :
    writtenPages (.cap .host 1) = some [0x01, 0x0D] ∧ isNext (exec (.cap .host 1) inRunState) = true := by decide +kernel
/-- Physical word 0x103, a copy of the ID region's logical word 0x083, is burned at the factory. -/
theorem witness_OtpBitsStayBurned :
    mayRestart (.otpProgram .wright W5.envOk []) = false ∧ (Device.reset.otp.phys false 0x103).testBit 1 = true ∧
    isNext (exec (.otpProgram .wright W5.envOk []) (W5.otp 0x110 5)) = true := by decide +kernel
theorem test_reset_state :
    State.reset.dev.inKeep = true ∧ State.reset.dev.powered = true ∧ State.reset.dev.rigged = false ∧
    State.reset.dev.now = 0 := by decide +kernel

/-! ### Where the statement's premises turn on a function that the model leaves open

SHA-256, ECDSA and the place of the key hashes are opaque, so these premises are met under an assumption on them. -/

/-- KEYS words burned: some word of the region reads other than blank. -/
def keyed : State := W5.sby fun d => { d.setFld SEC.LIFE_STATE 1 with
  otp := { d.otp with norm := [(0x1A1, 1), (0x1E1, 1), (0x221, 1)], tight := [(0x1A1, 1), (0x1E1, 1), (0x221, 1)] } }

theorem keyed_usable {k : Nat} (hk : k < 8) (h : ∀ ws, Config.keyHash ws k ≠ 0) : keyed.dev.keyUsable k = true := by
  have h1 : (keyed.dev.regionState rKeys != 3) = true := by decide +kernel
  have h2 : keyed.dev.keyKilled k = false := by
    have : ∀ j : Fin 8, keyed.dev.keyKilled j = false := by decide +kernel
    exact this ⟨k, hk⟩
  have h3 : keyed.dev.keyRevoked k = false := by
    have : ∀ j : Fin 8, keyed.dev.keyRevoked j = false := by decide +kernel
    exact this ⟨k, hk⟩
  have h4 : ((List.range 63).map fun i => keyed.dev.otp.normal (0x0C9 + i)).all (· == 0) = false := by decide +kernel
  simp [Device.keyUsable, Otp.slotHash, h1, h2, h3, h4]
  exact h _

theorem witness_LifecycleAndKeys_revoke (h : ∀ ws, Config.keyHash ws 0 ≠ 0) :
    keyed.dev.powered = true ∧ keyed.dev.lifecycle = lcProvisioned ∧ (0xB1 : BitVec 8).toNat / 8 = 0b10110 ∧
    (∃ j ∈ classSlots 1, j ≠ 1 ∧ keyed.dev.keyUsable j = true) ∧ keyed.dev.otpMayStart .wright W5.envOk = none ∧
    keyed.dev.otpEnergyOk W5.envOk (4 * onesIn (keyed.dev.otp.lifeBits 4 (2 ^ 1))) = true := by
  refine ⟨?_, ?_, ?_, ⟨0, ?_, ?_, keyed_usable (by decide) h⟩, ?_, ?_⟩ <;> decide +kernel

theorem witness_DebugAccess_passes (pub sig : BitVec 512) (h : ∀ ws, Config.keyHash ws 6 ≠ 0)
    (hk : ∀ ws bs, Config.sha256 bs = Config.keyHash ws 6) (hs : ∀ m, Config.ecdsaVerify pub m sig = true) :
    keyed.dev.powered = true ∧ keyed.dev.dbgPasses 6 1 pub sig 0 = true := by
  have h1 : keyed.dev.flag SEC.DBG_LOCKOUT = false := by decide +kernel
  have h2 := keyed_usable (k := 6) (by decide) h
  simp only [Device.keyUsable, Bool.and_eq_true, Bool.not_eq_true', bne_iff_ne, ne_eq] at h2
  have h4 : ((List.range 63).map fun i => keyed.dev.otp.normal (0x0C9 + i)).all (· == 0) = false := by decide +kernel
  have h5 : keyed.dev.otp.slotHash 6 = Config.keyHash
      (((List.range 63).map fun i => keyed.dev.otp.normal (0x0C9 + i)).map (BitVec.ofNat 32)) 6 := by
    simp [Otp.slotHash, h4]
  refine ⟨by decide +kernel, ?_⟩
  simp [Device.dbgPasses, Device.keyCheck, h1, h2.1.2, h2.2, h2.1.1.1, hs, h5]
  exact ⟨h _, hk _ _⟩

/-- A header of 256 bytes whose DIGEST is 0: an image in BLANK is checked for form and digest alone (R305). -/
def hdr (rig : Bool) (len nrec fmt : Nat) : List Nat :=
  toBytes 4 (hMagic rig) ++ toBytes 2 fmt ++ [if rig then 2 else 1, 0] ++ toBytes 4 len ++ toBytes 4 7 ++ toBytes 4 1 ++
    List.replicate 12 0 ++ toBytes 4 nrec ++ List.replicate 220 0

theorem auth_of {d : Device} {rig : Bool} {slot : Nat} (h1 : headerOk rig (d.header rig slot) = true)
    (h2 : imageDigest (d.flashRead (slotBase rig slot) (hLength (d.header rig slot))) = 0)
    (h3 : fieldAt (d.header rig slot) 64 32 = 0) (h4 : d.lifecycle = lcBlank)
    (h5 : ¬ hSvn (d.header rig slot) < (if rig then d.rd SEC.RGFLOOR else d.rd SEC.FWFLOOR)) :
    d.authReason rig slot = 0 := by
  simp only [Device.authReason, h1, h2, h3, h4, h5]; rfl

/-- Firmware in slot A of a device about to boot. -/
def booting : State := st fun d => d.flashWrite (slotBase false 0) (hdr false 324 0 0 ++ List.replicate 68 0)
def booted : Device := booting.dev.bootPrepare (.found 32 1800 1200000) W5.envOk
theorem witness_PowerOnAndBoot_authentic
    (h : imageDigest (booted.flashRead (slotBase false 0) (hLength (booted.header false 0))) = 0) :
    booting.dev.powered = true ∧ booting.dev.sec.bootDue = true ∧ booting.dev.coreAlive = true ∧
    booting.dev.storeIdle = true ∧ booted.bootFwSlot = 0 ∧ booted.authReason false 0 = 0 :=
  ⟨by decide +kernel, by decide +kernel, by decide +kernel, by decide +kernel, by decide +kernel,
   auth_of (by decide +kernel) h (by decide +kernel) (by decide +kernel) (by decide +kernel)⟩

/-- An image that has been received whole into rigging slot B and is being verified. -/
def verifying : State := W6.ver fun d => (d.setFld UPD.STAT_XKIND 1).flashWrite (slotBase true 1) (hdr true 260 1 1 ++ [0xFF, 0, 0, 0])
theorem witness_ServicePort_verified
    (h : imageDigest (verifying.dev.flashRead (slotBase true 1) (hLength (verifying.dev.header true 1))) = 0) :
    verifying.dev.powered = true ∧ verifying.dev.xstate = xVerifying ∧ verifying.dev.xrig = true ∧
    verifying.dev.coreServes = true ∧ verifying.dev.imageCheck true 1 = none ∧
    verifying.dev.inactiveSlot true = 1 ∧ verifying.dev.authReason true 1 = 0 :=
  ⟨by decide +kernel, by decide +kernel, by decide +kernel, by decide +kernel, by decide +kernel, by decide +kernel,
   auth_of (by decide +kernel) h (by decide +kernel) (by decide +kernel) (by decide +kernel)⟩

theorem readRun_nil : ∀ n a, readRun n a [] = List.replicate n 0xFF
  | 0, _ => rfl
  | n + 1, a => by simp [readRun, readRun_nil n (a + 1), List.replicate_succ]

/-- A store with erased slots holds no image. -/
theorem tryRig_blank {d : Device} (slot : Nat) (h : d.flash.flash = []) :
    d.tryRig slot = (d, .error { code := rigNoImage }) := by
  have hi : isImage true (d.header true slot) = false := by
    unfold Device.header Device.flashRead
    split
    · rw [h, List.filter_nil, readRun_nil]; decide
    · decide
  simp [Device.tryRig, hi]

theorem ld_blank : W6.ld.dev.loadBegin.flash.flash = [] :=
  ((Device.loadBegin_same (o := W6.ld.dev) W6.ld.dev).mpr ⟨rfl, rfl, rfl⟩).1

/-- No image stands in either slot. -/
theorem witness_Rigging_refused :
    W6.ld.dev.powered = true ∧ W6.ld.dev.sec.loadDue = true ∧ W6.ld.dev.coreRuns = true ∧
    (∃ e1, (W6.ld.dev.loadBegin.tryRig 0).2 = .error e1 ∧
      ∃ e2, (((W6.ld.dev.loadBegin.tryRig 0).1.rigFail 0 e1).tryRig 1).2 = .error e2) :=
  ⟨by decide +kernel, by decide +kernel, by decide +kernel, { code := rigNoImage },
    congrArg Prod.snd (tryRig_blank 0 ld_blank), { code := rigNoImage }, by
      rw [tryRig_blank 0 ld_blank]
      exact congrArg Prod.snd (tryRig_blank 1 (((Device.rigFail_same (o := W6.ld.dev) _ 0 _).mpr
        ((Device.loadBegin_same (o := W6.ld.dev) W6.ld.dev).mpr ⟨rfl, rfl, rfl⟩)).1))⟩

/-- An image of the END record alone stands in rigging slot A, and the running bundle takes its format. -/
def imaged : State :=
  let d := W6.ld.dev.flashWrite (slotBase true 0) (hdr true 260 1 1 ++ [0xFF, 0, 0, 0])
  { dev := d.flashWrite (slotBase false 0 + 256) (toBytes 2 0xA2 ++ List.replicate 14 0 ++ toBytes 2 1 ++ List.replicate 14 0 ++ [0x11])
    pending := [] }
def begun : Device := imaged.dev.loadBegin

theorem tryRig_ok {d d' : Device} {slot : Nat} {rs : List RigRec} (h1 : isImage true (d.header true slot) = true)
    (h2 : d.authReason true slot = 0) (h3 : d.lifecycle = lcBlank) (hd : d' = d.raise SEC.STAT_AUTHSKIP)
    (h4 : (cFormats d'.runningTable).contains (hFmt (d.header true slot)) = true)
    (h5 : hTserial (d.header true slot) = 0)
    (h6 : parseRecs ((d'.flashRead (slotBase true slot + 256) (hLength (d.header true slot) - 256)).length / 4 + 1)
      (d'.flashRead (slotBase true slot + 256) (hLength (d.header true slot) - 256)) [] = .ok rs)
    (h7 : rs.length = hNrec (d.header true slot))
    (h8 : (rs.findSome? recordFault <|> crossFault rs d'.otp.ringAddr) = none) :
    ∃ x, (d.tryRig slot).2 = .ok x := by
  subst hd
  simp only [Device.tryRig, Device.authenticate, h1, h2, h3]
  simp only [Bool.not_true, Bool.false_eq_true, if_false, if_true, h4, h5, h6, h7, h8, bne_self_eq_false, Bool.false_and]
  exact ⟨_, rfl⟩

theorem witness_Rigging_loaded
    (h : imageDigest (begun.flashRead (slotBase true 0) (hLength (begun.header true 0))) = 0) :
    imaged.dev.powered = true ∧ imaged.dev.sec.loadDue = true ∧ imaged.dev.coreRuns = true ∧ begun.bootRigSlot = 0 ∧
    ∃ x, (begun.tryRig 0).2 = .ok x :=
  ⟨by decide +kernel, by decide +kernel, by decide +kernel, by decide +kernel,
   tryRig_ok (rs := [⟨0xFF, 0, []⟩]) (by decide +kernel)
     (auth_of (by decide +kernel) h (by decide +kernel) (by decide +kernel) (by decide +kernel))
     (by decide +kernel) rfl (by decide +kernel) (by decide +kernel) (by decide +kernel) (by decide +kernel)
     (by decide +kernel)⟩

/-- The same image in slot B alone: the load falls back to it. -/
def imagedB : State :=
  let d := W6.ld.dev.flashWrite (slotBase true 1) (hdr true 260 1 1 ++ [0xFF, 0, 0, 0])
  { dev := d.flashWrite (slotBase false 0 + 256) (toBytes 2 0xA2 ++ List.replicate 14 0 ++ toBytes 2 1 ++ List.replicate 14 0 ++ [0x11])
    pending := [] }
def begunB : Device := imagedB.dev.loadBegin
def failedA : Device := (begunB.tryRig 0).1.rigFail 0 { code := rigNoImage }

theorem witness_Rigging_fallback
    (h : imageDigest (failedA.flashRead (slotBase true 1) (hLength (failedA.header true 1))) = 0) :
    imagedB.dev.powered = true ∧ imagedB.dev.sec.loadDue = true ∧ imagedB.dev.coreRuns = true ∧ begunB.bootRigSlot = 0 ∧
    (begunB.tryRig 0).2 = .error { code := rigNoImage } ∧ ∃ x, (failedA.tryRig 1).2 = .ok x :=
  ⟨by decide +kernel, by decide +kernel, by decide +kernel, by decide +kernel, by decide +kernel,
   tryRig_ok (rs := [⟨0xFF, 0, []⟩]) (by decide +kernel)
     (auth_of (by decide +kernel) h (by decide +kernel) (by decide +kernel) (by decide +kernel))
     (by decide +kernel) rfl (by decide +kernel) (by decide +kernel) (by decide +kernel) (by decide +kernel)
     (by decide +kernel)⟩

/-! ### A staged block, with any trailer CRC -/

theorem crc32Byte_lt {c b : Nat} (h : c < 2 ^ 32) : crc32Byte c b < 2 ^ 32 := by
  have step : ∀ x, x < 2 ^ 32 → (if x % 2 = 1 then (x / 2) ^^^ 0x82F63B78 else x / 2) < 2 ^ 32 := by
    intro x hx
    split
    · exact Nat.xor_lt_two_pow (by omega) (by decide)
    · omega
  have : ∀ (l : List Nat) x, x < 2 ^ 32 →
      l.foldl (fun c _ => if c % 2 = 1 then (c / 2) ^^^ 0x82F63B78 else c / 2) x < 2 ^ 32 := by
    intro l
    induction l with
    | nil => exact fun _ h => h
    | cons _ t ih => exact fun x hx => ih _ (step x hx)
  exact this _ _ (Nat.xor_lt_two_pow h (by omega))

theorem crc32c_lt (bs : List Nat) : crc32c bs < 2 ^ 32 := by
  have : ∀ (l : List Nat) x, x < 2 ^ 32 → l.foldl crc32Byte x < 2 ^ 32 := by
    intro l
    induction l with
    | nil => exact fun _ h => h
    | cons _ t ih => exact fun x hx => ih _ (crc32Byte_lt hx)
  exact Nat.xor_lt_two_pow (this bs _ (by decide)) (by decide)

/-- 2047 times 32 bytes staged for the first block of bundle slot A, whose trailer CRC is `c`. -/
def staged (c : Nat) : State := { W5.stg 2047 with dev := (W5.stg 2047).dev.flashWrite (trailerAt false 0 0) (toBytes 4 c) }
def block : List Nat :=
  ((7 :: (W5.stg 2047).dev.flash.staged).reverse.flatMap (toBytes 32)).take (blockBytes false 0)

theorem staged_crc (c : Nat) (h : c < 2 ^ 32) : (staged c).dev.blockCrc false 0 0 = c := by
  show ofBytes (Device.flashRead ((W5.stg 2047).dev.flashWrite (trailerAt false 0 0) (toBytes 4 c)) (trailerAt false 0 0) 4) = c
  rw [flashRead_flashWrite_empty (by decide +kernel) (by simp [toBytes])]
  simp [toBytes, ofBytes]; omega

theorem flashWrite_keeps (d : Device) (a : Nat) (bs : List Nat) :
    (d.flashWrite a bs).powered = d.powered ∧ (d.flashWrite a bs).flag STORE.XSTAT_STAGING = d.flag STORE.XSTAT_STAGING ∧
    (d.flashWrite a bs).flash.stageBase = d.flash.stageBase ∧ (d.flashWrite a bs).flash.staged = d.flash.staged ∧
    ((d.flashWrite a bs).storeEnergy W5.envOk (d.flashWrite a bs).flash.tProg).1
      = (d.storeEnergy W5.envOk d.flash.tProg).1 := ⟨rfl, rfl, rfl, rfl, rfl⟩

theorem witness_ScrubAndWindow_block :
    (∀ c, (staged c).dev.powered = true ∧ (staged c).dev.admits .host ∧ (staged c).dev.flag STORE.XSTAT_STAGING = true ∧
      inSlots (staged c).dev.flash.stageBase = true ∧ (staged c).dev.flash.staged.length + 1 = 2048 ∧
      (staged c).dev.memoryWf = true ∧
      ((staged c).dev.storeEnergy W5.envOk (staged c).dev.flash.tProg).1 = true) ∧
    crc32c block = (staged (crc32c block)).dev.blockCrc false 0 0 ∧
    ∃ c, crc32c block ≠ (staged c).dev.blockCrc false 0 0 := by
  refine ⟨fun c => ?_, (staged_crc _ (crc32c_lt _)).symm, ?_⟩
  · obtain ⟨k1, k2, k3, k4, k5⟩ := flashWrite_keeps (W5.stg 2047).dev (trailerAt false 0 0) (toBytes 4 c)
    have hw : (W5.stg 2047).dev.memoryWf = true := by decide +kernel
    simp only [Device.memoryWf, Bool.and_eq_true] at hw
    refine ⟨k1.trans (by decide +kernel), (fun h => nomatch h : Writer.host = .service → _),
      k2.trans (by decide +kernel), (congrArg inSlots k3).trans (by decide +kernel),
      (congrArg (fun l => List.length l + 1) k4).trans (by decide +kernel), ?_, k5.trans (by decide +kernel)⟩
    have := Device.flashWrite_wf (trailerAt false 0 0) (toBytes 4 c) hw.1.1
    exact Bool.and_eq_true_iff.2 ⟨Bool.and_eq_true_iff.2 ⟨this, hw.1.2⟩, hw.2⟩
  · by_cases h : crc32c block = 0
    · exact ⟨1, by rw [staged_crc 1 (by decide), h]; decide⟩
    · exact ⟨0, by rw [staged_crc 0 (by decide)]; exact h⟩

/-! ## The checks of Instr.wf -/

/-- Each check refuses a term that is ill-formed by it alone, the step stops on it by name, and its well-formed
neighbour is accepted. -/
theorem test_wf_linkFrame :
    (Instr.linkFrame 0 true 1 [40]).wf = false ∧ (Instr.linkFrame 0 true 1 [39]).wf = true ∧
    faultOf (exec (.linkFrame 0 true 1 [40]) W1.cmd0) = some .malformed := by decide +kernel
theorem test_wf_registerWrite :
    (Instr.registerWrite .host 1 0xFF [1, 2]).wf = false ∧ (Instr.registerWrite .host 1 0xFF [1]).wf = true ∧
    (Instr.registerWrite .ring 1 0 (List.replicate 33 1)).wf = false ∧
    faultOf (exec (.registerWrite .host 1 0xFF [1, 2]) (W6.tw 0 0)) = some .malformed := by decide +kernel
/-- The opcode table gives no row bits. -/
theorem test_table_has_no_bits : decodeTableWord 8 0 = none := by rfl

/-! ## The spec's worked examples -/

/-- Chapter 2: 0.6 mark a count is 0x99999A in KENC0. -/
theorem test_kenc : 0x99999A = roundDiv ((6 * 2 ^ 24 : Nat) : Int) 10 := by decide
/-- Chapter 2: at 30 km/h with 1 mm marks the speed term is 357 914. -/
theorem test_speed_term : speedTerm 8333333 1000 = 357914 := by decide +kernel
/-- Chapter 3: the bytes of an OFF to ring section 17. -/
theorem test_edge_bytes :
    edgeReq (ofBytes [0x00, 0x80, 0x4F, 0x12, 0, 0, 2, 1, 0, 0, 0x11, 0x20, 1, 0, 0,
      crc8 [0x00, 0x80, 0x4F, 0x12, 0, 0, 2, 1, 0, 0, 0x11, 0x20, 1, 0, 0]]) =
    { fire := 307200000, seq := 0x102, index := 17, ttype := 2, rsv := 0, action := 1, late := 0, arg := 0, chkOk := true } := by
  decide +kernel
def nozzle : State := st fun d => ((inRun d).wr RCK.MARK 1000).modChan 0 fun c => { c with ldefOff := 30000 } 
def nozzle30 : Device := (nozzle.dev.lower RCK.STAT_STANDSTILL).modRck fun r => { r with bSpeed := 8333333 }
/-- Chapter 3: F_eff of that OFF at 30 km/h with a latency of 30 000 µs. -/
theorem test_feff : nozzle30.feffOf 0 307200000 .off = 307135998 := by decide +kernel
/-- Chapter 4: code 512 of 2 500 000 ticks is 1 251 222 ticks of 40 ns. -/
theorem test_on_time : onTime 2500000 512 = .ticks (4 * 1251222) := by decide +kernel
/-- Chapter 4: the outermost nozzles in a turn at 0.1 rad/s, right then left. -/
def turning (y : Int) : Device :=
  ((((nozzle.dev.raise (CH.CFG_TCEN 0)).setFld (CH.DUTY_BASE 0) 512).setFld (CH.DUTY_DMIN 0) 200).setFld (CH.DUTY_DMAX 0) 960
    |>.modRck fun r => { r with bSpeed := 5555556, bYaw := 100000 }).modChan 0 fun c => { c with lat := y }
theorem test_turn_compensation :
    (((turning 20750).setK 0).setDuty 0).fld (CHS.DEFF_DUTY 0) = 703 ∧
    (((turning (-20750)).setK 0).setDuty 0).fld (CHS.DEFF_DUTY 0) = 321 := by decide +kernel
/-- Chapter 4: 30 000 µs learns 30 050 µs, then 30 018.75 µs. -/
theorem test_learning :
    learnStep 3000000 3040000 2500000 4000000 = 3005000 ∧ learnStep 3005000 2980000 2500000 4000000 = 3001875 := by
  decide +kernel
/-- Chapter 13: T_MAX 6554, T_MIN 3277, T_WARN 655 ticks. -/
theorem test_watchdog_period :
    let d := (((inRun Device.reset).wr WDT.PERIOD 200).setFld WDT.CFG_WMIN 8 |>.wr WDT.PWARN 20).newPeriod
    d.rd WDT.TMAXT = 6554 ∧ d.rd WDT.TMINT = 3277 ∧ d.wdt.warn = 655 := by decide +kernel
/-- Chapter 16: 4700 µF from 14.0 V to 3.3 V holds 435.0 mJ. -/
theorem test_holdup :
    ((Device.reset.wr STORE.CHOLD 4700).wr STORE.VMARG 300).holdup { vsys := 14000, vhold := 14000, temp := 0 } / 2000000
      = 435008 := by decide +kernel
/-- Chapter 15: the copies of KEYS word 0x0C9. -/
theorem test_otp_copies : copiesOf 0x0C9 = [0x1A1, 0x1E1, 0x221] := by decide
/-- Chapter 0: CH093 is in cluster 11 and bank 2. -/
theorem test_cluster_and_bank : clusterOf 93 = 11 ∧ bankOf 93 = 2 := by decide
/-- Chapter 12: V_RECHG and the float ceiling of the planter's pack. -/
theorem test_charger_voltages :
    let d := ((Device.reset.setFld CHG.CFG_VFLT 40).setFld CHG.CFG_CELLS 1).setFld CHG.CFG_VRDROP 4
    d.ceiling = 7200 ∧ d.recharge = 7000 := by decide +kernel
/-- Chapter 17: the words of row 11's CHANNEL record stand in its registers after a load. -/
def row11 : RigRec := ⟨tChannel, 11, toBytes 4 0x8C10 ++ toBytes 4 0 ++ toBytes 4 0x19145028 ++ toBytes 4 0x05828A3C ++
  [0x00, 0xBC, 0x02, 0x00, 0x7A, 0xC2] ++ toBytes 2 40001 ++ toBytes 2 25001 ++ toBytes 2 30000 ++ toBytes 2 15000 ++
  toBytes 2 60000 ++ toBytes 2 40000⟩
theorem test_channel_record :
    (Device.reset.commitRec row11).fld (CH.LIM_ILIM 11) = 40 ∧ (Device.reset.commitRec row11).fld (CH.CFG_PHASE 11) = 3 ∧
    (Device.reset.commitRec row11).fld (CH.PROT_TINR 11) = 20 ∧ (chanRig row11.data {}).stag = 179200 ∧
    (chanRig row11.data {}).lat = -15750 ∧ (chanRig row11.data {}).ldefOn = 40001 := by decide +kernel

/-! ## One command on a small state -/

/-- R392: 0xFF, 0x01 sets PAGE, and the pointer wraps to 0. -/
theorem test_twi_page :
    (after (.twiWrite [0xFF, 0x01] true) (W6.tw 0 0)).twi.page = 1 ∧
    (after (.twiWrite [0xFF, 0x01] true) (W6.tw 0 0)).twi.ptr = 0 := by decide +kernel
/-- Chapter 20, step 5: 0x00, 0x01 to FEED.STAT 0x0102 clears FEED_SWITCH alone. -/
theorem test_twi_clears_bit :
    (after (.twiWrite [0x04, 0x00, 0x01] true) (W6.tw 5 0 fun d => d.wr FEED.STAT 0x0102)).rd FEED.STAT = 0x0002 := by
  decide +kernel
/-- Chapter 20, step 2: with FA's FEED_UV set, IRQH reads page 0x05. -/
theorem test_twi_reads_irqh :
    (after (.twiRead 4 true) (W6.tw 0 0x24 fun d => d.raise (FEED.FSTAT_FEED_UV 0))).twi.out = [0x20, 0, 0, 0] := by
  decide +kernel
/-- R397: of 0x38, 0x3A and 0x3D pending, 0x38 answers 0x70. -/
theorem test_alert_response :
    (after (.alertResponse [0x3A, 0x3D]) W6.att).twi.out = [0x70] ∧
    (after (.alertResponse [0x3A, 0x3D]) W6.att).rd TWI.ARACNT = 1 := by decide +kernel
/-- Chapter 5: the first INRUSH_FAIL of a channel that retries waits RETRYBASE; RETRY 0 latches. -/
theorem test_trip_waits_and_latches :
    (((after (.inrushFail 0 4000) { W1.inr with dev := W1.inr.dev.setFld (CH.PROT_RETRY 0) 2 })).chan 0).trip = .waiting ∧
    ((after (.inrushFail 0 4000) W1.inr).chan 0).trip = .latched := by decide +kernel
/-- R133: a later assertion while STRIKE is in force adds its source and counts again. -/
theorem test_strike_counts_each :
    let u := (after (.strikePin true) W1.live0).modRck fun r => { r with tide := 5000001 }
    let t := after (.strikeAssert .host) { W1.live0 with dev := { u with clk := 5000001 } }
    t.rd BANK.STRIKECNT = 2 ∧ t.flag BANK.STRIKESTAT_SRC_REG = true := by decide +kernel
/-- R316: RUN in KEEP is refused as a wrong state. -/
theorem test_run_refused_in_keep :
    (after (.pwrRun .host) (W4.keep id)).inRun = false ∧ (after (.pwrRun .host) (W4.keep id)).rd SEC.PWRRES ≠ 0 := by
  decide +kernel
/-- R281: Hand has no say in power commands. -/
theorem test_hand_power_command :
    ∃ e ∈ (after (.pwrRun .hand) (W6.tw 0 0)).events, e.code = Ev.PRIV_FAULT ∧ e.args = [0x11, 6] := by decide +kernel

end Sys2Proof.Tests
end

namespace Sys2Proof.Machine

/-- Only the two commands that must be well-formed can stop; every other meaning answers a next state. -/
theorem exec_answers (c : Instr) (s : State) (h : c.wf = true) :
    ∃ t, exec c s = .next t ∧ t.pending = s.pending := by
  cases c with
  | linkFrame b crcOk count clamped => exact State.runIf_answers s _ h
  | registerWrite w page off bytes => exact State.runIf_answers s _ h
  | _ => exact ⟨_, rfl, rfl⟩

theorem step_cons (s : State) {c : Instr} {rest : List Instr} (h : s.pending = c :: rest) :
    step s = exec c { s with pending := rest } := by unfold step; rw [h]

theorem step_nil (s : State) (h : s.pending = []) : step s = .next { s with dev := s.dev.tick } := by
  unfold step; rw [h]

/-- Well-formed commands run one after another: each step answers and leaves the rest of the queue. -/
theorem step_answers (s : State) (h : s.queueWf = true) : ∃ t, step s = .next t ∧ t.pending = s.pending.tail := by
  cases hp : s.pending with
  | nil => exact ⟨_, step_nil s hp, hp⟩
  | cons c rest =>
    have hc : c.wf = true := by simp_all [State.queueWf]
    rw [step_cons s hp]
    exact exec_answers c _ hc

/-- Settles O1. -/
theorem stepTakesFront : Obligations.StepTakesFront := fun _ _ => rfl

/-- Settles O4: a step answers and takes the front command alone, and what is left of a well-formed queue is well-formed. -/
theorem noStepStops : Obligations.NoStepStops := by
  intro s h
  obtain ⟨t, ht, hp⟩ := step_answers s h
  refine ⟨t, ht, hp, ?_⟩
  unfold State.queueWf at *
  rw [hp]
  exact List.all_eq_true.2 fun c hc => List.all_eq_true.1 h c (List.mem_of_mem_tail hc)

end Sys2Proof.Machine

namespace Sys2Proof.Machine

/-! ## Register frames: the pages an operation may write

One lemma per operation, `<operation>_pages`: from any device `o`, the registers outside the pages `ps` read as in `o`
after the operation exactly where they did before it, as soon as the pages of the registers that the operation writes
stand in `ps`. Used by `simp`, such a lemma asks for the page of a register: a fixed register's page is a hypothesis
such as `0x0D ∈ ps` with its address computed (`with_unfolding_all assumption`), an indexed one's is stated before. -/

section
variable {o : Device} {ps : List Nat}

@[simp] theorem Device.onlyPages_refl (d : Device) : d.onlyPages ps d := fun _ _ => rfl

theorem Device.onlyPages_congr {d e : Device} (h : e.regs = d.regs) : o.onlyPages ps e = o.onlyPages ps d := by
  unfold Device.onlyPages; simp only [Device.rd_congr h]

@[simp ↓] theorem Device.pages_ite (c : Prop) [Decidable c] (a b : Device) :
    o.onlyPages ps (if c then a else b) = if c then o.onlyPages ps a else o.onlyPages ps b := by split <;> rfl

theorem Device.pages_each {α : Type} {f : Device → α → Device} :
    ∀ {l : List α} (_ : ∀ a ∈ l, ∀ d, o.onlyPages ps (f d a) = o.onlyPages ps d) (d : Device),
      o.onlyPages ps (d.each l f) = o.onlyPages ps d
  | [], _, _ => rfl
  | a :: _, h, d => (Device.pages_each (fun b hb => h b (.tail _ hb)) (f d a)).trans (h a (.head _) d)

@[simp ↓] theorem Device.pages_when_modChan (d : Device) (c : Bool) (n : Nat) (f : Chan → Chan) :
    o.onlyPages ps (d.when c fun d => d.modChan n f) = o.onlyPages ps d := by cases c <;> rfl

theorem Device.pages_when (d : Device) (c : Bool) {f : Device → Device}
    (h : ∀ d : Device, o.onlyPages ps (f d) = o.onlyPages ps d) : o.onlyPages ps (d.when c f) = o.onlyPages ps d := by
  cases c
  · rfl
  · exact h d

@[simp ↓] theorem Device.pages_mk (d : Device) (a2 a3 a4 a5 a6 a7 a8 a9 a10 a11 a12 a13 a14 a15 a16 a17 a18 a19 a20 a21
    a22 a23 a24 a25 a26 a27 a28 a29 a30 a31 a32) :
    o.onlyPages ps (Device.mk d.regs a2 a3 a4 a5 a6 a7 a8 a9 a10 a11 a12 a13 a14 a15 a16 a17 a18 a19 a20 a21 a22 a23 a24
        a25 a26 a27 a28 a29 a30 a31 a32)
      = o.onlyPages ps d := Device.onlyPages_congr rfl

@[simp ↓] theorem Device.wr_pages (d : Device) {r : Reg} (v : Nat) (h : r.addr / 256 ∈ ps) :
    o.onlyPages ps (d.wr r v) = o.onlyPages ps d := by
  refine propext (forall_congr' fun q => imp_congr_right fun hq => ?_)
  rw [Device.rd_wr_ne d v fun e => hq (e ▸ h)]

@[simp ↓] theorem Device.setFld_pages (d : Device) {f : Field} (v : Nat) (h : f.reg.addr / 256 ∈ ps) :
    o.onlyPages ps (d.setFld f v) = o.onlyPages ps d := Device.wr_pages d _ h

@[simp ↓] theorem Device.setFlag_pages (d : Device) {f : Field} (b : Bool) (h : f.reg.addr / 256 ∈ ps) :
    o.onlyPages ps (d.setFlag f b) = o.onlyPages ps d := Device.setFld_pages d _ h

@[simp ↓] theorem Device.raise_pages (d : Device) {f : Field} (h : f.reg.addr / 256 ∈ ps) :
    o.onlyPages ps (d.raise f) = o.onlyPages ps d := Device.setFlag_pages d true h

@[simp ↓] theorem Device.lower_pages (d : Device) {f : Field} (h : f.reg.addr / 256 ∈ ps) :
    o.onlyPages ps (d.lower f) = o.onlyPages ps d := Device.setFlag_pages d false h

@[simp ↓] theorem Device.setBit_pages (d : Device) {r : Reg} (i : Nat) (b : Bool) (h : r.addr / 256 ∈ ps) :
    o.onlyPages ps (d.setBit r i b) = o.onlyPages ps d := Device.wr_pages d _ h

@[simp ↓] theorem Device.raiseBit_pages (d : Device) {r : Reg} (i : Nat) (h : r.addr / 256 ∈ ps) :
    o.onlyPages ps (d.raiseBit r i) = o.onlyPages ps d := Device.setBit_pages d i true h

@[simp ↓] theorem Device.countSat_pages (d : Device) {r : Reg} (n : Nat) (h : r.addr / 256 ∈ ps) :
    o.onlyPages ps (d.countSat r n) = o.onlyPages ps d := Device.wr_pages d _ h

@[simp ↓] theorem Device.count_pages (d : Device) {r : Reg} (n : Nat) (h : r.addr / 256 ∈ ps) :
    o.onlyPages ps (d.count r n) = o.onlyPages ps d := Device.wr_pages d _ h

@[simp ↓] theorem Device.modChan_pages (d : Device) (n : Nat) (f : Chan → Chan) :
    o.onlyPages ps (d.modChan n f) = o.onlyPages ps d := Device.onlyPages_congr rfl
@[simp ↓] theorem Device.modBank_pages (d : Device) (m : Nat) (f : Bank → Bank) :
    o.onlyPages ps (d.modBank m f) = o.onlyPages ps d := Device.onlyPages_congr rfl
@[simp ↓] theorem Device.modRail_pages (d : Device) (r : Nat) (f : Rail → Rail) :
    o.onlyPages ps (d.modRail r f) = o.onlyPages ps d := Device.onlyPages_congr rfl
@[simp ↓] theorem Device.setFeed_pages (d : Device) (f : FeedId) (x : Feed) :
    o.onlyPages ps (d.setFeed f x) = o.onlyPages ps d := Device.onlyPages_congr (Device.setFeed_regs d f x)
@[simp ↓] theorem Device.setPort_pages (d : Device) (p : Port) (x : PortSt) :
    o.onlyPages ps (d.setPort p x) = o.onlyPages ps d := Device.onlyPages_congr (Device.setPort_regs d p x)

@[simp ↓] theorem Device.toHead_pages (d : Device) (e : Event) (front : Bool) (h : 0x0D ∈ ps) :
    o.onlyPages ps (d.toHead e front) = o.onlyPages ps d := by
  unfold Device.toHead; simp (disch := (refine id ?_; with_unfolding_all assumption))

@[simp ↓] theorem Device.log_pages (d : Device) (code : Nat) (args : List Nat) (front : Bool) (h : 0x0D ∈ ps) :
    o.onlyPages ps (d.log code args front) = o.onlyPages ps d := by
  unfold Device.log; simp (disch := (refine id ?_; with_unfolding_all assumption))

@[simp ↓] theorem Device.logFirst_pages (d : Device) (code key : Nat) (args : List Nat) (report : Bool) (h : 0x0D ∈ ps) :
    o.onlyPages ps (d.logFirst code key args report) = o.onlyPages ps d := by
  unfold Device.logFirst; simp (disch := (refine id ?_; with_unfolding_all assumption))

@[simp ↓] theorem Device.queueMsg_pages (d : Device) (t : MsgType) (dst : Nat) (data : List Nat) :
    o.onlyPages ps (d.queueMsg t dst data) = o.onlyPages ps d := by
  unfold Device.queueMsg; simp

/-! ### Channels -/

/-- A gang that a channel leads ends at most three channels beyond it: its status registers stand on the CHS pages. -/
theorem Device.gang_lt {d : Device} {l k : Nat} (hl : l < 160) (hk : k ∈ d.gang l) : k < 163 := by
  unfold Device.gang at hk
  split at hk
  · simp at hk; omega
  · split at hk <;> simp at hk <;> omega

theorem chs_page (h : chsPages ⊆ ps) {n : Nat} (hn : n < 163) : (CHS.STAT n).addr / 256 ∈ ps := by
  apply h
  show (0x3000 + 16 * n) / 256 ∈ (List.range 11).map (0x30 + ·)
  exact List.mem_map.2 ⟨n / 16, List.mem_range.2 (by omega), by omega⟩

@[simp ↓] theorem Device.outOff_pages (d : Device) {n : Nat} (h : (CHS.STAT n).addr / 256 ∈ ps) :
    o.onlyPages ps (d.outOff n) = o.onlyPages ps d := by
  unfold Device.outOff; simp (disch := (refine id ?_; with_unfolding_all assumption))

@[simp ↓] theorem Device.gangOff_pages (d : Device) {l : Nat} (h : chsPages ⊆ ps) (hl : l < 160) :
    o.onlyPages ps (d.gangOff l) = o.onlyPages ps d :=
  Device.pages_each (fun _ hk d => Device.outOff_pages d (chs_page h (Device.gang_lt hl hk))) d

@[simp ↓] theorem Device.bankTurnOff_pages (d : Device) {l : Nat} (h : chsPages ⊆ ps) (hl : l < 160) :
    o.onlyPages ps (d.bankTurnOff l) = o.onlyPages ps d := by
  unfold Device.bankTurnOff; simp (disch := (refine id ?_; with_unfolding_all assumption))

end
end Sys2Proof.Machine

namespace Sys2Proof.Machine
section
variable {o : Device} {ps : List Nat}

@[simp ↓] theorem Device.recordState_pages (d : Device) (l rk : Nat) :
    o.onlyPages ps (d.recordState l rk) = o.onlyPages ps d := rfl

@[simp ↓] theorem Device.dropCmdsOf_pages (d : Device) (l : Nat) :
    o.onlyPages ps (d.dropCmdsOf l) = o.onlyPages ps d := rfl

/-- Lowering the commanded state of a gang writes the CHS pages alone. -/
theorem Device.gangLower_pages (d : Device) {l : Nat} (h : chsPages ⊆ ps) (hl : l < 160) :
    o.onlyPages ps (d.each (d.gang l) fun d n => d.lower (CHS.STAT_CMD n)) = o.onlyPages ps d :=
  Device.pages_each (fun _ hk d => Device.lower_pages d (chs_page h (Device.gang_lt hl hk))) d

@[simp ↓] theorem Device.endHold_pages (d : Device) {l : Nat} (rk : Nat) (h : chsPages ⊆ ps) (hl : l < 160) :
    o.onlyPages ps (d.endHold l rk) = o.onlyPages ps d := by
  unfold Device.endHold
  simp (disch := (refine id ?_; with_unfolding_all assumption)) [Device.gangLower_pages]

@[simp ↓] theorem Device.faultOff_pages (d : Device) {l : Nat} (rk : Nat) (h : chsPages ⊆ ps) (hl : l < 160) :
    o.onlyPages ps (d.faultOff l rk) = o.onlyPages ps d := by
  unfold Device.faultOff
  simp (disch := (refine id ?_; with_unfolding_all assumption)) [Device.gangLower_pages]

theorem Device.leads_lt {d : Device} {l : Nat} (h : l ∈ d.leads) : l < 160 :=
  List.mem_range.1 (List.mem_filter.1 h).1

@[simp ↓] theorem Device.discard_pages (d : Device) (which : Entry → Bool) (ev : Nat) (hEdge : 0x02 ∈ ps)
    (hRing : 0x0D ∈ ps) : o.onlyPages ps (d.discard which ev) = o.onlyPages ps d := by
  unfold Device.discard
  simp (disch := (refine id ?_; with_unfolding_all assumption))

@[simp ↓] theorem Device.dropCmds_pages (d : Device) : o.onlyPages ps d.dropCmds = o.onlyPages ps d :=
  Device.pages_each (fun m _ d => Device.modBank_pages d m _) d

/-- Turning every lead off as a fault-logic action writes the CHS pages alone. -/
theorem Device.leadsOff_pages (d : Device) (rk : Nat) (h : chsPages ⊆ ps) :
    o.onlyPages ps (d.each d.leads fun d l => d.faultOff l rk) = o.onlyPages ps d :=
  Device.pages_each (fun _ hl d => Device.faultOff_pages d rk h (Device.leads_lt hl)) d

@[simp ↓] theorem Device.leaveRun_pages (d : Device) (hEdge : 0x02 ∈ ps) (hRing : 0x0D ∈ ps) (hSec : 0x11 ∈ ps)
    (h : chsPages ⊆ ps) : o.onlyPages ps d.leaveRun = o.onlyPages ps d := by
  unfold Device.leaveRun
  simp (disch := (refine id ?_; with_unfolding_all assumption)) [Device.leadsOff_pages]

end
end Sys2Proof.Machine

namespace Sys2Proof.Machine

/-! ## One-bit fields of the channel status registers -/

theorem chs_addr_ne {n k : Nat} (h : n ≠ k) : (CHS.STAT n).addr ≠ (CHS.STAT k).addr := by
  simp only [CHS.STAT]; omega

/-- A status bit of a channel takes a value: that bit alone, of that channel alone, reads it. -/
@[simp] theorem Device.flag_setFlag_chs (d : Device) (n k i j : Nat) (b : Bool) (hi : i < 16 := by decide)
    (hj : j < 16 := by decide) :
    (d.setFlag ⟨CHS.STAT n, i, 1⟩ b).flag ⟨CHS.STAT k, j, 1⟩ =
      if n = k ∧ i = j then b else d.flag ⟨CHS.STAT k, j, 1⟩ := by
  by_cases hn : n = k
  · subst hn
    by_cases hij : i = j
    · subst hij
      rw [if_pos ⟨rfl, rfl⟩]
      exact Device.flag_setFlag_same d ⟨CHS.STAT n, i, 1⟩ b rfl (by simp only [CHS.STAT]; omega)
    · rw [if_neg (by simp [hij])]
      exact Device.flag_setFlag_beside d (f := ⟨CHS.STAT n, i, 1⟩) (g := ⟨CHS.STAT n, j, 1⟩) b rfl
        (by simp only []; omega) (by simp only [CHS.STAT]; omega)
  · rw [if_neg (by simp [hn])]
    exact Device.flag_setFlag_reg d (f := ⟨CHS.STAT n, i, 1⟩) (g := ⟨CHS.STAT k, j, 1⟩) b (chs_addr_ne hn)

@[simp] theorem Device.rd_modChan (d : Device) (n : Nat) (f : Chan → Chan) (r : Reg) : (d.modChan n f).rd r = d.rd r := rfl
@[simp] theorem Device.fld_modChan (d : Device) (n : Nat) (f : Chan → Chan) (g : Field) : (d.modChan n f).fld g = d.fld g := rfl
@[simp] theorem Device.flag_modChan (d : Device) (n : Nat) (f : Chan → Chan) (g : Field) : (d.modChan n f).flag g = d.flag g := rfl
@[simp] theorem Device.flag_modBank (d : Device) (m : Nat) (f : Bank → Bank) (g : Field) : (d.modBank m f).flag g = d.flag g := rfl

/-- A truth value that each step clears for its own index is cleared for the indices of the list. -/
theorem Device.each_clears {g : Device → Bool} {f : Device → Nat → Device} {k : Nat}
    (h : ∀ d n, g (f d n) = (decide (n ≠ k) && g d)) :
    ∀ (l : List Nat) (d : Device), g (d.each l f) = (decide (k ∉ l) && g d)
  | [], d => by simp [Device.each]
  | n :: t, d => by
    have e : (d.each (n :: t) f) = (f d n).each t f := rfl
    rw [e, Device.each_clears h t, h]
    by_cases hn : n = k
    · simp [hn]
    · simp [hn, Ne.symm hn]

/-! ## Turning gangs off -/

@[simp] theorem Device.outOff_out (d : Device) (n k : Nat) :
    (d.outOff n).flag (CHS.STAT_OUT k) = (decide (n ≠ k) && d.flag (CHS.STAT_OUT k)) := by
  unfold Device.outOff
  by_cases h : n = k <;> simp [h]

@[simp] theorem Device.outOff_cmd (d : Device) (n k : Nat) :
    (d.outOff n).flag (CHS.STAT_CMD k) = d.flag (CHS.STAT_CMD k) := by
  unfold Device.outOff; simp

theorem Device.bankTurnOff_out (d : Device) (l k : Nat) :
    (d.bankTurnOff l).flag (CHS.STAT_OUT k) = (decide (k ∉ d.gang l) && d.flag (CHS.STAT_OUT k)) :=
  Device.each_clears (g := fun d => d.flag (CHS.STAT_OUT k)) (fun d n => Device.outOff_out d n k) (d.gang l) d

theorem Device.bankTurnOff_cmd (d : Device) (l k : Nat) :
    (d.bankTurnOff l).flag (CHS.STAT_CMD k) = d.flag (CHS.STAT_CMD k) :=
  Device.each_same (fun d => d.flag (CHS.STAT_CMD k)) (fun d n => Device.outOff_cmd d n k) (d.gang l) d

theorem Device.gang_congr {d e : Device} {l : Nat} (h : e.rd (CH.CFG l) = d.rd (CH.CFG l)) : e.gang l = d.gang l := by
  simp [Device.gang, Device.fld, h]

theorem Device.isLead_congr {d e : Device} {l : Nat} (h : e.rd (CH.CFG l) = d.rd (CH.CFG l)) : e.isLead l = d.isLead l := by
  simp [Device.isLead, Device.fld, h]

/-- A channel's rigging stands on the CH pages. -/
theorem ch_page {n : Nat} (hn : n < 160) : 0x20 ≤ (CH.CFG n).addr / 256 ∧ (CH.CFG n).addr / 256 < 0x2A := by
  simp only [CH.CFG]; omega

/-- The rigging of a channel is out of reach of what writes the CHS pages alone. -/
theorem Device.onlyPages.cfg {d e : Device} (h : d.onlyPages chsPages e) {n : Nat} (hn : n < 160) :
    e.rd (CH.CFG n) = d.rd (CH.CFG n) :=
  h _ fun hp => by
    have := ch_page hn
    obtain ⟨i, -, hi⟩ := List.mem_map.1 hp
    omega

/-- A step for a lead that turns its gang off and commands it off, and changes no other output and no gang. -/
structure Device.OffStep (f : Device → Nat → Device) : Prop where
  cmd : ∀ d l k, l < 160 → (f d l).flag (CHS.STAT_CMD k) = (decide (k ∉ d.gang l) && d.flag (CHS.STAT_CMD k))
  out : ∀ d l k, l < 160 → (f d l).flag (CHS.STAT_OUT k) = (decide (k ∉ d.gang l) && d.flag (CHS.STAT_OUT k))
  pages : ∀ (d : Device) l, l < 160 → d.onlyPages chsPages (f d l)

/-- Lowering the commanded state of a gang. -/
theorem Device.gangLower_cmd (d : Device) (l k : Nat) :
    (d.each (d.gang l) fun d n => d.lower (CHS.STAT_CMD n)).flag (CHS.STAT_CMD k)
      = (decide (k ∉ d.gang l) && d.flag (CHS.STAT_CMD k)) :=
  Device.each_clears (g := fun d => d.flag (CHS.STAT_CMD k))
    (fun d n => by by_cases h : n = k <;> simp [h]) (d.gang l) d

theorem Device.gangLower_out (d : Device) (l k : Nat) :
    (d.each (d.gang l) fun d n => d.lower (CHS.STAT_CMD n)).flag (CHS.STAT_OUT k) = d.flag (CHS.STAT_OUT k) :=
  Device.each_same (fun d => d.flag (CHS.STAT_OUT k)) (fun d n => by simp) (d.gang l) d

/-- A command that is void, and a step that writes the CHS pages alone, leave every gang. -/
theorem Device.gang_of_pages {d e : Device} (h : d.onlyPages chsPages e) {l : Nat} (hl : l < 160) : e.gang l = d.gang l :=
  Device.gang_congr (h.cfg hl)

theorem Device.endHold_offStep (rk : Nat) : Device.OffStep fun d l => d.endHold l rk where
  cmd d l k _ := by
    simp only [Device.endHold, Device.recordState, Device.flag_modChan, Device.bankTurnOff_cmd, Device.dropCmdsOf,
      Device.flag_modBank]
    exact Device.gangLower_cmd d l k
  out d l k hl := by
    have hg : ((d.each (d.gang l) fun d n => d.lower (CHS.STAT_CMD n)).dropCmdsOf l).gang l = d.gang l :=
      Device.gang_of_pages (by simp [Device.gangLower_pages d (fun _ h => h) hl]) hl
    simp only [Device.endHold, Device.recordState, Device.flag_modChan, Device.bankTurnOff_out, hg]
    simp only [Device.dropCmdsOf, Device.flag_modBank, Device.gangLower_out]
  pages d l hl := by
    rw [Device.endHold_pages d rk (fun _ h => h) hl]
    exact Device.onlyPages_refl d

/-- A fault-logic off ends like a hold, and marks the scan that follows. -/
theorem Device.faultOff_endHold (d : Device) (l rk : Nat) : ∃ g, d.faultOff l rk = (d.endHold l rk).modChan l g := by
  unfold Device.faultOff Device.endHold; exact ⟨_, rfl⟩

theorem Device.faultOff_offStep (rk : Nat) : Device.OffStep fun d l => d.faultOff l rk where
  cmd d l k hl := by
    obtain ⟨g, hg⟩ := d.faultOff_endHold l rk
    simp only [hg, Device.flag_modChan]
    exact (Device.endHold_offStep rk).cmd d l k hl
  out d l k hl := by
    obtain ⟨g, hg⟩ := d.faultOff_endHold l rk
    simp only [hg, Device.flag_modChan]
    exact (Device.endHold_offStep rk).out d l k hl
  pages d l hl := by
    rw [Device.faultOff_pages d rk (fun _ h => h) hl]
    exact Device.onlyPages_refl d

/-- The channel is commanded off and off. -/
def Device.isOff (d : Device) (k : Nat) : Prop := d.flag (CHS.STAT_CMD k) = false ∧ d.flag (CHS.STAT_OUT k) = false

namespace Device.OffStep
variable {f : Device → Nat → Device} (hf : Device.OffStep f)
include hf

theorem isOff_of_mem (d : Device) {l k : Nat} (hl : l < 160) (hk : k ∈ d.gang l) : (f d l).isOff k :=
  ⟨by rw [hf.cmd d l k hl]; simp [hk], by rw [hf.out d l k hl]; simp [hk]⟩

theorem isOff_keeps (d : Device) {l k : Nat} (hl : l < 160) (hk : d.isOff k) : (f d l).isOff k :=
  ⟨by rw [hf.cmd d l k hl, hk.1, Bool.and_false], by rw [hf.out d l k hl, hk.2, Bool.and_false]⟩

theorem each_pages {ls : List Nat} (h : ∀ l ∈ ls, l < 160) (d : Device) : d.onlyPages chsPages (d.each ls f) := by
  induction ls generalizing d with
  | nil => exact Device.onlyPages_refl d
  | cons l t ih =>
    intro r hr
    exact (ih (fun m hm => h m (.tail _ hm)) (f d l) r hr).trans (hf.pages d l (h l (.head _)) r hr)

theorem each_keeps {ls : List Nat} (h : ∀ l ∈ ls, l < 160) (d : Device) {k : Nat} (hk : d.isOff k) :
    (d.each ls f).isOff k := by
  induction ls generalizing d with
  | nil => exact hk
  | cons l t ih => exact ih (fun m hm => h m (.tail _ hm)) (f d l) (hf.isOff_keeps d (h l (.head _)) hk)

/-- Each lead of the list has its gang off, as the gangs were at the start. -/
theorem each_off {ls : List Nat} (h : ∀ l ∈ ls, l < 160) (d : Device) {l k : Nat} (hl : l ∈ ls) (hk : k ∈ d.gang l) :
    (d.each ls f).isOff k := by
  induction ls generalizing d with
  | nil => cases hl
  | cons m t ih =>
    have ht : ∀ l ∈ t, l < 160 := fun n hn => h n (.tail _ hn)
    have hm : m < 160 := h m (.head _)
    rcases List.mem_cons.1 hl with rfl | hlt
    · exact hf.each_keeps ht (f d l) (hf.isOff_of_mem d hm hk)
    · exact ih ht (f d m) hlt (by rwa [Device.gang_of_pages (hf.pages d m hm) (ht l hlt)])

end Device.OffStep

theorem Device.leads_of_pages {d e : Device} (h : ∀ n < 160, e.rd (CH.CFG n) = d.rd (CH.CFG n)) : e.leads = d.leads :=
  List.filter_congr fun n hn => Device.isLead_congr (h n (List.mem_range.1 hn))

/-- One off-step for every lead leaves every lead's gang commanded off and off. -/
theorem Device.OffStep.allOff {f : Device → Nat → Device} (hf : Device.OffStep f) (d : Device) :
    (d.each d.leads f).allOff (d.each d.leads f).leads := by
  have hl : ∀ l ∈ d.leads, l < 160 := fun l h => Device.leads_lt h
  have hp := hf.each_pages hl d
  intro l hll k hk
  rw [Device.leads_of_pages fun n hn => hp.cfg hn] at hll
  rw [Device.gang_of_pages hp (hl l hll)] at hk
  exact hf.each_off hl d hll hk

/-- What writes below the CH pages alone leaves every lead's gang off. -/
theorem Device.allOff_of_pages {ps : List Nat} {d e : Device} (h : d.onlyPages ps e) (hps : ∀ p ∈ ps, p < 0x20)
    (hd : d.allOff d.leads) : e.allOff e.leads := by
  have hr : ∀ r : Reg, 0x2000 ≤ r.addr → e.rd r = d.rd r := fun r hr => h r fun hp => by have := hps _ hp; omega
  have hc : ∀ n, e.rd (CH.CFG n) = d.rd (CH.CFG n) := fun n => hr _ (by simp only [CH.CFG]; omega)
  have hs : ∀ n, e.rd (CHS.STAT n) = d.rd (CHS.STAT n) := fun n => hr _ (by simp only [CHS.STAT]; omega)
  intro l hl k hk
  rw [Device.leads_of_pages fun n _ => hc n] at hl
  rw [Device.gang_congr (hc l)] at hk
  simpa [Device.flag, Device.fld, hs] using hd l hl k hk

end Sys2Proof.Machine

namespace Sys2Proof.Machine

/-! ## Register writes and completed commands -/

/-- A command whose meaning is a powered run of `f` completes with what `f` makes of the device. -/
theorem completes_run {c : Instr} {s : State} {f : Device → Device} {P : Device → Prop} (hp : s.dev.powered = true)
    (hc : exec c s = s.run f) (h : P (f s.dev)) : Completes c s P :=
  ⟨_, hc.trans (s.run_powered f hp), rfl, h⟩

/-- The end of an attention changes the two-wire port alone. -/
theorem Device.attSettle_twi (d : Device) : ∃ x, d.attSettle = { d with twi := x } := by
  unfold Device.attSettle
  split
  · exact ⟨d.twi, rfl⟩
  · exact ⟨_, rfl⟩

theorem Device.asWriter_admitted {d : Device} {w : Writer} (h : d.admits w) (f : Device → Device) :
    d.asWriter w f = (f d).attSettle := by
  unfold Device.asWriter
  rw [if_neg]
  intro hw
  simp at hw
  rw [h hw.1] at hw
  simp at hw

/-- A write by a writer who may make it completes with what the write does, but for the end of an attention. -/
theorem completes_write {c : Instr} {s : State} {w : Writer} {f : Device → Device} {P : Device → Prop}
    (hp : s.dev.powered = true) (hw : s.dev.admits w) (hc : exec c s = s.run fun d => d.asWriter w f)
    (h : ∀ x, P { f s.dev with twi := x }) : Completes c s P := by
  obtain ⟨x, hx⟩ := (f s.dev).attSettle_twi
  exact completes_run hp hc (by rw [Device.asWriter_admitted hw, hx]; exact h x)

/-! ## One-bit fields of one register -/

/-- A bit of a register takes a value: of the register's bits, that one alone reads it. -/
theorem Device.flag_setFlag_bit (d : Device) {r : Reg} {i j : Nat} (b : Bool) (hi : i < r.width) (hj : j < r.width) :
    (d.setFlag ⟨r, i, 1⟩ b).flag ⟨r, j, 1⟩ = if i = j then b else d.flag ⟨r, j, 1⟩ := by
  by_cases h : i = j
  · subst h
    rw [if_pos rfl]
    exact Device.flag_setFlag_same d ⟨r, i, 1⟩ b rfl hi
  · rw [if_neg h]
    exact Device.flag_setFlag_beside d (f := ⟨r, i, 1⟩) (g := ⟨r, j, 1⟩) b rfl (by simp only []; omega) hj

/-- A bit that hardware sets reads 1; the register's other bits stay. -/
theorem Device.flag_raise_bit (d : Device) {r : Reg} {i j : Nat} (hi : i < r.width) (hj : j < r.width) :
    (d.raise ⟨r, i, 1⟩).flag ⟨r, j, 1⟩ = if i = j then true else d.flag ⟨r, j, 1⟩ :=
  Device.flag_setFlag_bit d true hi hj

/-! ## The log of a STRIKE -/

theorem Device.outOff_events (d : Device) (n : Nat) : (d.outOff n).events = d.events := by
  unfold Device.outOff; simp

theorem Device.endHold_events (d : Device) (l rk : Nat) : (d.endHold l rk).events = d.events := by
  have hg : ∀ e : Device, (e.gangOff l).events = e.events := fun e =>
    Device.each_same (fun d : Device => d.events) Device.outOff_events (e.gang l) e
  have hl : (d.each (d.gang l) fun d n => d.lower (CHS.STAT_CMD n)).events = d.events :=
    Device.each_same (fun d : Device => d.events) (fun d n => by simp) (d.gang l) d
  simp [Device.endHold, Device.recordState, Device.bankTurnOff, Device.dropCmdsOf, hg, hl]

theorem Device.faultOff_events (d : Device) (l rk : Nat) : (d.faultOff l rk).events = d.events := by
  obtain ⟨g, hg⟩ := d.faultOff_endHold l rk
  simp [hg, Device.endHold_events]

theorem Device.leadsOff_events (d : Device) (ls : List Nat) (rk : Nat) :
    (d.each ls fun d l => d.faultOff l rk).events = d.events :=
  Device.each_same (fun d : Device => d.events) (fun d l => Device.faultOff_events d l rk) ls d

theorem Device.discard_events (d : Device) (which : Entry → Bool) (ev : Nat) :
    d.events <+: (d.discard which ev).events := by
  unfold Device.discard
  dsimp only
  split
  · exact List.prefix_refl _
  · rw [Device.log_events]
    simp

theorem Device.dropCmds_events (d : Device) : d.dropCmds.events = d.events :=
  Device.each_same (fun d : Device => d.events) (fun d m => by simp) (List.range 4) d

theorem Device.leaveRun_events (d : Device) : d.events <+: d.leaveRun.events := by
  unfold Device.leaveRun
  dsimp only
  split
  · rw [Device.dropCmds_events, Device.leadsOff_events]
    refine List.IsPrefix.trans ?_ (Device.discard_events _ _ _)
    simp
  · exact List.prefix_refl _

theorem Device.queueMsg_events (d : Device) (t : MsgType) (dst : Nat) (data : List Nat) :
    (d.queueMsg t dst data).events = d.events := by
  unfold Device.queueMsg; split <;> rfl

/-- What follows an event in the log leaves it reported. -/
theorem Device.reported_of_prefix {o d : Device} {e : Event} (h : o.events ++ [e] <+: d.events) (he : e.orig = 0) :
    o.reported d e.code e.args := by
  obtain ⟨t, ht⟩ := h
  exact ⟨e, by simp [← ht], rfl, rfl, he⟩

/-! ## STRIKE -/

/-- The register part of an assertion: status, date, count and event. -/
def Device.strikeNoted (d : Device) (src : StrikeSrc) : Device :=
  let e := ((d.raise BANK.STRIKESTAT_ACTIVE).raise src.bit).wr BANK.STRIKETIDE d.now
  ((e.countSat BANK.STRIKECNT).raise BANK.PSTAT_STRIKE).log Ev.STRIKE [src.origin]

/-- What follows the first assertion: every lead off, the cell on the ring, and RUN left where STRIKE drops it. -/
def Device.strikeDrop (d : Device) (src : StrikeSrc) : Device :=
  let d := d.each d.leads fun d l => d.faultOff l 2
  let d := d.when (d.flag BANK.STRIKECFG_RINGTX && src != .ring) fun d =>
    d.queueMsg .strike 0xFFF (src.origin :: toBytes 8 d.now)
  if d.flag SEC.PCFG_STRIKEDROP then d.leaveRun else d

theorem Device.strike_first {d : Device} (src : StrikeSrc) (h : d.struckNow = false)
    (ha : d.flag BANK.STRIKESTAT_ACTIVE = false) : d.strike src = (d.strikeNoted src).strikeDrop src := by
  unfold Device.strike
  rw [if_neg (by simp [h])]
  simp only [ha]
  rfl

/-- The STRIKE cell that the ring may carry touches no register and no event. -/
theorem Device.strikeCell_regs (d : Device) (c : Bool) (t : MsgType) (a : Nat) (data : Device → List Nat) :
    (d.when c fun d => d.queueMsg t a (data d)).regs = d.regs ∧
    (d.when c fun d => d.queueMsg t a (data d)).events = d.events := by
  cases c
  · exact ⟨rfl, rfl⟩
  · exact ⟨by unfold Device.queueMsg Device.when; simp only [if_true]; split <;> rfl, Device.queueMsg_events _ _ _ _⟩

theorem Device.strikeDrop_pages (d : Device) (src : StrikeSrc) :
    d.onlyPages ([0x02, 0x0D, 0x11] ++ chsPages) (d.strikeDrop src) := by
  have hoff := (Device.leadsOff_pages (o := d) (ps := [0x02, 0x0D, 0x11] ++ chsPages) d 2 (by decide)).symm
    ▸ Device.onlyPages_refl d
  unfold Device.strikeDrop
  dsimp only
  split
  · rw [Device.leaveRun_pages _ (by decide) (by decide) (by decide) (by decide),
      Device.onlyPages_congr (Device.strikeCell_regs _ _ _ _ _).1]
    exact hoff
  · rw [Device.onlyPages_congr (Device.strikeCell_regs _ _ _ _ _).1]
    exact hoff

theorem Device.strikeDrop_events (d : Device) (src : StrikeSrc) : d.events <+: (d.strikeDrop src).events := by
  unfold Device.strikeDrop
  dsimp only
  split
  · refine List.IsPrefix.trans ?_ (Device.leaveRun_events _)
    rw [(Device.strikeCell_regs _ _ _ _ _).2, Device.leadsOff_events]
  · rw [(Device.strikeCell_regs _ _ _ _ _).2, Device.leadsOff_events]

theorem Device.dropCmds_allOff (d : Device) (h : d.allOff d.leads) : d.dropCmds.allOff d.dropCmds.leads :=
  Device.allOff_of_pages (ps := []) (by simp) (by simp) h

theorem Device.leaveRun_allOff (d : Device) (h : d.allOff d.leads) : d.leaveRun.allOff d.leaveRun.leads := by
  unfold Device.leaveRun
  dsimp only
  split
  · exact Device.dropCmds_allOff _ ((Device.faultOff_offStep 1).allOff _)
  · exact h

theorem Device.strikeDrop_allOff (d : Device) (src : StrikeSrc) : (d.strikeDrop src).allOff (d.strikeDrop src).leads := by
  have h := (Device.faultOff_offStep 2).allOff d
  have hc := fun c => Device.allOff_of_pages (ps := []) (fun r _ => Device.rd_congr (Device.strikeCell_regs
    (d.each d.leads fun d l => d.faultOff l 2) c .strike 0xFFF fun d => src.origin :: toBytes 8 d.now).1 r) (by simp) h
  unfold Device.strikeDrop
  dsimp only
  split
  · exact Device.leaveRun_allOff _ (hc _)
  · exact hc _

end Sys2Proof.Machine

namespace Sys2Proof.Machine

/-- Of the STRIKE status bits, one that hardware sets reads 1; the others stay. -/
@[simp] theorem Device.flag_raise_strikeStat (d : Device) (i j : Nat) (hi : i < 8 := by decide) (hj : j < 8 := by decide) :
    (d.raise ⟨BANK.STRIKESTAT, i, 1⟩).flag ⟨BANK.STRIKESTAT, j, 1⟩
      = if i = j then true else d.flag ⟨BANK.STRIKESTAT, j, 1⟩ := Device.flag_raise_bit d hi hj

/-- The status bits after an assertion are those that it raises. -/
theorem Device.strikeNoted_stat (d : Device) (src : StrikeSrc) (j : Nat) :
    (d.strikeNoted src).flag ⟨BANK.STRIKESTAT, j, 1⟩
      = ((d.raise BANK.STRIKESTAT_ACTIVE).raise src.bit).flag ⟨BANK.STRIKESTAT, j, 1⟩ := by
  have h : ∀ r : Reg, r ∈ [RING.RSTAT, RING.EVDROPCNT, BANK.PSTAT, BANK.STRIKECNT, BANK.STRIKETIDE] →
      r.addr ≠ BANK.STRIKESTAT.addr := by decide
  unfold Device.strikeNoted
  rw [Device.flag_log _ _ _ _ (h _ (by decide)) (h _ (by decide)), Device.flag_raise_reg _ (h _ (by decide)),
    Device.flag_countSat_ne _ _ (h _ (by decide)), Device.flag_wr_ne _ _ (h _ (by decide))]

theorem Device.strikeNoted_active (d : Device) (src : StrikeSrc) :
    (d.strikeNoted src).flag BANK.STRIKESTAT_ACTIVE = true := by
  rw [Device.strikeNoted_stat]
  cases src <;> simp [StrikeSrc.bit]

theorem Device.strikeNoted_src (d : Device) (src : StrikeSrc) : (d.strikeNoted src).flag src.bit = true := by
  cases src <;> exact (Device.strikeNoted_stat d _ _).trans (Device.flag_raise _ _ rfl (by decide))

/-- An assertion leaves the level of STRIKE_N. -/
theorem Device.strikeNoted_pin (d : Device) (src : StrikeSrc) :
    (d.strikeNoted src).flag BANK.STRIKESTAT_PIN = d.flag BANK.STRIKESTAT_PIN := by
  rw [Device.strikeNoted_stat]
  cases src <;> simp [StrikeSrc.bit]

theorem StrikeSrc.bit_reg (src : StrikeSrc) : src.bit.reg = BANK.STRIKESTAT := by cases src <;> rfl

theorem Device.strikeNoted_tide (d : Device) (src : StrikeSrc) :
    (d.strikeNoted src).rd BANK.STRIKETIDE = d.now % 2 ^ 64 := by
  unfold Device.strikeNoted
  rw [Device.rd_log _ _ _ _ (by decide) (by decide), Device.rd_raise_ne _ (by decide),
    Device.rd_countSat_ne _ _ (by decide), Device.rd_wr_same]
  rfl

theorem Device.strikeNoted_count (d : Device) (src : StrikeSrc) : d.counted (d.strikeNoted src) BANK.STRIKECNT := by
  unfold Device.strikeNoted Device.counted
  rw [Device.rd_log _ _ _ _ (by decide) (by decide), Device.rd_raise_ne _ (by decide), Device.rd_countSat_same,
    Device.rd_wr_ne _ _ (by decide), Device.rd_raise_ne _ (by rw [src.bit_reg]; decide), Device.rd_raise_ne _ (by decide)]

theorem Device.strikeNoted_events (d : Device) (src : StrikeSrc) :
    (d.strikeNoted src).events = d.events ++ [{ code := Ev.STRIKE, tide := d.now, args := [src.origin] }] := by
  unfold Device.strikeNoted
  simp [Device.log_events, Device.now]

/-- What a first assertion of a cycle, with no STRIKE in force, makes of the device: it is dated, counted and logged,
and every channel is commanded off and off (R133, R134). -/
structure Device.Struck (o : Device) (src : StrikeSrc) (d : Device) : Prop where
  active : d.flag BANK.STRIKESTAT_ACTIVE = true
  source : d.flag src.bit = true
  pin : d.flag BANK.STRIKESTAT_PIN = o.flag BANK.STRIKESTAT_PIN
  tide : d.rd BANK.STRIKETIDE = o.now % 2 ^ 64
  count : o.counted d BANK.STRIKECNT
  event : o.reported d Ev.STRIKE [src.origin]
  off : d.allOff d.leads

theorem Device.strike_struck {d : Device} (src : StrikeSrc) (h : d.struckNow = false)
    (ha : d.flag BANK.STRIKESTAT_ACTIVE = false) : d.Struck src (d.strike src) := by
  rw [Device.strike_first src h ha]
  have hr : ∀ r : Reg, r.addr / 256 = 4 → ((d.strikeNoted src).strikeDrop src).rd r = (d.strikeNoted src).rd r :=
    fun r hp => Device.strikeDrop_pages _ src r (by rw [hp]; decide)
  have hf : ∀ f : Field, f.reg = BANK.STRIKESTAT →
      ((d.strikeNoted src).strikeDrop src).flag f = (d.strikeNoted src).flag f := fun f hf => by
    unfold Device.flag Device.fld; rw [hr f.reg (by rw [hf]; rfl)]
  exact {
    active := (hf _ rfl).trans (d.strikeNoted_active src)
    source := (hf _ src.bit_reg).trans (d.strikeNoted_src src)
    pin := (hf _ rfl).trans (d.strikeNoted_pin src)
    tide := (hr _ rfl).trans (d.strikeNoted_tide src)
    count := (hr _ rfl).trans (d.strikeNoted_count src)
    event := Device.reported_of_prefix (e := { code := Ev.STRIKE, tide := d.now, args := [src.origin] })
      (d.strikeNoted_events src ▸ Device.strikeDrop_events _ src) rfl
    off := Device.strikeDrop_allOff _ src }

/-- STRIKE_N falling is an assertion by the pin, which the low level itself does not forestall. -/
theorem Device.strikePin_falls {d : Device} (hp : d.flag BANK.STRIKESTAT_PIN = false) :
    d.strikePin true = (d.raise BANK.STRIKESTAT_PIN).strike .pin := by
  simp [Device.strikePin, hp]

theorem Device.struckNow_raise_pin (d : Device) : (d.raise BANK.STRIKESTAT_PIN).struckNow = d.struckNow := by
  have hf : (d.raise BANK.STRIKESTAT_PIN).fresh
      = (d.now, (BANK.STRIKESTAT.addr, 1) :: if d.fresh.1 = d.now then d.fresh.2 else []) := rfl
  have hn : (d.raise BANK.STRIKESTAT_PIN).now = d.now := rfl
  unfold Device.struckNow
  rw [hf, hn]
  by_cases h : d.fresh.1 = d.now <;> simp [h]

end Sys2Proof.Machine

namespace Sys2Proof.Machine

/-- STRIKE_N falling with no STRIKE in force: an assertion by the pin (R133). -/
theorem strikePin_asserts (s : State) (hpow : s.dev.powered = true) (hn : s.dev.struckNow = false)
    (ha : s.dev.flag BANK.STRIKESTAT_ACTIVE = false) (hp : s.dev.flag BANK.STRIKESTAT_PIN = false) :
    Completes (.strikePin true) s fun d =>
      d.flag BANK.STRIKESTAT_PIN = true ∧ d.flag BANK.STRIKESTAT_ACTIVE = true ∧
      d.flag BANK.STRIKESTAT_SRC_PIN = true ∧ d.rd BANK.STRIKETIDE = s.dev.now % 2 ^ 64 ∧
      s.dev.counted d BANK.STRIKECNT ∧ s.dev.reported d Ev.STRIKE [0] ∧ d.allOff d.leads := by
  refine completes_run (f := fun d => d.strikePin true) hpow rfl ?_
  simp only [Device.strikePin_falls hp]
  have h := Device.strike_struck (d := s.dev.raise BANK.STRIKESTAT_PIN) .pin (by rw [Device.struckNow_raise_pin, hn])
    (by simpa using ha)
  exact ⟨h.pin.trans (by simp), h.active, h.source, h.tide,
    h.count.trans (by rw [Device.rd_raise_ne _ (by decide)]), h.event, h.off⟩

/-- A write of ASSERT with no STRIKE in force: an assertion by the register (R133). -/
theorem strikeAssert_asserts (s : State) (w : Writer) (hpow : s.dev.powered = true) (hn : s.dev.struckNow = false)
    (ha : s.dev.flag BANK.STRIKESTAT_ACTIVE = false) (hw : s.dev.admits w) :
    Completes (.strikeAssert w) s fun d =>
      d.flag BANK.STRIKESTAT_ACTIVE = true ∧ d.flag BANK.STRIKESTAT_SRC_REG = true ∧
      d.rd BANK.STRIKETIDE = s.dev.now % 2 ^ 64 ∧ s.dev.counted d BANK.STRIKECNT ∧
      s.dev.reported d Ev.STRIKE [1] ∧ d.allOff d.leads := by
  have h := Device.strike_struck .reg hn ha
  exact completes_write hpow hw rfl fun _ => ⟨h.active, h.source, h.tide, h.count, h.event, h.off⟩

/-- A further source of the same cycle sets its bit, and is not counted again (R133). -/
theorem strikeAssert_again (s : State) (w : Writer) (hpow : s.dev.powered = true) (hw : s.dev.admits w)
    (hn : s.dev.struckNow = true) : Completes (.strikeAssert w) s fun d =>
      d.flag BANK.STRIKESTAT_SRC_REG = true ∧ d.rd BANK.STRIKECNT = s.dev.rd BANK.STRIKECNT ∧
      d.flag BANK.STRIKESTAT_ACTIVE = s.dev.flag BANK.STRIKESTAT_ACTIVE := by
  have h : s.dev.strike .reg = (s.dev.raise BANK.STRIKESTAT_SRC_REG).addStrikeSource .reg := by
    unfold Device.strike; rw [if_pos hn]; rfl
  refine completes_write hpow hw rfl fun x => ?_
  have hr : ∀ r, Device.rd { s.dev.strike .reg with twi := x } r = (s.dev.raise BANK.STRIKESTAT_SRC_REG).rd r :=
    fun r => by rw [h]; rfl
  have hf : ∀ f, Device.flag { s.dev.strike .reg with twi := x } f = (s.dev.raise BANK.STRIKESTAT_SRC_REG).flag f :=
    fun f => by rw [h]; rfl
  exact ⟨(hf _).trans (by simp), (hr _).trans (Device.rd_raise_ne _ (by decide)), (hf _).trans (by simp)⟩

/-- STRIKE_N rising ends the low level alone (R133). -/
theorem strikePin_rises (s : State) (hpow : s.dev.powered = true) :
    Completes (.strikePin false) s fun d =>
      d.flag BANK.STRIKESTAT_PIN = false ∧ d.flag BANK.STRIKESTAT_ACTIVE = s.dev.flag BANK.STRIKESTAT_ACTIVE := by
  refine completes_run (f := fun d => d.strikePin false) hpow rfl ?_
  simp only [Device.strikePin, Bool.false_eq_true, if_false]
  exact ⟨Device.flag_lower _ _ rfl (by decide), Device.flag_setFlag_bit _ _ (by decide) (by decide)⟩

/-- A release while STRIKE_N is low has no effect but RELREF (R135). -/
theorem strikeRelease_refused (s : State) (w : Writer) (hpow : s.dev.powered = true) (hw : s.dev.admits w)
    (hp : s.dev.flag BANK.STRIKESTAT_PIN = true) : Completes (.strikeRelease w) s fun d =>
      d.flag BANK.STRIKESTAT_RELREF = true ∧
      d.flag BANK.STRIKESTAT_ACTIVE = s.dev.flag BANK.STRIKESTAT_ACTIVE ∧
      ∀ n : ChanId, d.rd (CHS.STAT n) = s.dev.rd (CHS.STAT n) := by
  have h : s.dev.strikeRelease = s.dev.raise BANK.STRIKESTAT_RELREF := by simp [Device.strikeRelease, hp]
  refine completes_write hpow hw rfl fun x => ?_
  rw [h]
  exact ⟨(Device.flag_raise_strikeStat _ 6 6).trans rfl, Device.flag_raise_strikeStat _ 6 0,
    fun n => Device.rd_raise_ne _ (by simp [BANK.STRIKESTAT, CHS.STAT]; omega)⟩

/-- An assertion of the same cycle prevails over a release (R135). -/
theorem strikeRelease_late (s : State) (w : Writer) (hpow : s.dev.powered = true) (hw : s.dev.admits w)
    (hp : s.dev.flag BANK.STRIKESTAT_PIN = false) (hn : s.dev.struckNow = true) :
    Completes (.strikeRelease w) s fun d => d.flag BANK.STRIKESTAT_ACTIVE = s.dev.flag BANK.STRIKESTAT_ACTIVE := by
  have h : s.dev.strikeRelease = s.dev := by simp [Device.strikeRelease, hp, hn]
  exact completes_write hpow hw rfl fun x => by rw [h]; rfl

/-- A release ends the hold of every channel, and leaves each commanded off and off (R124, R135). -/
theorem strikeRelease_releases (s : State) (w : Writer) (hpow : s.dev.powered = true) (hw : s.dev.admits w)
    (hp : s.dev.flag BANK.STRIKESTAT_PIN = false) (hn : s.dev.struckNow = false)
    (ha : s.dev.flag BANK.STRIKESTAT_ACTIVE = true) :
    Completes (.strikeRelease w) s fun d => d.flag BANK.STRIKESTAT_ACTIVE = false ∧ d.allOff d.leads := by
  have h : s.dev.strikeRelease = (s.dev.lower BANK.STRIKESTAT_ACTIVE).each (s.dev.lower BANK.STRIKESTAT_ACTIVE).leads
      fun d l => d.endHold l 2 := by simp [Device.strikeRelease, hp, hn, ha]
  have hoff := Device.endHold_offStep 2
  have hpages := hoff.each_pages (ls := (s.dev.lower BANK.STRIKESTAT_ACTIVE).leads) (fun _ hl => Device.leads_lt hl)
    (s.dev.lower BANK.STRIKESTAT_ACTIVE)
  refine completes_write hpow hw rfl fun x => ?_
  rw [h]
  refine ⟨?_, hoff.allOff _⟩
  have hr := hpages BANK.STRIKESTAT (by decide)
  calc _ = (s.dev.lower BANK.STRIKESTAT_ACTIVE).flag BANK.STRIKESTAT_ACTIVE :=
        congrArg (fun v => bitsOf v 0 1 == 1) hr
    _ = false := Device.flag_lower _ _ rfl (by decide)

/-- Settles O22: each clause is one of the cases of STRIKE above. -/
theorem strike : Obligations.Strike := by
  refine ⟨fun s hpow => ⟨fun hn ha => ⟨strikePin_asserts s hpow hn ha, fun w hw => strikeAssert_asserts s w hpow hn ha hw⟩,
    fun w hw hn => strikeAssert_again s w hpow hw hn, strikePin_rises s hpow⟩, fun s w hpow hw => ⟨?_, ?_, ?_⟩⟩
  · exact strikeRelease_refused s w hpow hw
  · exact strikeRelease_late s w hpow hw
  · exact strikeRelease_releases s w hpow hw

end Sys2Proof.Machine

namespace Sys2Proof.Machine

/-! ## PWM periods and peak phases -/

/-- The gang of a lead turns on as a period begins, with a peak phase where `peak`. -/
def Device.gangOn (d : Device) (l : Nat) (peak : Bool) : Device :=
  d.each (d.gang l) fun d n => if peak then (d.outOn n).setFlag (CHS.STAT_PEAK n) true else d.outOn n

/-- A period without on-time turns the gang off, unless a first pulse still runs (R93). -/
theorem Device.pulse_nothing {d : Device} {l : Nat} (peak : Bool) (h : d.onTimeOf l = .nothing) :
    d.pulse l peak = if (d.out l && (d.chan l).firstPulse) = true then d.modChan l fun c => { c with firstPulse := false }
      else d.gangOff l := by
  unfold Device.pulse; simp only [h]

/-- A period that is on throughout turns the gang on, with no end of its own. -/
theorem Device.pulse_throughout {d : Device} {l : Nat} (peak : Bool) (h : d.onTimeOf l = .throughout) :
    ∃ b g, d.pulse l peak = (d.gangOn l b).modChan l g ∧ ∀ c, (g c).pulse = none ∧ (g c).pendMode = c.pendMode := by
  unfold Device.pulse; simp only [h]
  exact ⟨peak && !(d.out l && (d.chan l).firstPulse), _, rfl, fun _ => ⟨rfl, rfl⟩⟩

/-- A period with an on-time turns the gang on for it; a first pulse that still runs is extended (R93). -/
theorem Device.pulse_ticks {d : Device} {l t : Nat} (peak : Bool) (h : d.onTimeOf l = .ticks t) :
    ∃ b g, d.pulse l peak = (d.gangOn l b).modChan l g ∧
      ∀ c, (g c).pulse = (if (d.out l && (d.chan l).firstPulse) = true then extend (d.chan l).pulse t else some t) ∧
        (g c).pendMode = c.pendMode := by
  unfold Device.pulse; simp only [h]
  exact ⟨peak && !(d.out l && (d.chan l).firstPulse), _, rfl, fun _ => ⟨rfl, rfl⟩⟩

/-! ### What a period leaves alone -/

section
variable {o : Device} {ps : List Nat}

@[simp ↓] theorem Device.outOn_pages (d : Device) {n : Nat} (h : (CHS.STAT n).addr / 256 ∈ ps) :
    o.onlyPages ps (d.outOn n) = o.onlyPages ps d := by
  unfold Device.outOn; simp (disch := (refine id ?_; with_unfolding_all assumption))

/-- Ending the peak phase of a gang writes the CHS pages alone. -/
theorem Device.gangPeak_pages (d : Device) {l : Nat} (h : chsPages ⊆ ps) (hl : l < 160) :
    o.onlyPages ps (d.each (d.gang l) fun d k => d.lower (CHS.STAT_PEAK k)) = o.onlyPages ps d :=
  Device.pages_each (fun _ hk d => Device.lower_pages d (chs_page h (Device.gang_lt hl hk))) d

theorem Device.gangOn_pages (d : Device) {l : Nat} (peak : Bool) (h : chsPages ⊆ ps) (hl : l < 160) :
    o.onlyPages ps (d.gangOn l peak) = o.onlyPages ps d :=
  Device.pages_each (fun k hk d => by
    have hp := chs_page h (Device.gang_lt hl hk)
    simp (disch := (refine id ?_; with_unfolding_all assumption))) d

@[simp ↓] theorem Device.pulse_pages (d : Device) {l : Nat} (peak : Bool) (h : chsPages ⊆ ps) (hl : l < 160) :
    o.onlyPages ps (d.pulse l peak) = o.onlyPages ps d := by
  cases hot : d.onTimeOf l with
  | nothing =>
    rw [Device.pulse_nothing peak hot]
    simp (disch := (refine id ?_; with_unfolding_all assumption))
  | throughout =>
    obtain ⟨b, g, hp, -⟩ := Device.pulse_throughout peak hot
    rw [hp, Device.modChan_pages, Device.gangOn_pages d _ h hl]
  | ticks t =>
    obtain ⟨b, g, hp, -⟩ := Device.pulse_ticks peak hot
    rw [hp, Device.modChan_pages, Device.gangOn_pages d _ h hl]

end

/-- A waiting MODE waits through an operation (R88). -/
def Device.keepsPend (d e : Device) : Prop := ∀ n, (e.chan n).pendMode = (d.chan n).pendMode

/-- A change of one channel keeps what waits for a slot start, where it says nothing of that. -/
theorem Device.keepsPend_modChan (d : Device) (n : Nat) {f : Chan → Chan} (hf : ∀ c, (f c).pendMode = c.pendMode) :
    d.keepsPend (d.modChan n f) := by
  intro k
  by_cases h : n = k
  · subst h
    by_cases hn : n < 160
    · rw [Device.modChan_chan_same d n f hn, hf]
    · simp [Device.modChan, Device.setChan, Device.chan, hn]
  · rw [Device.modChan_chan_ne d f h]

theorem Device.keepsPend.trans {d e f : Device} (h : d.keepsPend e) (h' : e.keepsPend f) : d.keepsPend f :=
  fun n => (h' n).trans (h n)

theorem Device.keepsPend_each {f : Device → Nat → Device} (h : ∀ (d : Device) n, d.keepsPend (f d n)) (d : Device) (l : List Nat) :
    d.keepsPend (d.each l f) :=
  Device.each_keeps (P := d.keepsPend) (fun e n he => he.trans (h e n)) l d fun _ => rfl

theorem Device.keepsPend_outOn (d : Device) (n : Nat) : d.keepsPend (d.outOn n) :=
  Device.keepsPend_modChan (d.setFlag (CHS.STAT_OUT n) true) n fun _ => rfl

theorem Device.keepsPend_outOff (d : Device) (n : Nat) : d.keepsPend (d.outOff n) :=
  Device.keepsPend_modChan ((d.lower (CHS.STAT_OUT n)).lower (CHS.STAT_PEAK n)) n fun _ => rfl

theorem Device.keepsPend_gangOn (d : Device) (l : Nat) (peak : Bool) : d.keepsPend (d.gangOn l peak) :=
  Device.keepsPend_each (fun d n => by split <;> exact Device.keepsPend_outOn d n) d (d.gang l)

theorem Device.keepsPend_pulse (d : Device) (l : Nat) (peak : Bool) : d.keepsPend (d.pulse l peak) := by
  cases hot : d.onTimeOf l with
  | nothing =>
    rw [Device.pulse_nothing peak hot]
    split
    · exact Device.keepsPend_modChan d l fun _ => rfl
    · exact Device.keepsPend_each Device.keepsPend_outOff d (d.gang l)
  | throughout =>
    obtain ⟨b, g, hp, hg⟩ := Device.pulse_throughout peak hot
    rw [hp]
    exact (Device.keepsPend_gangOn d l b).trans (Device.keepsPend_modChan _ l fun c => (hg c).2)
  | ticks t =>
    obtain ⟨b, g, hp, hg⟩ := Device.pulse_ticks peak hot
    rw [hp]
    exact (Device.keepsPend_gangOn d l b).trans (Device.keepsPend_modChan _ l fun c => (hg c).2)

end Sys2Proof.Machine

namespace Sys2Proof.Machine

/-! ## A slot start -/

/-- A truth value that each step sets for its own index is set for the indices of the list. -/
theorem Device.each_sets {g : Device → Bool} {f : Device → Nat → Device} {k : Nat}
    (h : ∀ d n, g (f d n) = (decide (n = k) || g d)) :
    ∀ (l : List Nat) (d : Device), g (d.each l f) = (decide (k ∈ l) || g d)
  | [], d => by simp [Device.each]
  | n :: t, d => by
    have e : (d.each (n :: t) f) = (f d n).each t f := rfl
    rw [e, Device.each_sets h t, h]
    by_cases hn : n = k
    · simp [hn]
    · simp [hn, Ne.symm hn]

theorem Device.mem_gang_self (d : Device) (l : Nat) : l ∈ d.gang l := by
  unfold Device.gang
  split
  · simp
  · split <;> simp

theorem Device.outOn_out (d : Device) (n k : Nat) :
    (d.outOn n).flag (CHS.STAT_OUT k) = (decide (n = k) || d.flag (CHS.STAT_OUT k)) := by
  unfold Device.outOn
  by_cases h : n = k <;> simp [h]

theorem Device.gangOn_out (d : Device) (l : Nat) (b : Bool) : (d.gangOn l b).flag (CHS.STAT_OUT l) = true := by
  have h := Device.each_sets (g := fun d => d.flag (CHS.STAT_OUT l)) (k := l)
    (f := fun d n => if b then (d.outOn n).setFlag (CHS.STAT_PEAK n) true else d.outOn n)
    (fun d n => by cases b <;> simp [Device.outOn_out]) (d.gang l) d
  exact h.trans (by simp [Device.mem_gang_self])

theorem Device.gangOff_out (d : Device) (l : Nat) : (d.gangOff l).flag (CHS.STAT_OUT l) = false :=
  (Device.each_clears (g := fun d => d.flag (CHS.STAT_OUT l)) (fun d n => Device.outOff_out d n l) (d.gang l) d).trans
    (by simp [Device.mem_gang_self])

/-- A device that differs outside the CHS pages in no register has the same MODE. -/
theorem Device.onlyPages.mode {d e : Device} (h : d.onlyPages chsPages e) {n : Nat} (hn : n < 160) :
    e.fld (CH.CFG_MODE n) = d.fld (CH.CFG_MODE n) := congrArg (bitsOf · 0 4) (h.cfg hn)

/-- The first part of taking a MODE: the field takes it, and nothing waits any more. -/
def Device.modeTaken (d : Device) (n m : Nat) : Device :=
  (d.setFld (CH.CFG_MODE n) m).modChan n fun c => { c with pendMode := none }

/-- A change of MODE ends the gang's peak phases (R97). -/
theorem Device.takeMode_steps (d : Device) (n m : Nat) :
    d.takeMode n m = d.modeTaken n m ∨
    ∃ g, d.takeMode n m
        = ((d.modeTaken n m).each ((d.modeTaken n m).gang n) fun d k => d.lower (CHS.STAT_PEAK k)).modChan n g ∧
      ∀ c, (g c).pendMode = c.pendMode := by
  unfold Device.takeMode
  by_cases h : m = d.fld (CH.CFG_MODE n)
  · exact .inl (if_pos h)
  · exact .inr ⟨_, if_neg h, fun _ => rfl⟩

/-- A MODE takes effect: the field holds it, and nothing waits (R88). -/
theorem Device.takeMode_takes (d : Device) {n : Nat} (m : Nat) (hn : n < 160) :
    (d.takeMode n m).fld (CH.CFG_MODE n) = m % 16 ∧ ((d.takeMode n m).chan n).pendMode = none := by
  have he : (d.modeTaken n m).fld (CH.CFG_MODE n) = m % 16 ∧ ((d.modeTaken n m).chan n).pendMode = none :=
    ⟨Device.fld_setFld_same d _ m (by simp only [CH.CFG]; omega), by
      rw [Device.modeTaken, Device.modChan_chan_same _ _ _ hn]⟩
  rcases d.takeMode_steps n m with h | ⟨g, h, hg⟩
  · rw [h]; exact he
  · have hp := (Device.gangPeak_pages (d.modeTaken n m) (fun _ h => h) hn).mpr (Device.onlyPages_refl _)
    have hk := (Device.keepsPend_each (f := fun d k => d.lower (CHS.STAT_PEAK k)) (fun _ _ _ => rfl) (d.modeTaken n m)
      ((d.modeTaken n m).gang n)).trans (Device.keepsPend_modChan _ n hg)
    rw [h]
    exact ⟨(hp.mode hn).trans he.1, (hk n).trans he.2⟩

/-- A slot start is taken: it is dated, and nothing else changes. -/
def Device.slotTaken (d : Device) (n : Nat) : Device := d.modChan n fun c => { c with slotAt := some d.clk }

theorem Device.slotTaken_chan (d : Device) {n : Nat} (hn : n < 160) :
    (d.slotTaken n).chan n = { d.chan n with slotAt := some d.clk } := Device.modChan_chan_same _ _ _ hn

/-- Taking a MODE at a slot start: what the period then does touches neither MODE nor what waits. -/
theorem Device.slotStart_takes {d : Device} {n m : Nat} (hn : n < 160) (hl : d.isLead n = true)
    (hs : d.slotNow n = true) (hm : (d.chan n).pendMode = some m) :
    (d.slotStart n).fld (CH.CFG_MODE n) = m % 16 ∧ ((d.slotStart n).chan n).pendMode = none := by
  let e := (d.slotTaken n).takeMode n m
  have hk : e.onlyPages chsPages (d.slotStart n) ∧ e.keepsPend (d.slotStart n) := by
    have hp : ∀ b, e.onlyPages chsPages (e.pulse n b) ∧ e.keepsPend (e.pulse n b) := fun b =>
      ⟨by rw [Device.pulse_pages e b (fun _ h => h) hn]; exact Device.onlyPages_refl e, Device.keepsPend_pulse e n b⟩
    unfold Device.slotStart
    rw [if_neg (by simp [hl, hs])]
    simp only [hm]
    split
    · exact ⟨Device.onlyPages_refl e, fun _ => rfl⟩
    · split
      · exact hp _
      · split
        · exact hp _
        · split
          · refine ⟨?_, (Device.keepsPend_gangOn e n false).trans (Device.keepsPend_modChan _ n fun _ => rfl)⟩
            rw [Device.modChan_pages]
            exact (Device.gangOn_pages e false (fun _ h => h) hn).mpr (Device.onlyPages_refl e)
          · exact ⟨Device.onlyPages_refl e, fun _ => rfl⟩
  have he := (d.slotTaken n).takeMode_takes m hn
  exact ⟨(hk.1.mode hn).trans he.1, (hk.2 n).trans he.2⟩

/-- The slot start of a commanded PWM channel that may conduct, with no MODE waiting, begins a period (R92–R94). -/
theorem Device.slotStart_pwm {d : Device} {n : Nat} (hl : d.isLead n = true) (hs : d.slotNow n = true)
    (hm : (d.chan n).pendMode = none) (hmode : d.fld (CH.CFG_MODE n) = 1) (hcmd : d.flag (CHS.STAT_CMD n) = true)
    (hmay : d.mayConduct n = true) (hon : (d.chan n).bankOn = true) (hn : n < 160) :
    d.slotStart n = (d.slotTaken n).pulse n false := by
  have hmay' : (d.modChan n fun c => { c with slotAt := some d.clk }).mayConduct n = true := hmay
  unfold Device.slotStart
  rw [if_neg (by simp [hl, hs])]
  simp [hm, hmode, hcmd, hmay', hon, hn, Device.slotTaken]

end Sys2Proof.Machine

namespace Sys2Proof.Machine

/-! ## The release of safe states -/

/-- The lowest bit, and the rest, of what `a` has beyond `b`. -/
theorem lacking_mod_two (a b : Nat) : lacking a b % 2 = if a % 2 = 1 ∧ b % 2 = 0 then 1 else 0 := by
  have hle : a &&& b ≤ a := Nat.and_le_left
  have hm : (a &&& b) % 2 = a % 2 &&& b % 2 := Nat.and_mod_two_pow (n := 1)
  unfold lacking
  generalize a &&& b = c at hle hm
  rcases Nat.mod_two_eq_zero_or_one a with ha | ha <;> rcases Nat.mod_two_eq_zero_or_one b with hb | hb <;>
    simp [ha, hb] at hm ⊢ <;> omega

theorem lacking_div_two (a b : Nat) : lacking a b / 2 = lacking (a / 2) (b / 2) := by
  have hle : a &&& b ≤ a := Nat.and_le_left
  have hm : (a &&& b) % 2 ≤ a % 2 := by
    rw [show (a &&& b) % 2 = a % 2 &&& b % 2 from Nat.and_mod_two_pow (n := 1)]; exact Nat.and_le_left
  have hd : (a &&& b) / 2 = a / 2 &&& b / 2 := Nat.and_div_two
  unfold lacking
  rw [← hd]; omega

theorem testBit_lacking (a b i : Nat) : (lacking a b).testBit i = (a.testBit i && !b.testBit i) := by
  induction i generalizing a b with
  | zero =>
    simp only [Nat.testBit_zero, lacking_mod_two]
    rcases Nat.mod_two_eq_zero_or_one a with ha | ha <;> rcases Nat.mod_two_eq_zero_or_one b with hb | hb <;> simp [ha, hb]
  | succ i ih => simp only [Nat.testBit_succ, lacking_div_two, ih]

/-- A 1 written to SAFE clears it where hardware does not set it in the same cycle; no output and no commanded state
follows it (R6, R111). -/
theorem Device.clearChanStat_bits (d : Device) (n v k : Nat) :
    (d.clearChanStat n v).flag (CHS.STAT_SAFE k)
      = (d.flag (CHS.STAT_SAFE k) && !(decide (n = k) && (lacking v (d.freshBits (CHS.STAT n))).testBit 2 && !d.safeHeld)) ∧
    (d.clearChanStat n v).flag (CHS.STAT_CMD k) = d.flag (CHS.STAT_CMD k) ∧
    (d.clearChanStat n v).flag (CHS.STAT_OUT k) = d.flag (CHS.STAT_OUT k) := by
  unfold Device.clearChanStat
  dsimp only
  refine ⟨?_, ?_, ?_⟩
  · cases hs : (lacking v (d.freshBits (CHS.STAT n))).testBit 2 <;> cases hh : d.safeHeld <;>
      by_cases hn : n = k <;> split <;> simp [hn]
  · split <;> split <;> simp
  · split <;> split <;> simp

/-- A clear of channel status leaves what a halt holds, and the bits that hardware has just set. -/
theorem Device.clearChanStat_rest (d : Device) (n v : Nat) :
    (d.clearChanStat n v).safeHeld = d.safeHeld ∧ ∀ r, (d.clearChanStat n v).freshBits r = d.freshBits r := by
  have hlow : ∀ (e : Device) (f : Field), 0x3000 ≤ f.reg.addr → (e.lower f).safeHeld = e.safeHeld := fun e f h => by
    unfold Device.safeHeld
    rw [Device.flag_setFlag_reg e _ (by simp [SEC.DBG]; omega)]
    unfold Device.lower Device.setFlag
    rw [Device.fld_setFld_reg e _ (by simp [SEC.LIFE]; omega)]
  unfold Device.clearChanStat
  dsimp only
  refine ⟨?_, fun r => ?_⟩
  · split <;> split <;> simp [hlow, CHS.STAT]
  · split <;> split <;> rfl

/-- SAFEREL.ALL clears SAFE of every channel that is not being set, and touches no output and no commanded state. -/
theorem Device.safeRelease_bits {d : Device} (hh : d.safeHeld = false)
    (hf : ∀ n < 160, (d.freshBits (CHS.STAT n)).testBit 2 = false) (ls : List Nat) (hls : ∀ n ∈ ls, n < 160) (k : Nat) :
    let e := d.each ls fun d n => d.clearChanStat n 4
    e.flag (CHS.STAT_SAFE k) = (decide (k ∉ ls) && d.flag (CHS.STAT_SAFE k)) ∧
    e.flag (CHS.STAT_CMD k) = d.flag (CHS.STAT_CMD k) ∧ e.flag (CHS.STAT_OUT k) = d.flag (CHS.STAT_OUT k) := by
  induction ls generalizing d with
  | nil => simp [Device.each]
  | cons n t ih =>
    obtain ⟨hsafe, hcmd, hout⟩ := d.clearChanStat_bits n 4 k
    obtain ⟨hh', hf'⟩ := d.clearChanStat_rest n 4
    obtain ⟨h1, h2, h3⟩ := ih (hh'.trans hh) (fun m hm => by rw [hf']; exact hf m hm) fun m hm => hls m (.tail _ hm)
    refine ⟨h1.trans ?_, h2.trans hcmd, h3.trans hout⟩
    rw [hsafe, testBit_lacking, hf n (hls n (.head _)), hh]
    by_cases hn : n = k
    · simp [hn, Nat.testBit]
    · simp [hn, Ne.symm hn]

end Sys2Proof.Machine

namespace Sys2Proof.Machine

/-! ## Channel drive -/

/-- A channel's lead is a channel. -/
theorem Device.lead_lt (d : Device) {n : Nat} (hn : n < 160) : d.lead n < 160 := by
  unfold Device.lead
  split
  · exact hn
  · split <;> omega

theorem slotStart_takesMode (s : State) (n : ChanId) (hpow : s.dev.powered = true) (hl : s.dev.isLead n = true)
    (hs : s.dev.slotNow n = true) {m : Nat} (hm : (s.dev.chan n).pendMode = some m) :
    Completes (.slotStart n) s fun d => d.fld (CH.CFG_MODE n) = m % 16 ∧ (d.chan n).pendMode = none :=
  completes_run (f := fun d => d.slotStart n) hpow rfl (Device.slotStart_takes n.isLt hl hs hm)

/-- A lead whose slot start begins a PWM period: it is commanded on, may conduct, and the bank has carried out its ON,
with no MODE waiting. -/
structure Device.PwmSlot (d : Device) (n : Nat) : Prop where
  lead : d.isLead n = true
  now : d.slotNow n = true
  pend : (d.chan n).pendMode = none
  mode : d.fld (CH.CFG_MODE n) = 1
  cmd : d.flag (CHS.STAT_CMD n) = true
  may : d.mayConduct n = true
  on : (d.chan n).bankOn = true

theorem Device.PwmSlot.start {d : Device} {n : Nat} (h : d.PwmSlot n) (hn : n < 160) :
    d.slotStart n = (d.slotTaken n).pulse n false :=
  Device.slotStart_pwm h.lead h.now h.pend h.mode h.cmd h.may h.on hn

/-- Turned on for a period, a gang's lead conducts, and has the pulse that the period gives it. -/
theorem Device.gangOn_pulse (d : Device) {l : Nat} (b : Bool) {g : Chan → Chan} {left : Option Nat} (hl : l < 160)
    (hg : ∀ c, (g c).pulse = left) :
    ((d.gangOn l b).modChan l g).flag (CHS.STAT_OUT l) = true ∧ (((d.gangOn l b).modChan l g).chan l).pulse = left :=
  ⟨d.gangOn_out l b, by rw [Device.modChan_chan_same _ _ _ hl, hg]⟩

/-- R92–R94: a period begins with no first pulse running. -/
theorem slotStart_period (s : State) (n : ChanId) (hpow : s.dev.powered = true) (h : s.dev.PwmSlot n)
    (hf : (s.dev.chan n).firstPulse = false) : Completes (.slotStart n) s fun d =>
      (s.dev.onTimeOf n = .nothing → d.flag (CHS.STAT_OUT n) = false) ∧
      (s.dev.onTimeOf n = .throughout → d.flag (CHS.STAT_OUT n) = true ∧ (d.chan n).pulse = none) ∧
      (∀ t, s.dev.onTimeOf n = .ticks t → d.flag (CHS.STAT_OUT n) = true ∧ (d.chan n).pulse = some t) := by
  refine completes_run (f := fun d => d.slotStart n) hpow rfl ?_
  simp only [h.start n.isLt]
  have hf' : ((s.dev.slotTaken n).chan n).firstPulse = false := by rw [Device.slotTaken_chan _ n.isLt]; exact hf
  refine ⟨fun ho => ?_, fun ho => ?_, fun t ho => ?_⟩
  · rw [Device.pulse_nothing (d := s.dev.slotTaken n) false ho, hf', if_neg (by simp)]
    exact Device.gangOff_out _ n
  · obtain ⟨b, g, hp, hg⟩ := Device.pulse_throughout (d := s.dev.slotTaken n) false ho
    rw [hp]
    exact Device.gangOn_pulse _ b n.isLt fun c => (hg c).1
  · obtain ⟨b, g, hp, hg⟩ := Device.pulse_ticks (d := s.dev.slotTaken n) false ho
    rw [hp]
    exact Device.gangOn_pulse _ b n.isLt fun c => (hg c).1.trans (by rw [hf', if_neg (by simp)])

/-- R93: a first pulse that still runs is extended, never shortened. -/
theorem slotStart_extends (s : State) (n : ChanId) (hpow : s.dev.powered = true) (h : s.dev.PwmSlot n) {r t : Nat}
    (hf : (s.dev.chan n).firstPulse = true) (ho : s.dev.flag (CHS.STAT_OUT n) = true)
    (hr : (s.dev.chan n).pulse = some r) (ht : s.dev.onTimeOf n = .ticks t) :
    Completes (.slotStart n) s fun d =>
      d.flag (CHS.STAT_OUT n) = true ∧ (d.chan n).pulse = some (max r t) := by
  refine completes_run (f := fun d => d.slotStart n) hpow rfl ?_
  simp only [h.start n.isLt]
  obtain ⟨b, g, hp, hg⟩ := Device.pulse_ticks (d := s.dev.slotTaken n) false ht
  rw [hp]
  refine Device.gangOn_pulse _ b n.isLt fun c => (hg c).1.trans ?_
  rw [show (s.dev.slotTaken n).out n = true from ho, Device.slotTaken_chan _ n.isLt]
  simp [hf, hr, extend]

/-- R95: TPEAK after the turn-on the gang chops, and no peak phase is left. -/
theorem peakEnd_holds (s : State) (n : ChanId) (hpow : s.dev.powered = true)
    (hp : s.dev.flag (CHS.STAT_PEAK (s.dev.lead n)) = true)
    (ht : (s.dev.chan (s.dev.lead n)).onAt + s.dev.fld (CH.LIM_TPEAK (s.dev.lead n)) * 10000 ≤ s.dev.clk) :
    Completes (.peakEnd n) s fun d => (d.chan (s.dev.lead n)).chop = true ∧
      ∀ k ∈ s.dev.gang (s.dev.lead n), d.flag (CHS.STAT_PEAK k) = false := by
  refine completes_run (f := fun d => d.peakEnd n) hpow rfl ?_
  simp only [Device.peakEnd, hp, ht, decide_true, Bool.and_self, if_true]
  refine ⟨by rw [Device.modChan_chan_same _ _ _ (s.dev.lead_lt n.isLt)], fun k hk => ?_⟩
  have h := Device.each_clears (g := fun d => d.flag (CHS.STAT_PEAK k)) (k := k)
    (f := fun d k => d.lower (CHS.STAT_PEAK k)) (fun d n => by by_cases h : n = k <;> simp [h])
    (s.dev.gang (s.dev.lead n)) s.dev
  exact h.trans (by simp [hk])

/-- R111: a 1 in SAFE of a channel's STAT. -/
theorem safeClear_clears (s : State) (w : Writer) (n : ChanId) (v : BitVec 16) (hpow : s.dev.powered = true)
    (hw : s.dev.admits w) (hh : s.dev.safeHeld = false) (hv : v.getLsbD 2 = true) :
    Completes (.safeClear w n v) s fun d =>
      d.flag (CHS.STAT_SAFE n) = (s.dev.flag (CHS.STAT_SAFE n) && (s.dev.freshBits (CHS.STAT n)).testBit 2) ∧
      d.flag (CHS.STAT_CMD n) = s.dev.flag (CHS.STAT_CMD n) ∧ d.flag (CHS.STAT_OUT n) = s.dev.flag (CHS.STAT_OUT n) := by
  obtain ⟨hsafe, hcmd, hout⟩ := s.dev.clearChanStat_bits n v.toNat n
  refine completes_write hpow hw rfl fun x => ⟨hsafe.trans ?_, hcmd, hout⟩
  have hv' : v.toNat.testBit 2 = true := by rw [BitVec.testBit_toNat, hv]
  simp [testBit_lacking, hh, hv']

/-- R111: SAFEREL.ALL. -/
theorem saferel_clears (s : State) (w : Writer) (v : BitVec 8) (hpow : s.dev.powered = true)
    (hw : s.dev.admits w) (hh : s.dev.safeHeld = false) (hv : v.getLsbD 0 = true)
    (hf : ∀ n : ChanId, (s.dev.freshBits (CHS.STAT n)).testBit 2 = false) :
    Completes (.saferel w v) s fun d => ∀ n : ChanId, d.flag (CHS.STAT_SAFE n) = false ∧
      d.flag (CHS.STAT_CMD n) = s.dev.flag (CHS.STAT_CMD n) ∧ d.flag (CHS.STAT_OUT n) = s.dev.flag (CHS.STAT_OUT n) := by
  have hv' : v.toNat.testBit 0 = true := by rw [BitVec.testBit_toNat, hv]
  have h : s.dev.safeRelease v.toNat = s.dev.each allChans fun d n => d.clearChanStat n 4 := by
    unfold Device.safeRelease; rw [if_pos (by rw [hv', hh]; rfl)]
  refine completes_write hpow hw rfl fun x => ?_
  rw [h]
  intro n
  obtain ⟨hsafe, hcmd, hout⟩ := Device.safeRelease_bits hh (fun m hm => hf ⟨m, hm⟩) allChans
    (fun m hm => List.mem_range.1 hm) n
  exact ⟨hsafe.trans (by simp [allChans, n.isLt]), hcmd, hout⟩

/-- Settles O16: each clause is one of the commands' cases above. -/
theorem channelDrive : Obligations.ChannelDrive := by
  refine ⟨fun s n hpow => ⟨fun hl hs => ⟨fun m hm => slotStart_takesMode s n hpow hl hs hm,
    fun hm hmode hcmd hmay hon => ?_⟩, peakEnd_holds s n hpow⟩, fun s w hpow hw hh => ⟨fun n v hv => ?_, ?_⟩⟩
  · have h : s.dev.PwmSlot n := ⟨hl, hs, hm, hmode, hcmd, hmay, hon⟩
    exact ⟨slotStart_period s n hpow h, fun r t hf ho hr ht => slotStart_extends s n hpow h hf ho hr ht⟩
  · have h := safeClear_clears s w n v hpow hw hh hv
    constructor
    · intro hf; simpa [hf] using h
    · intro hf; simpa [hf] using h
  · exact fun v hv hf => saferel_clears s w v hpow hw hh hv hf

end Sys2Proof.Machine

namespace Sys2Proof.Machine

/-! ## Register frames: banks and channel protection -/

section
variable {o : Device} {ps : List Nat}

theorem bank_page (h : 0x04 ∈ ps) {m : Nat} (hm : m < 4) :
    (BANK.STAT m).addr / 256 ∈ ps ∧ (BANK.TRIPS m).addr / 256 ∈ ps ∧ (BANK.OPEN m).addr / 256 ∈ ps := by
  have e : (BANK.STAT m).addr / 256 = 4 ∧ (BANK.TRIPS m).addr / 256 = 4 ∧ (BANK.OPEN m).addr / 256 = 4 := by
    simp only [BANK.STAT, BANK.TRIPS, BANK.OPEN]; omega
  rw [e.1, e.2.1, e.2.2]; exact ⟨h, h, h⟩

theorem cnt_page (h : 0x13 ∈ ps) {j : Nat} (hj : j < 10) :
    (CNT.UV j).addr / 256 ∈ ps ∧ (CNT.OV j).addr / 256 ∈ ps ∧ (CNT.OC j).addr / 256 ∈ ps ∧
    (CNT.TRIP j).addr / 256 ∈ ps := by
  have e : (CNT.UV j).addr / 256 = 0x13 ∧ (CNT.OV j).addr / 256 = 0x13 ∧ (CNT.OC j).addr / 256 = 0x13 ∧
      (CNT.TRIP j).addr / 256 = 0x13 := by
    simp only [CNT.UV, CNT.OV, CNT.OC, CNT.TRIP]; omega
  rw [e.1, e.2.1, e.2.2.1, e.2.2.2]; exact ⟨h, h, h, h⟩

theorem bankOf_lt {n : Nat} (h : n < 160) : bankOf n < 4 := by unfold bankOf; omega

theorem bankChans_lt {m n : Nat} (hm : m < 4) (hn : n ∈ bankChans m) : n < 160 := by
  obtain ⟨i, hi, rfl⟩ := List.mem_map.1 hn
  have := List.mem_range.1 hi
  omega

@[simp ↓] theorem Device.cnt_pages (d : Device) {r : Nat → Reg} {j : Nat} (hCnt : 0x13 ∈ ps)
    (hr : (r j).addr / 256 ∈ ps) : o.onlyPages ps (d.cnt r j) = o.onlyPages ps d := by
  unfold Device.cnt; simp (disch := (refine id ?_; with_unfolding_all assumption))

/-! ### Where the bank, ring log, counter and channel status pages may all be written -/

variable (hBank : 0x04 ∈ ps) (hRing : 0x0D ∈ ps) (hCnt : 0x13 ∈ ps) (h : chsPages ⊆ ps)
include h

@[simp ↓] theorem Device.bankOff_pages (d : Device) {m : Nat} (hm : m < 4) :
    o.onlyPages ps (d.bankOff m) = o.onlyPages ps d :=
  Device.pages_each (fun _ hl d => Device.faultOff_pages d 1 h (bankChans_lt hm (List.mem_filter.1 hl).1)) d

@[simp ↓] theorem Device.turnOn_pages (d : Device) {l : Nat} (fired checked : Bool) (duty : Nat) (hl : l < 160) :
    o.onlyPages ps (d.turnOn l fired checked duty) = o.onlyPages ps d := by
  have hon : ∀ (e : Device) (b : Bool), o.onlyPages ps (e.each (e.gang l) fun d n =>
      (d.outOn n).setFlag (CHS.STAT_PEAK n) b) = o.onlyPages ps e := fun e b =>
    Device.pages_each (fun k hk d => by
      have hp := chs_page h (Device.gang_lt hl hk)
      simp (disch := assumption)) e
  unfold Device.turnOn
  simp only [Device.pages_ite, Device.modChan_pages, hon, ite_self]

@[simp ↓] theorem Device.tripOff_pages (d : Device) {l : Nat} (hl : l < 160) :
    o.onlyPages ps (d.tripOff l) = o.onlyPages ps d := by
  unfold Device.tripOff; simp (disch := assumption)

/-- Setting FAULT of a gang writes the CHS pages alone. -/
theorem Device.gangFault_pages (d : Device) {l : Nat} (v : Nat → Nat) (hl : l < 160) :
    o.onlyPages ps (d.each (d.gang l) fun d k => d.setFld (CHS.STAT_FAULT k) (v k)) = o.onlyPages ps d :=
  Device.pages_each (fun _ hk d => Device.setFld_pages d _ (chs_page h (Device.gang_lt hl hk))) d

include hBank

@[simp ↓] theorem Device.holdBank_pages (d : Device) {m : Nat} (hm : m < 4) :
    o.onlyPages ps (d.holdBank m) = o.onlyPages ps d := by
  obtain ⟨hs, -, -⟩ := bank_page hBank hm
  have hoff : ∀ e : Device, o.onlyPages ps (e.each (bankChans m) fun d n =>
      (d.outOff n).modChan n fun c => { c with bankOn := false }) = o.onlyPages ps e := fun e =>
    Device.pages_each (fun n hn d => by
      have hp := chs_page h (Nat.lt_of_lt_of_le (bankChans_lt hm hn) (by decide))
      simp (disch := assumption)) e
  unfold Device.holdBank
  simp (disch := assumption) [hoff]

@[simp ↓] theorem Device.isolate_pages (d : Device) {m : Nat} (fault : Bool) (hm : m < 4) :
    o.onlyPages ps (d.isolate m fault) = o.onlyPages ps d := by
  unfold Device.isolate; simp (disch := assumption)

@[simp ↓] theorem Device.untrip_pages (d : Device) {l : Nat} (hl : l < 160) :
    o.onlyPages ps (d.untrip l) = o.onlyPages ps d := by
  obtain ⟨-, ht, -⟩ := bank_page hBank (bankOf_lt hl)
  have hg := Device.gangFault_pages (o := o) h d (fun _ => 0) hl
  unfold Device.untrip; simp (disch := assumption) [hg]

@[simp ↓] theorem Device.clearTrip_pages (d : Device) {l : Nat} (hl : l < 160) :
    o.onlyPages ps (d.clearTrip l) = o.onlyPages ps d := by
  unfold Device.clearTrip; simp (disch := assumption)

@[simp ↓] theorem Device.clearTrips_pages (d : Device) {m : Nat} (v : Nat) (hm : m < 4) :
    o.onlyPages ps (d.clearTrips m v) = o.onlyPages ps d :=
  Device.pages_each (fun i hi d => by
    have hl : 40 * m + i < 160 := by have := List.mem_range.1 hi; omega
    simp (disch := assumption)) d

@[simp ↓] theorem Device.doRetry_pages (d : Device) {l : Nat} (hl : l < 160) :
    o.onlyPages ps (d.doRetry l) = o.onlyPages ps d := by
  unfold Device.doRetry; simp (disch := assumption)

@[simp ↓] theorem Device.retry_pages (d : Device) {l : Nat} (hl : l < 160) :
    o.onlyPages ps (d.retry l) = o.onlyPages ps d := by
  unfold Device.retry; simp (disch := assumption)

@[simp ↓] theorem Device.thermalRecovery_pages (d : Device) {n : Nat} (temp : Nat) (hn : n < 160) :
    o.onlyPages ps (d.thermalRecovery n temp) = o.onlyPages ps d := by
  have hl : (d.modChan n fun c => { c with hot := false }).lead n < 160 := Device.lead_lt _ hn
  unfold Device.thermalRecovery; simp (disch := assumption)

@[simp ↓] theorem Device.strikeRelease_pages (d : Device) : o.onlyPages ps d.strikeRelease = o.onlyPages ps d := by
  have hoff : ∀ e : Device, o.onlyPages ps (e.each e.leads fun d l => d.endHold l 2) = o.onlyPages ps e := fun e =>
    Device.pages_each (fun _ hl d => Device.endHold_pages d 2 h (Device.leads_lt hl)) e
  unfold Device.strikeRelease
  simp (disch := (refine id ?_; with_unfolding_all assumption)) [hoff]

include hRing
omit h in
@[simp ↓] theorem Device.tripFollow_pages (d : Device) (l : Nat) (cause : Cause) :
    o.onlyPages ps (d.tripFollow l cause) = o.onlyPages ps d := by
  unfold Device.tripFollow; simp (disch := (refine id ?_; with_unfolding_all assumption))

omit h in
@[simp ↓] theorem Device.reportTrip_pages (d : Device) (n : Nat) (cause : Cause) (imeas : Nat) :
    o.onlyPages ps (d.reportTrip n cause imeas) = o.onlyPages ps d := by
  have hb : cause.bit.reg.addr / 256 ∈ ps := by cases cause <;> exact hBank
  unfold Device.reportTrip; simp (disch := assumption)

omit h in
@[simp ↓] theorem Device.openOff_pages (d : Device) {n : Nat} (vmeas held vbus : Nat) (hn : n < 160) :
    o.onlyPages ps (d.openOff n vmeas held vbus) = o.onlyPages ps d := by
  obtain ⟨-, -, ho⟩ := bank_page hBank (bankOf_lt hn)
  unfold Device.openOff; simp (disch := (refine id ?_; with_unfolding_all assumption))

omit h in
@[simp ↓] theorem Device.openOn_pages (d : Device) {n : Nat} (u : Undercurrent) (hn : n < 160) :
    o.onlyPages ps (d.openOn n u) = o.onlyPages ps d := by
  obtain ⟨-, -, ho⟩ := bank_page hBank (bankOf_lt hn)
  unfold Device.openOn; simp (disch := (refine id ?_; with_unfolding_all assumption))

include hCnt

omit h in
@[simp ↓] theorem Device.ucodeFail_pages (d : Device) {m : Nat} (hm : m < 4) :
    o.onlyPages ps (d.ucodeFail m) = o.onlyPages ps d := by
  obtain ⟨hs, -, -⟩ := bank_page hBank hm
  obtain ⟨-, -, -, ht⟩ := cnt_page hCnt (show 6 + m < 10 by omega)
  unfold Device.ucodeFail; simp (disch := (refine id ?_; with_unfolding_all assumption))

omit h in
@[simp ↓] theorem Device.isoOpened_pages (d : Device) {m : Nat} (reduced : Bool) (hm : m < 4) :
    o.onlyPages ps (d.isoOpened m reduced) = o.onlyPages ps d := by
  obtain ⟨hs, -, -⟩ := bank_page hBank hm
  obtain ⟨-, -, -, ht⟩ := cnt_page hCnt (show 6 + m < 10 by omega)
  unfold Device.isoOpened; simp (disch := (refine id ?_; with_unfolding_all assumption))

@[simp ↓] theorem Device.ucodeLoad_pages (d : Device) {m : Nat} (ok : Bool) (hm : m < 4) :
    o.onlyPages ps (d.ucodeLoad m ok) = o.onlyPages ps d := by
  obtain ⟨hs, -, -⟩ := bank_page hBank hm
  unfold Device.ucodeLoad; simp (disch := assumption)

@[simp ↓] theorem Device.deadman_pages (d : Device) {m : Nat} (hm : m < 4) :
    o.onlyPages ps (d.deadman m) = o.onlyPages ps d := by
  obtain ⟨hs, -, -⟩ := bank_page hBank hm
  obtain ⟨-, -, -, ht⟩ := cnt_page hCnt (show 6 + m < 10 by omega)
  unfold Device.deadman; simp (disch := (refine id ?_; with_unfolding_all assumption))

@[simp ↓] theorem Device.isoOpen_pages (d : Device) {m : Nat} (hm : m < 4) :
    o.onlyPages ps (d.isoOpen m) = o.onlyPages ps d := by
  obtain ⟨hs, -, -⟩ := bank_page hBank hm
  unfold Device.isoOpen; simp (disch := assumption)

@[simp ↓] theorem Device.trip_pages (d : Device) {n : Nat} (cause : Cause) (imeas : Nat) (hn : n < 160) :
    o.onlyPages ps (d.trip n cause imeas) = o.onlyPages ps d := by
  have hl : d.lead n < 160 := d.lead_lt hn
  have hs := chs_page h (Nat.lt_of_lt_of_le hl (by decide))
  obtain ⟨-, ht, -⟩ := bank_page hBank (bankOf_lt hl)
  have hj : 6 + bankOf (d.lead n) < 10 := Nat.add_lt_add_left (bankOf_lt hl) 6
  obtain ⟨-, -, hc, -⟩ := cnt_page hCnt hj
  have hw : ∀ (e : Device) (b : Bool), o.onlyPages ps (e.when b fun d' => d'.cnt CNT.OC (6 + bankOf (d.lead n)))
      = o.onlyPages ps e := fun e b => Device.pages_when e b fun d => Device.cnt_pages d hCnt hc
  unfold Device.trip
  dsimp only
  split
  · simp (disch := assumption)
  · simp (disch := assumption) [hw, Device.gangFault_pages h]

@[simp ↓] theorem Device.bankTrip_pages (d : Device) {n : Nat} (cause : Cause) (imeas : Nat) (hn : n < 160) :
    o.onlyPages ps (d.bankTrip n cause imeas) = o.onlyPages ps d := by
  unfold Device.bankTrip; simp (disch := assumption)

@[simp ↓] theorem Device.inrushFail_pages (d : Device) {n : Nat} (imeas : Nat) (hn : n < 160) :
    o.onlyPages ps (d.inrushFail n imeas) = o.onlyPages ps d := by
  unfold Device.inrushFail; simp (disch := assumption)

@[simp ↓] theorem Device.overload_pages (d : Device) {n : Nat} (imeas : Nat) (hn : n < 160) :
    o.onlyPages ps (d.overload n imeas) = o.onlyPages ps d := by
  unfold Device.overload; simp (disch := assumption)

@[simp ↓] theorem Device.shortTrip_pages (d : Device) {n : Nat} (imeas : Nat) (hn : n < 160) :
    o.onlyPages ps (d.shortTrip n imeas) = o.onlyPages ps d := by
  unfold Device.shortTrip; simp (disch := assumption)

@[simp ↓] theorem Device.thermalTrip_pages (d : Device) {n : Nat} (imeas temp : Nat) (hn : n < 160) :
    o.onlyPages ps (d.thermalTrip n imeas temp) = o.onlyPages ps d := by
  unfold Device.thermalTrip; simp (disch := assumption)

end
end Sys2Proof.Machine

namespace Sys2Proof.Machine

/-! ## Register frames: channels, reckoning, conversions, sequence -/

section
variable {o : Device} {ps : List Nat}

theorem Device.attSettle_pages (d : Device) : o.onlyPages ps d.attSettle = o.onlyPages ps d := by
  obtain ⟨x, hx⟩ := d.attSettle_twi
  rw [hx]
  exact Device.pages_mk ..

theorem chs_pages (h : chsPages ⊆ ps) {n : Nat} (hn : n < 163) :
    (CHS.LON n).addr / 256 ∈ ps ∧ (CHS.LOFF n).addr / 256 ∈ ps := by
  have hp := chs_page h hn
  rw [show (CHS.STAT n).addr / 256 = 0x30 + n / 16 by simp only [CHS.STAT]; omega] at hp
  rw [show (CHS.LON n).addr / 256 = 0x30 + n / 16 by simp only [CHS.LON]; omega,
    show (CHS.LOFF n).addr / 256 = 0x30 + n / 16 by simp only [CHS.LOFF]; omega]
  exact ⟨hp, hp⟩

theorem unlField_page (h : chsPages ⊆ ps) {n : Nat} (on : Bool) (hn : n < 160) : (unlField n on).reg.addr / 256 ∈ ps := by
  have hp := chs_page h (Nat.lt_of_lt_of_le hn (by decide))
  cases on <;> exact hp

/-! ### Ring ports -/

@[simp ↓] theorem Device.portClear_pages (d : Device) (p : Port) :
    o.onlyPages ps (d.portClear p) = o.onlyPages ps d := by
  unfold Device.portClear; simp

@[simp ↓] theorem Device.chainFlags_pages (d : Device) (hRing : 0x0D ∈ ps) :
    o.onlyPages ps d.chainFlags = o.onlyPages ps d := by
  unfold Device.chainFlags; simp (disch := (refine id ?_; with_unfolding_all assumption))

@[simp ↓] theorem Device.openWindow_pages (d : Device) :
    o.onlyPages ps d.openWindow = o.onlyPages ps d := by
  unfold Device.openWindow; simp

/-! ### Writers -/

@[simp ↓] theorem Device.retryReset_pages (d : Device) (l : Nat) :
    o.onlyPages ps (d.retryReset l) = o.onlyPages ps d := by
  unfold Device.retryReset; simp

theorem Device.asWriter_pages (d : Device) (w : Writer) {f : Device → Device}
    (h : ∀ d : Device, o.onlyPages ps (f d) = o.onlyPages ps d) :
    o.onlyPages ps (d.asWriter w f) = o.onlyPages ps d := by
  unfold Device.asWriter
  split
  · rfl
  · exact (Device.attSettle_pages _).trans (h d)

theorem Device.asWright_pages (d : Device) (w : Writer) (page off : Nat) {f : Device → Device} (hRing : 0x0D ∈ ps)
    (h : ∀ d : Device, o.onlyPages ps (f d) = o.onlyPages ps d) :
    o.onlyPages ps (d.asWright w page off f) = o.onlyPages ps d := by
  unfold Device.asWright
  split
  · exact Device.log_pages d _ _ _ hRing
  · exact Device.asWriter_pages d w h

/-! ### Channel drive and latency -/

theorem Device.peakEnd_pages (d : Device) {n : Nat} (h : chsPages ⊆ ps) (hn : n < 160) :
    o.onlyPages ps (d.peakEnd n) = o.onlyPages ps d := by
  have hg := Device.gangPeak_pages (o := o) d h (d.lead_lt hn)
  unfold Device.peakEnd; simp [hg]

@[simp ↓] theorem Device.setLearn_pages (d : Device) {n : Nat} (on : Bool) (x : Learn) (h : chsPages ⊆ ps)
    (hn : n < 160) :
    o.onlyPages ps (d.setLearn n on x) = o.onlyPages ps d := by
  obtain ⟨hl, hf⟩ := chs_pages h (Nat.lt_of_lt_of_le hn (by decide))
  unfold Device.setLearn
  cases on <;> simp (disch := assumption)

@[simp ↓] theorem Device.learnHit_pages (d : Device) {n : Nat} (on : Bool) (s : Nat) (hRing : 0x0D ∈ ps)
    (h : chsPages ⊆ ps) (hn : n < 160) : o.onlyPages ps (d.learnHit n on s) = o.onlyPages ps d := by
  have hu := unlField_page h on hn
  unfold Device.learnHit; simp (disch := assumption)

@[simp ↓] theorem Device.learnMiss_pages (d : Device) {n : Nat} (on : Bool) (hRing : 0x0D ∈ ps)
    (h : chsPages ⊆ ps) (hn : n < 160) : o.onlyPages ps (d.learnMiss n on) = o.onlyPages ps d := by
  have hu := unlField_page h on hn
  unfold Device.learnMiss; simp (disch := assumption)

theorem Device.latencySample_pages (d : Device) {n : Nat} (on : Bool) (cusp : Option Nat) (hRing : 0x0D ∈ ps)
    (h : chsPages ⊆ ps) (hn : n < 160) : o.onlyPages ps (d.latencySample n on cusp) = o.onlyPages ps d := by
  unfold Device.latencySample
  dsimp only
  (repeat' split) <;> simp (disch := assumption)

@[simp ↓] theorem Device.clearChanStat_pages (d : Device) {n : Nat} (v : Nat) (h : chsPages ⊆ ps) (hn : n < 160) :
    o.onlyPages ps (d.clearChanStat n v) = o.onlyPages ps d := by
  have hs := chs_page h (Nat.lt_of_lt_of_le hn (by decide))
  unfold Device.clearChanStat; simp (disch := assumption)

theorem Device.safeRelease_pages (d : Device) (v : Nat) (h : chsPages ⊆ ps) :
    o.onlyPages ps (d.safeRelease v) = o.onlyPages ps d := by
  have he := Device.pages_each (f := fun d n => d.clearChanStat n 4)
    (fun n hn e => Device.clearChanStat_pages (o := o) e 4 h (List.mem_range.1 hn)) d
  unfold Device.safeRelease; simp [allChans, he]

/-! ### Reckoning -/

@[simp ↓] theorem Device.modRck_pages (d : Device) (f : Rck → Rck) :
    o.onlyPages ps (d.modRck f) = o.onlyPages ps d := by
  unfold Device.modRck; simp

@[simp ↓] theorem Device.writeHyaw_pages (d : Device) (v : Nat) (top : Bool) (hRck : 0x01 ∈ ps) :
    o.onlyPages ps (d.writeHyaw v top) = o.onlyPages ps d := by
  unfold Device.writeHyaw; simp (disch := (refine id ?_; with_unfolding_all assumption))

@[simp ↓] theorem Device.speedStale_pages (d : Device) (hRck : 0x01 ∈ ps) (hRing : 0x0D ∈ ps) :
    o.onlyPages ps d.speedStale = o.onlyPages ps d := by
  unfold Device.speedStale; simp (disch := (refine id ?_; with_unfolding_all assumption))

@[simp ↓] theorem Device.yawStale_pages (d : Device) (hRck : 0x01 ∈ ps) (hRing : 0x0D ∈ ps) :
    o.onlyPages ps d.yawStale = o.onlyPages ps d := by
  unfold Device.yawStale; simp (disch := (refine id ?_; with_unfolding_all assumption))

@[simp ↓] theorem Device.capture_pages (d : Device) (v : Nat) (hRck : 0x01 ∈ ps) :
    o.onlyPages ps (d.capture v) = o.onlyPages ps d := by
  unfold Device.capture; simp (disch := (refine id ?_; with_unfolding_all assumption))

theorem Device.takeMsg_pages {d e : Device} {k : MsgType} {m : Msg} (h : d.takeMsg k = some (m, e)) :
    o.onlyPages ps e = o.onlyPages ps d := by
  unfold Device.takeMsg at h
  split at h
  · simp at h
  · simp only [Option.some.injEq, Prod.mk.injEq] at h
    obtain ⟨-, rfl⟩ := h
    exact Device.pages_mk ..

/-! ### Conversions -/

@[simp ↓] theorem Device.modAdc_pages (d : Device) (f : Adc → Adc) :
    o.onlyPages ps (d.modAdc f) = o.onlyPages ps d := by
  unfold Device.modAdc; simp

@[simp ↓] theorem Device.modConv_pages (d : Device) (c : AdcId) (f : Converter → Converter) :
    o.onlyPages ps (d.modConv c f) = o.onlyPages ps d := by
  unfold Device.modConv
  (repeat' split) <;> simp

@[simp ↓] theorem Device.modLoop_pages (d : Device) (c : AdcId) (f : Loop → Loop) :
    o.onlyPages ps (d.modLoop c f) = o.onlyPages ps d := by
  unfold Device.modLoop; simp

@[simp ↓] theorem Device.begin_pages (d : Device) (c : AdcId) (j : AdcJob) :
    o.onlyPages ps (d.begin c j) = o.onlyPages ps d := by
  unfold Device.begin; simp

@[simp ↓] theorem Device.startUrgent_pages (d : Device) (c : AdcId) : o.onlyPages ps
    (d.startUrgent c) = o.onlyPages ps d := by
  unfold Device.startUrgent
  (repeat' split) <;> simp

@[simp ↓] theorem Device.startPair_pages (d : Device) :
    o.onlyPages ps d.startPair = o.onlyPages ps d := by
  unfold Device.startPair
  dsimp only
  (repeat' split) <;> simp

@[simp ↓] theorem Device.startLoop_pages (d : Device) (c : AdcId) :
    o.onlyPages ps (d.startLoop c) = o.onlyPages ps d := by
  unfold Device.startLoop
  dsimp only
  (repeat' split) <;> simp

@[simp ↓] theorem Device.slip_pages (d : Device) (c : AdcId) (hAdcd : 0x0A ∈ ps) :
    o.onlyPages ps (d.slip c) = o.onlyPages ps d := by
  have hs : (slipReg c).addr / 256 ∈ ps := by cases c <;> exact hAdcd
  unfold Device.slip; simp (disch := assumption)

@[simp ↓] theorem Device.adcStart_pages (d : Device)
    (hAdcd : 0x0A ∈ ps) : o.onlyPages ps d.adcStart = o.onlyPages ps d := by
  unfold Device.adcStart; simp (disch := assumption)

@[simp ↓] theorem Device.alone_pages (d : Device) (c : AdcId) (hAdcd : 0x0A ∈ ps) :
    o.onlyPages ps (d.alone c) = o.onlyPages ps d := by
  unfold Device.alone; simp (disch := (refine id ?_; with_unfolding_all assumption))

@[simp ↓] theorem Device.arrive_pages (d : Device) (c : AdcId) (e : Nat) (hAdcd : 0x0A ∈ ps) :
    o.onlyPages ps (d.arrive c e) = o.onlyPages ps d := by
  unfold Device.arrive; simp (disch := assumption)

theorem Device.delayEnd_pages (d : Device) (c : AdcId) (hAdcd : 0x0A ∈ ps) :
    o.onlyPages ps (d.delayEnd c) = o.onlyPages ps d := by
  unfold Device.delayEnd
  dsimp only
  (repeat' split) <;> simp (disch := assumption)

@[simp ↓] theorem Device.xmiss_pages (d : Device) (c : AdcId) (hAdcd : 0x0A ∈ ps) :
    o.onlyPages ps (d.xmiss c) = o.onlyPages ps d := by
  unfold Device.xmiss
  (repeat' split) <;> simp (disch := assumption)

@[simp ↓] theorem Device.urgent_pages (d : Device) (v : Nat) (hAdc : 0x09 ∈ ps) (hAdcd : 0x0A ∈ ps) :
    o.onlyPages ps (d.urgent v) = o.onlyPages ps d := by
  unfold Device.urgent
  (repeat' split) <;> simp (disch := (refine id ?_; with_unfolding_all assumption))

@[simp ↓] theorem Device.freeTag_pages (d : Device) {t : Nat} (hAdcd : 0x0A ∈ ps) (ht : t < 4) :
    o.onlyPages ps (d.freeTag t) = o.onlyPages ps d := by
  have hu : (ADCD.URES t).addr / 256 ∈ ps := by
    rw [show (ADCD.URES t).addr / 256 = 0x0A by simp only [ADCD.URES]; omega]; exact hAdcd
  unfold Device.freeTag; simp (disch := assumption)

/-! ### Sequence and bank supply -/

@[simp ↓] theorem Device.modSeq_pages (d : Device) (f : Seq → Seq) :
    o.onlyPages ps (d.modSeq f) = o.onlyPages ps d := by
  unfold Device.modSeq; simp

@[simp ↓] theorem Device.beginWake_pages (d : Device) (hSec : 0x11 ∈ ps) :
    o.onlyPages ps d.beginWake = o.onlyPages ps d := by
  unfold Device.beginWake; simp (disch := (refine id ?_; with_unfolding_all assumption))

@[simp ↓] theorem Device.requestWake_pages (d : Device) (hSec : 0x11 ∈ ps) :
    o.onlyPages ps d.requestWake = o.onlyPages ps d := by
  unfold Device.requestWake; simp (disch := (refine id ?_; with_unfolding_all assumption))

@[simp ↓] theorem Device.wakeStart_pages (d : Device) (hSec : 0x11 ∈ ps) :
    o.onlyPages ps d.wakeStart = o.onlyPages ps d := by
  unfold Device.wakeStart; simp (disch := assumption)

@[simp ↓] theorem Device.requestOn_pages (d : Device) (hSeq : 0x08 ∈ ps) (hSec : 0x11 ∈ ps) :
    o.onlyPages ps d.requestOn = o.onlyPages ps d := by
  unfold Device.requestOn; simp (disch := (refine id ?_; with_unfolding_all assumption))

@[simp ↓] theorem Device.checkCancel_pages (d : Device) (hSeq : 0x08 ∈ ps) (hRing : 0x0D ∈ ps) :
    o.onlyPages ps d.checkCancel = o.onlyPages ps d := by
  unfold Device.checkCancel; simp (disch := (refine id ?_; with_unfolding_all assumption))

theorem Device.bankUv_pages (d : Device) {m : Nat} (vbus held : Nat) (hCnt : 0x13 ∈ ps) (hm : m < 4) :
    o.onlyPages ps (d.bankUv m vbus held) = o.onlyPages ps d := by
  obtain ⟨hu, -, -, -⟩ := cnt_page hCnt (show 6 + m < 10 by omega)
  unfold Device.bankUv; simp (disch := assumption)

theorem Device.bankOv_pages (d : Device) {m : Nat} (vbus held : Nat) (hCnt : 0x13 ∈ ps) (hm : m < 4) :
    o.onlyPages ps (d.bankOv m vbus held) = o.onlyPages ps d := by
  obtain ⟨-, hv, -, -⟩ := cnt_page hCnt (show 6 + m < 10 by omega)
  unfold Device.bankOv; simp (disch := assumption)

end
end Sys2Proof.Machine

namespace Sys2Proof.Machine

/-! ## Register frames: rails and rail supplies -/

section
variable {o : Device} {ps : List Nat}

@[simp ↓] theorem Device.joinAll_pages (d : Device) (r : Nat) : o.onlyPages ps (d.joinAll r) = o.onlyPages ps d :=
  Device.modRail_pages ..

@[simp ↓] theorem Device.startHoldoff_pages (d : Device) (r : Nat) :
    o.onlyPages ps (d.startHoldoff r) = o.onlyPages ps d :=
  Device.modRail_pages ..

theorem cv_page (h : 0x06 ∈ ps) {r : Nat} (hr : r < 4) :
    (CV.STAT r).addr / 256 ∈ ps ∧ (CV.VFB r).addr / 256 ∈ ps ∧ (CV.ITOT r).addr / 256 ∈ ps ∧
    (CV.NACT r).addr / 256 ∈ ps ∧ (CV.VREF r).addr / 256 ∈ ps ∧ (CV.SLEW r).addr / 256 ∈ ps ∧
    (CV.BRKCNT r).addr / 256 ∈ ps ∧ (CV.ABORTCNT r).addr / 256 ∈ ps := by
  have e : ∀ {a : Nat}, 0x600 ≤ a → a < 0x700 → a / 256 ∈ ps := fun {a} h1 h2 => by
    rw [show a / 256 = 6 by omega]; exact h
  refine ⟨e ?_ ?_, e ?_ ?_, e ?_ ?_, e ?_ ?_, e ?_ ?_, e ?_ ?_, e ?_ ?_, e ?_ ?_⟩ <;>
    simp only [CV.STAT, CV.VFB, CV.ITOT, CV.NACT, CV.VREF, CV.SLEW, CV.BRKCNT, CV.ABORTCNT] <;> omega

/-! ### Where page CV may be written, with the RING log and the counters where they are named -/

variable {r : Nat} (hCv : 0x06 ∈ ps) (hr : r < 4) (hRing : 0x0D ∈ ps) (hCnt : 0x13 ∈ ps)
include hCv hr

@[simp ↓] theorem Device.setCv_pages (d : Device) (st : Nat) : o.onlyPages ps (d.setCv r st) = o.onlyPages ps d := by
  obtain ⟨hStat, -, -, -, -, -, -, -⟩ := cv_page hCv hr
  unfold Device.setCv; simp (disch := assumption)

@[simp ↓] theorem Device.countPhases_pages (d : Device) : o.onlyPages ps (d.countPhases r) = o.onlyPages ps d := by
  obtain ⟨-, -, -, hNact, -, -, -, -⟩ := cv_page hCv hr
  unfold Device.countPhases; simp (disch := assumption)

@[simp ↓] theorem Device.setPhases_pages (d : Device) (on : Bool) :
    o.onlyPages ps (d.setPhases r on) = o.onlyPages ps d := by
  have he := Device.pages_each (o := o) (ps := ps) (l := d.phases r) (f := fun d n => d.setBit CV.PHACT n on)
    (fun n _ e => Device.setBit_pages e n on hCv) d
  unfold Device.setPhases; simp (disch := assumption) [he]

@[simp ↓] theorem Device.pgOut_pages (d : Device) : o.onlyPages ps (d.pgOut r) = o.onlyPages ps d := by
  obtain ⟨hStat, -, -, -, -, -, -, -⟩ := cv_page hCv hr
  unfold Device.pgOut; simp (disch := assumption)

@[simp ↓] theorem Device.readVfb_pages (d : Device) (vfb : Nat) :
    o.onlyPages ps (d.readVfb r vfb) = o.onlyPages ps d := by
  obtain ⟨hStat, hVfb, -, -, -, -, -, -⟩ := cv_page hCv hr
  unfold Device.readVfb; simp (disch := assumption)

@[simp ↓] theorem Device.dropShed_pages (d : Device) : o.onlyPages ps (d.dropShed r) = o.onlyPages ps d := by
  obtain ⟨hStat, -, -, -, -, -, -, -⟩ := cv_page hCv hr
  unfold Device.dropShed; simp (disch := assumption)

@[simp ↓] theorem Device.cvQuiet_pages (d : Device) : o.onlyPages ps (d.cvQuiet r) = o.onlyPages ps d := by
  obtain ⟨hStat, -, -, -, -, -, -, -⟩ := cv_page hCv hr
  unfold Device.cvQuiet; simp (disch := assumption)

@[simp ↓] theorem Device.prebiasWaitEnd_pages (d : Device) (vfb : Nat) :
    o.onlyPages ps (d.prebiasWaitEnd r vfb) = o.onlyPages ps d := by
  unfold Device.prebiasWaitEnd; simp (disch := assumption)

@[simp ↓] theorem Device.rampDone_pages (d : Device) : o.onlyPages ps (d.rampDone r) = o.onlyPages ps d := by
  unfold Device.rampDone; simp (disch := assumption)

@[simp ↓] theorem Device.slewEnd_pages (d : Device) (vfb : Nat) :
    o.onlyPages ps (d.slewEnd r vfb) = o.onlyPages ps d := by
  obtain ⟨hStat, -, -, -, -, -, -, -⟩ := cv_page hCv hr
  unfold Device.slewEnd; simp (disch := assumption)

@[simp ↓] theorem Device.railSettled_pages (d : Device) (vfb : Nat) :
    o.onlyPages ps (d.railSettled r vfb) = o.onlyPages ps d := by
  unfold Device.railSettled; simp (disch := assumption)

@[simp ↓] theorem Device.maskTimeout_pages (d : Device) (vfb : Nat) :
    o.onlyPages ps (d.maskTimeout r vfb) = o.onlyPages ps d := by
  unfold Device.maskTimeout; simp (disch := assumption)

@[simp ↓] theorem Device.cvTrip_pages (d : Device) : o.onlyPages ps (d.cvTrip r) = o.onlyPages ps d := by
  unfold Device.cvTrip; simp (disch := assumption)

@[simp ↓] theorem Device.brakeEnd_pages (d : Device) (vfb : Nat) :
    o.onlyPages ps (d.brakeEnd r vfb) = o.onlyPages ps d := by
  obtain ⟨hStat, -, -, -, -, -, hBrkcnt, -⟩ := cv_page hCv hr
  unfold Device.brakeEnd; simp (disch := assumption)

@[simp ↓] theorem Device.shed_pages (d : Device) (itot held : Nat) :
    o.onlyPages ps (d.shed r itot held) = o.onlyPages ps d := by
  obtain ⟨hStat, -, hItot, -, -, -, -, -⟩ := cv_page hCv hr
  unfold Device.shed; simp (disch := assumption)

@[simp ↓] theorem Device.shedDone_pages (d : Device) : o.onlyPages ps (d.shedDone r) = o.onlyPages ps d := by
  have hb : ∀ n b, o.onlyPages ps (d.setBit CV.PHACT n b) = o.onlyPages ps d := fun n b => Device.setBit_pages d n b hCv
  unfold Device.shedDone
  (repeat' split) <;> simp (disch := assumption) [hb]

include hRing

@[simp ↓] theorem Device.prebias_pages (d : Device) (vpre : Nat) :
    o.onlyPages ps (d.prebias r vpre) = o.onlyPages ps d := by
  obtain ⟨hStat, -, -, -, -, -, -, -⟩ := cv_page hCv hr
  unfold Device.prebias; simp (disch := assumption)

@[simp ↓] theorem Device.vrefRefused_pages (d : Device) (v : Nat) :
    o.onlyPages ps (d.vrefRefused r v) = o.onlyPages ps d := by
  obtain ⟨hStat, -, -, -, -, -, -, -⟩ := cv_page hCv hr
  unfold Device.vrefRefused; simp (disch := assumption)

@[simp ↓] theorem Device.writeVref_pages (d : Device) (v : Nat) :
    o.onlyPages ps (d.writeVref r v) = o.onlyPages ps d := by
  obtain ⟨hStat, -, -, -, hVref, -, -, -⟩ := cv_page hCv hr
  unfold Device.writeVref; simp (disch := assumption)

@[simp ↓] theorem Device.writeSlew_pages (d : Device) (v : Nat) :
    o.onlyPages ps (d.writeSlew r v) = o.onlyPages ps d := by
  obtain ⟨-, -, -, -, -, hSlew, -, -⟩ := cv_page hCv hr
  unfold Device.writeSlew; simp (disch := assumption)

@[simp ↓] theorem Device.shedAbort_pages (d : Device) : o.onlyPages ps (d.shedAbort r) = o.onlyPages ps d := by
  obtain ⟨hStat, -, -, -, -, -, -, hAbortcnt⟩ := cv_page hCv hr
  unfold Device.shedAbort; simp (disch := assumption)

@[simp ↓] theorem Device.brake_pages (d : Device) (vfb : Nat) : o.onlyPages ps (d.brake r vfb) = o.onlyPages ps d := by
  obtain ⟨hStat, -, -, -, -, -, -, -⟩ := cv_page hCv hr
  unfold Device.brake; simp (disch := assumption)

@[simp ↓] theorem Device.addPhase_pages (d : Device) (itot : Nat) :
    o.onlyPages ps (d.addPhase r itot) = o.onlyPages ps d := by
  obtain ⟨-, -, hItot, -, -, -, -, -⟩ := cv_page hCv hr
  unfold Device.addPhase
  (repeat' split) <;> simp (disch := assumption)

@[simp ↓] theorem Device.fastAdd_pages (d : Device) (vfb : Nat) :
    o.onlyPages ps (d.fastAdd r vfb) = o.onlyPages ps d := by
  unfold Device.fastAdd; simp (disch := assumption)

include hCnt

/-- The trip by overcurrent of a rail (R216). -/
theorem Device.cvOcGo_pages (d : Device) : o.onlyPages ps
    (((((d.cvTrip r).raise (CV.STAT_CV_OC r)).log Ev.CV_OC [r]).cnt CNT.OC r).cnt CNT.TRIP r) = o.onlyPages ps d := by
  obtain ⟨hStat, -⟩ := cv_page hCv hr
  obtain ⟨-, -, hOc, hTrip⟩ := cnt_page hCnt (show r < 10 by omega)
  simp (disch := assumption)

@[simp ↓] theorem Device.cvOc_pages (d : Device) (cause : OcCause) :
    o.onlyPages ps (d.cvOc r cause) = o.onlyPages ps d := by
  have hgo := fun d => Device.cvOcGo_pages (o := o) hCv hr hRing hCnt d
  have hb : ∀ n, o.onlyPages ps (d.setBit CV.PHFLT n true) = o.onlyPages ps d := fun n => Device.setBit_pages d n true hCv
  unfold Device.cvOc
  dsimp only
  (repeat' split) <;> simp only [hgo, hb]

@[simp ↓] theorem Device.cvOv_pages (d : Device) (vfb held : Nat) :
    o.onlyPages ps (d.cvOv r vfb held) = o.onlyPages ps d := by
  obtain ⟨hStat, -⟩ := cv_page hCv hr
  obtain ⟨-, hOv, -, hTrip⟩ := cnt_page hCnt (show r < 10 by omega)
  unfold Device.cvOv; simp (disch := assumption)

end

/-! ### Interface supplies -/

section
variable {o : Device} {ps : List Nat}

theorem Device.writeIb0v_pages (d : Device) (v : Nat) (hInt : 0x07 ∈ ps) (hRing : 0x0D ∈ ps) :
    o.onlyPages ps (d.writeIb0v v) = o.onlyPages ps d := by
  unfold Device.writeIb0v; simp (disch := (refine id ?_; with_unfolding_all assumption))

@[simp ↓] theorem Device.setClock_pages (d : Device) (slow : Bool) (hEdge : 0x02 ∈ ps) (hInt : 0x07 ∈ ps) :
    o.onlyPages ps (d.setClock slow) = o.onlyPages ps d := by
  unfold Device.setClock; simp (disch := (refine id ?_; with_unfolding_all assumption))

theorem Device.clockSwitch_pages (d : Device) (hEdge : 0x02 ∈ ps) (hInt : 0x07 ∈ ps) :
    o.onlyPages ps d.clockSwitch = o.onlyPages ps d := by
  unfold Device.clockSwitch; simp (disch := assumption)

theorem Device.ioUv_pages (d : Device) (vio held : Nat) (hInt : 0x07 ∈ ps) (hRing : 0x0D ∈ ps) :
    o.onlyPages ps (d.ioUv vio held) = o.onlyPages ps d := by
  unfold Device.ioUv; simp (disch := (refine id ?_; with_unfolding_all assumption))

theorem Device.ldOc_pages (d : Device) (k held : Nat) (hInt : 0x07 ∈ ps) (hRing : 0x0D ∈ ps) :
    o.onlyPages ps (d.ldOc k held) = o.onlyPages ps d := by
  have hs : INT.STAT.addr / 256 ∈ ps := hInt
  unfold Device.ldOc; simp (disch := assumption)

theorem Device.ldClear_pages (d : Device) (v : Nat) (hInt : 0x07 ∈ ps) :
    o.onlyPages ps (d.ldClear v) = o.onlyPages ps d :=
  Device.pages_each (fun k _ d => by
    split
    · exact Device.setFlag_pages d _ (show INT.STAT.addr / 256 ∈ ps from hInt)
    · rfl) d

end
end Sys2Proof.Machine

namespace Sys2Proof.Machine

/-! ## Register frames: feeds, power states, links -/

section
variable {o : Device} {ps : List Nat}

/-! ### Feeds -/

@[simp ↓] theorem Device.modFeed_pages (d : Device) (f : FeedId) (g : Feed → Feed) :
    o.onlyPages ps (d.modFeed f g) = o.onlyPages ps d := by
  unfold Device.modFeed; simp

@[simp ↓] theorem Device.feedAvail_pages (d : Device) (f : FeedId) (hFeed : 0x05 ∈ ps) :
    o.onlyPages ps (d.feedAvail f) = o.onlyPages ps d := by
  cases f <;> unfold Device.feedAvail <;> simp (disch := (refine id ?_; with_unfolding_all assumption))

@[simp ↓] theorem Device.turnFeedOn_pages (d : Device) (f : FeedId) (hFeed : 0x05 ∈ ps) :
    o.onlyPages ps (d.turnFeedOn f) = o.onlyPages ps d := by
  cases f <;> unfold Device.turnFeedOn <;> simp (disch := (refine id ?_; with_unfolding_all assumption))

@[simp ↓] theorem Device.gateOff_pages (d : Device) (f : FeedId) (hFeed : 0x05 ∈ ps) :
    o.onlyPages ps (d.gateOff f) = o.onlyPages ps d := by
  cases f <;> unfold Device.gateOff <;> simp (disch := (refine id ?_; with_unfolding_all assumption))

@[simp ↓] theorem Device.startSwitch_pages (d : Device) (incoming : FeedId) (cause : SwitchCause) (hFeed : 0x05 ∈ ps) :
    o.onlyPages ps (d.startSwitch incoming cause) = o.onlyPages ps d := by
  cases incoming <;> unfold Device.startSwitch <;> simp (disch := (refine id ?_; with_unfolding_all assumption))

@[simp ↓] theorem Device.selRefused_pages (d : Device) (hFeed : 0x05 ∈ ps) (hRing : 0x0D ∈ ps) :
    o.onlyPages ps d.selRefused = o.onlyPages ps d := by
  unfold Device.selRefused; simp (disch := (refine id ?_; with_unfolding_all assumption))

@[simp ↓] theorem Device.feedSelect_pages (d : Device) (v : Nat) (hFeed : 0x05 ∈ ps) (hRing : 0x0D ∈ ps) :
    o.onlyPages ps (d.feedSelect v) = o.onlyPages ps d := by
  unfold Device.feedSelect
  dsimp only
  (repeat' split) <;> simp (disch := (refine id ?_; with_unfolding_all assumption))

@[simp ↓] theorem Device.seeVin_pages (d : Device) (f : FeedId) (vin : Nat) (hFeed : 0x05 ∈ ps) (hSeq : 0x08 ∈ ps)
    (hRing : 0x0D ∈ ps) :
    o.onlyPages ps (d.seeVin f vin) = o.onlyPages ps d := by
  cases f <;> unfold Device.seeVin <;> simp (disch := (refine id ?_; with_unfolding_all assumption))

@[simp ↓] theorem Device.disqualify_pages (d : Device) (f : FeedId) (hFeed : 0x05 ∈ ps) :
    o.onlyPages ps (d.disqualify f) = o.onlyPages ps d := by
  cases f <;> unfold Device.disqualify <;> simp (disch := (refine id ?_; with_unfolding_all assumption))

@[simp ↓] theorem Device.qualLost_pages (d : Device) (f : FeedId) (vin : Nat) (hFeed : 0x05 ∈ ps) (hSeq : 0x08 ∈ ps)
    (hRing : 0x0D ∈ ps) :
    o.onlyPages ps (d.qualLost f vin) = o.onlyPages ps d := by
  unfold Device.qualLost; simp (disch := assumption)

@[simp ↓] theorem Device.feedRetry_pages (d : Device) (f : FeedId) (hFeed : 0x05 ∈ ps) :
    o.onlyPages ps (d.feedRetry f) = o.onlyPages ps d := by
  unfold Device.feedRetry; simp (disch := assumption)

theorem Device.feedClear_pages (d : Device) (f : FeedId) (v : Nat) (hFeed : 0x05 ∈ ps) :
    o.onlyPages ps (d.feedClear f v) = o.onlyPages ps d := by
  have hw := Device.pages_when (o := o) (ps := ps) d (d.feed f).tripped fun e => Device.disqualify_pages e f hFeed
  unfold Device.feedClear; simp (disch := assumption) [hw]

@[simp ↓] theorem Device.feedDamage_pages (d : Device) (f : FeedId) {bit : Field} (ev : Nat) (hFeed : 0x05 ∈ ps)
    (hRing : 0x0D ∈ ps) (hCnt : 0x13 ∈ ps) (hb : bit.reg.addr / 256 ∈ ps) :
    o.onlyPages ps (d.feedDamage f bit ev) = o.onlyPages ps d := by
  cases f <;> unfold Device.feedDamage <;> simp (disch := (refine id ?_; with_unfolding_all assumption))

@[simp ↓] theorem Device.feedDamageO_pages (d : Device) (f : FeedId) (src vbus held : Nat) (hFeed : 0x05 ∈ ps)
    (hRing : 0x0D ∈ ps) (hCnt : 0x13 ∈ ps) :
    o.onlyPages ps (d.feedDamageO f src vbus held) = o.onlyPages ps d := by
  cases f <;> unfold Device.feedDamageO <;> simp (disch := (refine id ?_; with_unfolding_all assumption))

theorem Device.feedVerified_pages (d : Device)
    (hFeed : 0x05 ∈ ps) : o.onlyPages ps d.feedVerified = o.onlyPages ps d := by
  have hon : ∀ f, o.onlyPages ps (d.raise (FEED.FSTAT_ON (FeedIx f))) = o.onlyPages ps d := fun f =>
    Device.raise_pages d (by cases f <;> exact hFeed)
  unfold Device.feedVerified
  (repeat' split) <;> simp [hon]

/-! ### Power states -/

@[simp ↓] theorem Device.setHalted_pages (d : Device) (b : Bool) (hWdt : 0x0B ∈ ps) (hSec : 0x11 ∈ ps) :
    o.onlyPages ps (d.setHalted b) = o.onlyPages ps d := by
  unfold Device.setHalted; simp (disch := (refine id ?_; with_unfolding_all assumption))

@[simp ↓] theorem Device.pwrWake_pages (d : Device) (hSec : 0x11 ∈ ps) :
    o.onlyPages ps d.pwrWake = o.onlyPages ps d := by
  unfold Device.pwrWake; simp (disch := (refine id ?_; with_unfolding_all assumption))

@[simp ↓] theorem Device.pwrRefused_pages (d : Device) (why : Nat) (hRing : 0x0D ∈ ps) (hSec : 0x11 ∈ ps) :
    o.onlyPages ps (d.pwrRefused why) = o.onlyPages ps d := by
  unfold Device.pwrRefused; simp (disch := (refine id ?_; with_unfolding_all assumption))

@[simp ↓] theorem Device.pwrRun_pages (d : Device) (hRing : 0x0D ∈ ps) (hSec : 0x11 ∈ ps) :
    o.onlyPages ps d.pwrRun = o.onlyPages ps d := by
  unfold Device.pwrRun; simp (disch := (refine id ?_; with_unfolding_all assumption))

/-! ### Links and transactions -/

@[simp ↓] theorem Device.modPort_pages (d : Device) (p : Port) (f : PortSt → PortSt) :
    o.onlyPages ps (d.modPort p f) = o.onlyPages ps d := by
  unfold Device.modPort; simp

@[simp ↓] theorem Device.modRing_pages (d : Device) (f : Ring → Ring) :
    o.onlyPages ps (d.modRing f) = o.onlyPages ps d := by
  unfold Device.modRing; simp

@[simp ↓] theorem Device.askQuery_pages (d : Device) :
    o.onlyPages ps d.askQuery = o.onlyPages ps d := by
  unfold Device.askQuery; simp

@[simp ↓] theorem Device.modLive_pages (d : Device) (p : Port) (f : Nat → CellBits → CellBits) :
    o.onlyPages ps (d.modLive p f) = o.onlyPages ps d := by
  unfold Device.modLive; simp

@[simp ↓] theorem Device.goDown_pages (d : Device) (p : Port) (report : Bool) (hRing : 0x0D ∈ ps) :
    o.onlyPages ps (d.goDown p report) = o.onlyPages ps d := by
  have hs : (RING.PSTAT (PortIx p)).addr / 256 ∈ ps := by cases p <;> exact hRing
  have hd : (RING.DOWNCNT (PortIx p)).addr / 256 ∈ ps := by cases p <;> exact hRing
  have hw : ∀ e : Device, o.onlyPages ps (e.when report fun d =>
      (d.raise (RING.PSTAT_LINK_DOWN (PortIx p))).log Ev.LINK_DOWN [PortIx p]) = o.onlyPages ps e := fun e =>
    Device.pages_when e report fun d => by simp (disch := assumption)
  unfold Device.goDown; simp (disch := (refine id ?_; with_unfolding_all assumption)) [hw]

@[simp ↓] theorem Device.syncLost_pages (d : Device) (p : Port) (plus : Bool) (gs : List (BitVec 10))
    (violations : Nat) (hRing : 0x0D ∈ ps) :
    o.onlyPages ps (d.syncLost p plus gs violations) = o.onlyPages ps d := by
  cases p <;> unfold Device.syncLost <;> simp (disch := (refine id ?_; with_unfolding_all assumption))

@[simp ↓] theorem Device.retrain_pages (d : Device) (v : Nat) (hRing : 0x0D ∈ ps) :
    o.onlyPages ps (d.retrain v) = o.onlyPages ps d := by
  unfold Device.retrain; simp (disch := assumption)

@[simp ↓] theorem Device.syncAcquired_pages (d : Device) (p : Port) (plus : Bool) (gs : List (BitVec 10))
    (hRing : 0x0D ∈ ps) :
    o.onlyPages ps (d.syncAcquired p plus gs) = o.onlyPages ps d := by
  cases p <;> unfold Device.syncAcquired <;> simp (disch := (refine id ?_; with_unfolding_all assumption))

@[simp ↓] theorem Device.cellOut_pages (d : Device) (p : Port) (c : CellBits) (live : Option Nat) (hRing : 0x0D ∈ ps) :
    o.onlyPages ps (d.cellOut p c live) = o.onlyPages ps d := by
  cases p <;> unfold Device.cellOut <;> simp (disch := (refine id ?_; with_unfolding_all assumption))

@[simp ↓] theorem Device.sendLink_pages (d : Device) (p : Port) (pay : List Nat) (hRing : 0x0D ∈ ps) :
    o.onlyPages ps (d.sendLink p pay) = o.onlyPages ps d := Device.cellOut_pages d p _ _ hRing

@[simp ↓] theorem Device.linkOut_pages (d : Device) (p : Port) (z : LinkOut) (hRing : 0x0D ∈ ps) :
    o.onlyPages ps (d.linkOut p z) = o.onlyPages ps d := by
  unfold Device.linkOut; split <;> simp (disch := assumption)

@[simp ↓] theorem Device.startLink_pages (d : Device) (p : Port) (incoming : Bool) (hRing : 0x0D ∈ ps) :
    o.onlyPages ps (d.startLink p incoming) = o.onlyPages ps d := by
  unfold Device.startLink
  (repeat' split) <;> simp (disch := assumption)

@[simp ↓] theorem Device.askLink_pages (d : Device) (p : Port) (m : LinkOut) (incoming : Bool) (hRing : 0x0D ∈ ps) :
    o.onlyPages ps (d.askLink p m incoming) = o.onlyPages ps d := by
  unfold Device.askLink; simp (disch := assumption)

theorem Device.helloSend_pages (d : Device) (p : Port) (incoming : Bool) (hRing : 0x0D ∈ ps) :
    o.onlyPages ps (d.helloSend p incoming) = o.onlyPages ps d := by
  unfold Device.helloSend; simp (disch := assumption)

@[simp ↓] theorem Device.helloReceive_pages (d : Device) (p : Port) (hRing : 0x0D ∈ ps) :
    o.onlyPages ps (d.helloReceive p) = o.onlyPages ps d := by
  cases p <;> unfold Device.helloReceive <;> ((repeat' split) <;> simp (disch := (refine id ?_; with_unfolding_all assumption)))

theorem Device.helloTimeout_pages (d : Device) (p : Port) (hRing : 0x0D ∈ ps) :
    o.onlyPages ps (d.helloTimeout p) = o.onlyPages ps d := by
  unfold Device.helloTimeout; simp (disch := assumption)

theorem Device.pingSend_pages (d : Device) (p : Port) (incoming : Bool) (hRing : 0x0D ∈ ps) :
    o.onlyPages ps (d.pingSend p incoming) = o.onlyPages ps d := by
  unfold Device.pingSend; simp (disch := assumption)

theorem Device.pingReceive_pages (d : Device) (p : Port) (incoming : Bool) (hRing : 0x0D ∈ ps) :
    o.onlyPages ps (d.pingReceive p incoming) = o.onlyPages ps d := by
  unfold Device.pingReceive; split <;> simp (disch := assumption)

@[simp ↓] theorem Device.portRises_pages (d : Device) (p : Port) (hRing : 0x0D ∈ ps) :
    o.onlyPages ps (d.portRises p) = o.onlyPages ps d := by
  cases p <;> unfold Device.portRises <;> simp (disch := (refine id ?_; with_unfolding_all assumption))

@[simp ↓] theorem Device.measured_pages (d : Device) (p : Port) (rs : List Int) (hRing : 0x0D ∈ ps) :
    o.onlyPages ps (d.measured p rs) = o.onlyPages ps d := by
  cases p <;> unfold Device.measured <;> simp (disch := (refine id ?_; with_unfolding_all assumption))

theorem Device.echoReceive_pages (d : Device) (p : Port) (hRing : 0x0D ∈ ps) :
    o.onlyPages ps (d.echoReceive p) = o.onlyPages ps d := by
  unfold Device.echoReceive
  dsimp only
  (repeat' split) <;> simp (disch := assumption)

@[simp ↓] theorem Device.degrade_pages (d : Device) (p : Port) (hRing : 0x0D ∈ ps) :
    o.onlyPages ps (d.degrade p) = o.onlyPages ps d := by
  have hs : (RING.PSTAT (PortIx p)).addr / 256 ∈ ps := by cases p <;> exact hRing
  have hw := fun c n => Device.pages_when (o := o) (ps := ps) d c
    (f := fun d => (d.raise (RING.PSTAT_LINK_DEGRADED (PortIx p))).log Ev.LINK_DEGRADED [PortIx p, n])
    fun d => by simp (disch := assumption)
  unfold Device.degrade; simp (disch := assumption) [hw]

@[simp ↓] theorem Device.linkDegraded_pages (d : Device) (hRing : 0x0D ∈ ps) :
    o.onlyPages ps d.linkDegraded = o.onlyPages ps d := by
  unfold Device.linkDegraded; simp (disch := assumption)

@[simp ↓] theorem Device.cellForward_pages (d : Device) (p : Port) (c : CellBits) (fwdDelay : Nat) (hRing : 0x0D ∈ ps) :
    o.onlyPages ps (d.cellForward p c fwdDelay) = o.onlyPages ps d := by
  cases p <;> unfold Device.cellForward <;> simp (disch := (refine id ?_; with_unfolding_all assumption))

@[simp ↓] theorem Device.cellAbort_pages (d : Device) (p : Port) (hRing : 0x0D ∈ ps) :
    o.onlyPages ps (d.cellAbort p) = o.onlyPages ps d := by
  cases p <;> unfold Device.cellAbort <;> simp (disch := (refine id ?_; with_unfolding_all assumption))

@[simp ↓] theorem Device.rasmTimeout_pages (d : Device) (hRing : 0x0D ∈ ps) :
    o.onlyPages ps d.rasmTimeout = o.onlyPages ps d := by
  unfold Device.rasmTimeout; simp (disch := (refine id ?_; with_unfolding_all assumption))

@[simp ↓] theorem Device.forget_pages (d : Device) (src : Nat) :
    o.onlyPages ps (d.forget src) = o.onlyPages ps d := by
  unfold Device.forget
  (repeat' split) <;> simp

@[simp ↓] theorem Device.quietEnd_pages (d : Device) (hRing : 0x0D ∈ ps) :
    o.onlyPages ps d.quietEnd = o.onlyPages ps d := by
  unfold Device.quietEnd; simp (disch := (refine id ?_; with_unfolding_all assumption))

@[simp ↓] theorem Device.tres_pages (d : Device) (st : Nat) (hRing : 0x0D ∈ ps) :
    o.onlyPages ps (d.tres st) = o.onlyPages ps d := by
  unfold Device.tres; simp (disch := (refine id ?_; with_unfolding_all assumption))

@[simp ↓] theorem Device.sendTrans_pages (d : Device) (t : Trans) :
    o.onlyPages ps (d.sendTrans t) = o.onlyPages ps d := by
  unfold Device.sendTrans; simp

@[simp ↓] theorem Device.startTrans_pages (d : Device) (write : Bool) (hRing : 0x0D ∈ ps) :
    o.onlyPages ps (d.startTrans write) = o.onlyPages ps d := by
  unfold Device.startTrans; simp (disch := (refine id ?_; with_unfolding_all assumption))

@[simp ↓] theorem Device.transTimeout_pages (d : Device) (hRing : 0x0D ∈ ps) :
    o.onlyPages ps d.transTimeout = o.onlyPages ps d := by
  unfold Device.transTimeout
  (repeat' split) <;> simp (disch := (refine id ?_; with_unfolding_all assumption))

theorem Device.responseReceive_pages (d : Device) (hRing : 0x0D ∈ ps) :
    o.onlyPages ps d.responseReceive = o.onlyPages ps d := by
  have hdata : ∀ (e : Device) n v, o.onlyPages ps (e.setFld ⟨RING.TDATA, 0, 8 * n⟩ v) = o.onlyPages ps e := fun e n v =>
    Device.setFld_pages e v (show RING.TDATA.addr / 256 ∈ ps from hRing)
  unfold Device.responseReceive
  split
  · rfl
  · rename_i h
    have ht := Device.takeMsg_pages (o := o) (ps := ps) h
    (repeat' split) <;> simp (disch := assumption) [hdata, ht]

end
end Sys2Proof.Machine

namespace Sys2Proof.Machine

/-! ## Register frames: charger, watchdog, one-time-programmable memory -/

section
variable {o : Device} {ps : List Nat}

theorem otpRstat_page (h : 0x10 ∈ ps) {r : Nat} (hr : r < 6) : (OTP.RSTAT r).addr / 256 ∈ ps := by
  rw [show (OTP.RSTAT r).addr / 256 = 0x10 by simp only [OTP.RSTAT]; omega]; exact h

theorem finalisable_lt {r : Nat} (h : r ∈ finalisable) : r < 6 :=
  (show ∀ r ∈ finalisable, r < 6 by decide) r h

/-! ### Charger -/

@[simp ↓] theorem Device.modChg_pages (d : Device) (f : Charger → Charger) :
    o.onlyPages ps (d.modChg f) = o.onlyPages ps d := by
  unfold Device.modChg; simp

@[simp ↓] theorem Device.setPhase_pages (d : Device) (p : Nat) (hChg : 0x0C ∈ ps) :
    o.onlyPages ps (d.setPhase p) = o.onlyPages ps d := by
  unfold Device.setPhase; simp (disch := (refine id ?_; with_unfolding_all assumption))

@[simp ↓] theorem Device.noteVbat_pages (d : Device) (vbat : Nat) :
    o.onlyPages ps (d.noteVbat vbat) = o.onlyPages ps d := by
  unfold Device.noteVbat; simp

@[simp ↓] theorem Device.chgRegs_pages (d : Device) (v w : Nat) (hChg : 0x0C ∈ ps) :
    o.onlyPages ps (d.chgRegs v w) = o.onlyPages ps d := by
  unfold Device.chgRegs; simp (disch := (refine id ?_; with_unfolding_all assumption))

@[simp ↓] theorem Device.chgTakeBack_pages (d : Device) (x : ChgDone) (hChg : 0x0C ∈ ps) :
    o.onlyPages ps (d.chgTakeBack x) = o.onlyPages ps d := by
  unfold Device.chgTakeBack
  exact (Device.pages_mk ..).trans (Device.chgRegs_pages d _ _ hChg)

@[simp ↓] theorem Device.chgTurn_pages (d : Device) (rank : Nat) (hChg : 0x0C ∈ ps) :
    o.onlyPages ps (d.chgTurn rank).1 = o.onlyPages ps d := by
  unfold Device.chgTurn
  split
  · split
    · rw [Device.pages_ite, Device.chgTakeBack_pages d _ hChg, ite_self]
    · rfl
  · rfl

theorem Device.chgEvent_pages (d : Device) (rank : Nat) (code : Option Nat) (holds : Device → Bool)
    {f : Device → Device} (hChg : 0x0C ∈ ps) (h : ∀ d : Device, o.onlyPages ps (f d) = o.onlyPages ps d) :
    o.onlyPages ps (d.chgEvent rank code holds f) = o.onlyPages ps d := by
  unfold Device.chgEvent
  split
  · exact (Device.pages_mk ..).trans ((h _).trans (Device.chgTurn_pages d rank hChg))
  · rfl

@[simp ↓] theorem Device.enterDetect_pages (d : Device) (hChg : 0x0C ∈ ps) :
    o.onlyPages ps d.enterDetect = o.onlyPages ps d := by
  unfold Device.enterDetect; simp (disch := assumption)

@[simp ↓] theorem Device.chargerGo_pages (d : Device) (hChg : 0x0C ∈ ps) :
    o.onlyPages ps d.chargerGo = o.onlyPages ps d := by
  unfold Device.chargerGo; simp (disch := assumption)

theorem Device.chgin_pages (d : Device) (avail : Bool) (hChg : 0x0C ∈ ps) :
    o.onlyPages ps (d.chgin avail) = o.onlyPages ps d := by
  have hw : ∀ e : Device, o.onlyPages ps (e.when avail fun d => d.raise CHG.STAT_FETON) = o.onlyPages ps e := fun e =>
    Device.pages_when e avail fun d => Device.raise_pages d hChg
  unfold Device.chgin; simp (disch := (refine id ?_; with_unfolding_all assumption)) [hw]

@[simp ↓] theorem Device.newCycle_pages (d : Device) (vbat : Nat) (mayBeDone : Bool) (hChg : 0x0C ∈ ps) :
    o.onlyPages ps (d.newCycle vbat mayBeDone) = o.onlyPages ps d := by
  unfold Device.newCycle; simp (disch := (refine id ?_; with_unfolding_all assumption))

@[simp ↓] theorem Device.detectSample_pages (d : Device) (vbat : Nat) (hChg : 0x0C ∈ ps) :
    o.onlyPages ps (d.detectSample vbat) = o.onlyPages ps d := by
  unfold Device.detectSample; simp (disch := (refine id ?_; with_unfolding_all assumption))

@[simp ↓] theorem Device.detectResult_pages (d : Device) (vbat : Nat) (hChg : 0x0C ∈ ps) :
    o.onlyPages ps (d.detectResult vbat) = o.onlyPages ps d := by
  unfold Device.detectResult; simp (disch := (refine id ?_; with_unfolding_all assumption))

@[simp ↓] theorem Device.detectRepeat_pages (d : Device) (hChg : 0x0C ∈ ps) :
    o.onlyPages ps d.detectRepeat = o.onlyPages ps d := by
  unfold Device.detectRepeat; simp (disch := assumption)

@[simp ↓] theorem Device.nextPhase_pages (d : Device) (vbat : Nat) (hChg : 0x0C ∈ ps) (hRing : 0x0D ∈ ps) :
    o.onlyPages ps (d.nextPhase vbat) = o.onlyPages ps d := by
  unfold Device.nextPhase; simp (disch := (refine id ?_; with_unfolding_all assumption))

theorem Device.phaseChange_pages (d : Device) (vbat ibat held : Nat) (vloop : Bool) (hChg : 0x0C ∈ ps)
    (hRing : 0x0D ∈ ps) :
    o.onlyPages ps (d.phaseChange vbat ibat held vloop) = o.onlyPages ps d :=
  (Device.chgEvent_pages _ _ _ _ hChg fun d => Device.nextPhase_pages d vbat hChg hRing).trans
    (Device.noteVbat_pages d vbat)

@[simp ↓] theorem Device.chgTrip_pages (d : Device) {bit : Field} (ev : Nat) (args : List Nat) (hChg : 0x0C ∈ ps)
    (hRing : 0x0D ∈ ps) (hb : bit.reg.addr / 256 ∈ ps) : o.onlyPages ps (d.chgTrip bit ev args) = o.onlyPages ps d := by
  unfold Device.chgTrip; simp (disch := assumption)

theorem Device.batShort_pages (d : Device) (vbat : Nat) (hChg : 0x0C ∈ ps) (hRing : 0x0D ∈ ps) :
    o.onlyPages ps (d.batShort vbat) = o.onlyPages ps d :=
  (Device.chgEvent_pages _ _ _ _ hChg fun d => Device.chgTrip_pages d _ _ hChg hRing (show CHG.STAT.addr / 256 ∈ ps
    from hChg)).trans
    (Device.noteVbat_pages d vbat)

theorem Device.batOv_pages (d : Device) (vbat held : Nat) (hChg : 0x0C ∈ ps) (hRing : 0x0D ∈ ps) :
    o.onlyPages ps (d.batOv vbat held) = o.onlyPages ps d :=
  (Device.chgEvent_pages _ _ _ _ hChg fun d => Device.chgTrip_pages d _ _ hChg hRing (show CHG.STAT.addr / 256 ∈ ps
    from hChg)).trans
    (Device.noteVbat_pages d vbat)

@[simp ↓] theorem Device.removed_pages (d : Device) (hChg : 0x0C ∈ ps) (hRing : 0x0D ∈ ps) :
    o.onlyPages ps d.removed = o.onlyPages ps d := by
  unfold Device.removed; simp (disch := (refine id ?_; with_unfolding_all assumption))

theorem Device.batRemoved_pages (d : Device) (ibat0 ibat1 vbat : Nat) (hChg : 0x0C ∈ ps) (hRing : 0x0D ∈ ps) :
    o.onlyPages ps (d.batRemoved ibat0 ibat1 vbat) = o.onlyPages ps d :=
  (Device.chgEvent_pages _ _ _ _ hChg fun d => Device.removed_pages d hChg hRing).trans (Device.noteVbat_pages d vbat)

theorem Device.removalCheck_pages (d : Device) (vbat : Nat) (hChg : 0x0C ∈ ps) (hRing : 0x0D ∈ ps) :
    o.onlyPages ps (d.removalCheck vbat) = o.onlyPages ps d := by
  unfold Device.removalCheck
  split
  · exact (Device.chgEvent_pages _ _ _ _ hChg fun d => Device.removed_pages d hChg hRing).trans (by simp)
  · rfl

@[simp ↓] theorem Device.batCutoff_pages (d : Device) (vbat held : Nat) (hChg : 0x0C ∈ ps) (hRing : 0x0D ∈ ps) :
    o.onlyPages ps (d.batCutoff vbat held) = o.onlyPages ps d := by
  unfold Device.batCutoff; simp (disch := (refine id ?_; with_unfolding_all assumption))

@[simp ↓] theorem Device.chgClr_pages (d : Device) (hChg : 0x0C ∈ ps) :
    o.onlyPages ps d.chgClr = o.onlyPages ps d := by
  unfold Device.chgClr; simp (disch := assumption)

/-! ### Watchdog -/

@[simp ↓] theorem Device.modWdt_pages (d : Device) (f : Wdt → Wdt) :
    o.onlyPages ps (d.modWdt f) = o.onlyPages ps d := by
  unfold Device.modWdt; simp

@[simp ↓] theorem Device.bootPeriod_pages (d : Device) (hWdt : 0x0B ∈ ps) :
    o.onlyPages ps d.bootPeriod = o.onlyPages ps d := by
  unfold Device.bootPeriod; simp (disch := (refine id ?_; with_unfolding_all assumption))

@[simp ↓] theorem Device.prewarn_pages (d : Device) (hWdt : 0x0B ∈ ps) (hRing : 0x0D ∈ ps) :
    o.onlyPages ps d.prewarn = o.onlyPages ps d := by
  unfold Device.prewarn; simp (disch := (refine id ?_; with_unfolding_all assumption))

theorem Device.clkdev_pages (d : Device) (edges : Nat) (monStopped : Bool) (hWdt : 0x0B ∈ ps) (hRing : 0x0D ∈ ps) :
    o.onlyPages ps (d.clkdev edges monStopped) = o.onlyPages ps d := by
  have hw : ∀ (e : Device) c ev args, o.onlyPages ps (e.when c fun d => d.log ev args) = o.onlyPages ps e :=
    fun e c ev args => Device.pages_when e c fun d => Device.log_pages d ev args false hRing
  unfold Device.clkdev; simp (disch := (refine id ?_; with_unfolding_all assumption)) [hw]

@[simp ↓] theorem Device.wdxEnd_pages (d : Device) :
    o.onlyPages ps d.wdxEnd = o.onlyPages ps d := by
  unfold Device.wdxEnd
  (repeat' split) <;> simp

@[simp ↓] theorem Device.resetRelease_pages (d : Device) (hSys : 0x00 ∈ ps) (hWdt : 0x0B ∈ ps) :
    o.onlyPages ps d.resetRelease = o.onlyPages ps d := by
  unfold Device.resetRelease
  (repeat' split) <;> simp (disch := (refine id ?_; with_unfolding_all assumption))

/-! ### One-time-programmable memory -/

@[simp ↓] theorem Device.modOtp_pages (d : Device) (f : Otp → Otp) : o.onlyPages ps (d.modOtp f) = o.onlyPages ps d :=
  Device.onlyPages_congr rfl

@[simp ↓] theorem Device.otpCounts_pages (d : Device)
    (hOtp : 0x10 ∈ ps) : o.onlyPages ps d.otpCounts = o.onlyPages ps d := by
  have he := fun (a : Device → Nat → Nat) (b : Nat → Bool) => Device.pages_each (o := o) (ps := ps) (l := List.range 6)
    (f := fun d r => (d.setFld (OTP.RSTAT_WEAKCNT r) (a d r)).setFlag (OTP.RSTAT_ATRISK r) (b r))
    (fun r hr e => by
      have hp := otpRstat_page hOtp (List.mem_range.1 hr)
      simp (disch := assumption)) d
  exact (Device.wr_pages _ _ hOtp).trans (he _ _)

@[simp ↓] theorem Device.floorRegs_pages (d : Device) (hSec : 0x11 ∈ ps) :
    o.onlyPages ps d.floorRegs = o.onlyPages ps d := by
  unfold Device.floorRegs; simp (disch := (refine id ?_; with_unfolding_all assumption))

@[simp ↓] theorem Device.burnedReg_pages (d : Device) (hSec : 0x11 ∈ ps) :
    o.onlyPages ps d.burnedReg = o.onlyPages ps d := by
  unfold Device.burnedReg; simp (disch := (refine id ?_; with_unfolding_all assumption))

@[simp ↓] theorem Device.otpRefused_pages (d : Device) (why : Nat) (hOtp : 0x10 ∈ ps) :
    o.onlyPages ps (d.otpRefused why) = o.onlyPages ps d := by
  unfold Device.otpRefused; simp (disch := (refine id ?_; with_unfolding_all assumption))

@[simp ↓] theorem Device.otpRun_pages (d : Device) (run : OtpRun) (f : Otp → Otp) (hOtp : 0x10 ∈ ps) :
    o.onlyPages ps (d.otpRun run f) = o.onlyPages ps d := by
  unfold Device.otpRun; simp (disch := (refine id ?_; with_unfolding_all assumption))

theorem Device.otpCommand_pages (d : Device) (w : Writer) (env : EnergyEnv) {f : Device → Device} (hRing : 0x0D ∈ ps)
    (hOtp : 0x10 ∈ ps) (h : ∀ d : Device, o.onlyPages ps (f d) = o.onlyPages ps d) :
    o.onlyPages ps (d.otpCommand w env f) = o.onlyPages ps d :=
  Device.asWright_pages d w _ _ hRing fun d => by
    split
    · exact Device.otpRefused_pages d _ hOtp
    · exact h d

theorem Device.otpProgram_pages (d : Device) (env : EnergyEnv) (bad : BurnFailures) (hOtp : 0x10 ∈ ps) :
    o.onlyPages ps (d.otpProgram env bad) = o.onlyPages ps d := by
  unfold Device.otpProgram; simp (disch := assumption)

theorem Device.otpFinalise_pages (d : Device) (env : EnergyEnv) (bad : BurnFailures) (hOtp : 0x10 ∈ ps) :
    o.onlyPages ps (d.otpFinalise env bad) = o.onlyPages ps d := by
  unfold Device.otpFinalise
  dsimp only
  split
  · exact Device.otpRefused_pages d _ hOtp
  next hf =>
    have hr : otpAddr d ∈ finalisable := by simpa using hf
    have hp := otpRstat_page hOtp (finalisable_lt hr)
    simp (disch := assumption)

theorem Device.otpReburn_pages (d : Device) (env : EnergyEnv) (bad : BurnFailures) (hOtp : 0x10 ∈ ps) :
    o.onlyPages ps (d.otpReburn env bad) = o.onlyPages ps d := by
  unfold Device.otpReburn; simp (disch := assumption)

theorem Device.otpRepair_pages (d : Device) (env : EnergyEnv) (bad : BurnFailures) (hRing : 0x0D ∈ ps)
    (hOtp : 0x10 ∈ ps) :
    o.onlyPages ps (d.otpRepair env bad) = o.onlyPages ps d := by
  unfold Device.otpRepair
  dsimp only
  (repeat' split) <;> simp (disch := (refine id ?_; with_unfolding_all assumption))

@[simp ↓] theorem Device.finalDone_pages (d : Device) {r : Nat} (hRing : 0x0D ∈ ps) (hOtp : 0x10 ∈ ps) (hr : r < 6) :
    o.onlyPages ps (d.finalDone r) = o.onlyPages ps d := by
  have hp := otpRstat_page hOtp hr
  unfold Device.finalDone; simp (disch := (refine id ?_; with_unfolding_all assumption))

@[simp ↓] theorem Device.verifyFailed_pages (d : Device) (a : Nat) (hRing : 0x0D ∈ ps) (hOtp : 0x10 ∈ ps) :
    o.onlyPages ps (d.verifyFailed a) = o.onlyPages ps d := by
  unfold Device.verifyFailed; simp (disch := (refine id ?_; with_unfolding_all assumption))

@[simp ↓] theorem Device.repaired_pages (d : Device) (a : Nat) (hRing : 0x0D ∈ ps) (hOtp : 0x10 ∈ ps) :
    o.onlyPages ps (d.repaired a) = o.onlyPages ps d := by
  unfold Device.repaired; simp (disch := (refine id ?_; with_unfolding_all assumption))

@[simp ↓] theorem Device.lockSet_pages (d : Device) (v : Nat) (hOtp : 0x10 ∈ ps) :
    o.onlyPages ps (d.lockSet v) = o.onlyPages ps d := by
  unfold Device.lockSet; simp (disch := (refine id ?_; with_unfolding_all assumption))

@[simp ↓] theorem Device.completeRegion_pages (d : Device) (env : EnergyEnv) (bad : BurnFailures) {r : Nat}
    (hRing : 0x0D ∈ ps) (hOtp : 0x10 ∈ ps) (hr : r < 6) :
    o.onlyPages ps (d.completeRegion env bad r) = o.onlyPages ps d := by
  have hp := otpRstat_page hOtp hr
  unfold Device.completeRegion; simp (disch := (refine id ?_; with_unfolding_all assumption))

theorem Device.completeMarker_pages (d : Device) (env : EnergyEnv) (bad : BurnFailures) (i : Nat) (hRing : 0x0D ∈ ps)
    (hOtp : 0x10 ∈ ps) : o.onlyPages ps (d.completeMarker env bad i) = o.onlyPages ps d := by
  unfold Device.completeMarker; simp (disch := assumption)

theorem Device.sessionReburn_pages (d : Device) (env : EnergyEnv) (bad : BurnFailures) (l : Nat) (hRing : 0x0D ∈ ps)
    (hOtp : 0x10 ∈ ps) : o.onlyPages ps (d.sessionReburn env bad l) = o.onlyPages ps d := by
  unfold Device.sessionReburn; simp (disch := assumption)

theorem Device.sessionRepair_pages (d : Device) (env : EnergyEnv) (bad : BurnFailures) (p : Nat) (hRing : 0x0D ∈ ps)
    (hOtp : 0x10 ∈ ps) : o.onlyPages ps (d.sessionRepair env bad p) = o.onlyPages ps d := by
  unfold Device.sessionRepair
  (repeat' split) <;> simp (disch := (refine id ?_; with_unfolding_all assumption))

theorem Device.otpSession_pages (d : Device) (env : EnergyEnv) (bad : BurnFailures) (hRing : 0x0D ∈ ps)
    (hOtp : 0x10 ∈ ps) (hSec : 0x11 ∈ ps) : o.onlyPages ps (d.otpSession env bad) = o.onlyPages ps d := by
  have hreg := fun e : Device => Device.pages_each (o := o) (ps := ps) (l := finalisable)
    (fun r hr d => Device.completeRegion_pages d env bad hRing hOtp (finalisable_lt hr)) e
  have hmark := fun e : Device => Device.pages_each (o := o) (ps := ps) (l := List.range 4)
    (fun i _ d => Device.completeMarker_pages d env bad i hRing hOtp) e
  have hburn := fun (e : Device) l => Device.pages_each (o := o) (ps := ps) (l := l)
    (fun l _ d => Device.sessionReburn_pages d env bad l hRing hOtp) e
  have hrep := fun (e : Device) l => Device.pages_each (o := o) (ps := ps) (l := l)
    (fun p _ d => Device.sessionRepair_pages d env bad p hRing hOtp) e
  unfold Device.otpSession
  simp (disch := (refine id ?_; with_unfolding_all assumption)) [hreg, hmark, hburn, hrep]

/-! ### Images -/

@[simp ↓] theorem Device.modStore_pages (d : Device) (f : Store → Store) : o.onlyPages ps
    (d.modStore f) = o.onlyPages ps d :=
  Device.onlyPages_congr rfl

@[simp ↓] theorem Device.flashWrite_pages (d : Device) (a : Nat) (bs : List Nat) :
    o.onlyPages ps (d.flashWrite a bs) = o.onlyPages ps d := Device.modStore_pages d _

@[simp ↓] theorem Device.authenticate_pages (d : Device) (rig : Bool) (slot : Nat) (hRing : 0x0D ∈ ps)
    (hSec : 0x11 ∈ ps) :
    o.onlyPages ps (d.authenticate rig slot).1 = o.onlyPages ps d := by
  unfold Device.authenticate
  dsimp only
  (repeat' split) <;> simp (disch := (refine id ?_; with_unfolding_all assumption))

end
end Sys2Proof.Machine

namespace Sys2Proof.Machine

/-! ## Register frames: data store, life cycle and keys -/

section
variable {o : Device} {ps : List Nat}

/-! ### Values left open -/

@[simp ↓] theorem Device.nextFree_pages (d : Device) :
    o.onlyPages ps d.nextFree = o.onlyPages ps d := by
  unfold Device.nextFree; simp

/-! ### Store -/

@[simp ↓] theorem Device.storeEnergy_pages (d : Device) (env : EnergyEnv) (us : Nat) (hStore : 0x0E ∈ ps) :
    o.onlyPages ps (d.storeEnergy env us).2 = o.onlyPages ps d := by
  unfold Device.storeEnergy; simp (disch := (refine id ?_; with_unfolding_all assumption))

@[simp ↓] theorem Device.spareCount_pages (d : Device) (hStore : 0x0E ∈ ps) :
    o.onlyPages ps d.spareCount = o.onlyPages ps d := by
  unfold Device.spareCount; simp (disch := (refine id ?_; with_unfolding_all assumption))

@[simp ↓] theorem Device.retire_pages (d : Device) (k cause : Nat) (hRing : 0x0D ∈ ps) (hStore : 0x0E ∈ ps) :
    o.onlyPages ps (d.retire k cause) = o.onlyPages ps d := by
  unfold Device.retire
  (repeat' split) <;> simp (disch := (refine id ?_; with_unfolding_all assumption))

@[simp ↓] theorem Device.retireNext_pages (d : Device) (env : EnergyEnv) (hRing : 0x0D ∈ ps) (hStore : 0x0E ∈ ps) :
    o.onlyPages ps (d.retireNext env) = o.onlyPages ps d := by
  unfold Device.retireNext
  split
  · rfl
  · simp (disch := assumption)

@[simp ↓] theorem Device.queueRegs_pages (d : Device) (hStore : 0x0E ∈ ps) :
    o.onlyPages ps d.queueRegs = o.onlyPages ps d := by
  unfold Device.queueRegs; simp (disch := (refine id ?_; with_unfolding_all assumption))

@[simp ↓] theorem Device.enqueue_pages (d : Device) (q : List (RecBody × Nat)) (hStore : 0x0E ∈ ps) :
    o.onlyPages ps (d.enqueue q) = o.onlyPages ps d := by
  unfold Device.enqueue; simp (disch := (refine id ?_; with_unfolding_all assumption))

@[simp ↓] theorem Device.defer_pages (d : Device) (b : RecBody) (t : Nat) (hRing : 0x0D ∈ ps) (hStore : 0x0E ∈ ps) :
    o.onlyPages ps (d.defer b t) = o.onlyPages ps d := by
  unfold Device.defer; simp (disch := (refine id ?_; with_unfolding_all assumption))

@[simp ↓] theorem Device.startOp_pages (d : Device) (op : StoreOp) (hStore : 0x0E ∈ ps) :
    o.onlyPages ps (d.startOp op) = o.onlyPages ps d := by
  unfold Device.startOp; simp (disch := (refine id ?_; with_unfolding_all assumption))

@[simp ↓] theorem Device.mayWrite_pages (d : Device) (env : EnergyEnv) (b : RecBody) (hStore : 0x0E ∈ ps) :
    o.onlyPages ps (d.mayWrite env b).2 = o.onlyPages ps d := by
  unfold Device.mayWrite
  (repeat' split) <;> simp (disch := assumption)

@[simp ↓] theorem Device.eraseAhead_pages (d : Device) (env : EnergyEnv) (hStore : 0x0E ∈ ps) :
    o.onlyPages ps (d.eraseAhead env) = o.onlyPages ps d := by
  unfold Device.eraseAhead; simp (disch := assumption)

theorem Device.startRec_pages {d rest : Device} (b : RecBody) (t : Nat) (hStore : 0x0E ∈ ps)
    (h : o.onlyPages ps rest = o.onlyPages ps d) : o.onlyPages ps (d.startRec rest b t) = o.onlyPages ps d := by
  unfold Device.startRec; simp (disch := assumption) [h]

theorem Device.recordWrite_pages (d : Device) (env : EnergyEnv) (hRing : 0x0D ∈ ps) (hStore : 0x0E ∈ ps) :
    o.onlyPages ps (d.recordWrite env) = o.onlyPages ps d := by
  unfold Device.recordWrite
  split
  · rfl
  split
  · exact Device.retireNext_pages d env hRing hStore
  split
  · exact Device.eraseAhead_pages d env hStore
  next b t rest _ =>
    have hm := Device.mayWrite_pages (o := o) d env b hStore
    have hr : o.onlyPages ps { rest with regs := (d.mayWrite env b).2.regs } = o.onlyPages ps (d.mayWrite env b).2 :=
      Device.onlyPages_congr rfl
    dsimp only
    split
    · exact (Device.startRec_pages b t hStore hr).trans hm
    · exact (Device.defer_pages _ b t hRing hStore).trans (hr.trans hm)

theorem Device.storeRetry_pages (d : Device) (env : EnergyEnv) (hRing : 0x0D ∈ ps) (hStore : 0x0E ∈ ps) :
    o.onlyPages ps (d.storeRetry env) = o.onlyPages ps d := by
  unfold Device.storeRetry
  split
  · rfl
  split
  · exact Device.retireNext_pages d env hRing hStore
  split
  · exact Device.eraseAhead_pages d env hStore
  next b t rest _ =>
    split
    · rfl
    dsimp only
    generalize hd : d.modStore _ = d1
    have hm : o.onlyPages ps (d1.mayWrite env b).2 = o.onlyPages ps d :=
      (Device.mayWrite_pages d1 env b hStore).trans (hd ▸ Device.modStore_pages d _)
    split
    · split
      · exact hm
      · exact (Device.eraseAhead_pages _ env hStore).trans hm
    · split
      · exact (Device.startRec_pages _ _ hStore (Device.modStore_pages _ _)).trans hm
      · exact (Device.startRec_pages b t hStore (by simp (disch := assumption))).trans hm

@[simp ↓] theorem Device.journalDue_pages (d : Device) (bs : List RecBody) :
    o.onlyPages ps (d.journalDue bs) = o.onlyPages ps d := by
  unfold Device.journalDue; simp

@[simp ↓] theorem Device.counterJournal_pages (d : Device) (hCnt : 0x13 ∈ ps) :
    o.onlyPages ps d.counterJournal = o.onlyPages ps d := by
  unfold Device.counterJournal; simp (disch := (refine id ?_; with_unfolding_all assumption))

theorem Device.latencyJournal_pages (d : Device) : o.onlyPages ps d.latencyJournal = o.onlyPages ps d := by
  unfold Device.latencyJournal
  (repeat' split) <;> simp

theorem Device.clockJournal_pages (d : Device) : o.onlyPages ps d.clockJournal = o.onlyPages ps d := by
  unfold Device.clockJournal
  (repeat' split) <;> simp

theorem cntReg_page (h : 0x13 ∈ ps) {i : Nat} {r : Reg} (hr : cntReg i = some r) : r.addr / 256 ∈ ps := by
  have e : ∀ {a : Nat}, 0x1300 ≤ a → a < 0x1400 → a / 256 ∈ ps := fun {a} h1 h2 => by
    rw [show a / 256 = 0x13 by omega]; exact h
  unfold cntReg at hr
  simp only [Option.ite_none_right_eq_some, Option.some.injEq] at hr
  obtain ⟨hj, rfl⟩ := hr
  refine e ?_ ?_ <;> split <;>
    simp only [CNT.UV, CNT.OV, CNT.OC, CNT.CHAT, CNT.STO, CNT.TRIP] <;> omega

theorem Device.cntClear_pages (d : Device) (v : Nat) (hCnt : 0x13 ∈ ps) :
    o.onlyPages ps (d.cntClear v) = o.onlyPages ps d := by
  have he := fun l => Device.pages_each (o := o) (ps := ps) (l := l)
    (f := fun d i => (cntReg i).elim d fun r => d.wr r 0) (fun i _ d => by
      cases hi : cntReg i with
      | none => rfl
      | some r => exact Device.wr_pages d 0 (cntReg_page hCnt hi)) d
  unfold Device.cntClear
  simp (disch := (refine id ?_; with_unfolding_all assumption)) [he]

@[simp ↓] theorem Device.writeWall_pages (d : Device) (v : Nat) (hStore : 0x0E ∈ ps) :
    o.onlyPages ps (d.writeWall v) = o.onlyPages ps d := by
  unfold Device.writeWall; simp (disch := (refine id ?_; with_unfolding_all assumption))

@[simp ↓] theorem Device.beginScrub_pages (d : Device) (hStore : 0x0E ∈ ps) :
    o.onlyPages ps d.beginScrub = o.onlyPages ps d := by
  unfold Device.beginScrub; simp (disch := (refine id ?_; with_unfolding_all assumption))

@[simp ↓] theorem Device.scrubStart_pages (d : Device) (hStore : 0x0E ∈ ps) :
    o.onlyPages ps d.scrubStart = o.onlyPages ps d := by
  unfold Device.scrubStart; simp (disch := assumption)

@[simp ↓] theorem Device.putBlock_pages (d : Device) (rig : Bool) (slot b : Nat) (bs : List Nat) (hRing : 0x0D ∈ ps)
    (hStore : 0x0E ∈ ps) : o.onlyPages ps (d.putBlock rig slot b bs) = o.onlyPages ps d := by
  unfold Device.putBlock; simp (disch := assumption)

@[simp ↓] theorem Device.writeXaddr_pages (d : Device) (v : Nat) (hStore : 0x0E ∈ ps) :
    o.onlyPages ps (d.writeXaddr v) = o.onlyPages ps d := by
  unfold Device.writeXaddr; simp (disch := (refine id ?_; with_unfolding_all assumption))

@[simp ↓] theorem Device.programStaged_pages (d : Device) (env : EnergyEnv) (hRing : 0x0D ∈ ps) (hStore : 0x0E ∈ ps) :
    o.onlyPages ps (d.programStaged env) = o.onlyPages ps d := by
  unfold Device.programStaged
  dsimp only
  (repeat' split) <;> simp (disch := (refine id ?_; with_unfolding_all assumption))

theorem Device.writeXdata_pages (d : Device) (v : Nat) (env : EnergyEnv) (hRing : 0x0D ∈ ps) (hStore : 0x0E ∈ ps) :
    o.onlyPages ps (d.writeXdata v env) = o.onlyPages ps d := by
  unfold Device.writeXdata; simp (disch := assumption)

@[simp ↓] theorem Device.readXdata_pages (d : Device) (hStore : 0x0E ∈ ps) :
    o.onlyPages ps d.readXdata = o.onlyPages ps d := by
  unfold Device.readXdata; simp (disch := (refine id ?_; with_unfolding_all assumption))

/-! ### Life cycle, keys and debug -/

@[simp ↓] theorem Device.modSec_pages (d : Device) (f : Security → Security) :
    o.onlyPages ps (d.modSec f) = o.onlyPages ps d := by
  unfold Device.modSec; simp

@[simp ↓] theorem Device.lcRefused_pages (d : Device) (why : Nat) (hSec : 0x11 ∈ ps) :
    o.onlyPages ps (d.lcRefused why) = o.onlyPages ps d := by
  unfold Device.lcRefused; simp (disch := (refine id ?_; with_unfolding_all assumption))

theorem Device.burnLife_pages (d : Device) (bad : BurnFailures) (i mask : Nat) (hRing : 0x0D ∈ ps) (hOtp : 0x10 ∈ ps) :
    o.onlyPages ps (d.burnLife bad i mask) = o.onlyPages ps d := by
  unfold Device.burnLife; simp (disch := assumption)

theorem Device.lifecmd_pages (d : Device) (w : Writer) (v : Nat) (env : EnergyEnv) (bad : BurnFailures)
    (hRing : 0x0D ∈ ps) (hOtp : 0x10 ∈ ps) (hSec : 0x11 ∈ ps) :
    o.onlyPages ps (d.lifecmd w v env bad) = o.onlyPages ps d := by
  have he := fun l => Device.pages_each (o := o) (ps := ps) (l := l)
    (fun i _ d => Device.burnLife_pages d bad i 0xFFFFFFFF hRing hOtp) d
  unfold Device.lifecmd
  dsimp only
  (repeat' split) <;> simp (disch := (refine id ?_; with_unfolding_all assumption)) [he]

theorem Device.revoke_pages (d : Device) (w : Writer) (v : Nat) (env : EnergyEnv) (bad : BurnFailures)
    (hRing : 0x0D ∈ ps) (hOtp : 0x10 ∈ ps) (hSec : 0x11 ∈ ps) :
    o.onlyPages ps (d.revoke w v env bad) = o.onlyPages ps d := by
  have hb := fun i m => Device.burnLife_pages (o := o) d bad i m hRing hOtp
  unfold Device.revoke
  dsimp only
  (repeat' split) <;> simp (disch := assumption) [hb]

@[simp ↓] theorem Device.newNonce_pages (d : Device) :
    o.onlyPages ps d.newNonce = o.onlyPages ps d := by
  unfold Device.newNonce; simp

@[simp ↓] theorem Device.haltRelease_pages (d : Device) (hWdt : 0x0B ∈ ps) (hSec : 0x11 ∈ ps) :
    o.onlyPages ps d.haltRelease = o.onlyPages ps d := by
  unfold Device.haltRelease; simp (disch := (refine id ?_; with_unfolding_all assumption))

@[simp ↓] theorem Device.endAuth_pages (d : Device) (hWdt : 0x0B ∈ ps) (hSec : 0x11 ∈ ps) :
    o.onlyPages ps d.endAuth = o.onlyPages ps d := by
  unfold Device.endAuth; simp (disch := (refine id ?_; with_unfolding_all assumption))

@[simp ↓] theorem Device.grant_pages (d : Device) (scope : Nat) (hSec : 0x11 ∈ ps) :
    o.onlyPages ps (d.grant scope) = o.onlyPages ps d := by
  unfold Device.grant; simp (disch := (refine id ?_; with_unfolding_all assumption))

@[simp ↓] theorem Device.debugAuth_pages (d : Device) (slot scope : Nat) (pubkey sig : BitVec 512) (age : Nat)
    (hRing : 0x0D ∈ ps) (hSec : 0x11 ∈ ps) :
    o.onlyPages ps (d.debugAuth slot scope pubkey sig age) = o.onlyPages ps d := by
  unfold Device.debugAuth; simp (disch := (refine id ?_; with_unfolding_all assumption))

end
end Sys2Proof.Machine

namespace Sys2Proof.Machine

/-! ## Register frames: updates, the service port, messages, the two-wire port -/

section
variable {o : Device} {ps : List Nat}

theorem slotIx_page (h : 0x0F ∈ ps) (d : Device) (rig : Bool) : (UPD.SLOTID (slotIx rig (d.inactiveSlot rig))).addr / 256 ∈ ps ∧
    (UPD.SLOTVER (slotIx rig (d.inactiveSlot rig))).addr / 256 ∈ ps := by
  have hs : slotIx rig (d.inactiveSlot rig) < 4 := by
    unfold slotIx Device.inactiveSlot; split <;> omega
  generalize slotIx rig (d.inactiveSlot rig) = i at hs
  rw [show (UPD.SLOTID i).addr / 256 = 0x0F by simp only [UPD.SLOTID]; omega,
    show (UPD.SLOTVER i).addr / 256 = 0x0F by simp only [UPD.SLOTVER]; omega]
  exact ⟨h, h⟩

/-! ### Update -/

@[simp ↓] theorem Device.modUpd_pages (d : Device) (f : Upd → Upd) : o.onlyPages ps (d.modUpd f) = o.onlyPages ps d :=
  Device.onlyPages_congr rfl

@[simp ↓] theorem Device.res_pages (d : Device) (code : Nat) (hUpd : 0x0F ∈ ps) :
    o.onlyPages ps (d.res code).1 = o.onlyPages ps d := Device.wr_pages d _ hUpd

@[simp ↓] theorem Device.updRefused_pages (d : Device) (code : Nat) (hRing : 0x0D ∈ ps) (hUpd : 0x0F ∈ ps) :
    o.onlyPages ps (d.updRefused code).1 = o.onlyPages ps d := by
  unfold Device.updRefused; simp (disch := (refine id ?_; with_unfolding_all assumption))

@[simp ↓] theorem Device.setX_pages (d : Device) (x : Nat) (hUpd : 0x0F ∈ ps) :
    o.onlyPages ps (d.setX x) = o.onlyPages ps d := Device.setFld_pages d _ hUpd

theorem Device.openTransfer_pages (d : Device) (kind len : Nat) (hRing : 0x0D ∈ ps) (hUpd : 0x0F ∈ ps) :
    o.onlyPages ps (d.openTransfer kind len).1 = o.onlyPages ps d := by
  unfold Device.openTransfer
  dsimp only
  split
  · exact Device.res_pages d _ hUpd
  split
  · exact Device.updRefused_pages d _ hRing hUpd
  split
  · exact Device.updRefused_pages d _ hRing hUpd
  · generalize hd : Device.wr _ UPD.RXMAP 0 = d1
    have h1 : o.onlyPages ps d1 = o.onlyPages ps d := by
      rw [← hd]; simp (disch := (refine id ?_; with_unfolding_all assumption))
    obtain ⟨hid, -⟩ := slotIx_page hUpd d1 (kind == 1)
    simp (disch := assumption) [h1]

@[simp ↓] theorem Device.markBlock_pages (d : Device) (off : Nat) (hUpd : 0x0F ∈ ps) :
    o.onlyPages ps (d.markBlock off) = o.onlyPages ps d := by
  unfold Device.markBlock; simp (disch := (refine id ?_; with_unfolding_all assumption))

theorem Device.receiveData_pages (d : Device) (off : Nat) (data : List Nat) (env : EnergyEnv) (hStore : 0x0E ∈ ps)
    (hUpd : 0x0F ∈ ps) : o.onlyPages ps (d.receiveData off data env).1 = o.onlyPages ps d := by
  unfold Device.receiveData
  dsimp only
  (repeat' split) <;> simp (disch := (refine id ?_; with_unfolding_all assumption))

theorem Device.closeTransfer_pages (d : Device) (hUpd : 0x0F ∈ ps) :
    o.onlyPages ps d.closeTransfer.1 = o.onlyPages ps d := by
  unfold Device.closeTransfer
  (repeat' split) <;> simp (disch := (refine id ?_; with_unfolding_all assumption))

@[simp ↓] theorem Device.putTrailer_pages (d : Device) (rig : Bool) (slot : Nat) :
    o.onlyPages ps (d.putTrailer rig slot) = o.onlyPages ps d :=
  Device.pages_each (fun _ _ d => Device.flashWrite_pages d _ _) d

@[simp ↓] theorem Device.imageBad_pages (d : Device) (code : Nat) (hRing : 0x0D ∈ ps) (hUpd : 0x0F ∈ ps) :
    o.onlyPages ps (d.imageBad code) = o.onlyPages ps d := by
  unfold Device.imageBad; simp (disch := (refine id ?_; with_unfolding_all assumption))

theorem Device.verifyDone_pages (d : Device) (hRing : 0x0D ∈ ps) (hUpd : 0x0F ∈ ps) (hSec : 0x11 ∈ ps) :
    o.onlyPages ps d.verifyDone = o.onlyPages ps d := by
  obtain ⟨hid, hver⟩ := slotIx_page hUpd d d.xrig
  have hres : UPD.RES.addr / 256 ∈ ps := hUpd
  have hstat : UPD.STAT.addr / 256 ∈ ps := hUpd
  unfold Device.verifyDone
  dsimp only
  (repeat' split) <;> simp (disch := assumption)

@[simp ↓] theorem Device.takeActivate_pages (d : Device) (p : List Nat) (hRing : 0x0D ∈ ps) (hUpd : 0x0F ∈ ps) :
    o.onlyPages ps (d.takeActivate p).1 = o.onlyPages ps d := by
  unfold Device.takeActivate
  dsimp only
  (repeat' split) <;> simp (disch := (refine id ?_; with_unfolding_all assumption))

theorem Device.activateReceive_pages (d : Device) (hRing : 0x0D ∈ ps) (hUpd : 0x0F ∈ ps) :
    o.onlyPages ps d.activateReceive = o.onlyPages ps d := by
  unfold Device.activateReceive
  split
  · rfl
  split
  · rfl
  next h => exact (Device.takeActivate_pages _ _ hRing hUpd).trans (Device.takeMsg_pages h)

@[simp ↓] theorem Device.sendActivate_pages (d : Device) (p : List Nat) :
    o.onlyPages ps (d.sendActivate p) = o.onlyPages ps d :=
  (Device.modUpd_pages _ _).trans (Device.queueMsg_pages d ..)

@[simp ↓] theorem Device.activate_pages (d : Device) (epoch cond id tgt : Nat) (hRing : 0x0D ∈ ps) (hUpd : 0x0F ∈ ps) :
    o.onlyPages ps (d.activate epoch cond id tgt).1 = o.onlyPages ps d := by
  unfold Device.activate
  (repeat' split) <;> simp (disch := assumption)

theorem Device.activateRegs_pages (d : Device) (hRing : 0x0D ∈ ps) (hUpd : 0x0F ∈ ps) :
    o.onlyPages ps d.activateRegs = o.onlyPages ps d := Device.activate_pages d _ _ _ _ hRing hUpd

theorem Device.abortUpdate_pages (d : Device) (hRing : 0x0D ∈ ps) (hUpd : 0x0F ∈ ps) :
    o.onlyPages ps d.abortUpdate = o.onlyPages ps d := by
  unfold Device.abortUpdate; simp (disch := assumption)

theorem Device.suspendEnd_pages (d : Device) : o.onlyPages ps d.suspendEnd = o.onlyPages ps d := by
  unfold Device.suspendEnd
  (repeat' split) <;> simp

/-! ### Two-wire controller -/

theorem Device.twiStart_pages (d : Device) (w : Writer) (v : Nat) (hTwi : 0x12 ∈ ps) :
    o.onlyPages ps (d.twiStart w v) = o.onlyPages ps d := by
  unfold Device.twiStart
  dsimp only
  (repeat' split) <;> simp (disch := (refine id ?_; with_unfolding_all assumption))

/-! ### Service port -/

@[simp ↓] theorem Device.respond_pages (d : Device) (bcast : Bool) (cmd : Nat) (tag : BitVec 8) (status : Nat)
    (data : List Nat) :
    o.onlyPages ps (d.respond bcast cmd tag status data) = o.onlyPages ps d := Device.modUpd_pages d _

theorem respondWith_pages {d : Device} {p : Device × Nat} (bcast : Bool) (cmd : Nat) (tag : BitVec 8)
    (h : o.onlyPages ps p.1 = o.onlyPages ps d) : o.onlyPages ps (respondWith p bcast cmd tag) = o.onlyPages ps d :=
  (Device.respond_pages p.1 ..).trans h

theorem Device.svcClose_pages (d : Device) (bcast : Bool) (tag : BitVec 8) (hUpd : 0x0F ∈ ps) :
    o.onlyPages ps (d.svcClose bcast tag) = o.onlyPages ps d :=
  (Device.respond_pages ..).trans (Device.closeTransfer_pages d hUpd)

/-! ### Messages -/

theorem Device.eventReceive_pages (d : Device) (hRing : 0x0D ∈ ps) :
    o.onlyPages ps d.eventReceive = o.onlyPages ps d := by
  unfold Device.eventReceive
  split
  · rfl
  next h =>
    have ht := Device.takeMsg_pages (o := o) (ps := ps) h
    dsimp only
    (repeat' split) <;> simp (disch := (refine id ?_; with_unfolding_all assumption)) [ht]

@[simp ↓] theorem Device.sumLoad_pages (d : Device)
    (hRing : 0x0D ∈ ps) : o.onlyPages ps d.sumLoad = o.onlyPages ps d := by
  unfold Device.sumLoad; simp (disch := (refine id ?_; with_unfolding_all assumption))

theorem Device.takeEnum_pages {d e : Device} {report : Bool} {m : Msg} (h : d.takeEnum report = some (m, e)) :
    o.onlyPages ps e = o.onlyPages ps d := by
  unfold Device.takeEnum at h
  split at h
  · simp at h
  · simp only [Option.some.injEq, Prod.mk.injEq] at h
    obtain ⟨-, rfl⟩ := h
    exact Device.modRing_pages d _

theorem Device.enumReportReceive_pages (d : Device) (hRing : 0x0D ∈ ps) :
    o.onlyPages ps d.enumReportReceive = o.onlyPages ps d := by
  unfold Device.enumReportReceive
  split
  · rfl
  next h =>
    have ht := Device.takeEnum_pages (o := o) (ps := ps) h
    simp (disch := (refine id ?_; with_unfolding_all assumption)) [ht]

/-! ### Two-wire port -/

@[simp ↓] theorem Device.modTwi_pages (d : Device) (f : Twi → Twi) : o.onlyPages ps (d.modTwi f) = o.onlyPages ps d :=
  Device.onlyPages_congr rfl

@[simp ↓] theorem Device.busEnd_pages (d : Device) (stop : Bool) (hTwi : 0x12 ∈ ps) :
    o.onlyPages ps (d.busEnd stop) = o.onlyPages ps d := by
  unfold Device.busEnd; simp (disch := (refine id ?_; with_unfolding_all assumption))

@[simp ↓] theorem Device.discardBuf_pages (d : Device)
    (hTwi : 0x12 ∈ ps) : o.onlyPages ps d.discardBuf = o.onlyPages ps d := by
  unfold Device.discardBuf; simp (disch := (refine id ?_; with_unfolding_all assumption))

theorem Device.attentionPulse_pages (d : Device) (collision : Bool) (hTwi : 0x12 ∈ ps) :
    o.onlyPages ps (d.attentionPulse collision) = o.onlyPages ps d := by
  unfold Device.attentionPulse; simp (disch := (refine id ?_; with_unfolding_all assumption))

theorem Device.alertResponse_pages (d : Device) (others : List Nat) (hTwi : 0x12 ∈ ps) :
    o.onlyPages ps (d.alertResponse others) = o.onlyPages ps d := by
  unfold Device.alertResponse; simp (disch := (refine id ?_; with_unfolding_all assumption))

@[simp ↓] theorem Device.twiDone_pages (d : Device) (st : Nat) (hTwi : 0x12 ∈ ps) :
    o.onlyPages ps (d.twiDone st) = o.onlyPages ps d := by
  unfold Device.twiDone; simp (disch := (refine id ?_; with_unfolding_all assumption))

theorem Device.twiTransaction_pages (d : Device) (idle : Nat) (r : TwiOutcome) (hTwi : 0x12 ∈ ps) :
    o.onlyPages ps (d.twiTransaction idle r) = o.onlyPages ps d := by
  unfold Device.twiTransaction
  (repeat' split) <;> simp (disch := (refine id ?_; with_unfolding_all assumption))

@[simp ↓] theorem Device.twiReset_pages (d : Device)
    (hTwi : 0x12 ∈ ps) : o.onlyPages ps d.twiReset = o.onlyPages ps d := by
  unfold Device.twiReset; simp (disch := (refine id ?_; with_unfolding_all assumption))

theorem Device.sclTimeout_pages (d : Device) (held : Nat) (hRing : 0x0D ∈ ps) (hTwi : 0x12 ∈ ps) :
    o.onlyPages ps (d.sclTimeout held) = o.onlyPages ps d := by
  unfold Device.sclTimeout; simp (disch := (refine id ?_; with_unfolding_all assumption))

theorem Device.sdaStuck_pages (d : Device) (held : Nat) (released : Bool) (clocks : Option (Fin 10)) (hRing : 0x0D ∈ ps)
    (hTwi : 0x12 ∈ ps) : o.onlyPages ps (d.sdaStuck held released clocks) = o.onlyPages ps d := by
  unfold Device.sdaStuck; simp (disch := (refine id ?_; with_unfolding_all assumption))

theorem Device.busErr_pages (d : Device) (start : Bool) (hRing : 0x0D ∈ ps) (hTwi : 0x12 ∈ ps) :
    o.onlyPages ps (d.busErr start) = o.onlyPages ps d := by
  unfold Device.busErr; simp (disch := (refine id ?_; with_unfolding_all assumption))

end
end Sys2Proof.Machine

namespace Sys2Proof.Machine

/-! ## Register frames: the commands -/

/-- The feed controllers write page FEED alone. -/
theorem Device.withFeeds_pages {ps : List Nat} (d x : Device) (h : 0x05 ∈ ps) : d.onlyPages ps (d.withFeeds x) := by
  intro r hr
  have hne : r.addr / 256 ≠ 5 := fun e => hr (e ▸ h)
  unfold Device.rd Device.withFeeds
  rw [look_append, look_append, look_filter_not x.regs (by simpa using hne)]
  by_cases hlt : r.addr < 0x500
  · rw [look_filter_of d.regs (by simpa using hlt), look_filter_not d.regs (by simp; omega)]
    simp
  · rw [look_filter_not d.regs (by simpa using hlt), look_filter_of d.regs (by simp; omega)]
    simp

section
variable {s t : State} {f : Device → Device} {ps qs : List Nat} {w : Writer}

theorem Device.pages_ite_of {o a b : Device} {P : Prop} {c : Prop} [Decidable c] (ha : o.onlyPages qs a = P)
    (hb : o.onlyPages qs b = P) : o.onlyPages qs (if c then a else b) = P := by
  split
  · exact ha
  · exact hb

variable (hf : ∀ d, s.dev.onlyPages qs (f d) = s.dev.onlyPages qs d)
include hf

/-- Where a command's meaning is `run f` and `f` writes the pages `qs` alone, so does the command. -/
theorem State.run_frame (hps : some qs = some ps) (h : s.run f = .next t) : s.dev.onlyPages ps t.dev := by
  cases hps
  obtain ⟨-, ht | ht⟩ := State.run_next h
  · rw [ht, hf]; exact Device.onlyPages_refl _
  · rw [ht]; exact Device.onlyPages_refl _

theorem State.write_frame (hps : some qs = some ps) (h : (s.run fun d => d.asWriter w f) = .next t) :
    s.dev.onlyPages ps t.dev :=
  State.run_frame (fun d => Device.asWriter_pages d w hf) hps h

theorem State.wright_frame {page off : Nat} (hRing : 0x0D ∈ qs) (hps : some qs = some ps)
    (h : (s.run fun d => d.asWright w page off f) = .next t) : s.dev.onlyPages ps t.dev :=
  State.run_frame (fun d => Device.asWright_pages d w page off hRing hf) hps h

theorem State.svc_frame (hps : some qs = some ps) (h : s.runSvc f = .next t) : s.dev.onlyPages ps t.dev :=
  State.run_frame (fun d => Device.pages_ite_of (hf d) rfl) hps h

theorem State.feed_frame (hFeed : 0x05 ∈ qs) (hps : some qs = some ps) (h : s.runFeed f = .next t) :
    s.dev.onlyPages ps t.dev := by
  cases hps
  unfold State.runFeed Device.onFeeds at h
  injection h with h
  subst h
  refine (Device.pages_ite_of (P := True) ?_ ?_).mpr trivial
  · rw [hf]; exact eq_true (Device.onlyPages_refl _)
  · exact eq_true (Device.withFeeds_pages _ _ hFeed)

end

section
open Device State

/-- Settles O9: each command's meaning is made of operations that write its pages alone. -/
theorem registerFrames : Obligations.RegisterFrames := by
  intro s t c ps hps h
  cases c with
  | activateSuspendEnd => exact run_frame (fun d => suspendEnd_pages d) hps h
  | clockJournal => exact run_frame (fun d => clockJournal_pages d) hps h
  | latencyJournal => exact run_frame (fun d => latencyJournal_pages d) hps h
  | retryCountReset _ => exact run_frame (fun d => retryReset_pages d _) hps h
  | sourceForget _ => exact run_frame (fun d => forget_pages d _) hps h
  | svcPing _ _ => exact svc_frame (fun d => respond_pages d _ _ _ _ _) hps h
  | svcStatus _ _ => exact svc_frame (fun d => respond_pages d _ _ _ _ _) hps h
  | wdxEnd => exact run_frame (fun d => wdxEnd_pages d) hps h
  | rigEccCorrected => exact run_frame (fun d => countSat_pages d _ (by decide)) hps h
  | coreResetRelease => exact run_frame (fun d => resetRelease_pages d (by decide) (by decide)) hps h
  | cap _ _ => exact write_frame (fun d => capture_pages d _ (by decide)) hps h
  | hyawWrite _ _ => exact write_frame (fun d => writeHyaw_pages d _ _ (by decide)) hps h
  | speedStale => exact run_frame (fun d => speedStale_pages d (by decide) (by decide)) hps h
  | yawStale => exact run_frame (fun d => yawStale_pages d (by decide) (by decide)) hps h
  | clockSwitch => exact run_frame (fun d => clockSwitch_pages d (by decide) (by decide)) hps h
  | openOff n _ _ _ => exact run_frame (fun d => openOff_pages (by decide) (by decide) d _ _ _ n.isLt) hps h
  | openOn n _ => exact run_frame (fun d => openOn_pages (by decide) (by decide) d _ n.isLt) hps h
  | inrushFail n _ =>
    exact run_frame (fun d => inrushFail_pages (by decide) (by decide) (by decide) (by decide) d _ n.isLt) hps h
  | overload n _ =>
    exact run_frame (fun d => overload_pages (by decide) (by decide) (by decide) (by decide) d _ n.isLt) hps h
  | short n _ =>
    exact run_frame (fun d => shortTrip_pages (by decide) (by decide) (by decide) (by decide) d _ n.isLt) hps h
  | thermal n _ _ =>
    exact run_frame (fun d => thermalTrip_pages (by decide) (by decide) (by decide) (by decide) d _ _ n.isLt) hps h
  | thermalRecovery n _ => exact run_frame (fun d => thermalRecovery_pages (by decide) (by decide) d _ n.isLt) hps h
  | retry n => exact run_frame (fun d => retry_pages (by decide) (by decide) d n.isLt) hps h
  | tripClear _ b _ => exact write_frame (fun d => clearTrips_pages (by decide) (by decide) d _ b.isLt) hps h
  | isoOpen _ b =>
    exact write_frame (fun d => isoOpen_pages (by decide) (by decide) (by decide) (by decide) d b.isLt) hps h
  | bankDeadman b =>
    exact run_frame (fun d => deadman_pages (by decide) (by decide) (by decide) (by decide) d b.isLt) hps h
  | bankUcodeLoad b _ =>
    exact run_frame (fun d => ucodeLoad_pages (by decide) (by decide) (by decide) (by decide) d _ b.isLt) hps h
  | strikeRelease _ => exact write_frame (fun d => strikeRelease_pages (by decide) (by decide) d) hps h
  | latencySample n _ _ => exact run_frame (fun d => latencySample_pages d _ _ (by decide) (by decide) n.isLt) hps h
  | peakEnd n => exact run_frame (fun d => peakEnd_pages d (by decide) n.isLt) hps h
  | safeClear _ n _ => exact write_frame (fun d => clearChanStat_pages d _ (by decide) n.isLt) hps h
  | saferel _ _ => exact write_frame (fun d => safeRelease_pages d _ (by decide)) hps h
  | feedRetryClear _ => exact feed_frame (fun d => feedRetry_pages d _ (by decide)) (by decide) hps h
  | feedVerified => exact feed_frame (fun d => feedVerified_pages d (by decide)) (by decide) hps h
  | feedClrTrip _ _ _ => exact write_frame (fun d => feedClear_pages d _ _ (by decide)) hps h
  | feedSelect _ _ => exact write_frame (fun d => feedSelect_pages d _ (by decide) (by decide)) hps h
  | feedQualificationLost _ _ =>
    exact feed_frame (fun d => qualLost_pages d _ _ (by decide) (by decide) (by decide)) (by decide) hps h
  | feedDamageO _ _ _ _ =>
    exact feed_frame (fun d => feedDamageO_pages d _ _ _ _ (by decide) (by decide) (by decide)) (by decide) hps h
  | phaseShed r _ _ => exact run_frame (fun d => shed_pages (by decide) r.isLt d _ _) hps h
  | prebiasWaitEnd r _ => exact run_frame (fun d => prebiasWaitEnd_pages (by decide) r.isLt d _) hps h
  | railBrakeEnd r _ => exact run_frame (fun d => brakeEnd_pages (by decide) r.isLt d _) hps h
  | railMaskTimeout r _ => exact run_frame (fun d => maskTimeout_pages (by decide) r.isLt d _) hps h
  | railRampDone r => exact run_frame (fun d => rampDone_pages (by decide) r.isLt d) hps h
  | railSettled r _ => exact run_frame (fun d => railSettled_pages (by decide) r.isLt d _) hps h
  | shedComplete r => exact run_frame (fun d => shedDone_pages (by decide) r.isLt d) hps h
  | fastAdd r _ => exact run_frame (fun d => fastAdd_pages (by decide) r.isLt (by decide) d _) hps h
  | phaseAdd r _ => exact run_frame (fun d => addPhase_pages (by decide) r.isLt (by decide) d _) hps h
  | railBrake r _ => exact run_frame (fun d => brake_pages (by decide) r.isLt (by decide) d _) hps h
  | railPrebiasSample r _ => exact run_frame (fun d => prebias_pages (by decide) r.isLt (by decide) d _) hps h
  | vrefWrite _ r _ => exact write_frame (fun d => writeVref_pages (by decide) r.isLt (by decide) d _) hps h
  | slewWrite _ r _ => exact write_frame (fun d => writeSlew_pages (by decide) r.isLt (by decide) d _) hps h
  | cvOc r _ => exact run_frame (fun d => cvOc_pages (by decide) r.isLt (by decide) (by decide) d _) hps h
  | cvOv r _ _ => exact run_frame (fun d => cvOv_pages (by decide) r.isLt (by decide) (by decide) d _ _) hps h
  | ioUv _ _ => exact run_frame (fun d => ioUv_pages d _ _ (by decide) (by decide)) hps h
  | ldOc _ _ => exact run_frame (fun d => ldOc_pages d _ _ (by decide) (by decide)) hps h
  | ib0vWrite _ _ => exact write_frame (fun d => writeIb0v_pages d _ (by decide) (by decide)) hps h
  | ldclr _ _ => exact write_frame (fun d => ldClear_pages d _ (by decide)) hps h
  | seqOn _ => exact write_frame (fun d => requestOn_pages d (by decide) (by decide)) hps h
  | adcUrgent _ _ => exact run_frame (fun d => pages_ite_of (urgent_pages d _ (by decide) (by decide)) rfl) hps h
  | loopDelayEnd _ => exact run_frame (fun d => delayEnd_pages d _ (by decide)) hps h
  | xmiss _ => exact run_frame (fun d => xmiss_pages d _ (by decide)) hps h
  | urgTagFree _ t => exact write_frame (fun d => freeTag_pages d (by decide) t.isLt) hps h
  | eccCorr => exact run_frame (fun d => (raise_pages _ (by decide)).trans (countSat_pages d _ (by decide))) hps h
  | wdtClkdev _ _ => exact run_frame (fun d => clkdev_pages d _ _ (by decide) (by decide)) hps h
  | wdtPrewarn => exact run_frame (fun d => prewarn_pages d (by decide) (by decide)) hps h
  | debugHaltRelease => exact run_frame (fun d => haltRelease_pages d (by decide) (by decide)) hps h
  | debugClose _ => exact wright_frame (fun d => endAuth_pages d (by decide) (by decide)) (by decide) hps h
  | chginChange vbus vbat => exact run_frame (fun d => chgin_pages d (chginAt vbus vbat) (by decide)) hps h
  | detectSample _ => exact run_frame (fun d => detectSample_pages d _ (by decide)) hps h
  | detectResult _ => exact run_frame (fun d => detectResult_pages d _ (by decide)) hps h
  | detectRepeat => exact run_frame (fun d => detectRepeat_pages d (by decide)) hps h
  | ntcSuspend _ _ => exact run_frame (fun d => pages_ite_of rfl (raise_pages d (by decide))) hps h
  | ntcResume _ _ => exact run_frame (fun d => pages_ite_of (lower_pages d (by decide)) rfl) hps h
  | chgClr _ => exact write_frame (fun d => chgClr_pages d (by decide)) hps h
  | shipRequest _ => exact write_frame (fun d => raise_pages d (by decide)) hps h
  | shipCancel _ => exact write_frame (fun d => lower_pages d (by decide)) hps h
  | batCutoff _ _ => exact run_frame (fun d => batCutoff_pages d _ _ (by decide) (by decide)) hps h
  | batRemoved _ _ _ => exact run_frame (fun d => batRemoved_pages d _ _ _ (by decide) (by decide)) hps h
  | chargePhaseChange _ _ _ _ => exact run_frame (fun d => phaseChange_pages d _ _ _ _ (by decide) (by decide)) hps h
  | removalCheck _ => exact run_frame (fun d => removalCheck_pages d _ (by decide) (by decide)) hps h
  | batOv _ _ => exact run_frame (fun d => batOv_pages d _ _ (by decide) (by decide)) hps h
  | batShort _ => exact run_frame (fun d => batShort_pages d _ (by decide) (by decide)) hps h
  | batTimeout =>
    exact run_frame (fun d => chgEvent_pages d 2 (some Ev.BAT_TIMEOUT) Device.timerOut (by decide)
      fun d => chgTrip_pages (bit := CHG.STAT_BAT_TIMEOUT) d Ev.BAT_TIMEOUT [d.phase] (by decide) (by decide)
        (by decide)) hps h
  | cellAbort _ => exact run_frame (fun d => cellAbort_pages d _ (by decide)) hps h
  | cellForward _ _ _ => exact run_frame (fun d => cellForward_pages d _ _ _ (by decide)) hps h
  | echoReceive _ => exact run_frame (fun d => echoReceive_pages d _ (by decide)) hps h
  | enumReportReceive => exact run_frame (fun d => enumReportReceive_pages d (by decide)) hps h
  | eventReceive => exact run_frame (fun d => eventReceive_pages d (by decide)) hps h
  | helloSend _ _ => exact run_frame (fun d => helloSend_pages d _ _ (by decide)) hps h
  | helloTimeout _ => exact run_frame (fun d => helloTimeout_pages d _ (by decide)) hps h
  | linkDegraded => exact run_frame (fun d => linkDegraded_pages d (by decide)) hps h
  | linkHelloReceive _ => exact run_frame (fun d => helloReceive_pages d _ (by decide)) hps h
  | lossOfSignal _ => exact run_frame (fun d => goDown_pages d _ _ (by decide)) hps h
  | pingReceive _ _ => exact run_frame (fun d => pingReceive_pages d _ _ (by decide)) hps h
  | pingSend _ _ => exact run_frame (fun d => pingSend_pages d _ _ (by decide)) hps h
  | quietEnd => exact run_frame (fun d => quietEnd_pages d (by decide)) hps h
  | rasmTimeout => exact run_frame (fun d => rasmTimeout_pages d (by decide)) hps h
  | responseReceive => exact run_frame (fun d => responseReceive_pages d (by decide)) hps h
  | syncAcquired _ _ _ => exact run_frame (fun d => syncAcquired_pages d _ _ _ (by decide)) hps h
  | syncLost _ _ _ _ => exact run_frame (fun d => syncLost_pages d _ _ _ _ (by decide)) hps h
  | transTimeout => exact run_frame (fun d => transTimeout_pages d (by decide)) hps h
  | linkRetrain _ _ => exact write_frame (fun d => retrain_pages d _ (by decide)) hps h
  | ringRead _ => exact write_frame (fun d => startTrans_pages d _ (by decide)) hps h
  | ringWrite _ => exact write_frame (fun d => startTrans_pages d _ (by decide)) hps h
  | scrub _ => exact write_frame (fun d => beginScrub_pages d (by decide)) hps h
  | scrubStart => exact run_frame (fun d => scrubStart_pages d (by decide)) hps h
  | wallWrite _ _ => exact write_frame (fun d => writeWall_pages d _ (by decide)) hps h
  | xaddrWrite _ _ => exact write_frame (fun d => writeXaddr_pages d _ (by decide)) hps h
  | xdataRead _ => exact run_frame (fun d => readXdata_pages d (by decide)) hps h
  | recordWrite _ => exact run_frame (fun d => recordWrite_pages d _ (by decide) (by decide)) hps h
  | storeRetry _ => exact run_frame (fun d => storeRetry_pages d _ (by decide) (by decide)) hps h
  | xdataWrite _ _ _ => exact write_frame (fun d => writeXdata_pages d _ _ (by decide) (by decide)) hps h
  | svcClose _ _ => exact svc_frame (fun d => svcClose_pages d _ _ (by decide)) hps h
  | svcFrameDiscard => exact run_frame (fun d => countSat_pages d _ (by decide)) hps h
  | activateReceive => exact run_frame (fun d => activateReceive_pages d (by decide) (by decide)) hps h
  | svcActivate _ _ _ _ _ _ =>
    exact svc_frame (fun d => respondWith_pages _ _ _ (activate_pages d _ _ _ _ (by decide) (by decide))) hps h
  | svcOpen _ _ _ _ =>
    exact svc_frame (fun d => respondWith_pages _ _ _ (openTransfer_pages d _ _ (by decide) (by decide))) hps h
  | updActivate _ => exact wright_frame (fun d => activateRegs_pages d (by decide) (by decide)) (by decide) hps h
  | updAbort _ => exact wright_frame (fun d => abortUpdate_pages d (by decide) (by decide)) (by decide) hps h
  | svcData _ _ _ _ _ =>
    exact svc_frame (fun d => respondWith_pages _ _ _ (receiveData_pages d _ _ _ (by decide) (by decide))) hps h
  | verifyDone => exact run_frame (fun d => verifyDone_pages d (by decide) (by decide) (by decide)) hps h
  | otpProgram _ _ _ =>
    exact run_frame (fun d => otpCommand_pages d _ _ (by decide)
      (by decide) fun d => otpProgram_pages d _ _ (by decide)) hps h
  | otpFinalise _ _ _ =>
    exact run_frame (fun d => otpCommand_pages d _ _ (by decide)
      (by decide) fun d => otpFinalise_pages d _ _ (by decide)) hps h
  | otpReburn _ _ _ =>
    exact run_frame (fun d => otpCommand_pages d _ _ (by decide)
      (by decide) fun d => otpReburn_pages d _ _ (by decide)) hps h
  | otpRepair _ _ _ =>
    exact run_frame (fun d => otpCommand_pages d _ _ (by decide)
      (by decide) fun d => otpRepair_pages d _ _ (by decide) (by decide)) hps h
  | otpLockset _ _ => exact wright_frame (fun d => lockSet_pages d _ (by decide)) (by decide) hps h
  | otpSession _ _ => exact run_frame (fun d => otpSession_pages d _ _ (by decide) (by decide) (by decide)) hps h
  | lifecmd _ _ _ _ =>
    exact wright_frame (fun d => lifecmd_pages d _ _ _ _ (by decide) (by decide) (by decide)) (by decide) hps h
  | keyRevoke _ _ _ _ =>
    exact wright_frame (fun d => revoke_pages d _ _ _ _ (by decide) (by decide) (by decide)) (by decide) hps h
  | wakeStart => exact run_frame (fun d => wakeStart_pages d (by decide)) hps h
  | debugAuth _ _ _ _ _ => exact run_frame (fun d => debugAuth_pages d _ _ _ _ _ (by decide) (by decide)) hps h
  | pwrWake _ => exact wright_frame (fun d => pwrWake_pages d (by decide)) (by decide) hps h
  | pwrRun _ => exact wright_frame (fun d => pwrRun_pages d (by decide) (by decide)) (by decide) hps h
  | alertResponse _ => exact run_frame (fun d => alertResponse_pages d _ (by decide)) hps h
  | attentionPulse _ => exact run_frame (fun d => attentionPulse_pages d _ (by decide)) hps h
  | twiControllerTransaction _ _ => exact run_frame (fun d => twiTransaction_pages d _ _ (by decide)) hps h
  | twiControllerStart _ _ => exact write_frame (fun d => twiStart_pages d _ _ (by decide)) hps h
  | busErr _ => exact run_frame (fun d => busErr_pages d _ (by decide) (by decide)) hps h
  | sclTimeout _ => exact run_frame (fun d => sclTimeout_pages d _ (by decide) (by decide)) hps h
  | sdaStuck _ _ _ => exact run_frame (fun d => sdaStuck_pages d _ _ _ (by decide) (by decide)) hps h
  | bankUv b _ _ => exact run_frame (fun d => bankUv_pages d _ _ (by decide) b.isLt) hps h
  | bankOv b _ _ => exact run_frame (fun d => bankOv_pages d _ _ (by decide) b.isLt) hps h
  | counterJournal => exact run_frame (fun d => counterJournal_pages d (by decide)) hps h
  | cntClr _ _ => exact write_frame (fun d => cntClear_pages d _ (by decide)) hps h
  | _ => cases hps

end
end Sys2Proof.Machine

namespace Sys2Proof.Machine

/-! ## The state after reset, and what refutes the rigging statement -/

/-- Settles O3: every register reads its Reset value by `Device.rd_reset`; the rest is finite and evaluated. -/
theorem resetState : Obligations.ResetState := by
  refine ⟨⟨Device.rd_reset, ?_⟩, ?_⟩
  · decide
  · decide

/-- Rigged, at rest in KEEP, with an assertion of STRIKE noted for this very cycle although STRIKESTAT.ACTIVE is 0:
another assertion in the same cycle then only adds its source bit (the premise `struckNow = false`, under which
the statement on STRIKE speaks, is missing here). -/
def State.notedStrike : State :=
  { State.reset with dev := { Device.reset.setFlag SYS.RIG_RIGGED true with
      fresh := (0, [(BANK.STRIKESTAT.addr, BANK.STRIKESTAT_ACTIVE.lo)]) } }

theorem notedStrike_powered : State.notedStrike.dev.powered = true := by decide +kernel

theorem notedStrike_rigged : State.notedStrike.dev.rigged = true := by decide +kernel

/-- The uncorrectable error leaves STRIKESTAT.ACTIVE at 0 there. -/
theorem notedStrike_rigCorrupt_inactive :
    State.notedStrike.dev.rigCorrupt.flag BANK.STRIKESTAT_ACTIVE = false := by decide +kernel

/-- A command that acts on the device alone completes with what it acts to. -/
theorem completes_run_elim {c : Instr} {s : State} {f : Device → Device} {P : Device → Prop}
    (hp : s.dev.powered = true) (hc : exec c s = s.run f) (h : Completes c s P) : P (f s.dev) := by
  obtain ⟨t, ht, -, hP⟩ := h
  have hst : { s with dev := f s.dev } = t :=
    Host.Outcome.next.inj ((s.run_powered f hp).symm.trans (hc.symm.trans ht))
  rwa [← hst] at hP

/-- Refutes O57: its clause on an uncorrectable error demands STRIKESTAT.ACTIVE of every rigged state, and
`State.notedStrike` is one where a second assertion in the cycle does not set it. -/
theorem not_rigging : ¬ Obligations.Rigging := by
  intro h
  obtain ⟨-, -, corrupt, -⟩ := h State.notedStrike notedStrike_powered
  obtain ⟨-, -, active, -⟩ := completes_run_elim (f := Device.rigCorrupt) notedStrike_powered rfl
    (corrupt notedStrike_rigged)
  exact Bool.false_ne_true (notedStrike_rigCorrupt_inactive.symm.trans active)

end Sys2Proof.Machine

namespace Sys2Proof.Machine

/-! ## The scan: what a step of it may touch, and the marks it leaves -/

theorem mem_insNat {a x : Nat} {l : List Nat} : x ∈ insNat l a ↔ x = a ∨ x ∈ l := by
  induction l with
  | nil => simp [insNat]
  | cons b t ih =>
    unfold insNat
    split
    · simp
    · simp only [List.mem_cons, ih]; tauto

theorem mem_foldl_insNat {x : Nat} {l : List Nat} : ∀ {acc : List Nat}, x ∈ l.foldl insNat acc ↔ x ∈ l ∨ x ∈ acc := by
  induction l with
  | nil => simp
  | cons b t ih => intro acc; simp only [List.foldl_cons, ih, mem_insNat, List.mem_cons]; tauto

@[simp] theorem mem_sortNat {x : Nat} {l : List Nat} : x ∈ sortNat l ↔ x ∈ l := by
  simp [sortNat, mem_foldl_insNat]

theorem upper_mem {a b : Entry} {l : List Entry} (ha : a ∈ l) (hb : b ∈ l) : upper a b ∈ l := by
  unfold upper; split <;> assumption

theorem foldl_upper_mem {l : List Entry} :
    ∀ {t : List Entry} {e : Entry}, e ∈ l → t ⊆ l → t.foldl upper e ∈ l
  | [], _, he, _ => he
  | _ :: t, _, he, ht =>
    foldl_upper_mem (t := t) (upper_mem he (ht (.head _))) fun _ hx => ht (.tail _ hx)

/-- What prevails among entries is one of them. -/
theorem mem_of_winner {l : List Entry} {e : Entry} (h : winner l = some e) : e ∈ l := by
  cases l with
  | nil => cases h
  | cons a t =>
    simp only [winner, Option.some.injEq] at h
    rw [← h]
    generalize hf : (a :: t).find? _ = r
    cases r with
    | none => exact foldl_upper_mem (.head _) (List.subset_cons_self a t)
    | some b => exact List.mem_of_find?_eq_some hf

/-- The pages that a scan may write: EDGE, RING, CH and CHS. -/
def scanPages : List Nat := [0x02, 0x0D] ++ (List.range 10).map (0x20 + ·) ++ chsPages

/-- What a step of a scan keeps: no entry comes, reckoning stands, and the registers are those of other pages. -/
structure Device.ScanStep (d e : Device) : Prop where
  store : e.store ⊆ d.store
  rck : e.rck = d.rck
  pages : d.onlyPages scanPages e

theorem ch_mem_scanPages {n : Nat} (hn : n < 160) : (CH.CFG n).addr / 256 ∈ scanPages ∧
    (CH.DUTY n).addr / 256 ∈ scanPages := by
  have hp : ∀ a, 0x20 ≤ a / 256 → a / 256 < 0x2A → a / 256 ∈ scanPages := fun a h1 h2 =>
    List.mem_append_left _ (List.mem_append_right _
      (List.mem_map.2 ⟨a / 256 - 0x20, List.mem_range.2 (by omega), by omega⟩))
  constructor
  · exact hp _ (ch_page hn).1 (ch_page hn).2
  · exact hp _ (by simp only [CH.DUTY]; omega) (by simp only [CH.DUTY]; omega)

theorem chsPages_subset_scanPages : chsPages ⊆ scanPages := List.subset_append_right _ _

namespace Device.ScanStep

theorem refl (d : Device) : d.ScanStep d := ⟨fun _ h => h, rfl, onlyPages_refl d⟩

theorem trans {d e f : Device} (h : d.ScanStep e) (k : e.ScanStep f) : d.ScanStep f :=
  ⟨fun _ hx => h.store (k.store hx), k.rck.trans h.rck, fun r hr => (k.pages r hr).trans (h.pages r hr)⟩

theorem each {α : Type} {f : Device → α → Device} :
    ∀ {l : List α} {d : Device}, (∀ d : Device, ∀ a ∈ l, d.ScanStep (f d a)) → d.ScanStep (d.each l f)
  | [], d, _ => refl d
  | a :: _, d, h => (h d a (.head _)).trans (each fun d b hb => h d b (.tail _ hb))

/-- Reckoning, and the bits of the pages that no scan writes. -/
theorem reckoning {d e : Device} (h : d.ScanStep e) : e.reckoning = d.reckoning := by
  unfold Device.reckoning; rw [h.rck]

theorem sync {d e : Device} (h : d.ScanStep e) : e.flag RCK.STAT_SYNC = d.flag RCK.STAT_SYNC :=
  congrArg (fun v => bitsOf v _ _ == 1) (h.pages RCK.STAT (by decide))

theorem held {d e : Device} (h : d.ScanStep e) {m : Nat} (hm : m < 4) :
    e.flag (BANK.STAT_HELD m) = d.flag (BANK.STAT_HELD m) := by
  have hp : (BANK.STAT m).addr / 256 ∉ scanPages := by
    rw [show (BANK.STAT m).addr / 256 = 4 by simp only [BANK.STAT]; omega]; decide
  exact congrArg (fun v => bitsOf v _ _ == 1) (h.pages (BANK.STAT m) hp)

/-- A step that leaves the store and the reckoning writes no other page as its page lemma says. -/
theorem of_pages {d e : Device} (hs : e.store = d.store) (hr : e.rck = d.rck)
    (hp : d.onlyPages scanPages e = d.onlyPages scanPages d) : d.ScanStep e :=
  ⟨fun _ h => hs ▸ h, hr, hp.mpr (onlyPages_refl d)⟩

theorem count (d : Device) {r : Reg} (n : Nat) (h : r.addr / 256 ∈ scanPages) : d.ScanStep (d.count r n) :=
  of_pages (by simp) (by simp) (count_pages d n h)

theorem setFld (d : Device) {f : Field} (v : Nat) (h : f.reg.addr / 256 ∈ scanPages) : d.ScanStep (d.setFld f v) :=
  of_pages (by simp) (by simp) (setFld_pages d v h)

theorem setFlag (d : Device) {f : Field} (b : Bool) (h : f.reg.addr / 256 ∈ scanPages) : d.ScanStep (d.setFlag f b) :=
  of_pages (by simp) (by simp) (setFlag_pages d b h)

theorem raise (d : Device) {f : Field} (h : f.reg.addr / 256 ∈ scanPages) : d.ScanStep (d.raise f) :=
  of_pages (by simp) (by simp) (raise_pages d h)

theorem modChan (d : Device) (n : Nat) (f : Chan → Chan) : d.ScanStep (d.modChan n f) :=
  of_pages (by simp) (by simp) (modChan_pages d n f)

theorem command (d : Device) (l : Nat) (on fired : Bool) : d.ScanStep (d.command l on fired) :=
  of_pages (by simp [Device.command]) (by simp [Device.command]) (modBank_pages d _ _)

theorem log (d : Device) (code : Nat) (args : List Nat) : d.ScanStep (d.log code args) :=
  of_pages (by simp) (by simp) (log_pages d code args false (by decide))

theorem noteLogged (d : Device) (x : List (Nat × Nat × Nat)) : d.ScanStep { d with logged := x } :=
  ⟨fun _ h => h, rfl, fun _ _ => rfl⟩

theorem logFirst (d : Device) (code key : Nat) (args : List Nat) : d.ScanStep (d.logFirst code key args) := by
  simp only [Device.logFirst, Bool.false_eq_true, if_false]
  split
  · exact refl d
  · exact (noteLogged d _).trans (log _ code args)

theorem when {d : Device} {f : Device → Device} (c : Bool) (h : d.ScanStep (f d)) : d.ScanStep (d.when c f) := by
  cases c
  · exact refl d
  · exact h

theorem superseded (d : Device) (l n : Nat) : d.ScanStep (d.superseded l n) := by
  unfold Device.superseded
  split
  · exact refl d
  · exact ((count d n (by decide)).trans (raise _ (by decide))).trans (logFirst _ _ _ _)

theorem overtaken (d : Device) (e : Entry) : d.ScanStep (d.overtaken e) :=
  ((count d 1 (by decide)).trans (raise _ (by decide))).trans (log _ _ _)

theorem setDuty (d : Device) {l : Nat} (hl : l < 160) : d.ScanStep (d.setDuty l) := by
  obtain ⟨hstat, hdeff⟩ : (CHS.STAT l).addr / 256 ∈ scanPages ∧ (CHS.DEFF l).addr / 256 ∈ scanPages := by
    have hp := chs_page chsPages_subset_scanPages (show l < 163 by omega)
    refine ⟨hp, ?_⟩
    rw [show (CHS.DEFF l).addr / 256 = (CHS.STAT l).addr / 256 by simp only [CHS.DEFF, CHS.STAT]; omega]
    exact hp
  exact (setFld d _ hdeff).trans (setFlag _ _ hstat)

theorem gangRaise (d : Device) {l : Nat} (hl : l < 160) :
    d.ScanStep (d.each (d.gang l) fun d n => d.raise (CHS.STAT_CMD n)) :=
  each fun d _ hn => raise d (chs_page chsPages_subset_scanPages (gang_lt hl hn))

theorem gangLower (d : Device) {l : Nat} (hl : l < 160) :
    d.ScanStep (d.each (d.gang l) fun d n => d.lower (CHS.STAT_CMD n)) :=
  each fun d _ hn => setFlag d false (chs_page chsPages_subset_scanPages (gang_lt hl hn))

/-- What is counted and noted of an entry that fires. -/
theorem fired (d : Device) (e : Entry) : d.ScanStep (((d.count EDGE.CNTFIRED).when e.late fun d =>
    d.count EDGE.CNTLATE).modChan e.ch fun c => c.setLast (actClass e.act) ⟨e.feff, rank e.src, e.seq⟩) :=
  ((count d 1 (by decide)).trans (when e.late (count _ 1 (by decide)))).trans (modChan _ e.ch _)

theorem fire (d : Device) {e : Entry} (hl : e.ch < 160) : d.ScanStep (d.fire e) := by
  obtain ⟨hcfg, hduty⟩ := ch_mem_scanPages hl
  refine (fired d e).trans ?_
  simp only [Device.fire]
  generalize ((d.count EDGE.CNTFIRED).when _ _).modChan e.ch _ = d
  cases e.act with
  | on =>
    simp only []
    split
    · exact refl d
    · exact (gangRaise d hl).trans (command _ _ _ _)
  | off =>
    simp only []
    split
    · exact refl d
    · exact (gangLower d hl).trans (command _ _ _ _)
  | duty c => exact (setFld d _ hduty).trans (setDuty _ hl)
  | mode m =>
    simp only []
    split
    · exact modChan d _ _
    · exact (setFld d _ hcfg).trans (modChan _ _ _)
  | hold n => exact modChan d _ _

/-- What R74 and R79 lay aside before the winner of a mark is sought. -/
theorem laidAside (d : Device) (l : Nat) (ovt : List Entry) (m n : Nat) :
    d.ScanStep (((d.each ovt Device.overtaken).superseded l m).superseded l n) :=
  ((each fun d e _ => overtaken d e).trans (superseded _ l m)).trans (superseded _ l n)

theorem resolve (d : Device) {l : Nat} {set : List Entry} (forced : Option Nat) (k : Class) (hl : l < 160)
    (hset : ∀ e ∈ set, e.ch = l) : d.ScanStep (d.resolve l set forced k) := by
  simp only [Device.resolve]
  split
  · exact superseded d _ _
  · split
    · exact laidAside d _ _ _ _
    next e hw =>
      refine ((laidAside d _ _ _ _).trans (superseded _ _ _)).trans (fire _ ?_)
      have he := mem_of_winner hw
      simp only [List.mem_filter] at he
      rw [hset e he.1.1.1]
      exact hl

theorem keepEntries (d : Device) (p : Entry → Bool) : d.ScanStep { d with store := d.store.filter p } :=
  ⟨List.filter_subset_self _, rfl, fun _ _ => rfl⟩

theorem fireMark (d : Device) {l : Nat} (f : Nat) (forced : Option Nat) (hl : l < 160) :
    ({ d with store := d.store.filter fun e => !(e.ch == l && e.feff == f) } : Device).ScanStep
      (d.fireMark l f forced) := by
  have hset : ∀ e ∈ (d.pendingOn l).filter fun e => e.feff == f, e.ch = l := fun e he => by
    simp only [Device.pendingOn, List.mem_filter, beq_iff_eq] at he; exact he.1.2
  unfold Device.fireMark
  simp only []
  split
  · exact superseded _ _ _
  · exact ((resolve _ forced .mode hl hset).trans (resolve _ forced .duty hl hset)).trans
      (resolve _ forced .state hl hset)

end Device.ScanStep

namespace Device

/-- A mark that fires leaves none of its entries. -/
theorem fireMark_mark (d : Device) {l : Nat} (f : Nat) (forced : Option Nat) (hl : l < 160) {x : Entry}
    (hx : x ∈ (d.fireMark l f forced).store) : x ∈ d.store ∧ ¬(x.ch = l ∧ x.feff = f) := by
  have h := (ScanStep.fireMark d f forced hl).store hx
  simp only [List.mem_filter, Bool.not_eq_true', Bool.and_eq_false_iff, beq_eq_false_iff_ne] at h
  exact ⟨h.1, fun hc => h.2.elim (· hc.1) (· hc.2)⟩

theorem fireMark_scanStep (d : Device) {l : Nat} (f : Nat) (forced : Option Nat) (hl : l < 160) :
    d.ScanStep (d.fireMark l f forced) :=
  (ScanStep.keepEntries d _).trans (ScanStep.fireMark d f forced hl)

/-- The marks of a channel that fire in turn leave none of their entries. -/
theorem fireMarks_mark {l : Nat} (forced : Option Nat) (hl : l < 160) {x : Entry} :
    ∀ {fs : List Nat} {d : Device}, x ∈ (d.each fs fun d f => d.fireMark l f forced).store →
      x ∈ d.store ∧ ¬(x.ch = l ∧ x.feff ∈ fs)
  | [], _, hx => ⟨hx, by simp⟩
  | f :: fs, d, hx => by
    obtain ⟨hin, hfs⟩ := fireMarks_mark forced hl (fs := fs) (d := d.fireMark l f forced) hx
    obtain ⟨hd, hf⟩ := fireMark_mark d f forced hl hin
    refine ⟨hd, fun ⟨hc, hm⟩ => ?_⟩
    cases List.mem_cons.1 hm with
    | inl h => exact hf ⟨hc, h⟩
    | inr h => exact hfs ⟨hc, h⟩

/-- What a fault-logic action of this scan leaves behind before the channel's entries are looked at (R75). -/
def takeForced (d : Device) (l : Nat) : Device :=
  match (d.chan l).forced with
  | some rk => (d.recordState l rk).modChan l fun c => { c with forced := none }
  | none => d

theorem takeForced_scanStep (d : Device) (l : Nat) : d.ScanStep (d.takeForced l) := by
  unfold takeForced
  split
  · exact (ScanStep.modChan d l _).trans (ScanStep.modChan _ l _)
  · exact ScanStep.refl d

theorem scanChannel_eq (d : Device) (l : Nat) : d.scanChannel l =
    if (d.takeForced l).flag (BANK.STAT_HELD (bankOf l)) || !(d.takeForced l).flag RCK.STAT_SYNC then d.takeForced l
    else (d.takeForced l).each ((d.takeForced l).marksDue l) fun e f => e.fireMark l f (d.chan l).forced := rfl

theorem scanChannel_scanStep (d : Device) {l : Nat} (hl : l < 160) : d.ScanStep (d.scanChannel l) := by
  rw [scanChannel_eq]
  split
  · exact takeForced_scanStep d l
  · exact (takeForced_scanStep d l).trans (ScanStep.each fun d f _ => fireMark_scanStep d f _ hl)

theorem mem_marksDue {d : Device} {x : Entry} (hx : x ∈ d.store) (hr : x.feff ≤ d.reckoning) :
    x.feff ∈ d.marksDue x.ch := by
  simp only [marksDue, pendingOn, mem_sortNat, List.mem_eraseDups, List.mem_filter, List.mem_map, decide_eq_true_eq]
  exact ⟨⟨x, ⟨hx, by simp⟩, rfl⟩, hr⟩

/-- With SYNC set, no entry of a scanned channel waits whose mark is reached, unless the bank is held. -/
theorem scanChannel_reaches (d : Device) {l : Nat} (hl : l < 160) (hsync : d.flag RCK.STAT_SYNC = true)
    (hheld : d.flag (BANK.STAT_HELD (bankOf l)) = false) {x : Entry} (hx : x ∈ (d.scanChannel l).store)
    (hc : x.ch = l) : d.reckoning < x.feff := by
  have hs := takeForced_scanStep d l
  rw [scanChannel_eq, hs.sync, hs.held (bankOf_lt hl), hsync, hheld] at hx
  obtain ⟨hin, hmark⟩ := fireMarks_mark _ hl hx
  by_contra hr
  refine hmark ⟨hc, ?_⟩
  subst hc
  exact mem_marksDue hin (hs.reckoning ▸ Nat.le_of_not_lt hr)

/-- The same of a list of channels that are scanned in turn: a later channel brings nothing back. -/
theorem scanChannels_reach {x : Entry} (hc : x.ch < 160) {ls : List Nat} {d : Device} (hls : ∀ l ∈ ls, l < 160)
    (hsync : d.flag RCK.STAT_SYNC = true) (hheld : d.flag (BANK.STAT_HELD (bankOf x.ch)) = false) (hm : x.ch ∈ ls)
    (hx : x ∈ (d.each ls scanChannel).store) : d.reckoning < x.feff := by
  induction ls generalizing d with
  | nil => cases hm
  | cons l ls ih =>
    have hl : l < 160 := hls l (.head _)
    have hs := scanChannel_scanStep d hl
    have hrest : (d.scanChannel l).ScanStep ((d.scanChannel l).each ls scanChannel) :=
      ScanStep.each fun d k hk => scanChannel_scanStep d (hls k (.tail _ hk))
    cases List.mem_cons.1 hm with
    | inl h => exact scanChannel_reaches d hl hsync (h ▸ hheld) (hrest.store hx) h
    | inr h =>
      rw [← hs.reckoning]
      exact ih (fun k hk => hls k (.tail _ hk)) (hs.sync.trans hsync) ((hs.held (bankOf_lt hc)).trans hheld) h hx

/-- What happens at the scan boundary leaves the store (R312, R316). -/
theorem edgeScan_store (d : Device) (hrun : d.inRun = true) : d.edgeScan.store = d.scan.store := by
  unfold edgeScan setHalted
  simp only [hrun, if_true]
  (repeat' split) <;> simp

end Device

/-- Settles O14: each lead channel is scanned once (`Device.scanChannel_reaches`), and no step of a scan brings an
entry, changes reckoning or holds a bank (`Device.ScanStep`). -/
theorem scanReachesEveryMark : Obligations.ScanReachesEveryMark := by
  intro s hp hrun hsync
  refine completes_run (f := Device.edgeScan) hp rfl fun e he hl hheld => ?_
  rw [Device.edgeScan_store _ hrun] at he
  exact Device.scanChannels_reach (Device.leads_lt hl) (fun _ h => Device.leads_lt h) hsync hheld hl he

end Sys2Proof.Machine

namespace Sys2Proof.Machine

/-! ## What has been reported stays reported -/

/-- An event that is logged is reported, whatever was logged before it. -/
theorem Device.reported_log {o d : Device} (h : o.events <+: d.events) (code : Nat) (args : List Nat) :
    o.reported (d.log code args) code args := by
  obtain ⟨t, ht⟩ := h
  refine ⟨{ code := code, tide := d.now, args := args }, ?_, rfl, rfl, rfl⟩
  rw [Device.log_events, ← ht, List.append_assoc, List.drop_left]
  exact List.mem_append_right _ (.head _)

theorem Device.reported_mono {o d e : Device} {code : Nat} {args : List Nat} (h : d.events <+: e.events)
    (hr : o.reported d code args) : o.reported e code args := by
  obtain ⟨t, ht⟩ := h
  obtain ⟨x, hx, hrest⟩ := hr
  refine ⟨x, ?_, hrest⟩
  rw [← ht, List.drop_append]
  exact List.mem_append_left _ hx

theorem Device.log_prefix (d : Device) (code : Nat) (args : List Nat) : d.events <+: (d.log code args).events := by
  rw [Device.log_events]; exact List.prefix_append _ _

/-! ## What is kept of a bank -/

/-- The bank's STAT register and its state are those of `d`, and nothing has left the log. -/
structure Device.KeepsBank (m : Nat) (d e : Device) : Prop where
  stat : e.rd (BANK.STAT m) = d.rd (BANK.STAT m)
  bank : e.bank m = d.bank m
  events : d.events <+: e.events

namespace Device.KeepsBank
variable {m : Nat}

theorem refl (d : Device) : d.KeepsBank m d := ⟨rfl, rfl, List.prefix_refl _⟩

theorem trans {d e f : Device} (h : d.KeepsBank m e) (k : e.KeepsBank m f) : d.KeepsBank m f :=
  ⟨k.stat.trans h.stat, k.bank.trans h.bank, h.events.trans k.events⟩

theorem each {α : Type} {f : Device → α → Device} :
    ∀ {l : List α} {d : Device}, (∀ d : Device, ∀ a ∈ l, d.KeepsBank m (f d a)) → d.KeepsBank m (d.each l f)
  | [], d, _ => refl d
  | a :: _, d, h => (h d a (.head _)).trans (each fun d b hb => h d b (.tail _ hb))

theorem when {d : Device} {f : Device → Device} (c : Bool) (h : d.KeepsBank m (f d)) : d.KeepsBank m (d.when c f) := by
  cases c
  · exact refl d
  · exact h

/-- A bit of STAT reads as before. -/
theorem flag {d e : Device} (h : d.KeepsBank m e) (i w : Nat) :
    e.flag ⟨BANK.STAT m, i, w⟩ = d.flag ⟨BANK.STAT m, i, w⟩ :=
  congrArg (fun v => bitsOf v i w == 1) h.stat

/-- What writes other pages, logs at most and leaves the banks keeps the bank. -/
theorem of_pages {d e : Device} {ps : List Nat} (hm : m < 4) (hp : d.onlyPages ps e) (h4 : 0x04 ∉ ps)
    (hb : e.banks = d.banks) (he : d.events <+: e.events) : d.KeepsBank m e where
  stat := hp _ (by rwa [show (BANK.STAT m).addr / 256 = 4 by simp only [BANK.STAT]; omega])
  bank := by unfold Device.bank; rw [hb]
  events := he

theorem setFld (d : Device) {f : Field} (v : Nat) (h : f.reg.addr ≠ (BANK.STAT m).addr) : d.KeepsBank m (d.setFld f v) :=
  ⟨Device.rd_setFld_ne d v h, by simp [Device.bank], by simp⟩

theorem raise (d : Device) {f : Field} (h : f.reg.addr ≠ (BANK.STAT m).addr) : d.KeepsBank m (d.raise f) :=
  ⟨Device.rd_raise_ne d h, by simp [Device.bank], by simp⟩

theorem raiseBit (d : Device) {r : Reg} (i : Nat) (h : r.addr ≠ (BANK.STAT m).addr) : d.KeepsBank m (d.raiseBit r i) :=
  ⟨Device.rd_raiseBit_ne d i h, by simp [Device.bank], by simp⟩

theorem modChan (d : Device) (n : Nat) (f : Chan → Chan) : d.KeepsBank m (d.modChan n f) :=
  ⟨rfl, rfl, List.prefix_refl _⟩

theorem log (hm : m < 4) (d : Device) (code : Nat) (args : List Nat) : d.KeepsBank m (d.log code args) :=
  of_pages (ps := [0x0D]) hm ((Device.log_pages d code args false (by decide)).mpr (Device.onlyPages_refl d)) (by decide)
    (by simp) (Device.log_prefix d code args)

theorem cnt (hm : m < 4) (d : Device) {r : Nat → Reg} {j : Nat} (h : (r j).addr ≠ (BANK.STAT m).addr) :
    d.KeepsBank m (d.cnt r j) where
  stat := by
    have hj : CNT.JSTAT.addr ≠ (BANK.STAT m).addr := by simp only [CNT.JSTAT, BANK.STAT]; omega
    exact (Device.rd_raise_ne (f := CNT.JSTAT_PENDING) _ hj).trans (Device.rd_wr_ne d _ h)
  bank := by simp [Device.cnt, Device.bank]
  events := by simp [Device.cnt]

theorem lowerChs (hm : m < 4) (d : Device) (n i : Nat) : d.KeepsBank m (d.lower ⟨CHS.STAT n, i, 1⟩) :=
  setFld d _ (by simp only [CHS.STAT, BANK.STAT]; omega)

theorem outOff (hm : m < 4) (d : Device) (n : Nat) : d.KeepsBank m (d.outOff n) := by
  unfold Device.outOff
  exact ((lowerChs hm d n _).trans (lowerChs hm _ n _)).trans (modChan _ _ _)

theorem bankTurnOff (hm : m < 4) (d : Device) (l : Nat) : d.KeepsBank m (d.bankTurnOff l) :=
  (each fun d n _ => outOff hm d n).trans (modChan _ _ _)

theorem tripFollow (hm : m < 4) (d : Device) (l : Nat) (cause : Cause) : d.KeepsBank m (d.tripFollow l cause) := by
  have hp : BANK.PSTAT.addr ≠ (BANK.STAT m).addr := by simp only [BANK.PSTAT, BANK.STAT]; omega
  unfold Device.tripFollow
  dsimp only
  split
  · exact modChan _ _ _
  · split
    · exact ((modChan _ _ _).trans (raise _ hp)).trans (log hm _ _ _)
    · exact modChan _ _ _

theorem reportTrip (hm : m < 4) (d : Device) (n : Nat) (cause : Cause) (i : Nat) :
    d.KeepsBank m (d.reportTrip n cause i) := by
  have hp : cause.bit.reg.addr ≠ (BANK.STAT m).addr := by
    have : cause.bit.reg = BANK.PSTAT := by cases cause <;> rfl
    rw [this]; simp only [BANK.PSTAT, BANK.STAT]; omega
  exact (raise d hp).trans (log hm _ _ _)

theorem trip (hm : m < 4) (d : Device) (n : Nat) (cause : Cause) (i : Nat) : d.KeepsBank m (d.trip n cause i) := by
  have hs : ∀ l, (CHS.STAT l).addr ≠ (BANK.STAT m).addr := fun l => by simp only [CHS.STAT, BANK.STAT]; omega
  have ht : ∀ k, (BANK.TRIPS k).addr ≠ (BANK.STAT m).addr := fun k => by simp only [BANK.TRIPS, BANK.STAT]; omega
  have hc : ∀ j, (CNT.OC j).addr ≠ (BANK.STAT m).addr := fun j => by simp only [CNT.OC, BANK.STAT]; omega
  have hoff : ∀ (e : Device) (l : Nat), e.KeepsBank m (e.tripOff l) := fun e l =>
    ((bankTurnOff hm e l).trans (modChan _ _ _)).trans (modChan _ _ _)
  unfold Device.trip
  dsimp only
  split
  · split
    · exact ((setFld d _ (hs _)).trans (reportTrip hm _ _ _ _)).trans (when _ (modChan _ _ _))
    · exact refl d
  · exact (((((hoff d _).trans (each fun d k _ => setFld d _ (hs k))).trans (raiseBit _ _ (ht _))).trans
      (reportTrip hm _ _ _ _)).trans (when _ (cnt hm _ (hc _)))).trans (tripFollow hm _ _ _)

end Device.KeepsBank

/-! ## The status bits of a bank -/

section
variable (d : Device) (m i j : Nat)

/-- A status bit of a bank takes a value: that bit alone, among the bank's own, reads it. -/
theorem Device.flag_setFlag_bankStat (b : Bool) (hi : i < 16 := by decide) (hj : j < 16 := by decide) :
    (d.setFlag ⟨BANK.STAT m, i, 1⟩ b).flag ⟨BANK.STAT m, j, 1⟩ =
      if i = j then b else d.flag ⟨BANK.STAT m, j, 1⟩ :=
  Device.flag_setFlag_bit d (r := BANK.STAT m) b hi hj

theorem Device.flag_raise_bankStat (hi : i < 16 := by decide) (hj : j < 16 := by decide) :
    (d.raise ⟨BANK.STAT m, i, 1⟩).flag ⟨BANK.STAT m, j, 1⟩ = if i = j then true else d.flag ⟨BANK.STAT m, j, 1⟩ :=
  Device.flag_raise_bit d (r := BANK.STAT m) hi hj

end

/-- A register that no step of a list writes reads as before. -/
theorem Device.each_rd {α : Type} {f : Device → α → Device} {r : Reg} (h : ∀ d a, (f d a).rd r = d.rd r) (l : List α)
    (d : Device) : (d.each l f).rd r = d.rd r := Device.each_same (fun d : Device => d.rd r) h l d

theorem Device.flag_of_rd {d e : Device} {f : Field} (h : e.rd f.reg = d.rd f.reg) : e.flag f = d.flag f := by
  unfold Device.flag Device.fld; rw [h]

theorem Device.bank_raise (d : Device) (f : Field) (m : Nat) : (d.raise f).bank m = d.bank m := by simp [Device.bank]

/-! ## Holding a bank -/

section
variable {m : Nat}

/-- One channel of a held bank. -/
def Device.holdChan (d : Device) (n : Nat) : Device := (d.outOff n).modChan n fun c => { c with bankOn := false }

theorem Device.holdChan_out (d : Device) (n k : Nat) :
    (d.holdChan n).flag (CHS.STAT_OUT k) = (decide (n ≠ k) && d.flag (CHS.STAT_OUT k)) := Device.outOff_out d n k

theorem Device.holdBank_eq (d : Device) (m : Nat) : d.holdBank m =
    ((d.raise (BANK.STAT_HELD m)).modBank m fun b => { b with cmds := [] }).each (bankChans m) Device.holdChan := rfl

theorem Device.holdChans_keeps (hm : m < 4) (d : Device) :
    d.KeepsBank m (d.each (bankChans m) Device.holdChan) :=
  .each fun d n _ => (Device.KeepsBank.outOff hm d n).trans (.modChan _ _ _)

theorem Device.holdBank_stat (hm : m < 4) (d : Device) (j : Nat) (hj : j < 16 := by decide) :
    (d.holdBank m).flag ⟨BANK.STAT m, j, 1⟩ = if 0 = j then true else d.flag ⟨BANK.STAT m, j, 1⟩ := by
  rw [Device.holdBank_eq, (Device.holdChans_keeps hm _).flag]
  exact Device.flag_raise_bankStat d m 0 j (hj := hj)

theorem Device.holdBank_bank (hm : m < 4) (d : Device) : (d.holdBank m).bank m = { d.bank m with cmds := [] } := by
  rw [Device.holdBank_eq, (Device.holdChans_keeps hm _).bank, Device.modBank_bank_same _ _ _ hm]
  simp [Device.bank]

theorem Device.holdBank_events (d : Device) (m : Nat) : (d.holdBank m).events = d.events := by
  rw [Device.holdBank_eq, Device.each_same (fun d : Device => d.events) fun d n => by
    simp [Device.holdChan, Device.outOff]]
  simp

/-- Every channel of a held bank is off. -/
theorem Device.holdBank_out (d : Device) {n : Nat} (hn : n ∈ bankChans m) :
    (d.holdBank m).flag (CHS.STAT_OUT n) = false := by
  rw [Device.holdBank_eq, Device.each_clears (g := fun d => d.flag (CHS.STAT_OUT n)) (k := n)
    fun d k => Device.holdChan_out d k n]
  simp [hn]

/-- Holding a bank writes its STAT and the channels' status alone. -/
theorem Device.holdBank_rd (d : Device) {r : Reg} (h : r.addr < 0x3000) (hs : (BANK.STAT m).addr ≠ r.addr) :
    (d.holdBank m).rd r = d.rd r := by
  have hc : ∀ n, (CHS.STAT n).addr ≠ r.addr := fun n => by simp only [CHS.STAT]; omega
  have hoff : ∀ (d : Device) n, (d.holdChan n).rd r = d.rd r := fun d n =>
    (Device.rd_setFld_ne (f := CHS.STAT_PEAK n) _ _ (hc n)).trans (Device.rd_setFld_ne (f := CHS.STAT_OUT n) d _ (hc n))
  rw [Device.holdBank_eq, Device.each_rd hoff]
  exact Device.rd_raise_ne d hs

/-! ## Reports of a bank -/

/-- A bank's report: PSTAT, the event and the counter. -/
def Device.bankReport (d : Device) (m : Nat) (f : Field) (code : Nat) (args : List Nat) : Device :=
  ((d.raise f).log code args).cnt CNT.TRIP (6 + m)

theorem Device.bankReport_keeps (hm : m < 4) (d : Device) {f : Field} (hf : f.reg = BANK.PSTAT) (code : Nat)
    (args : List Nat) : d.KeepsBank m (d.bankReport m f code args) := by
  have hp : f.reg.addr ≠ (BANK.STAT m).addr := by rw [hf]; simp only [BANK.PSTAT, BANK.STAT]; omega
  have hc : (CNT.TRIP (6 + m)).addr ≠ (BANK.STAT m).addr := by simp only [CNT.TRIP, BANK.STAT]; omega
  exact ((Device.KeepsBank.raise d hp).trans (.log hm _ _ _)).trans (.cnt hm _ hc)

theorem Device.bankReport_reported {o d : Device} (h : o.events <+: d.events) (f : Field) (code : Nat) (args : List Nat) :
    o.reported (d.bankReport m f code args) code args :=
  Device.reported_mono (d := (d.raise f).log code args) (by simp [Device.bankReport, Device.cnt])
    (Device.reported_log (by simpa using h) code args)

/-- What is reported stands in PSTAT. -/
theorem Device.bankReport_pstat (hm : m < 4) (d : Device) {i : Nat} (hi : i < 32) (code : Nat) (args : List Nat) :
    (d.bankReport m ⟨BANK.PSTAT, i, 1⟩ code args).flag ⟨BANK.PSTAT, i, 1⟩ = true := by
  have hc : (CNT.TRIP (6 + m)).addr / 256 ∈ [0x0D, 0x13] := (cnt_page (by decide) (by omega)).2.2.2
  have hp : (d.raise ⟨BANK.PSTAT, i, 1⟩).onlyPages [0x0D, 0x13] (d.bankReport m ⟨BANK.PSTAT, i, 1⟩ code args) :=
    (Device.cnt_pages _ (by decide) hc).mpr
      ((Device.log_pages _ code args false (by decide)).mpr (Device.onlyPages_refl _))
  refine (congrArg (fun v => bitsOf v i 1 == 1) (hp BANK.PSTAT (by decide))).trans ?_
  exact Device.flag_raise d ⟨BANK.PSTAT, i, 1⟩ rfl hi

/-- A report leaves the channels' status. -/
theorem Device.bankReport_chs (hm : m < 4) (d : Device) {f : Field} (hf : f.reg = BANK.PSTAT) (code : Nat)
    (args : List Nat) (n : Nat) : (d.bankReport m f code args).flag (CHS.STAT_OUT n) = d.flag (CHS.STAT_OUT n) := by
  have hr : f.reg.addr / 256 ∈ [0x04, 0x0D, 0x13] := by rw [hf]; decide
  have hc : (CNT.TRIP (6 + m)).addr / 256 ∈ [0x04, 0x0D, 0x13] := (cnt_page (by decide) (by omega)).2.2.2
  have hp : d.onlyPages [0x04, 0x0D, 0x13] (d.bankReport m f code args) :=
    (Device.cnt_pages _ (by decide) hc).mpr ((Device.log_pages _ code args false (by decide)).mpr
      ((Device.raise_pages d hr).mpr (Device.onlyPages_refl d)))
  refine congrArg (fun v => bitsOf v _ 1 == 1) (hp (CHS.STAT n) ?_)
  have : 0x30 ≤ (CHS.STAT n).addr / 256 := by simp only [CHS.STAT]; omega
  intro hmem
  simp only [List.mem_cons, List.not_mem_nil, or_false] at hmem
  omega

theorem Device.ucodeFail_eq (d : Device) (m : Nat) : d.ucodeFail m =
    ((d.lower (BANK.STAT_UCODE_OK m)).raise (BANK.STAT_UCODE_FAIL m)).bankReport m BANK.PSTAT_BANK_UCODE Ev.BANK_UCODE
      [m] := rfl

theorem Device.isoOpened_eq (d : Device) (m : Nat) (reduced : Bool) : d.isoOpened m reduced =
    (d.raise (BANK.STAT_ISO_OPENED m)).bankReport m BANK.PSTAT_ISO_OPENED Ev.ISO_OPENED [m, reduced.toNat] := rfl

/-- UCODE_OK goes, UCODE_FAIL comes, and the bank's other status bits stay. -/
theorem Device.ucodeFail_stat (hm : m < 4) (d : Device) (j : Nat) (hj : j < 16 := by decide) :
    (d.ucodeFail m).flag ⟨BANK.STAT m, j, 1⟩ =
      if 5 = j then true else if 3 = j then false else d.flag ⟨BANK.STAT m, j, 1⟩ := by
  rw [Device.ucodeFail_eq, (Device.bankReport_keeps hm _ rfl _ _).flag,
    Device.flag_raise_bankStat _ _ _ _ (hj := hj), Device.flag_setFlag_bankStat _ _ _ _ _ (hj := hj)]

theorem Device.isoOpened_stat (hm : m < 4) (d : Device) (reduced : Bool) (j : Nat) (hj : j < 16 := by decide) :
    (d.isoOpened m reduced).flag ⟨BANK.STAT m, j, 1⟩ = if 6 = j then true else d.flag ⟨BANK.STAT m, j, 1⟩ := by
  rw [Device.isoOpened_eq, (Device.bankReport_keeps hm _ rfl _ _).flag, Device.flag_raise_bankStat _ _ _ _ (hj := hj)]

end
end Sys2Proof.Machine

namespace Sys2Proof.Machine

/-! ## The dead-man, the trip record and the release (R18, R19) -/

section
variable {m : Nat}

/-- What the dead-man does once the bank is held, before it is reported. -/
def Device.deadmanHeld (d : Device) (m : Nat) : Device :=
  ((d.holdBank m).raise (BANK.STAT_DEADMAN m)).modBank m fun b => { b with dead := true }

theorem Device.deadman_due {d : Device} (hheld : d.flag (BANK.STAT_HELD m) = false) (hsup : d.bankSupplied m = true)
    (hdue : (d.bank m).validAt + 2000 < d.clk) : d.deadman m =
      (d.deadmanHeld m).bankReport m BANK.PSTAT_BANK_DEADMAN Ev.BANK_DEADMAN [m, (d.bank m).lastValid] := by
  have h : d.deadmanDue m = true := decide_eq_true hdue
  unfold Device.deadman
  simp only [hheld, hsup, h, Bool.not_true, Bool.or_self, Bool.false_eq_true, if_false]
  rfl

theorem Device.deadman_early {d : Device} (h : d.clk ≤ (d.bank m).validAt + 2000) : d.deadman m = d := by
  have : d.deadmanDue m = false := decide_eq_false (Nat.not_lt.2 h)
  simp [Device.deadman, this]

theorem Device.deadmanHeld_stat (hm : m < 4) (d : Device) (j : Nat) (hj : j < 16 := by decide) :
    (d.deadmanHeld m).flag ⟨BANK.STAT m, j, 1⟩ =
      if 4 = j then true else if 0 = j then true else d.flag ⟨BANK.STAT m, j, 1⟩ := by
  rw [Device.deadmanHeld, Device.flag_modBank, Device.flag_raise_bankStat _ _ _ _ (hj := hj),
    Device.holdBank_stat hm _ _ hj]

/-- A trip record without damage leaves the bank's STAT as it was; the record itself is read out. -/
theorem Device.readTripRec_keeps (hm : m < 4) {d : Device} (h : ∀ t ∈ (d.bank m).tripRec, t.2.1 ≠ 5) :
    (d.modBank m fun b => { b with tripRec := [], dead := false }).KeepsBank m (d.readTripRec m) :=
  .each fun d t ht => by
    simp only [if_neg (h t ht)]
    exact Device.KeepsBank.trip hm d _ _ _

/-- What a bank holds beside the commands on their way to it stays when a lead's commands are void. -/
theorem Device.dropCmdsOf_tripRec (d : Device) (l k : Nat) : ((d.dropCmdsOf l).bank k).tripRec = (d.bank k).tripRec := by
  unfold Device.dropCmdsOf
  by_cases h : bankOf l = k
  · subst h
    by_cases hk : bankOf l < 4
    · rw [Device.modBank_bank_same _ _ _ hk]
    · simp [Device.modBank, Device.setBank, Device.bank, hk]
  · rw [Device.modBank_bank_ne _ _ h]

theorem Device.endHold_tripRec (d : Device) (l rk k : Nat) : ((d.endHold l rk).bank k).tripRec = (d.bank k).tripRec := by
  have hlow : (d.each (d.gang l) fun d n => d.lower (CHS.STAT_CMD n)).banks = d.banks :=
    Device.each_same (fun d : Device => d.banks) (fun d n => by simp) _ d
  have hoff : ∀ d : Device, (d.bankTurnOff l).banks = d.banks := fun d =>
    (Device.each_same (fun d : Device => d.banks) (fun d n => by simp [Device.outOff]) (d.gang l) d)
  have hbank : ∀ {e f : Device}, e.banks = f.banks → e.bank k = f.bank k := fun h => by unfold Device.bank; rw [h]
  calc ((d.endHold l rk).bank k).tripRec
      = (((d.each (d.gang l) fun d n => d.lower (CHS.STAT_CMD n)).dropCmdsOf l).bank k).tripRec :=
        congrArg Bank.tripRec (hbank (hoff _))
    _ = _ := Device.dropCmdsOf_tripRec _ l k
    _ = _ := congrArg Bank.tripRec (hbank hlow)

/-- Reading late entries writes the EDGE and RING pages alone, and no bank. -/
theorem Device.acceptNow_pages {o : Device} {ps : List Nat} (d : Device) (which : Entry → Bool) (hEdge : 0x02 ∈ ps)
    (hRing : 0x0D ∈ ps) : o.onlyPages ps (d.acceptNow which) = o.onlyPages ps d := by
  unfold Device.acceptNow
  dsimp only
  rw [Device.pages_each fun k _ d => by simp (disch := (refine id ?_; with_unfolding_all assumption)),
    Device.pages_when _ _ fun d => Device.raise_pages d hEdge,
    Device.pages_when _ _ fun d => (Device.raise_pages _ hEdge).trans (Device.count_pages d _ hEdge)]
  rfl

theorem Device.when_banks {d : Device} {f : Device → Device} (c : Bool) (h : (f d).banks = d.banks) :
    (d.when c f).banks = d.banks := by
  cases c
  · rfl
  · exact h

theorem Device.acceptNow_banks (d : Device) (which : Entry → Bool) : (d.acceptNow which).banks = d.banks := by
  unfold Device.acceptNow
  dsimp only
  rw [Device.each_same (fun d : Device => d.banks) fun d k => by simp, Device.when_banks _ (by simp),
    Device.when_banks _ (by simp)]

theorem bankLeads_lt {d : Device} (hm : m < 4) {l : Nat} (h : l ∈ d.bankLeads m) : l < 160 :=
  bankChans_lt hm (List.mem_filter.1 h).1

theorem Device.bankLeads_of_cfg (hm : m < 4) {d e : Device} (h : ∀ n < 160, e.rd (CH.CFG n) = d.rd (CH.CFG n)) :
    e.bankLeads m = d.bankLeads m :=
  List.filter_congr fun n hn => Device.isLead_congr (h n (bankChans_lt hm hn))

/-- One off-step for every lead of a bank leaves their gangs commanded off and off. -/
theorem Device.OffStep.bankAllOff (hm : m < 4) {f : Device → Nat → Device} (hf : Device.OffStep f) (d : Device) :
    (d.each (d.bankLeads m) f).allOff ((d.each (d.bankLeads m) f).bankLeads m) := by
  have hl : ∀ l ∈ d.bankLeads m, l < 160 := fun l h => bankLeads_lt hm h
  have hp := hf.each_pages hl d
  intro l hll k hk
  rw [Device.bankLeads_of_cfg hm fun n hn => hp.cfg hn] at hll
  rw [Device.gang_of_pages hp (hl l hll)] at hk
  exact hf.each_off hl d hll hk

/-- What writes below the CH pages alone leaves the gangs of a bank off. -/
theorem Device.bankAllOff_of_pages (hm : m < 4) {ps : List Nat} {d e : Device} (h : d.onlyPages ps e)
    (hps : ∀ p ∈ ps, p < 0x20) (hd : d.allOff (d.bankLeads m)) : e.allOff (e.bankLeads m) := by
  have hr : ∀ r : Reg, 0x2000 ≤ r.addr → e.rd r = d.rd r := fun r hr => h r fun hp => by have := hps _ hp; omega
  have hc : ∀ n, e.rd (CH.CFG n) = d.rd (CH.CFG n) := fun n => hr _ (by simp only [CH.CFG]; omega)
  have hs : ∀ n, e.rd (CHS.STAT n) = d.rd (CHS.STAT n) := fun n => hr _ (by simp only [CHS.STAT]; omega)
  intro l hl k hk
  rw [Device.bankLeads_of_cfg hm fun n _ => hc n] at hl
  rw [Device.gang_congr (hc l)] at hk
  simpa [Device.flag, Device.fld, hs] using hd l hl k hk

/-- A bank is released with its channels off: HELD alone of its status bits changes, and its trip record is empty. -/
theorem Device.releaseBank_released (hm : m < 4) (d : Device) :
    (∀ j < 16, (d.releaseBank m).flag ⟨BANK.STAT m, j, 1⟩ = if 0 = j then false else d.flag ⟨BANK.STAT m, j, 1⟩) ∧
      ((d.releaseBank m).bank m).tripRec = [] ∧ (d.releaseBank m).allOff ((d.releaseBank m).bankLeads m) := by
  unfold Device.releaseBank
  dsimp only
  generalize hd1 : (d.lower (BANK.STAT_HELD m)).modBank m _ = d1
  generalize hd2 : d1.each (d1.bankLeads m) _ = d2
  have hflag : ∀ j < 16, d1.flag ⟨BANK.STAT m, j, 1⟩ = if 0 = j then false else d.flag ⟨BANK.STAT m, j, 1⟩ := fun j hj => by
    rw [← hd1]; exact Device.flag_setFlag_bankStat d m 0 j false (hj := hj)
  have hrec : (d1.bank m).tripRec = [] := by rw [← hd1, Device.modBank_bank_same _ _ _ hm]
  have hoff := Device.endHold_offStep 1
  have hpages : d1.onlyPages chsPages d2 := hd2 ▸ hoff.each_pages (fun _ h => bankLeads_lt hm h) d1
  have hpages3 : ∀ w, d2.onlyPages [0x02, 0x0D] (d2.acceptNow w) := fun w =>
    (Device.acceptNow_pages d2 w (by decide) (by decide)).mpr (Device.onlyPages_refl d2)
  have hpage : (BANK.STAT m).addr / 256 = 4 := by simp only [BANK.STAT]; omega
  refine ⟨fun j hj => ?_, ?_, ?_⟩
  · refine Eq.trans ?_ (hflag j hj)
    refine congrArg (fun v => bitsOf v j 1 == 1) ((hpages3 _ (BANK.STAT m) ?_).trans (hpages (BANK.STAT m) ?_))
    · rw [hpage]; decide
    · rw [hpage]; decide
  · unfold Device.bank
    rw [Device.acceptNow_banks]
    rw [← hd2]
    exact (Device.each_same (fun d : Device => (d.bank m).tripRec) (fun d l => Device.endHold_tripRec d l 1 m) _ d1).trans
      hrec
  · exact Device.bankAllOff_of_pages hm (hpages3 _) (by decide) (hd2 ▸ hoff.bankAllOff hm d1)

/-- A bank with its supply, its microcode good and no damage in its trip record is released (R19). -/
theorem Device.restartBank_released (hm : m < 4) {d : Device} (hsup : d.bankSupplied m = true)
    (hiso : (d.bank m).iso = .none) (hrec : ∀ t ∈ (d.bank m).tripRec, t.2.1 ≠ 5) :
    (∀ j < 16, (d.restartBank m true).flag ⟨BANK.STAT m, j, 1⟩ =
      if 0 = j then false else if 3 = j then true else d.flag ⟨BANK.STAT m, j, 1⟩) ∧
      ((d.restartBank m true).bank m).tripRec = [] ∧
      (d.restartBank m true).allOff ((d.restartBank m true).bankLeads m) := by
  have hbank : (d.raise (BANK.STAT_UCODE_OK m)).bank m = d.bank m := by simp [Device.bank]
  have hk := Device.readTripRec_keeps hm (d := d.raise (BANK.STAT_UCODE_OK m)) (hbank ▸ hrec)
  have hnone : (((d.raise (BANK.STAT_UCODE_OK m)).readTripRec m).bank m).iso = .none := by
    rw [hk.bank, Device.modBank_bank_same _ _ _ hm, hbank]; exact hiso
  have heq : d.restartBank m true = ((d.raise (BANK.STAT_UCODE_OK m)).readTripRec m).releaseBank m := by
    simp [Device.restartBank, hsup, hnone]
  rw [heq]
  obtain ⟨hflag, hrest⟩ := Device.releaseBank_released hm ((d.raise (BANK.STAT_UCODE_OK m)).readTripRec m)
  refine ⟨fun j hj => ?_, hrest⟩
  rw [hflag j hj, hk.flag, Device.flag_modBank, Device.flag_raise_bankStat _ _ _ _ (hj := hj)]

end

/-! ## Banks that die, are isolated and come back -/

theorem bankUcodeLoad_reports (s : State) (b : BankId) (ok : Bool) (hp : s.dev.powered = true)
    (hheld : s.dev.flag (BANK.STAT_HELD b) = true) : Completes (.bankUcodeLoad b ok) s fun d =>
      d.flag (BANK.STAT_HELD b) = true ∧ (ok = true → d.flag (BANK.STAT_UCODE_OK b) = true) ∧
      (ok = false → d.flag (BANK.STAT_UCODE_OK b) = false ∧ d.flag (BANK.STAT_UCODE_FAIL b) = true ∧
        d.flag BANK.PSTAT_BANK_UCODE = true ∧ s.dev.reported d Ev.BANK_UCODE [b.val]) := by
  have hm := b.isLt
  refine completes_run (f := fun d => d.ucodeLoad b ok) hp rfl ?_
  simp only [Device.ucodeLoad, hheld, Bool.not_true, Bool.false_eq_true, if_false]
  cases ok with
  | true =>
    simp only [if_true]
    exact ⟨(Device.flag_raise_bankStat s.dev b 3 0).trans hheld, fun _ => Device.flag_raise_bankStat s.dev b 3 3, nofun⟩
  | false =>
    simp only [Bool.false_eq_true, if_false]
    refine ⟨Device.holdBank_stat hm _ 0, nofun, fun _ => ⟨?_, ?_, ?_, ?_⟩⟩
    · exact (Device.holdBank_stat hm _ 3).trans (Device.ucodeFail_stat hm s.dev 3)
    · exact (Device.holdBank_stat hm _ 5).trans (Device.ucodeFail_stat hm s.dev 5)
    · have hr := Device.holdBank_rd (m := b) (s.dev.ucodeFail b) (r := BANK.PSTAT) (by decide)
        (by simp only [BANK.STAT, BANK.PSTAT]; omega)
      rw [Device.flag_of_rd (f := BANK.PSTAT_BANK_UCODE) hr, Device.ucodeFail_eq]
      exact Device.bankReport_pstat hm _ (by decide) _ _
    · refine Device.reported_mono (d := s.dev.ucodeFail b) (by rw [Device.holdBank_events]) ?_
      rw [Device.ucodeFail_eq]
      exact Device.bankReport_reported (by simp) _ _ _

theorem bankDeadman_trips (s : State) (b : BankId) (hp : s.dev.powered = true)
    (hheld : s.dev.flag (BANK.STAT_HELD b) = false) (hsup : s.dev.bankSupplied b = true)
    (hdue : (s.dev.bank b).validAt + 2000 < s.dev.clk) : Completes (.bankDeadman b) s fun d =>
      d.flag (BANK.STAT_HELD b) = true ∧ d.flag (BANK.STAT_DEADMAN b) = true ∧ (d.bank b).cmds = [] ∧
      (∀ n ∈ bankChans b, d.flag (CHS.STAT_OUT n) = false) ∧
      s.dev.reported d Ev.BANK_DEADMAN [b.val, (s.dev.bank b).lastValid] := by
  have hm := b.isLt
  refine completes_run (f := fun d => d.deadman b) hp rfl ?_
  rw [Device.deadman_due hheld hsup hdue]
  have hk := Device.bankReport_keeps hm (s.dev.deadmanHeld b) (f := BANK.PSTAT_BANK_DEADMAN) rfl Ev.BANK_DEADMAN
    [b, (s.dev.bank b).lastValid]
  refine ⟨?_, ?_, ?_, fun n hn => ?_, ?_⟩
  · exact (hk.flag _ _).trans (Device.deadmanHeld_stat hm s.dev 0)
  · exact (hk.flag _ _).trans (Device.deadmanHeld_stat hm s.dev 4)
  · rw [hk.bank, Device.deadmanHeld, Device.modBank_bank_same _ _ _ hm, Device.bank_raise,
      Device.holdBank_bank hm]
  · rw [Device.bankReport_chs hm _ rfl, Device.deadmanHeld, Device.flag_modBank,
      Device.flag_raise_reg _ (by simp only [BANK.STAT, CHS.STAT]; omega)]
    exact Device.holdBank_out s.dev hn
  · exact Device.bankReport_reported (by simp [Device.deadmanHeld, Device.holdBank_events]) _ _ _

/-- Settles O11: a load, the dead-man and a restart in turn; a restart without damage is `Device.restartBank_released`. -/
theorem bankDies : Obligations.BankDies := by
  refine ⟨bankUcodeLoad_reports, fun s b hp hheld hsup => ⟨bankDeadman_trips s b hp hheld hsup, fun hearly => ?_⟩,
    fun s b ok hp hheld hiso hstep hen hsup => ?_⟩
  · exact completes_run (f := fun d => d.deadman b) hp rfl (Device.deadman_early hearly)
  · have hgo : (s.dev.flag (BANK.STAT_HELD b) && !s.dev.flag (BANK.STAT_ISO b) && (s.dev.bank b).iso == .none &&
        (s.dev.bank b).enabled) = true := by rw [hheld, hiso, hstep, hen]; rfl
    refine completes_run hp rfl ?_
    simp only [hgo, if_true]
    refine ⟨?_, ?_⟩
    · rintro rfl hrec
      obtain ⟨hflag, hrest⟩ := Device.restartBank_released b.isLt hsup hstep hrec
      exact ⟨hflag 0 (by decide), hflag 3 (by decide), hrest⟩
    · rintro rfl
      have heq : s.dev.restartBank b false = s.dev.ucodeFail b := by simp [Device.restartBank, hsup]
      rw [heq]
      exact ⟨(Device.ucodeFail_stat b.isLt s.dev 0).trans hheld, Device.ucodeFail_stat b.isLt s.dev 5⟩

end Sys2Proof.Machine

namespace Sys2Proof.Machine

/-! ## Isolating a bank (R23, R131, R132) -/

section
variable {m : Nat}

theorem Device.bankOff_events (d : Device) (m : Nat) : (d.bankOff m).events = d.events :=
  Device.leadsOff_events d (d.bankLeads m) 1

/-- OPEN on a bank without an isolator: it is held and marked alone. -/
theorem Device.isoOpen_withoutIsolator (hm : m < 4) {d : Device} (hiso : d.flag (BANK.STAT_ISO m) = false)
    (hstep : (d.bank m).iso = .none) (hno : d.flag (BANK.STAT_NOISO m) = true) :
    (d.isoOpen m).flag (BANK.STAT_HELD m) = true ∧ (∀ n ∈ bankChans m, (d.isoOpen m).flag (CHS.STAT_OUT n) = false) ∧
      (d.isoOpen m).flag (BANK.STAT_ISO m) = true ∧ d.reported (d.isoOpen m) Ev.ISO_OPENED [m, 1] := by
  have heq : d.isoOpen m = (((d.bankOff m).holdBank m).raise (BANK.STAT_ISO m)).isoOpened m true := by
    simp [Device.isoOpen, hiso, hstep, hno]
  rw [heq]
  refine ⟨?_, fun n hn => ?_, ?_, ?_⟩
  · rw [Device.isoOpened_stat hm _ _ 0]
    exact (Device.flag_raise_bankStat _ m 1 0).trans (Device.holdBank_stat hm _ 0)
  · rw [Device.isoOpened_eq, Device.bankReport_chs hm _ rfl,
      Device.flag_raise_reg _ (by simp only [BANK.STAT, CHS.STAT]; omega),
      Device.flag_raise_reg _ (by simp only [BANK.STAT, CHS.STAT]; omega)]
    exact Device.holdBank_out _ hn
  · rw [Device.isoOpened_stat hm _ _ 1]
    exact Device.flag_raise_bankStat _ m 1 1
  · rw [Device.isoOpened_eq]
    exact Device.bankReport_reported (by simp [Device.holdBank_events, Device.bankOff_events]) _ _ _

/-- OPEN on a bank with an isolator begins its opening. -/
theorem Device.isoOpen_opens (hm : m < 4) {d : Device} (hiso : d.flag (BANK.STAT_ISO m) = false)
    (hstep : (d.bank m).iso = .none) (hno : d.flag (BANK.STAT_NOISO m) = false) :
    (d.isoOpen m).flag (BANK.STAT_HELD m) = true ∧ (∀ n ∈ bankChans m, (d.isoOpen m).flag (CHS.STAT_OUT n) = false) ∧
      ((d.isoOpen m).bank m).iso = .opening true ∧ ((d.isoOpen m).bank m).isoGate = false := by
  have heq : d.isoOpen m = ((d.bankOff m).holdBank m).modBank m fun b => { b with isoGate := false, iso := .opening true } := by
    simp [Device.isoOpen, hiso, hstep, hno, Device.isolate]
  rw [heq, Device.modBank_bank_same _ _ _ hm, Device.flag_modBank]
  refine ⟨Device.holdBank_stat hm _ 0, fun n hn => ?_, rfl, rfl⟩
  rw [Device.flag_modBank]
  exact Device.holdBank_out _ hn

/-- The verification of an opening, before its report as a fault. -/
def Device.isoChecked (d : Device) (m : Nat) (off : Bool) : Device :=
  (if off then d else (d.raise (BANK.STAT_ISO_FAIL m)).log Ev.ISO_FAIL [m]).raise (BANK.STAT_ISO m)

theorem Device.isoChecked_bank (d : Device) (m : Nat) (off : Bool) : (d.isoChecked m off).bank m = d.bank m := by
  cases off <;> simp [Device.isoChecked, Device.bank]

theorem Device.isoChecked_prefix (d : Device) (m : Nat) (off : Bool) : d.events <+: (d.isoChecked m off).events := by
  cases off
  · simpa [Device.isoChecked] using Device.log_prefix (d.raise (BANK.STAT_ISO_FAIL m)) Ev.ISO_FAIL [m]
  · simp [Device.isoChecked]

theorem Device.isoChecked_fail (hm : m < 4) (d : Device) : (d.isoChecked m false).flag (BANK.STAT_ISO_FAIL m) = true ∧
    d.reported (d.isoChecked m false) Ev.ISO_FAIL [m] := by
  constructor
  · refine (Device.flag_raise_bankStat _ m 1 7).trans ?_
    exact ((Device.KeepsBank.log hm _ _ _).flag 7 1).trans (Device.flag_raise_bankStat d m 7 7)
  · exact Device.reported_mono (d := (d.raise (BANK.STAT_ISO_FAIL m)).log Ev.ISO_FAIL [m]) (by simp [Device.isoChecked])
      (Device.reported_log (by simp) _ _)

/-- With no CLOSE waiting, the opening ends with the bank isolated. -/
theorem Device.isoVerify_opened {d : Device} {fault off : Bool} (h : (d.bank m).iso = .opening fault)
    (hpend : (d.bank m).closePend = none) (hm : m < 4) : d.isoVerify m off =
      (if fault then (d.isoChecked m off).isoOpened m false else d.isoChecked m off).modBank m
        fun b => { b with iso := .none, closePend := none } := by
  have hb : (if fault then (d.isoChecked m off).isoOpened m false else d.isoChecked m off).bank m = d.bank m := by
    cases fault
    · exact Device.isoChecked_bank d m off
    · simp only [if_true]
      rw [Device.isoOpened_eq, (Device.bankReport_keeps hm _ rfl _ _).bank, Device.bank_raise, Device.isoChecked_bank]
  unfold Device.isoVerify
  rw [h]
  change (match (Device.bank (if fault then (d.isoChecked m off).isoOpened m false else d.isoChecked m off) m).closePend with
    | some u => _ | none => _) = _
  rw [hb, hpend]
  rfl

theorem Device.reported_modBank (o d : Device) (k : Nat) (f : Bank → Bank) (code : Nat) (args : List Nat) :
    o.reported (d.modBank k f) code args = o.reported d code args := rfl

theorem Device.isoVerify_isolates (hm : m < 4) {d : Device} {fault : Bool} (off : Bool) (h : (d.bank m).iso = .opening fault)
    (hpend : (d.bank m).closePend = none) :
    (d.isoVerify m off).flag (BANK.STAT_ISO m) = true ∧ ((d.isoVerify m off).bank m).iso = .none ∧
      (off = false → (d.isoVerify m off).flag (BANK.STAT_ISO_FAIL m) = true ∧
        d.reported (d.isoVerify m off) Ev.ISO_FAIL [m]) ∧
      (fault = true → d.reported (d.isoVerify m off) Ev.ISO_OPENED [m, 0]) := by
  have hiso : (d.isoChecked m off).flag (BANK.STAT_ISO m) = true := Device.flag_raise_bankStat _ m 1 1
  rw [Device.isoVerify_opened h hpend hm, Device.modBank_bank_same _ _ _ hm, Device.flag_modBank, Device.flag_modBank,
    Device.reported_modBank, Device.reported_modBank]
  cases fault with
  | false =>
    rw [if_neg Bool.false_ne_true]
    refine ⟨hiso, rfl, ?_, nofun⟩
    rintro rfl
    exact Device.isoChecked_fail hm d
  | true =>
    rw [if_pos rfl]
    refine ⟨(Device.isoOpened_stat hm _ _ 1).trans hiso, rfl, ?_, fun _ => ?_⟩
    · rintro rfl
      obtain ⟨hfail, hrep⟩ := Device.isoChecked_fail hm d
      refine ⟨(Device.isoOpened_stat hm _ _ 7).trans hfail, Device.reported_mono ?_ hrep⟩
      rw [Device.isoOpened_eq]
      exact List.IsPrefix.trans (by simp) (Device.bankReport_keeps hm _ rfl _ _).events
    · rw [Device.isoOpened_eq]
      exact Device.bankReport_reported (by simpa using Device.isoChecked_prefix d m off) _ _ _

theorem Device.isoClose_refused (hm : m < 4) {d : Device} (ok : Bool) (hstep : (d.bank m).iso = .none)
    (hiso : d.flag (BANK.STAT_ISO m) = true) (hlink : (d.bank m).link = true)
    (hno : d.flag (BANK.STAT_NOISO m) = false) (hdam : d.bankDamaged m = true) :
    (d.isoClose m ok).flag (BANK.STAT_ISO m) = true ∧ (d.isoClose m ok).flag (BANK.STAT_ISO_REFUSED m) = true ∧
      d.reported (d.isoClose m ok) Ev.ISO_REFUSED [m] := by
  have heq : d.isoClose m ok = d.isoRefused m := by simp [Device.isoClose, hstep, hiso, hlink, hno, hdam]
  have hk := Device.KeepsBank.log hm (d.raise (BANK.STAT_ISO_REFUSED m)) Ev.ISO_REFUSED [m]
  rw [heq]
  exact ⟨(hk.flag 1 1).trans ((Device.flag_raise_bankStat d m 8 1).trans hiso),
    (hk.flag 8 1).trans (Device.flag_raise_bankStat d m 8 8), Device.reported_log (by simp) _ _⟩

theorem Device.isoClose_restarts (hm : m < 4) {d : Device} (hstep : (d.bank m).iso = .none)
    (hiso : d.flag (BANK.STAT_ISO m) = true) (hlink : (d.bank m).link = true) (hdam : d.bankDamaged m = false)
    (hrec : ∀ t ∈ (d.bank m).tripRec, t.2.1 ≠ 5) :
    (d.isoClose m true).flag (BANK.STAT_ISO m) = false ∧ (d.isoClose m true).flag (BANK.STAT_HELD m) = false ∧
      (d.isoClose m true).allOff ((d.isoClose m true).bankLeads m) := by
  generalize hd1 : (d.lower (BANK.STAT_ISO m)).modBank m (fun b => { b with isoGate := true, enabled := true }) = d1
  have heq : d.isoClose m true = d1.restartBank m true := by simp [Device.isoClose, hstep, hiso, hlink, hdam, ← hd1]
  have hbank : d1.bank m = { d.bank m with isoGate := true, enabled := true } := by
    rw [← hd1, Device.modBank_bank_same _ _ _ hm]; simp [Device.bank]
  have hsup : d1.bankSupplied m = true := by simp [Device.bankSupplied, hbank, hlink]
  obtain ⟨hflag, -, hoff⟩ := Device.restartBank_released hm hsup (by rw [hbank]; exact hstep) (by rw [hbank]; exact hrec)
  rw [heq]
  refine ⟨(hflag 1 (by decide)).trans ?_, hflag 0 (by decide), hoff⟩
  rw [← hd1]
  exact Device.flag_setFlag_bankStat d m 1 1 false

end

/-- Settles O21: a clause for each of OPEN without and with an isolator, the verification, and CLOSE refused and
obeyed. -/
theorem bankIsolation : Obligations.BankIsolation := by
  intro s b hp
  have hm := b.isLt
  refine ⟨fun w hw hiso hstep => ?_, fun fault off h hpend => ?_, fun w ok hw hstep hiso hlink => ⟨fun hno hdam => ?_,
    fun hdam hrec hok => ?_⟩⟩
  · refine completes_write (f := fun d => d.isoOpen b) hp hw rfl fun x => ?_
    cases hno : s.dev.flag (BANK.STAT_NOISO b) with
    | true => exact Device.isoOpen_withoutIsolator hm hiso hstep hno
    | false => exact Device.isoOpen_opens hm hiso hstep hno
  · exact completes_run (f := fun d => d.isoVerify b off) hp rfl (Device.isoVerify_isolates hm off h hpend)
  · exact completes_write (f := fun d => d.isoClose b ok) hp hw rfl fun x =>
      Device.isoClose_refused hm ok hstep hiso hlink hno hdam
  · subst hok
    exact completes_write (f := fun d => d.isoClose b true) hp hw rfl fun x =>
      Device.isoClose_restarts hm hstep hiso hlink hdam hrec

end Sys2Proof.Machine

namespace Sys2Proof.Machine

/-! ## The power-on reset (R28, R409) -/

/-- The flags of the last start have no part in what the OTP array reads. -/
theorem Otp.lifecycle_weak (o : Otp) (w : List Nat) : Otp.lifecycle { o with weak := w } = o.lifecycle := rfl

theorem Otp.lifecycle_lt (o : Otp) : o.lifecycle < 4 := by
  unfold Otp.lifecycle
  (repeat' split) <;> decide

/-- The registers that a power-on reset writes beside its cause, its address and page FEED. -/
def bootRegs : List Nat := [SYS.ID.addr, SYS.SERIAL.addr, RING.ADDR.addr, SEC.LIFE.addr, SEC.DBG.addr, WDT.CNT.addr,
  WDT.CHK.addr, WDT.STAT.addr]

/-- What IDENT gives, SEC.LIFE and the nonce. -/
def Device.readOtp (d : Device) : Device := d.readIdent.readLife.newNonce

/-- The last step of a power-on reset: the debug state by lifecycle, and the boot period. -/
def Device.enterBoot (d : Device) : Device :=
  (d.setFld SEC.DBG_DSTATE (if d.lifecycle = lcDeployed then dbgClosed else dbgOpen)).bootPeriod

/-- The device at Reset but for the memories it keeps and the feed controllers. -/
def Device.afresh (d : Device) : Device :=
  { Device.reset with otp := { d.otp with weak := [] }, flash := d.flash.kept, free := d.free }.keepFeeds d

theorem Device.powerOn_eq (d : Device) (src : PorSource) (straps : Nat) : d.powerOn src straps =
    ((d.otpCollapse.storeCollapse.afresh.wr TWI.ADDR (0x38 + straps)).setFld SYS.RSTCAUSE_PORSRC
      (porCode src)).readOtp.enterBoot := rfl

/-! ### What each step keeps -/

/-- What a power-on reset sets once, and the reading of the OTP array and the boot period leave alone. -/
structure Device.PorKept (d e : Device) : Prop where
  rck : e.rck = d.rck
  otp : e.otp = d.otp
  flash : e.flash = d.flash
  supply : e.sec.supply = d.sec.supply
  bootDue : e.sec.bootDue = d.sec.bootDue

namespace Device.PorKept

theorem refl (d : Device) : d.PorKept d := ⟨rfl, rfl, rfl, rfl, rfl⟩

theorem trans {d e f : Device} (h : d.PorKept e) (k : e.PorKept f) : d.PorKept f :=
  ⟨k.rck.trans h.rck, k.otp.trans h.otp, k.flash.trans h.flash, k.supply.trans h.supply, k.bootDue.trans h.bootDue⟩

theorem wr (d : Device) (r : Reg) (v : Nat) : d.PorKept (d.wr r v) := ⟨rfl, rfl, rfl, rfl, rfl⟩
theorem setFld (d : Device) (f : Field) (v : Nat) : d.PorKept (d.setFld f v) := ⟨rfl, rfl, rfl, rfl, rfl⟩
theorem setFlag (d : Device) (f : Field) (b : Bool) : d.PorKept (d.setFlag f b) := ⟨rfl, rfl, rfl, rfl, rfl⟩
theorem raise (d : Device) (f : Field) : d.PorKept (d.raise f) := ⟨rfl, rfl, rfl, rfl, rfl⟩
theorem modRing (d : Device) (f : Ring → Ring) : d.PorKept (d.modRing f) := ⟨rfl, rfl, rfl, rfl, rfl⟩
theorem modWdt (d : Device) (f : Wdt → Wdt) : d.PorKept (d.modWdt f) := ⟨rfl, rfl, rfl, rfl, rfl⟩

theorem setAddr (d : Device) (a : Nat) (rigged : Bool) : d.PorKept (d.setAddr a rigged) := by
  refine PorKept.trans ?_ ((setFld _ RING.ADDR_ADDR a).trans (setFlag _ RING.ADDR_RIGGED rigged))
  split
  · exact refl d
  · exact modRing d _

theorem readIdent (d : Device) : d.PorKept d.readIdent := by
  have hhead := (setFld d SYS.ID_STEP d.otp.stepping).trans (wr _ SYS.SERIAL d.otp.serial)
  unfold Device.readIdent
  dsimp only
  split
  · exact hhead.trans (setAddr _ _ _)
  · exact hhead

theorem readLife (d : Device) : d.PorKept d.readLife :=
  (((setFld d _ _).trans (setFld _ _ _)).trans (setFlag _ _ _)).trans (setFlag _ _ _)

theorem newNonce (d : Device) : d.PorKept d.newNonce := ⟨rfl, rfl, rfl, rfl, rfl⟩

theorem readOtp (d : Device) : d.PorKept d.readOtp := ((readIdent d).trans (readLife _)).trans (newNonce _)

theorem bootPeriod (d : Device) : d.PorKept d.bootPeriod := by
  unfold Device.bootPeriod
  exact (((wr d _ _).trans (wr _ _ _)).trans (raise _ _)).trans (modWdt _ _)

theorem enterBoot (d : Device) : d.PorKept d.enterBoot := (setFld d _ _).trans (bootPeriod _)

end Device.PorKept

/-- Registers beside those of the OTP reading and the boot period stay. -/
theorem Device.setAddr_rd (d : Device) (a : Nat) (rigged : Bool) {q : Reg} (h : RING.ADDR.addr ≠ q.addr) :
    (d.setAddr a rigged).rd q = d.rd q := by
  refine (Device.rd_setFld_ne _ _ h).trans ((Device.rd_setFld_ne _ _ h).trans ?_)
  split <;> rfl

theorem Device.readIdent_rd (d : Device) {q : Reg} (h : q.addr ∉ bootRegs) : d.readIdent.rd q = d.rd q := by
  have hhead : ((d.setFld SYS.ID_STEP d.otp.stepping).wr SYS.SERIAL d.otp.serial).rd q = d.rd q := by
    rw [Device.rd_wr_ne _ _ fun e => h (e ▸ by decide), Device.rd_setFld_ne _ _ fun e => h (e ▸ by decide)]
  unfold Device.readIdent
  dsimp only
  split
  · rw [Device.setAddr_rd _ _ _ fun e => h (e ▸ by decide), hhead]
  · exact hhead

/-- LIFE alone takes the lifecycle. -/
theorem Device.readLife_rd (d : Device) {q : Reg} (h : SEC.LIFE.addr ≠ q.addr) : d.readLife.rd q = d.rd q := by
  unfold Device.readLife Device.setFlag
  dsimp only
  rw [Device.rd_setFld_ne _ _ h, Device.rd_setFld_ne _ _ h, Device.rd_setFld_ne _ _ h, Device.rd_setFld_ne _ _ h]

theorem Device.readLife_state (d : Device) : d.readLife.fld SEC.LIFE_STATE = d.otp.lifecycle := by
  unfold Device.readLife Device.setFlag
  dsimp only
  rw [Device.fld_setFld_beside (f := SEC.LIFE_KILLED) (g := SEC.LIFE_STATE) _ _ rfl (by decide) (by decide),
    Device.fld_setFld_beside (f := SEC.LIFE_PARTIAL) (g := SEC.LIFE_STATE) _ _ rfl (by decide) (by decide),
    Device.fld_setFld_beside (f := SEC.LIFE_BURNED) (g := SEC.LIFE_STATE) _ _ rfl (by decide) (by decide),
    Device.fld_setFld_same _ _ _ (by decide)]
  exact Nat.mod_eq_of_lt d.otp.lifecycle_lt

/-- The nonce is no register. -/
theorem Device.readOtp_regs (d : Device) : d.readOtp.regs = d.readIdent.readLife.regs := by
  simp [Device.readOtp, Device.newNonce]

theorem Device.readOtp_rd (d : Device) {q : Reg} (h : q.addr ∉ bootRegs) : d.readOtp.rd q = d.rd q := by
  rw [Device.rd_congr d.readOtp_regs, Device.readLife_rd _ fun e => h (e ▸ by decide), d.readIdent_rd h]

/-- The registers of the boot period. -/
theorem Device.bootPeriod_regs (d : Device) :
    d.bootPeriod.regs = (((d.wr WDT.CNT 0).wr WDT.CHK 0).raise WDT.STAT_BOOT).regs := by
  simp [Device.bootPeriod]

theorem Device.bootPeriod_rd (d : Device) {q : Reg} (hs : WDT.STAT.addr ≠ q.addr) (hk : WDT.CHK.addr ≠ q.addr)
    (hc : WDT.CNT.addr ≠ q.addr) : d.bootPeriod.rd q = d.rd q := by
  rw [Device.rd_congr d.bootPeriod_regs, Device.rd_raise_ne _ hs, Device.rd_wr_ne _ _ hk, Device.rd_wr_ne _ _ hc]

theorem Device.bootPeriod_boot (d : Device) : d.bootPeriod.flag WDT.STAT_BOOT = true := by
  rw [Device.flag_congr d.bootPeriod_regs]; exact Device.flag_raise _ WDT.STAT_BOOT rfl (by decide)

theorem Device.enterBoot_rd (d : Device) {q : Reg} (h : q.addr ∉ bootRegs) : d.enterBoot.rd q = d.rd q := by
  unfold Device.enterBoot
  rw [Device.bootPeriod_rd _ (fun e => h (e ▸ by decide)) (fun e => h (e ▸ by decide)) (fun e => h (e ▸ by decide)),
    Device.rd_setFld_ne _ _ fun e => h (e ▸ by decide)]

/-- Outside page FEED the device starts with Reset values. -/
theorem Device.afresh_rd (d : Device) {q : Reg} (h : q.addr / 256 ≠ 5) : d.afresh.rd q = q.reset := by
  have hf : ∀ i ∈ [0, 1], (FEED.FSTAT i).addr ≠ q.addr := fun i hi e => by
    simp only [List.mem_cons, List.not_mem_nil, or_false] at hi
    simp only [FEED.FSTAT] at e
    omega
  have hs : FEED.STAT.addr ≠ q.addr := fun e => by simp only [FEED.STAT] at e; omega
  unfold Device.afresh Device.keepFeeds
  dsimp only [Device.each, List.foldl]
  rw [Device.rd_wr_ne _ _ hs, Device.rd_wr_ne _ _ (hf 1 (by simp)), Device.rd_wr_ne _ _ (hf 0 (by simp))]
  exact Device.rd_reset q

theorem Device.afresh_state (d : Device) : d.afresh.rck = Device.reset.rck ∧ d.afresh.otp = { d.otp with weak := [] } ∧
    d.afresh.flash = d.flash.kept ∧ d.afresh.sec = Device.reset.sec := by
  unfold Device.afresh Device.keepFeeds
  dsimp only [Device.each, List.foldl]
  simp

/-- An operation that the supply's end cuts short leaves the OTP array, and the slots as they stood (R342). -/
theorem Device.storeCollapse_kept (d : Device) :
    d.storeCollapse.otp = d.otp ∧ d.storeCollapse.flash.flash = d.flash.flash := by
  unfold Device.storeCollapse
  dsimp only
  split
  · exact ⟨rfl, rfl⟩
  · unfold Device.putRecord; (repeat' split) <;> simp
  · unfold Device.openSector; (repeat' split) <;> simp
  · simp
  · simp

theorem Device.otpCollapse_flash (d : Device) : d.otpCollapse.flash = d.flash := by
  unfold Device.otpCollapse
  split
  · rfl
  · dsimp only
    refine Device.each_keeps (P := fun e => e.flash = d.flash) (fun e b h => ?_) _ _
      (Device.each_keeps (P := fun e => e.flash = d.flash) (fun e b h => ?_) _ _ rfl)
    · exact h
    · exact h

theorem Device.otpCollapse_idle {d : Device} (h : d.otp.run = none) : d.otpCollapse = d := by
  unfold Device.otpCollapse; rw [h]

/-- The lifecycle register after the OTP array has been read. -/
theorem Device.readOtp_lifecycle (d : Device) : d.readOtp.lifecycle = d.otp.lifecycle := by
  unfold Device.lifecycle
  rw [Device.fld_congr d.readOtp_regs, Device.readLife_state, (Device.PorKept.readIdent d).otp]

theorem Device.enterBoot_lifecycle (d : Device) : d.enterBoot.lifecycle = d.lifecycle := by
  unfold Device.lifecycle Device.fld Device.enterBoot
  rw [Device.bootPeriod_rd _ (by decide) (by decide) (by decide), Device.rd_setFld_ne _ _ (by decide)]

/-- A power-on reset starts the device afresh, with the memories as the supply's end left them. -/
theorem Device.powerOn_fresh (d : Device) (src : PorSource) {straps : Nat} (hs : straps < 8) :
    let e := d.powerOn src straps
    e.powered = true ∧ e.now = 0 ∧ e.inKeep = true ∧ e.rigged = false ∧ e.sec.bootDue = true ∧
      e.flag WDT.STAT_BOOT = true ∧ e.rd TWI.ADDR = 0x38 + straps ∧ e.fld SYS.RSTCAUSE_PORSRC = porCode src ∧
      e.flash.flash = d.flash.flash ∧ (d.otp.run = none → e.otp.norm = d.otp.norm ∧ e.otp.tight = d.otp.tight ∧
        e.lifecycle = d.otp.lifecycle) := by
  dsimp only
  rw [Device.powerOn_eq]
  generalize hc : d.otpCollapse.storeCollapse = c
  generalize ha : (c.afresh.wr TWI.ADDR (0x38 + straps)).setFld SYS.RSTCAUSE_PORSRC (porCode src) = a
  have hk : a.PorKept a.readOtp.enterBoot := (Device.PorKept.readOtp a).trans (Device.PorKept.enterBoot _)
  have hrd : ∀ {q : Reg}, q.addr ∉ bootRegs → a.readOtp.enterBoot.rd q = a.rd q := fun h =>
    (Device.enterBoot_rd _ h).trans (a.readOtp_rd h)
  have hreset : ∀ {q : Reg}, q.addr ∉ bootRegs → q.addr / 256 ≠ 5 → TWI.ADDR.addr ≠ q.addr → SYS.RSTCAUSE.addr ≠ q.addr →
      a.readOtp.enterBoot.rd q = q.reset := fun h h5 ht hr => by
    rw [hrd h, ← ha, Device.rd_setFld_ne _ _ hr, Device.rd_wr_ne _ _ ht, Device.afresh_rd _ h5]
  obtain ⟨hrck, hotp, hflash, hsec⟩ := c.afresh_state
  have haf : a.rck = Device.reset.rck ∧ a.otp = { c.otp with weak := [] } ∧ a.flash = c.flash.kept ∧
      a.sec = Device.reset.sec := by
    rw [← ha]; simp [hrck, hotp, hflash, hsec]
  obtain ⟨hrck, hotp, hflash, hsec⟩ := haf
  obtain ⟨hco, hcf⟩ := d.otpCollapse.storeCollapse_kept
  refine ⟨?_, ?_, ?_, ?_, ?_, ?_, ?_, ?_, ?_, fun hrun => ?_⟩
  · rw [Device.powered, hk.supply, hsec]; rfl
  · rw [Device.now, hk.rck, hrck]; rfl
  · rw [Device.inKeep, Device.fld, hreset (q := SEC.PSTAT) (by decide) (by decide) (by decide) (by decide)]; rfl
  · rw [Device.rigged, Device.flag, Device.fld, hreset (q := SYS.RIG) (by decide) (by decide) (by decide) (by decide)]; rfl
  · rw [hk.bootDue, hsec]; rfl
  · exact Device.bootPeriod_boot _
  · rw [hrd (by decide), ← ha, Device.rd_setFld_ne _ _ (by decide), Device.rd_wr_same]
    exact Nat.mod_eq_of_lt (by simp only [TWI.ADDR]; omega)
  · rw [Device.fld, hrd (q := SYS.RSTCAUSE) (by decide), ← ha]
    refine (Device.fld_setFld_same _ SYS.RSTCAUSE_PORSRC _ (by decide)).trans ?_
    cases src <;> rfl
  · rw [hk.flash, hflash]
    show c.flash.flash = _
    rw [← hc, hcf, Device.otpCollapse_flash]
  · have hcd : c.otp = d.otp := by rw [← hc, hco, Device.otpCollapse_idle hrun]
    refine ⟨?_, ?_, ?_⟩
    · rw [hk.otp, hotp, hcd]
    · rw [hk.otp, hotp, hcd]
    · rw [Device.enterBoot_lifecycle, Device.readOtp_lifecycle, hotp, Otp.lifecycle_weak, hcd]

end Sys2Proof.Machine

namespace Sys2Proof.Machine

/-! ## Secure boot: the OTP regions, and what the rest of a boot leaves alone (R306, R329) -/

/-- Every page but that of the OTP registers. -/
def bootPages : List Nat := (List.range 64).filter (· != 0x10)

theorem mem_bootPages {n : Nat} (h : n < 64) (h10 : n ≠ 0x10) : n ∈ bootPages :=
  List.mem_filter.2 ⟨List.mem_range.2 h, by simpa using h10⟩

section
variable {o : Device}

theorem Device.readIdent_pages (d : Device) : o.onlyPages bootPages d.readIdent = o.onlyPages bootPages d := by
  have hset : ∀ (e : Device) a b, o.onlyPages bootPages (e.setAddr a b) = o.onlyPages bootPages e := fun e a b => by
    unfold Device.setAddr
    dsimp only
    rw [Device.setFlag_pages _ _ (by decide), Device.setFld_pages _ _ (by decide)]
    split
    · rfl
    · exact Device.onlyPages_congr rfl
  have hhead : o.onlyPages bootPages ((d.setFld SYS.ID_STEP d.otp.stepping).wr SYS.SERIAL d.otp.serial) =
      o.onlyPages bootPages d := by rw [Device.wr_pages _ _ (by decide), Device.setFld_pages _ _ (by decide)]
  unfold Device.readIdent
  dsimp only
  split
  · rw [hset, hhead]
  · exact hhead

theorem Device.findStore_pages (d : Device) (r : SfdpResult) :
    o.onlyPages bootPages (d.findStore r) = o.onlyPages bootPages d := by
  unfold Device.findStore
  dsimp only
  (repeat' split) <;> simp (disch := decide)

theorem Device.restoreClock_pages (d : Device) : o.onlyPages bootPages d.restoreClock = o.onlyPages bootPages d := by
  unfold Device.restoreClock
  split <;> simp (disch := decide)

theorem cntReg_page13 {i : Nat} {r : Reg} (h : cntReg i = some r) : r.addr / 256 = 0x13 := by
  unfold cntReg at h
  dsimp only at h
  split at h
  case isFalse => cases h
  case isTrue hj =>
    cases h
    split <;> simp only [CNT.UV, CNT.OV, CNT.OC, CNT.CHAT, CNT.STO, CNT.TRIP] <;> omega

theorem Device.restoreCounters_pages (d : Device) :
    o.onlyPages bootPages d.restoreCounters = o.onlyPages bootPages d := by
  have hcyc : ∀ n ∈ allChans, (CHS.CYC n).addr / 256 ∈ bootPages := fun n hn => by
    have := List.mem_range.1 hn
    exact mem_bootPages (by simp only [CHS.CYC]; omega) (by simp only [CHS.CYC]; omega)
  unfold Device.restoreCounters
  dsimp only
  rw [Device.pages_each fun n hn e => by
      cases e.newest (asLatency n) with
      | none => rfl
      | some r => exact Device.wr_pages e _ (hcyc n hn),
    Device.setFlag_pages _ _ (by decide), Device.setFlag_pages _ _ (by decide), Device.pages_each fun p _ e => ?_]
  split
  · refine Device.pages_each (fun i _ e => ?_) e
    cases h : cntReg (20 * p + i) with
    | none => rfl
    | some r => exact Device.wr_pages e _ (by rw [cntReg_page13 h]; decide)
  · rfl

theorem Device.readOut_pages (d : Device) (l : List Sector) :
    o.onlyPages bootPages (d.readOut l) = o.onlyPages bootPages d := by
  unfold Device.readOut
  dsimp only
  rw [Device.pages_each fun g _ e => by simp (disch := decide)]
  split
  · rfl
  · simp (disch := decide)

theorem Device.storeRegs_pages (d : Device) : o.onlyPages bootPages d.storeRegs = o.onlyPages bootPages d := by
  have hslot : ∀ x ∈ allSlotKinds, (UPD.SLOTID (slotIx x.1 x.2)).addr / 256 ∈ bootPages ∧
      (UPD.SLOTVER (slotIx x.1 x.2)).addr / 256 ∈ bootPages := by decide
  unfold Device.storeRegs
  dsimp only
  rw [Device.pages_each fun x hx e => by rw [Device.wr_pages _ _ (hslot x hx).2, Device.wr_pages _ _ (hslot x hx).1]]
  simp (disch := decide)

theorem Device.readStore_pages (d : Device) : o.onlyPages bootPages d.readStore = o.onlyPages bootPages d := by
  unfold Device.readStore
  dsimp only
  rw [Device.storeRegs_pages, Device.pages_when _ _ fun e => Device.countSat_pages e _ (by decide)]
  split
  · exact Device.pages_when _ _ fun e => Device.raise_pages e (by decide)
  · rw [Device.readOut_pages, Device.readOut_pages, Device.pages_when _ _ fun e => Device.restoreCounters_pages e,
      Device.restoreClock_pages]
    simp (disch := decide)

theorem Device.countErase_pages (d : Device) (k : Nat) :
    o.onlyPages bootPages (d.countErase k) = o.onlyPages bootPages d := by
  have hmust : ∀ (e : Device) c, o.onlyPages bootPages (e.mustRetire k c) = o.onlyPages bootPages e := fun e c => by
    unfold Device.mustRetire
    split
    · exact Device.retire_pages e k c (by decide) (by decide)
    · exact Device.modStore_pages e _
  unfold Device.countErase
  dsimp only
  split
  · rw [hmust, Device.wr_pages _ _ (by decide), Device.modStore_pages]
  · rw [Device.wr_pages _ _ (by decide), Device.modStore_pages]

theorem Device.writeHdr_pages (d : Device) (env : EnergyEnv) (h : BootHdr) :
    o.onlyPages bootPages (d.writeHdr env h).2 = o.onlyPages bootPages d := by
  unfold Device.writeHdr
  dsimp only
  (repeat' split) <;> simp (disch := decide) [Device.countErase_pages]

theorem Device.noCount_pages (d : Device) : o.onlyPages bootPages d.noCount = o.onlyPages bootPages d := by
  unfold Device.noCount; simp (disch := decide)

theorem Device.revert_pages (d : Device) (env : EnergyEnv) :
    o.onlyPages bootPages (d.revert env) = o.onlyPages bootPages d := by
  unfold Device.revert
  dsimp only
  split
  · rw [Device.storeRegs_pages, Device.log_pages _ _ _ _ (by decide), Device.raise_pages _ (by decide),
      Device.writeHdr_pages]
  · rw [Device.noCount_pages, Device.writeHdr_pages]

theorem Device.countTrial_pages (d : Device) (env : EnergyEnv) :
    o.onlyPages bootPages (d.countTrial env) = o.onlyPages bootPages d := by
  unfold Device.countTrial
  dsimp only
  split
  · rfl
  · split
    · split
      · rw [Device.storeRegs_pages, Device.writeHdr_pages]
      · rw [Device.noCount_pages, Device.writeHdr_pages]
    · exact Device.revert_pages d env

theorem Device.setVersion_pages {ps : List Nat} (d : Device) (v : Nat) (hRing : 0x0D ∈ ps) (h : chsPages ⊆ ps) :
    o.onlyPages ps (d.setVersion v) = o.onlyPages ps d := by
  unfold Device.setVersion
  dsimp only
  rw [Device.setFlag_pages _ _ hRing]
  split
  · rw [Device.leadsOff_pages _ _ h, Device.setFld_pages _ _ hRing]
  · rw [Device.setFld_pages _ _ hRing]

/-- The firmware of a slot is what runs: its version, and the ring versions it supports. -/
def Device.takeSlot (d : Device) (slot : Nat) : Device :=
  ((d.modSec fun x => { x with recovery := false }).wr SYS.FWVER (hVersion (d.header false slot))).wr RING.VERSUP
    (byteAt (d.compat slot) 32)

/-- What follows the choice of a slot: its version, the ring's, and the expiry that led here. -/
def Device.startSlot (d : Device) (slot : Nat) : Device :=
  let d := (d.takeSlot slot).setVersion ((d.takeSlot slot).fld RING.VRUN_V)
  if !d.wdt.toLog then d
  else
    (d.modWdt fun w => { w with toLog := false }).log Ev.WDT_EXPIRY
      [d.rd WDT.LCAUSE, d.rd WDT.LPC, d.rd WDT.LSVC, d.rd WDT.LEXP]

theorem Device.runSlot_eq (d : Device) (slot : Nat) (fell : Bool) :
    d.runSlot slot fell = ((d.setFld SEC.BOOT_SLOT slot).setFlag SEC.BOOT_FELLBACK fell).startSlot slot := rfl

theorem Device.startSlot_pages {ps : List Nat} (d : Device) (slot : Nat) (hSys : 0x00 ∈ ps) (hRing : 0x0D ∈ ps)
    (h : chsPages ⊆ ps) : o.onlyPages ps (d.startSlot slot) = o.onlyPages ps d := by
  have htake : o.onlyPages ps (d.takeSlot slot) = o.onlyPages ps d := by
    unfold Device.takeSlot
    rw [Device.wr_pages _ _ hRing, Device.wr_pages _ _ hSys, Device.modSec_pages]
  unfold Device.startSlot
  dsimp only
  split
  · rw [Device.setVersion_pages _ _ hRing h, htake]
  · rw [Device.log_pages _ _ _ _ hRing, Device.onlyPages_congr (Device.modWdt_rest _ _).1,
      Device.setVersion_pages _ _ hRing h, htake]

theorem Device.runSlot_pages (d : Device) (slot : Nat) (fell : Bool) :
    o.onlyPages bootPages (d.runSlot slot fell) = o.onlyPages bootPages d := by
  rw [Device.runSlot_eq, Device.startSlot_pages _ _ (by decide) (by decide) (by decide), Device.setFlag_pages _ _ (by decide),
    Device.setFld_pages _ _ (by decide)]

theorem Device.enterRecovery_pages (d : Device) : o.onlyPages bootPages d.enterRecovery = o.onlyPages bootPages d := by
  unfold Device.enterRecovery; simp (disch := decide)

theorem Device.bootSlots_pages (d : Device) (env : EnergyEnv) :
    o.onlyPages bootPages (d.bootSlots env) = o.onlyPages bootPages d := by
  have hauth : ∀ (e : Device) k, o.onlyPages bootPages (e.authenticate false k).1 = o.onlyPages bootPages e := fun e k =>
    Device.authenticate_pages e false k (by decide) (by decide)
  unfold Device.bootSlots
  dsimp only
  split
  · rw [Device.runSlot_pages, hauth]
  · split
    · rw [Device.runSlot_pages, Device.log_pages _ _ _ _ (by decide), Device.raise_pages _ (by decide), hauth,
        Device.pages_when _ _ fun e => Device.revert_pages e env, hauth]
    · rw [Device.enterRecovery_pages, hauth, Device.pages_when _ _ fun e => Device.revert_pages e env, hauth]

end

/-! ### The regions' states -/

theorem Otp.state_weak (o : Otp) (w : List Nat) (r : Nat) : Otp.state { o with weak := w } r = o.state r := rfl

theorem Otp.state_lt (o : Otp) (r : Nat) : o.state r < 4 := by
  unfold Otp.state
  dsimp only
  (repeat' split) <;> decide

theorem rstat_ne {r q : Nat} (h : r ≠ q) : (OTP.RSTAT r).addr ≠ (OTP.RSTAT q).addr := by
  simp only [OTP.RSTAT]; omega

/-- What the start-up check notes of one region. -/
def Device.checkRegion (d : Device) (r : Nat) : Device :=
  let e := d.setFld (OTP.RSTAT_STATE r) (d.otp.state r)
  if d.otp.state r = 3 then (e.raise OTP.STAT_OTP_DIGEST).log Ev.OTP_DIGEST [r] else e

theorem Device.checkRegion_otp (d : Device) (r : Nat) : (d.checkRegion r).otp = d.otp := by
  unfold Device.checkRegion
  dsimp only
  split <;> simp

theorem Device.checkRegion_state (d : Device) (r q : Nat) :
    (d.checkRegion r).regionState q = if r = q then d.otp.state q else d.regionState q := by
  have hset : (d.setFld (OTP.RSTAT_STATE r) (d.otp.state r)).regionState q =
      if r = q then d.otp.state q else d.regionState q := by
    unfold Device.regionState
    split
    next h =>
      subst h
      refine (Device.fld_setFld_same d (OTP.RSTAT_STATE r) _ (by simp only [OTP.RSTAT]; omega)).trans ?_
      exact Nat.mod_eq_of_lt (d.otp.state_lt r)
    next h => exact Device.fld_setFld_reg d (f := OTP.RSTAT_STATE r) (g := OTP.RSTAT_STATE q) _ (rstat_ne h)
  unfold Device.checkRegion
  dsimp only
  split
  · refine Eq.trans ?_ hset
    unfold Device.regionState
    rw [Device.fld_log _ _ _ _ (by simp only [RING.RSTAT, OTP.RSTAT]; omega)
      (by simp only [RING.EVDROPCNT, OTP.RSTAT]; omega), Device.fld_raise_reg _ (by simp only [OTP.STAT, OTP.RSTAT]; omega)]
  · exact hset

theorem Device.checkRegions_state (q : Nat) : ∀ (l : List Nat) (d : Device),
    (d.each l Device.checkRegion).regionState q = if q ∈ l then d.otp.state q else d.regionState q
  | [], d => by simp [Device.each]
  | r :: t, d => by
    have e : d.each (r :: t) Device.checkRegion = (d.checkRegion r).each t Device.checkRegion := rfl
    rw [e, Device.checkRegions_state q t, d.checkRegion_otp, d.checkRegion_state]
    by_cases hr : r = q
    · simp [hr]
    · simp [hr, Ne.symm hr]

/-- The counts of weak copies stand beside the states. -/
theorem Device.otpCounts_state (d : Device) (q : Nat) : d.otpCounts.regionState q = d.regionState q := by
  have hstep : ∀ (e : Device) r n b, ((e.setFld (OTP.RSTAT_WEAKCNT r) n).setFlag (OTP.RSTAT_ATRISK r) b).regionState q =
      e.regionState q := fun e r n b => by
    unfold Device.regionState Device.setFlag
    by_cases h : r = q
    · subst h
      rw [Device.fld_setFld_beside (f := OTP.RSTAT_ATRISK r) (g := OTP.RSTAT_STATE r) _ _ rfl (by simp only []; omega)
          (by simp only [OTP.RSTAT]; omega),
        Device.fld_setFld_beside (f := OTP.RSTAT_WEAKCNT r) (g := OTP.RSTAT_STATE r) _ _ rfl (by simp only []; omega)
          (by simp only [OTP.RSTAT]; omega)]
    · rw [Device.fld_setFld_reg (f := OTP.RSTAT_ATRISK r) (g := OTP.RSTAT_STATE q) _ _ (rstat_ne h),
        Device.fld_setFld_reg (f := OTP.RSTAT_WEAKCNT r) (g := OTP.RSTAT_STATE q) _ _ (rstat_ne h)]
  unfold Device.otpCounts
  dsimp only
  refine (Device.fld_wr_ne _ (f := OTP.RSTAT_STATE q) _ (by simp only [OTP.SPARES, OTP.RSTAT]; omega)).trans ?_
  exact Device.each_same (fun e : Device => e.regionState q) (fun e r => hstep e r _ _) _ d

/-- The start-up check before it reports weak copies. -/
def Device.regionsChecked (d : Device) : Device :=
  (((d.modOtp fun o => { o with weak := d.otp.weakCopies }).wr OTP.WEAKTOT d.otp.weakCopies.length).each (List.range 6)
    Device.checkRegion).otpCounts

theorem Device.otpCheck_eq (d : Device) : d.otpCheck = if d.otp.weakCopies.isEmpty then d.regionsChecked else
    (d.regionsChecked.raise OTP.STAT_OTP_WEAK).log Ev.OTP_WEAK
      (d.otp.weakCopies.length :: d.regionsChecked.otp.atRisk) := rfl

theorem Device.regionsChecked_state (d : Device) {q : Nat} (hq : q < 6) :
    d.regionsChecked.regionState q = d.otp.state q := by
  unfold Device.regionsChecked
  rw [Device.otpCounts_state, Device.checkRegions_state, if_pos (List.mem_range.2 hq)]
  exact Otp.state_weak d.otp _ q

theorem Device.otpCheck_state (d : Device) {q : Nat} (hq : q < 6) : d.otpCheck.regionState q = d.otp.state q := by
  rw [Device.otpCheck_eq, ← d.regionsChecked_state hq]
  split
  · rfl
  · unfold Device.regionState
    rw [Device.fld_log _ _ _ _ (by simp only [RING.RSTAT, OTP.RSTAT]; omega)
      (by simp only [RING.EVDROPCNT, OTP.RSTAT]; omega), Device.fld_raise_reg _ (by simp only [OTP.STAT, OTP.RSTAT]; omega)]

end Sys2Proof.Machine

namespace Sys2Proof.Machine

/-! ## Secure boot without a store, and with firmware that passes -/

theorem Device.otpLocks_locks (d : Device) : d.otpLocks.rd OTP.LOCKS = bootLocks (d.fld SEC.LIFE_STATE) := by
  have hl : ∀ n, bootLocks n < 2 ^ 16 := fun n => by unfold bootLocks; split <;> decide
  exact (Device.rd_wr_same d _ _).trans (Nat.mod_eq_of_lt (hl _))

theorem Device.otpCheck_pages {o : Device} {ps : List Nat} (d : Device) (hOtp : 0x10 ∈ ps) (hRing : 0x0D ∈ ps) :
    o.onlyPages ps d.otpCheck = o.onlyPages ps d := by
  have hreg : ∀ r ∈ List.range 6, ∀ e : Device, o.onlyPages ps (e.checkRegion r) = o.onlyPages ps e := fun r hr e => by
    have hr6 : (OTP.RSTAT r).addr / 256 ∈ ps := by
      have := List.mem_range.1 hr
      rwa [show (OTP.RSTAT r).addr / 256 = 0x10 by simp only [OTP.RSTAT]; omega]
    unfold Device.checkRegion
    dsimp only
    split
    · rw [Device.log_pages _ _ _ _ hRing, Device.raise_pages _ hOtp, Device.setFld_pages _ _ hr6]
    · exact Device.setFld_pages _ _ hr6
  have hbody : o.onlyPages ps d.regionsChecked = o.onlyPages ps d := by
    unfold Device.regionsChecked
    rw [Device.otpCounts_pages _ hOtp, Device.pages_each hreg, Device.wr_pages _ _ hOtp]
    exact Device.onlyPages_congr rfl
  rw [Device.otpCheck_eq]
  split
  · exact hbody
  · rw [Device.log_pages _ _ _ _ hRing, Device.raise_pages _ hOtp, hbody]

/-- What the reading of the OTP array notes, and that a boot then leaves alone. -/
theorem Device.bootOtp_regions (d : Device) : (∀ r, r < 6 → d.bootOtp.regionState r = d.otp.state r) ∧
    d.bootOtp.rd OTP.LOCKS = bootLocks (d.fld SEC.LIFE_STATE) := by
  have hkeep : d.otpCheck.otpLocks.onlyPages bootPages d.bootOtp := by
    unfold Device.bootOtp
    rw [Device.readIdent_pages, Device.burnedReg_pages _ (by decide), Device.floorRegs_pages _ (by decide)]
    exact Device.onlyPages_refl _
  constructor
  · intro r hr
    have hp : (OTP.RSTAT r).addr / 256 ∉ bootPages := by
      rw [show (OTP.RSTAT r).addr / 256 = 0x10 by simp only [OTP.RSTAT]; omega]; decide
    refine (congrArg (bitsOf · 0 2) (hkeep (OTP.RSTAT r) hp)).trans ?_
    refine (Device.fld_wr_ne _ (f := OTP.RSTAT_STATE r) _ (by simp only [OTP.LOCKS, OTP.RSTAT]; omega)).trans ?_
    exact d.otpCheck_state hr
  · refine (hkeep OTP.LOCKS (by decide)).trans (d.otpCheck.otpLocks_locks.trans ?_)
    have hlife : d.onlyPages [0x10, 0x0D] d.otpCheck :=
      (Device.otpCheck_pages d (by decide) (by decide)).mpr (Device.onlyPages_refl d)
    exact congrArg (fun v => bootLocks (bitsOf v 0 2)) (hlife SEC.LIFE (by decide))

/-- The device as a secure boot finds it, and its first two steps. -/
def Device.bootStart (d : Device) : Device :=
  ((d.modSec fun x => { x with previous := false }).setFld INT.STAT_LDOFF 0)

theorem Device.bootPrepare_eq (d : Device) (sfdp : SfdpResult) (env : EnergyEnv) :
    d.bootPrepare sfdp env = ((d.bootStart.bootOtp.findStore sfdp).readStore).countTrial env := rfl

/-- The regions' states and locks, as the whole boot leaves them. -/
theorem Device.boot_regions (d : Device) (sfdp : SfdpResult) (env : EnergyEnv) :
    (∀ r, r < 6 → ((d.bootPrepare sfdp env).bootSlots env).regionState r = d.otp.state r) ∧
      ((d.bootPrepare sfdp env).bootSlots env).rd OTP.LOCKS = bootLocks (d.fld SEC.LIFE_STATE) := by
  have hkeep : d.bootStart.bootOtp.onlyPages bootPages ((d.bootPrepare sfdp env).bootSlots env) := by
    rw [Device.bootSlots_pages, Device.bootPrepare_eq, Device.countTrial_pages, Device.readStore_pages,
      Device.findStore_pages]
    exact Device.onlyPages_refl _
  obtain ⟨hstate, hlocks⟩ := d.bootStart.bootOtp_regions
  constructor
  · intro r hr
    have hp : (OTP.RSTAT r).addr / 256 ∉ bootPages := by
      rw [show (OTP.RSTAT r).addr / 256 = 0x10 by simp only [OTP.RSTAT]; omega]; decide
    exact (congrArg (bitsOf · 0 2) (hkeep (OTP.RSTAT r) hp)).trans (hstate r hr)
  · refine (hkeep OTP.LOCKS (by decide)).trans (hlocks.trans ?_)
    exact congrArg bootLocks (Device.fld_setFld_reg _ (f := INT.STAT_LDOFF) (g := SEC.LIFE_STATE) 0 (by decide))

/-! ### Firmware that passes its checks runs -/

theorem Device.authenticate_snd (d : Device) (rig : Bool) (slot : Nat) :
    (d.authenticate rig slot).2 = decide (d.authReason rig slot = 0) := by
  unfold Device.authenticate
  dsimp only
  split
  next h => simp [h]
  next h => simp [h]

/-- Turning a lead off leaves the security domain. -/
theorem Device.faultOff_sec (d : Device) (l rk : Nat) : (d.faultOff l rk).sec = d.sec := by
  have hlow : (d.each (d.gang l) fun d n => d.lower (CHS.STAT_CMD n)).sec = d.sec :=
    Device.each_same (fun d : Device => d.sec) (fun d n => by simp) _ d
  have hoff : ∀ e : Device, (e.bankTurnOff l).sec = e.sec := fun e =>
    Device.each_same (fun d : Device => d.sec) (fun d n => by simp [Device.outOff]) (e.gang l) e
  simp [Device.faultOff, Device.recordState, Device.dropCmdsOf, hoff, hlow]

theorem Device.setVersion_sec (d : Device) (v : Nat) : (d.setVersion v).sec = d.sec := by
  have hoff : ∀ (e : Device) (ls : List Nat), (e.each ls fun d l => d.faultOff l 1).sec = e.sec := fun e ls =>
    Device.each_same (fun d : Device => d.sec) (fun d l => d.faultOff_sec l 1) ls e
  unfold Device.setVersion
  dsimp only
  split <;> simp [hoff]

theorem Device.startSlot_recovery (d : Device) (slot : Nat) : (d.startSlot slot).sec.recovery = false := by
  unfold Device.startSlot
  dsimp only
  split <;> simp [Device.setVersion_sec, Device.takeSlot]

theorem Device.runSlot_runs (d : Device) (slot : Nat) : (d.runSlot slot false).sec.recovery = false ∧
    (d.runSlot slot false).fld SEC.BOOT_SLOT = slot % 2 ∧ (d.runSlot slot false).flag SEC.BOOT_FELLBACK = false := by
  rw [Device.runSlot_eq]
  generalize hb : (d.setFld SEC.BOOT_SLOT slot).setFlag SEC.BOOT_FELLBACK false = b
  have hp : b.onlyPages ([0x00, 0x0D] ++ chsPages) (b.startSlot slot) :=
    (Device.startSlot_pages b slot (by decide) (by decide) (by decide)).mpr (Device.onlyPages_refl b)
  have hrd : (b.startSlot slot).rd SEC.BOOT = b.rd SEC.BOOT := hp SEC.BOOT (by decide)
  refine ⟨b.startSlot_recovery slot, ?_, ?_⟩
  · refine (congrArg (bitsOf · 0 1) hrd).trans ?_
    rw [← hb]
    refine (Device.fld_setFld_beside _ (f := SEC.BOOT_FELLBACK) (g := SEC.BOOT_SLOT) _ rfl (by decide) (by decide)).trans ?_
    exact Device.fld_setFld_same d SEC.BOOT_SLOT slot (by decide)
  · rw [Device.flag_of_rd (f := SEC.BOOT_FELLBACK) hrd, ← hb]
    exact Device.flag_setFlag_same _ SEC.BOOT_FELLBACK false rfl (by decide)

/-- A slot that passes the checks of R305 runs. -/
theorem Device.bootSlots_runs {d : Device} (env : EnergyEnv) (h : d.authReason false d.bootFwSlot = 0) :
    d.bootSlots env = (d.authenticate false d.bootFwSlot).1.runSlot d.bootFwSlot false := by
  have hok : (d.authenticate false d.bootFwSlot).2 = true := by rw [Device.authenticate_snd, h]; rfl
  unfold Device.bootSlots
  dsimp only
  rw [if_pos hok]

/-! ### An absent store leads to recovery -/

theorem headerOk_nil (rig : Bool) : headerOk rig [] = false := by cases rig <;> decide

theorem Device.authReason_absent {d : Device} (h : d.present = false) (slot : Nat) : d.authReason false slot = 1 := by
  unfold Device.authReason Device.header
  simp [h, headerOk_nil]

/-- What a boot may do where no store is present: it finds none, and nothing leaves the log. -/
structure Device.Storeless (d e : Device) : Prop where
  absent : e.present = false
  events : d.events <+: e.events

theorem Device.present_of_pages {d e : Device} {ps : List Nat} (h : d.onlyPages ps e) (hs : 0x0E ∉ ps) :
    e.present = d.present := Device.flag_of_rd (f := STORE.STAT_PRESENT) (h STORE.STAT hs)

theorem Device.authenticate_absent {d : Device} (h : d.present = false) (slot : Nat) :
    d.Storeless (d.authenticate false slot).1 ∧ (d.authenticate false slot).2 = false := by
  have hp : d.onlyPages [0x0D, 0x11] (d.authenticate false slot).1 :=
    (Device.authenticate_pages d false slot (by decide) (by decide)).mpr (Device.onlyPages_refl d)
  refine ⟨⟨(Device.present_of_pages hp (by decide)).trans h, ?_⟩, ?_⟩
  · unfold Device.authenticate
    dsimp only
    rw [d.authReason_absent h slot, if_neg (by decide), Device.log_events]
    split <;> simp
  · rw [Device.authenticate_snd, d.authReason_absent h slot]; rfl

theorem Device.bootHdr_absent {d : Device} (h : d.present = false) : d.bootHdr = blankHdr := by
  simp [Device.bootHdr, h]

/-- Both slots fail, and the boot ends in recovery. -/
theorem Device.bootSlots_absent {d : Device} (h : d.present = false) (env : EnergyEnv) :
    d.bootSlots env = ((d.authenticate false 0).1.authenticate false 1).1.enterRecovery := by
  have hslot : d.bootFwSlot = 0 := by simp [Device.bootFwSlot, d.bootHdr_absent h, blankHdr]
  obtain ⟨h1, hno1⟩ := Device.authenticate_absent h 0
  obtain ⟨-, hno2⟩ := Device.authenticate_absent h1.absent 1
  have htrial : (d.bootHdr.trial.testBit 0 && !d.sec.previous) = false := by
    simp [d.bootHdr_absent h, blankHdr]
  unfold Device.bootSlots
  dsimp only
  rw [hslot, htrial, hno1, if_neg Bool.false_ne_true]
  show (if ((d.authenticate false 0).1.authenticate false 1).2 = true then _ else _) = _
  rw [hno2, if_neg Bool.false_ne_true]
  rfl

theorem Device.enterRecovery_recovers {o d : Device} (h : o.events <+: d.events) (hp : d.present = false) :
    d.enterRecovery.sec.recovery = true ∧ d.enterRecovery.present = false ∧ d.enterRecovery.flag UPD.CTL_MAINT = true ∧
      o.reported d.enterRecovery Ev.BOOT_FAIL [] := by
  have hpages : d.onlyPages [0x0D, 0x0F, 0x11] d.enterRecovery := by
    unfold Device.enterRecovery
    simp (disch := decide)
  refine ⟨?_, (Device.present_of_pages hpages (by decide)).trans hp, ?_, ?_⟩
  · simp [Device.enterRecovery]
  · exact Device.flag_raise _ UPD.CTL_MAINT rfl (by decide)
  · unfold Device.enterRecovery
    refine Device.reported_mono (d := ((d.modSec fun x => { x with recovery := true }).raise SEC.STAT_BOOT_FAIL).log
      Ev.BOOT_FAIL []) (by simp) (Device.reported_log (by simpa using h) Ev.BOOT_FAIL [])

theorem Device.checkRegion_events (d : Device) (r : Nat) : d.events <+: (d.checkRegion r).events := by
  unfold Device.checkRegion
  dsimp only
  split
  · rw [Device.log_events]; simp
  · simp

theorem Device.each_events {α : Type} {f : Device → α → Device} (h : ∀ d a, d.events <+: (f d a).events) :
    ∀ (l : List α) (d : Device), d.events <+: (d.each l f).events
  | [], _ => List.prefix_refl _
  | a :: t, d => (h d a).trans (Device.each_events h t (f d a))

theorem Device.otpCheck_events (d : Device) : d.events <+: d.otpCheck.events := by
  have hcounts : ∀ e : Device, e.otpCounts.events = e.events := fun e => by
    unfold Device.otpCounts
    dsimp only
    simp only [Device.wr_rest]
    exact Device.each_same (fun d : Device => d.events) (fun d r => by simp) _ e
  have hbody : d.events <+: d.regionsChecked.events := by
    unfold Device.regionsChecked
    rw [hcounts]
    exact Device.each_events Device.checkRegion_events (List.range 6)
      ((d.modOtp fun o => { o with weak := d.otp.weakCopies }).wr OTP.WEAKTOT d.otp.weakCopies.length)
  rw [Device.otpCheck_eq]
  split
  · exact hbody
  · simp only [Device.log_events, Device.raise_rest]
    exact hbody.trans (List.prefix_append _ _)

theorem Device.readIdent_events (d : Device) : d.readIdent.events = d.events := by
  have hset : ∀ (e : Device) a b, (e.setAddr a b).events = e.events := fun e a b => by
    show (if a = e.addr then e else _ : Device).events = _
    split <;> rfl
  unfold Device.readIdent
  dsimp only
  split
  · exact hset _ _ _
  · rfl

theorem Device.bootOtp_events (d : Device) : d.events <+: d.bootOtp.events := by
  have h : d.bootOtp.events = d.otpCheck.events := by
    unfold Device.bootOtp
    rw [Device.readIdent_events]
    rfl
  rw [h]
  exact d.otpCheck_events

theorem Device.findStore_absent (d : Device) : d.Storeless (d.findStore .absent) := by
  constructor
  · show (((((d.lower STORE.STAT_PRESENT).wr STORE.SIZE 0).raise STORE.STAT_STORE_FAULT).log Ev.STORE_ABSENT []).flag
      STORE.STAT_PRESENT) = false
    rw [Device.flag_log _ _ _ _ (by decide) (by decide)]
    refine (Device.flag_setFlag_beside _ (f := STORE.STAT_STORE_FAULT) (g := STORE.STAT_PRESENT) true rfl (by decide)
      (by decide)).trans ?_
    refine (Device.flag_of_rd (f := STORE.STAT_PRESENT) (Device.rd_wr_ne _ _ (by decide))).trans ?_
    exact Device.flag_lower d STORE.STAT_PRESENT rfl (by decide)
  · exact Device.log_prefix (((d.lower STORE.STAT_PRESENT).wr STORE.SIZE 0).raise STORE.STAT_STORE_FAULT) Ev.STORE_ABSENT []

theorem Device.storeRegs_pages_upd {o : Device} (d : Device) : o.onlyPages [0x0F] d.storeRegs = o.onlyPages [0x0F] d := by
  have hslot : ∀ x ∈ allSlotKinds, (UPD.SLOTID (slotIx x.1 x.2)).addr / 256 ∈ [0x0F] ∧
      (UPD.SLOTVER (slotIx x.1 x.2)).addr / 256 ∈ [0x0F] := by decide
  unfold Device.storeRegs
  dsimp only
  rw [Device.pages_each fun x hx e => by rw [Device.wr_pages _ _ (hslot x hx).2, Device.wr_pages _ _ (hslot x hx).1]]
  simp (disch := decide)

theorem Device.storeRegs_events (d : Device) : d.storeRegs.events = d.events := by
  unfold Device.storeRegs
  dsimp only
  rw [Device.each_same (fun d : Device => d.events) fun d x => by simp]
  simp

theorem Device.readStore_absent {d : Device} (h : d.present = false) : d.Storeless d.readStore := by
  have heq : d.readStore = ((d.when d.sec.cold fun d => d.raise CNT.JSTAT_NOREC).when
      (d.when d.sec.cold fun d => d.raise CNT.JSTAT_NOREC).sec.cold fun d => d.countSat STORE.BOOTCNT).storeRegs := by
    simp [Device.readStore, h]
  have hwhen : ∀ c1 c2 : Bool, ((d.when c1 fun d => d.raise CNT.JSTAT_NOREC).when c2 fun d =>
      d.countSat STORE.BOOTCNT).rd STORE.STAT = d.rd STORE.STAT ∧ ((d.when c1 fun d => d.raise CNT.JSTAT_NOREC).when c2
        fun d => d.countSat STORE.BOOTCNT).events = d.events := by
    have hr : ∀ e : Device, (e.raise CNT.JSTAT_NOREC).rd STORE.STAT = e.rd STORE.STAT := fun e =>
      Device.rd_raise_ne e (by decide)
    have hc : ∀ e : Device, (e.countSat STORE.BOOTCNT).rd STORE.STAT = e.rd STORE.STAT := fun e =>
      Device.rd_countSat_ne e _ (by decide)
    intro c1 c2
    cases c1 <;> cases c2 <;> simp [Device.when, hr, hc]
  rw [heq]
  constructor
  · refine (Device.present_of_pages ((Device.storeRegs_pages_upd _).mpr (Device.onlyPages_refl _)) (by decide)).trans ?_
    exact (Device.flag_of_rd (f := STORE.STAT_PRESENT) (hwhen _ _).1).trans h
  · rw [Device.storeRegs_events, (hwhen _ _).2]

theorem Device.bootPrepare_absent (d : Device) (env : EnergyEnv) : d.Storeless (d.bootPrepare .absent env) := by
  have hfind := d.bootStart.bootOtp.findStore_absent
  have hread := Device.readStore_absent hfind.absent
  have htrial : ∀ e : Device, e.present = false → e.countTrial env = e := fun e he => by
    simp [Device.countTrial, e.bootHdr_absent he, blankHdr]
  rw [Device.bootPrepare_eq, htrial _ hread.absent]
  exact ⟨hread.absent, (d.bootStart.bootOtp_events.trans hfind.events).trans hread.events⟩

theorem Device.boot_absent (d : Device) (env : EnergyEnv) :
    let e := (d.bootPrepare .absent env).bootSlots env
    e.sec.recovery = true ∧ e.present = false ∧ e.flag UPD.CTL_MAINT = true ∧ d.reported e Ev.BOOT_FAIL [] := by
  have hb := d.bootPrepare_absent env
  obtain ⟨h1, -⟩ := Device.authenticate_absent hb.absent 0
  obtain ⟨h2, -⟩ := Device.authenticate_absent h1.absent 1
  dsimp only
  rw [Device.bootSlots_absent hb.absent]
  exact Device.enterRecovery_recovers ((hb.events.trans h1.events).trans h2.events) h2.absent

/-! ## Power-on reset and boot as commands -/

/-- A command that acts on the device in any power state completes with what it acts to. -/
theorem completes_runAny {c : Instr} {s : State} {f : Device → Device} {P : Device → Prop}
    (hc : exec c s = s.runAny f) (h : P (f s.dev)) : Completes c s P := ⟨_, hc, rfl, h⟩

theorem Device.secureBoot_boots {d : Device} (hdue : d.sec.bootDue = true) (halive : d.coreAlive = true)
    (hidle : d.storeIdle = true) (sfdp : SfdpResult) (env : EnergyEnv) : d.secureBoot sfdp env =
      (((d.when d.flash.cntDirty fun d => d.raise CNT.JSTAT_PENDING).bootPrepare sfdp env).bootSlots env).modSec fun x =>
        { x with bootDue := false, cold := false, loadDue := x.loadDue || x.cold || x.activation } := by
  unfold Device.secureBoot
  rw [hdue, halive, hidle]
  rfl

/-- Counters that are still to be journalled show it; nothing else changes. -/
theorem Device.pendingShown (d : Device) (c : Bool) : let e := d.when c fun d => d.raise CNT.JSTAT_PENDING
    e.otp = d.otp ∧ e.events = d.events ∧ e.fld SEC.LIFE_STATE = d.fld SEC.LIFE_STATE := by
  cases c
  · exact ⟨rfl, rfl, rfl⟩
  · exact ⟨rfl, rfl, Device.fld_raise_reg d (f := CNT.JSTAT_PENDING) (g := SEC.LIFE_STATE) (by decide)⟩

/-- What a boot of a device leaves, where `b` is the device after the steps 1 and 2 of R306. -/
structure Device.Booted (o : Device) (sfdp : SfdpResult) (b e : Device) : Prop where
  regions : ∀ r, r < 6 → e.regionState r = o.otp.state r
  locks : e.rd OTP.LOCKS = bootLocks (o.fld SEC.LIFE_STATE)
  absent : sfdp = .absent → e.sec.recovery = true ∧ e.present = false ∧ e.flag UPD.CTL_MAINT = true ∧
    o.reported e Ev.BOOT_FAIL []
  runs : b.authReason false b.bootFwSlot = 0 → e.sec.recovery = false ∧ e.fld SEC.BOOT_SLOT = b.bootFwSlot % 2 ∧
    e.flag SEC.BOOT_FELLBACK = false

theorem Device.boot_booted (d : Device) (sfdp : SfdpResult) (env : EnergyEnv) :
    d.Booted sfdp (d.bootPrepare sfdp env) ((d.bootPrepare sfdp env).bootSlots env) where
  regions := (d.boot_regions sfdp env).1
  locks := (d.boot_regions sfdp env).2
  absent h := by subst h; exact d.boot_absent env
  runs h := by rw [Device.bootSlots_runs env h]; exact Device.runSlot_runs _ _

/-- Counters that are still to be journalled have no part in it. -/
theorem Device.Booted.of_pending {d b e : Device} {c : Bool} {sfdp : SfdpResult}
    (h : (d.when c fun d => d.raise CNT.JSTAT_PENDING).Booted sfdp b e) : d.Booted sfdp b e := by
  obtain ⟨hotp, hev, hlife⟩ := d.pendingShown c
  refine ⟨fun r hr => hotp ▸ h.regions r hr, hlife ▸ h.locks, fun ha => ?_, h.runs⟩
  obtain ⟨hrec, habs, hmaint, x, hx, hrest⟩ := h.absent ha
  exact ⟨hrec, habs, hmaint, x, hev ▸ hx, hrest⟩

/-- The boot is no longer due; what it left stands. -/
theorem Device.Booted.done {o b e : Device} {sfdp : SfdpResult} (h : o.Booted sfdp b e) (f : Security → Security)
    (hf : ∀ x, (f x).recovery = x.recovery) : o.Booted sfdp b (e.modSec f) where
  regions := h.regions
  locks := h.locks
  absent ha := by obtain ⟨hrec, hrest⟩ := h.absent ha; exact ⟨(hf e.sec).trans hrec, hrest⟩
  runs ha := by obtain ⟨hrec, hrest⟩ := h.runs ha; exact ⟨(hf e.sec).trans hrec, hrest⟩

theorem Device.secureBoot_booted {d : Device} (hdue : d.sec.bootDue = true) (halive : d.coreAlive = true)
    (hidle : d.storeIdle = true) (sfdp : SfdpResult) (env : EnergyEnv) : (d.secureBoot sfdp env).sec.bootDue = false ∧
      d.Booted sfdp ((d.when d.flash.cntDirty fun d => d.raise CNT.JSTAT_PENDING).bootPrepare sfdp env)
        (d.secureBoot sfdp env) := by
  rw [Device.secureBoot_boots hdue halive hidle]
  exact ⟨rfl, (Device.boot_booted _ sfdp env).of_pending.done _ fun _ => rfl⟩

/-- Settles O53: the reset by `Device.powerOn_fresh` from each of its causes, the boot by `Device.secureBoot_booted`. -/
theorem powerOnAndBoot : Obligations.PowerOnAndBoot := by
  intro s straps
  have hs : straps.toNat < 8 := straps.isLt
  have hwake : s.dev.sec.supply = .ship → s.dev.porFrom .shipWake straps.toNat = s.dev.powerOn .shipWake straps.toNat :=
    fun h => by simp [Device.porFrom, h]
  refine ⟨?_, fun hship => ⟨?_, fun vbus hv => ?_⟩, fun vbus hv => ?_, fun hp hscan => ?_,
    fun hp hdue halive hidle sfdp env => ?_⟩
  · exact completes_runAny (f := fun d => d.porFrom .supply straps.toNat) rfl (s.dev.powerOn_fresh .supply hs)
  · refine completes_runAny (f := fun d => d.porFrom .shipWake straps.toNat) rfl ?_
    rw [hwake hship]
    exact s.dev.powerOn_fresh .shipWake hs
  · refine completes_runAny (f := fun d => if vbus < 5000 then d else d.porFrom .shipWake straps.toNat) rfl ?_
    rw [if_neg (Nat.not_lt.2 hv), hwake hship]
    exact s.dev.powerOn_fresh .shipWake hs
  · exact completes_runAny (f := fun d => if vbus < 5000 then d else d.porFrom .shipWake straps.toNat) rfl (if_pos hv)
  · refine completes_run (f := fun d => d.porFrom .scanEnd straps.toNat) hp rfl ?_
    rw [show s.dev.porFrom .scanEnd straps.toNat = s.dev.powerOn .scanEnd straps.toNat by simp [Device.porFrom, hscan]]
    exact s.dev.powerOn_fresh .scanEnd hs
  · obtain ⟨hdone, hboot⟩ := Device.secureBoot_booted hdue halive hidle sfdp env
    exact completes_run (f := fun d => d.secureBoot sfdp env) hp rfl
      ⟨hdone, hboot.regions, hboot.locks, hboot.absent, hboot.runs⟩

end Sys2Proof.Machine

namespace Sys2Proof.Machine

/-! ## What leaves reckoning alone

Two parts of the device that a beacon or a count may change and the rest of the block may not: the reckoning state `rck`,
tide among it, and the messages that wait delivered, `ring.inbox`. One lemma per operation, `<operation>_bearing`, says
that both are as before; `<operation>_rck` says it of `rck` alone, of an operation that only time runs. -/

@[simp ↓] theorem Device.rck_ite (c : Prop) [Decidable c] (a b : Device) :
    (if c then a else b).rck = if c then a.rck else b.rck := apply_ite Device.rck c a b

@[simp ↓] theorem Device.inbox_ite (c : Prop) [Decidable c] (a b : Device) :
    (if c then a else b).ring.inbox = if c then a.ring.inbox else b.ring.inbox :=
  apply_ite (fun d : Device => d.ring.inbox) c a b

@[simp] theorem Device.each_rck {α : Type} (d : Device) (l : List α) {f : Device → α → Device}
    (h : ∀ d a, (f d a).rck = d.rck) : (d.each l f).rck = d.rck := Device.each_same Device.rck h l d

@[simp] theorem Device.each_inbox {α : Type} (d : Device) (l : List α) {f : Device → α → Device}
    (h : ∀ d a, (f d a).ring.inbox = d.ring.inbox) : (d.each l f).ring.inbox = d.ring.inbox :=
  Device.each_same (fun d : Device => d.ring.inbox) h l d

@[simp] theorem Device.when_rck (d : Device) (c : Bool) {f : Device → Device} (h : (f d).rck = d.rck) :
    (d.when c f).rck = d.rck := Device.when_same Device.rck d c h

@[simp] theorem Device.when_inbox (d : Device) (c : Bool) {f : Device → Device} (h : (f d).ring.inbox = d.ring.inbox) :
    (d.when c f).ring.inbox = d.ring.inbox := Device.when_same (fun d : Device => d.ring.inbox) d c h

@[simp] theorem Device.toHead_inbox (d : Device) (e : Event) (front : Bool) :
    (d.toHead e front).ring.inbox = d.ring.inbox := by unfold Device.toHead; simp

@[simp] theorem Device.log_inbox (d : Device) (code : Nat) (args : List Nat) (front : Bool) :
    (d.log code args front).ring.inbox = d.ring.inbox := by unfold Device.log; simp

@[simp] theorem Device.logFirst_bearing (d : Device) (code key : Nat) (args : List Nat) :
    (d.logFirst code key args).rck = d.rck ∧ (d.logFirst code key args).ring.inbox = d.ring.inbox := by
  unfold Device.logFirst; simp

@[simp] theorem Device.queueMsg_bearing (d : Device) (t : MsgType) (dst : Nat) (data : List Nat) :
    (d.queueMsg t dst data).rck = d.rck ∧ (d.queueMsg t dst data).ring.inbox = d.ring.inbox := by
  unfold Device.queueMsg; simp

/-! ### Channels -/

@[simp] theorem Device.outOff_bearing (d : Device) (n : Nat) :
    (d.outOff n).rck = d.rck ∧ (d.outOff n).ring.inbox = d.ring.inbox := by unfold Device.outOff; simp

@[simp] theorem Device.bankTurnOff_bearing (d : Device) (l : Nat) :
    (d.bankTurnOff l).rck = d.rck ∧ (d.bankTurnOff l).ring.inbox = d.ring.inbox := by
  simp [Device.bankTurnOff, Device.gangOff]

@[simp] theorem Device.faultOff_bearing (d : Device) (l rk : Nat) :
    (d.faultOff l rk).rck = d.rck ∧ (d.faultOff l rk).ring.inbox = d.ring.inbox := by
  simp [Device.faultOff, Device.recordState, Device.dropCmdsOf]

@[simp] theorem Device.discard_bearing (d : Device) (which : Entry → Bool) (ev : Nat) :
    (d.discard which ev).rck = d.rck ∧ (d.discard which ev).ring.inbox = d.ring.inbox := by
  unfold Device.discard; simp

@[simp] theorem Device.leaveRun_bearing (d : Device) :
    d.leaveRun.rck = d.rck ∧ d.leaveRun.ring.inbox = d.ring.inbox := by
  simp [Device.leaveRun, Device.dropCmds]

@[simp] theorem Device.safeOne_bearing (d : Device) (l : Nat) :
    (d.safeOne l).rck = d.rck ∧ (d.safeOne l).ring.inbox = d.ring.inbox := by
  simp only [Device.safeOne, Device.rck_ite, Device.inbox_ite]
  simp [Device.recordState, Device.command]

@[simp] theorem Device.applySafe_bearing (d : Device) (cause : SafeCause) :
    (d.applySafe cause).rck = d.rck ∧ (d.applySafe cause).ring.inbox = d.ring.inbox := by
  simp [Device.applySafe]

@[simp] theorem Device.strike_bearing (d : Device) (src : StrikeSrc) :
    (d.strike src).rck = d.rck ∧ (d.strike src).ring.inbox = d.ring.inbox := by
  simp [Device.strike, Device.addStrikeSource]

@[simp] theorem Device.acceptNow_bearing (d : Device) (which : Entry → Bool) :
    (d.acceptNow which).rck = d.rck ∧ (d.acceptNow which).ring.inbox = d.ring.inbox := by
  simp [Device.acceptNow]

@[simp] theorem Device.onBeacon_bearing (d : Device) :
    d.onBeacon.rck = d.rck ∧ d.onBeacon.ring.inbox = d.ring.inbox := by
  simp [Device.onBeacon, Device.recompute, Device.setK, Device.setDuty]

end Sys2Proof.Machine

namespace Sys2Proof.Machine

/-! ## What reckoning shows: the registers of page RCK, the messages delivered, the log -/

/-- From `d` to `e`, of page RCK the registers at the addresses `rs` and the bits `bits` of RCK.STAT alone may have changed;
no message was taken or delivered, and what had been reported still is. (A report of STRIKE may have been completed by a
further source of its cycle, R133.) -/
structure Device.RckFrame (rs bits : List Nat) (d e : Device) : Prop where
  reg : ∀ r : Reg, r.addr / 256 = 1 → r.addr ≠ RCK.STAT.addr → r.addr ∉ rs → e.rd r = d.rd r
  bit : ∀ j < 32, j ∉ bits → e.flag ⟨RCK.STAT, j, 1⟩ = d.flag ⟨RCK.STAT, j, 1⟩
  inbox : e.ring.inbox = d.ring.inbox
  reported : ∀ {o : Device} {code : Nat} {args : List Nat}, code ≠ Ev.STRIKE → o.reported d code args →
    o.reported e code args

namespace Device.RckFrame
variable {rs bits : List Nat} {d e f : Device}

theorem refl (d : Device) : RckFrame rs bits d d := ⟨fun _ _ _ _ => rfl, fun _ _ _ => rfl, rfl, fun _ h => h⟩

theorem trans (h : RckFrame rs bits d e) (k : RckFrame rs bits e f) : RckFrame rs bits d f where
  reg r hp hs hr := (k.reg r hp hs hr).trans (h.reg r hp hs hr)
  bit j hj hb := (k.bit j hj hb).trans (h.bit j hj hb)
  inbox := k.inbox.trans h.inbox
  reported hc hr := k.reported hc (h.reported hc hr)

theorem mono {rs' bits' : List Nat} (h : RckFrame rs bits d e) (hr : rs ⊆ rs') (hb : bits ⊆ bits') :
    RckFrame rs' bits' d e where
  reg r hp hs hn := h.reg r hp hs fun hm => hn (hr hm)
  bit j hj hn := h.bit j hj fun hm => hn (hb hm)
  inbox := h.inbox
  reported := h.reported

theorem fld (h : RckFrame rs bits d e) (f : Field) (hp : f.reg.addr / 256 = 1 := by decide)
    (hs : f.reg.addr ≠ RCK.STAT.addr := by decide) (hr : f.reg.addr ∉ rs := by decide) : e.fld f = d.fld f :=
  congrArg (fun v => bitsOf v f.lo f.w) (h.reg f.reg hp hs hr)

theorem flag (h : RckFrame rs bits d e) (f : Field) (hp : f.reg.addr / 256 = 1 := by decide)
    (hs : f.reg.addr ≠ RCK.STAT.addr := by decide) (hr : f.reg.addr ∉ rs := by decide) : e.flag f = d.flag f :=
  congrArg (· == 1) (h.fld f hp hs hr)

theorem isHead (h : RckFrame rs bits d e) (hr : RCK.CFG.addr ∉ rs := by decide) : e.isHead = d.isHead :=
  congrArg (· == 1) (h.fld RCK.CFG_ROLE (hr := hr))

theorem isStandby (h : RckFrame rs bits d e) (hr : RCK.CFG.addr ∉ rs := by decide) : e.isStandby = d.isStandby :=
  congrArg (· == 2) (h.fld RCK.CFG_ROLE (hr := hr))

/-- What writes other pages alone, and takes no message and no event away. -/
theorem of_pages {ps : List Nat} (h : d.onlyPages ps e) (hps : 1 ∉ ps) (hi : e.ring.inbox = d.ring.inbox)
    (he : d.events <+: e.events) : RckFrame rs bits d e where
  reg r hp _ _ := h r (hp ▸ hps)
  bit _ _ _ := Device.flag_of_rd (h RCK.STAT hps)
  inbox := hi
  reported _ hr := Device.reported_mono he hr

/-- What writes no register and leaves the log alone. -/
theorem of_regs (h : e.regs = d.regs) (hi : e.ring.inbox = d.ring.inbox) (he : e.events = d.events) :
    RckFrame rs bits d e :=
  of_pages (ps := []) (fun r _ => Device.rd_congr h r) (by simp) hi (by rw [he])

theorem modRck (d : Device) (g : Rck → Rck) : RckFrame rs bits d (d.modRck g) := of_regs rfl rfl rfl

theorem log (d : Device) (code : Nat) (args : List Nat) : RckFrame rs bits d (d.log code args) :=
  of_pages (ps := [0x0D]) ((Device.log_pages d code args false (by decide)).mpr (Device.onlyPages_refl d)) (by decide)
    (by simp) (Device.log_prefix d code args)

theorem wr (d : Device) {r : Reg} (v : Nat) (h : r.addr ∈ rs) (hs : r.addr ≠ RCK.STAT.addr := by decide) :
    RckFrame rs bits d (d.wr r v) where
  reg q _ _ hq := Device.rd_wr_ne d v fun he : r.addr = q.addr => hq (he ▸ h)
  bit j _ _ := Device.flag_wr_ne d v hs
  inbox := by simp
  reported _ hr := Device.reported_mono (by simp) hr

theorem setFld (d : Device) {f : Field} (v : Nat) (h : f.reg.addr ∈ rs) (hs : f.reg.addr ≠ RCK.STAT.addr := by decide) :
    RckFrame rs bits d (d.setFld f v) := wr d _ h hs

theorem countSat (d : Device) {r : Reg} (h : r.addr ∈ rs) (hs : r.addr ≠ RCK.STAT.addr := by decide) :
    RckFrame rs bits d (d.countSat r) := wr d _ h hs

theorem setFlag (d : Device) {i : Nat} (b : Bool) (h : i ∈ bits) (hi : i < 32 := by decide) :
    RckFrame rs bits d (d.setFlag ⟨RCK.STAT, i, 1⟩ b) where
  reg q _ hs _ := Device.rd_setFld_ne d (f := ⟨RCK.STAT, i, 1⟩) _ fun he : RCK.STAT.addr = q.addr => hs he.symm
  bit j hj hb := (Device.flag_setFlag_bit d b hi hj).trans (if_neg fun he : i = j => hb (he ▸ h))
  inbox := by simp
  reported _ hr := Device.reported_mono (by simp) hr

theorem raise (d : Device) {i : Nat} (h : i ∈ bits) (hi : i < 32 := by decide) :
    RckFrame rs bits d (d.raise ⟨RCK.STAT, i, 1⟩) :=
  (setFlag d true h hi).trans ⟨fun _ _ _ _ => rfl, fun _ _ _ => rfl, rfl, fun _ h => h⟩

theorem ite {c : Prop} [Decidable c] (h : c → RckFrame rs bits d e) (k : ¬c → RckFrame rs bits d f) :
    RckFrame rs bits d (if c then e else f) := by
  split
  · next hc => exact h hc
  · next hc => exact k hc

theorem when (c : Bool) {g : Device → Device} (h : RckFrame rs bits d (g d)) : RckFrame rs bits d (d.when c g) := by
  cases c
  · exact refl d
  · exact h

end Device.RckFrame

/-! ### Reactions on the channels -/

theorem Device.safeOne_pages {o : Device} {ps : List Nat} (d : Device) {l : Nat} (h : chsPages ⊆ ps) (hl : l < 160) :
    o.onlyPages ps (d.safeOne l) = o.onlyPages ps d := by
  have hr : ∀ (d : Device) (f : Nat → Field), (∀ n, (f n).reg = CHS.STAT n) →
      o.onlyPages ps (d.each (d.gang l) fun d n => d.raise (f n)) = o.onlyPages ps d := fun d f hf =>
    Device.pages_each (fun k hk d => Device.raise_pages d (hf k ▸ chs_page h (Device.gang_lt hl hk))) d
  have hlow := fun d => Device.gangLower_pages (o := o) d h hl
  unfold Device.safeOne
  simp [Device.recordState, Device.command, hr, hlow]

theorem Device.safeOne_events (d : Device) (l : Nat) : (d.safeOne l).events = d.events := by
  have hr : ∀ (d : Device) (ls : List Nat) (f : Nat → Field), (d.each ls fun d n => d.raise (f n)).events = d.events :=
    fun d ls f => Device.each_same (fun d : Device => d.events) (fun d n => by simp) ls d
  have hlow : ∀ (d : Device) (ls : List Nat) (f : Nat → Field), (d.each ls fun d n => d.lower (f n)).events = d.events :=
    fun d ls f => Device.each_same (fun d : Device => d.events) (fun d n => by simp) ls d
  simp only [Device.safeOne, apply_ite Device.events]
  simp [Device.recordState, Device.command, hr, hlow]

theorem Device.applySafe_rckFrame {rs bits : List Nat} (d : Device) (cause : SafeCause) :
    d.RckFrame rs bits (d.applySafe cause) := by
  refine RckFrame.trans (e := d.each d.leads Device.safeOne) (.of_pages (ps := chsPages) ?_ (by decide) (by simp) ?_)
    (.log _ _ _)
  · rw [Device.pages_each fun l hl d => Device.safeOne_pages d (fun _ h => h) (Device.leads_lt hl)]
    exact Device.onlyPages_refl d
  · rw [Device.each_same (fun d : Device => d.events) Device.safeOne_events]

/-- A further source completes the STRIKE event of its cycle, and no other. -/
theorem Device.addStrikeSource_rckFrame {rs bits : List Nat} (d : Device) (src : StrikeSrc) :
    d.RckFrame rs bits (d.addStrikeSource src) where
  reg _ _ _ _ := rfl
  bit _ _ _ := rfl
  inbox := rfl
  reported := by
    rintro o code args hc ⟨x, hx, rfl, rfl, ho⟩
    refine ⟨x, ?_, rfl, rfl, ho⟩
    simp only [Device.addStrikeSource, ← List.map_drop]
    exact List.mem_map.2 ⟨x, hx, by simp [hc]⟩

theorem Device.strikeNoted_rckFrame {rs bits : List Nat} (d : Device) (src : StrikeSrc) :
    d.RckFrame rs bits (d.strikeNoted src) := by
  have hb := src.bit_reg
  refine .of_pages (ps := [0x04, 0x0D]) ?_ (by decide) (by simp [Device.strikeNoted]) ?_
  · have hp : src.bit.reg.addr / 256 ∈ [0x04, 0x0D] := by rw [hb]; decide
    unfold Device.strikeNoted
    rw [Device.log_pages _ _ _ _ (by decide), Device.raise_pages _ (by decide), Device.countSat_pages _ _ (by decide),
      Device.wr_pages _ _ (by decide), Device.raise_pages _ hp, Device.raise_pages _ (by decide)]
    exact Device.onlyPages_refl d
  · rw [Device.strikeNoted_events]; exact List.prefix_append _ _

theorem Device.strikeDrop_rckFrame {rs bits : List Nat} (d : Device) (src : StrikeSrc) :
    d.RckFrame rs bits (d.strikeDrop src) :=
  .of_pages (Device.strikeDrop_pages d src) (by decide) (by simp [Device.strikeDrop]) (Device.strikeDrop_events d src)

/-- STRIKE holds channels; what reckoning shows stays. -/
theorem Device.strike_rckFrame {rs bits : List Nat} (d : Device) (src : StrikeSrc) :
    d.RckFrame rs bits (d.strike src) := by
  by_cases hn : d.struckNow = true
  · have h : d.strike src = (d.raise src.bit).addStrikeSource src := by unfold Device.strike; rw [if_pos hn]
    have hp : d.onlyPages [0x04] (d.raise src.bit) :=
      (Device.raise_pages d (by rw [src.bit_reg]; decide)).mpr (Device.onlyPages_refl d)
    rw [h]
    exact (RckFrame.of_pages hp (by decide) (by simp) (by simp)).trans (Device.addStrikeSource_rckFrame _ src)
  · by_cases ha : d.flag BANK.STRIKESTAT_ACTIVE = true
    · have h : d.strike src = d.strikeNoted src := by
        unfold Device.strike Device.strikeNoted
        rw [if_neg hn]
        simp [ha]
      rw [h]
      exact d.strikeNoted_rckFrame src
    · rw [Device.strike_first src (by simpa using hn) (by simpa using ha)]
      exact (d.strikeNoted_rckFrame src).trans (Device.strikeDrop_rckFrame _ src)

theorem Device.lossAct_rckFrame {rs bits : List Nat} (d : Device) (cause : SafeCause) :
    d.RckFrame rs bits (d.lossAct cause) :=
  .ite (fun _ => d.strike_rckFrame .int) fun _ => d.applySafe_rckFrame cause

@[simp] theorem Device.lossAct_bearing (d : Device) (cause : SafeCause) :
    (d.lossAct cause).rck = d.rck ∧ (d.lossAct cause).ring.inbox = d.ring.inbox := by
  simp [Device.lossAct]

theorem Device.discard_rckFrame {rs bits : List Nat} (d : Device) (which : Entry → Bool) (ev : Nat) :
    d.RckFrame rs bits (d.discard which ev) :=
  .of_pages ((Device.discard_pages d which ev (ps := [0x02, 0x0D]) (by decide) (by decide)).mpr (Device.onlyPages_refl d))
    (by decide) (by simp) (Device.discard_events d which ev)

theorem Device.acceptNow_events (d : Device) (which : Entry → Bool) : d.events <+: (d.acceptNow which).events := by
  have hw : ∀ (d : Device) (c : Bool) {f : Device → Device}, (f d).events = d.events → (d.when c f).events = d.events :=
    fun d c _ h => Device.when_same (fun d : Device => d.events) d c h
  unfold Device.acceptNow
  dsimp only
  refine List.IsPrefix.trans ?hits (Device.each_events (fun e k => ?report) _ _)
  case hits => rw [hw _ _ (by simp), hw _ _ (by simp)]
  case report => exact List.IsPrefix.trans (by simp) (Device.log_prefix _ _ _)

theorem Device.acceptNow_rckFrame {rs bits : List Nat} (d : Device) (which : Entry → Bool) :
    d.RckFrame rs bits (d.acceptNow which) :=
  .of_pages ((Device.acceptNow_pages d which (ps := [0x02, 0x0D]) (by decide) (by decide)).mpr (Device.onlyPages_refl d))
    (by decide) (by simp) (d.acceptNow_events which)

theorem Device.onBeacon_pages (d : Device) : d.onlyPages chsPages d.onBeacon := by
  have hstep : ∀ l ∈ d.recompute.leads, ∀ e : Device, d.onlyPages chsPages ((e.setK l).setDuty l) = d.onlyPages chsPages e :=
    fun l hl e => by
      have hl := Device.leads_lt hl
      have hs := chs_page (fun _ h => h) (show l < 163 by omega)
      have hd : (CHS.DEFF l).addr / 256 ∈ chsPages := by
        rw [show (CHS.DEFF l).addr / 256 = (CHS.STAT l).addr / 256 by simp only [CHS.DEFF, CHS.STAT]; omega]; exact hs
      simp (disch := assumption) [Device.setDuty, Device.setK]
  exact (Device.pages_each (f := fun d l => (d.setK l).setDuty l) hstep d.recompute).mpr fun _ _ => rfl

theorem Device.onBeacon_events (d : Device) : d.onBeacon.events = d.events := by
  have hk : ∀ (d : Device) l, (d.setK l).events = d.events := fun d l => by simp [Device.setK, apply_ite Device.events]
  exact Device.each_same (fun d : Device => d.events) (fun d l => by simp [Device.setDuty, hk]) d.recompute.leads d.recompute

theorem Device.onBeacon_rckFrame {rs bits : List Nat} (d : Device) : d.RckFrame rs bits d.onBeacon :=
  .of_pages d.onBeacon_pages (by decide) (by simp) (by rw [d.onBeacon_events])

end Sys2Proof.Machine

namespace Sys2Proof.Machine

/-! ## Speed and rate (R39, R40) -/

/-- The registers that the rate writes, and the bits of RCK.STAT that the speed decides. -/
def rateRegs : List Nat := [RCK.RATE.addr, RCK.ERR.addr]
def speedBits : List Nat := [RCK.STAT_STANDSTILL.lo, RCK.STAT_OVERSPEED.lo]

theorem Device.speedFlags_rck (d : Device) (v : Nat) : (d.speedFlags v).rck = d.rck := by simp [Device.speedFlags]
theorem Device.speedFlags_store (d : Device) (v : Nat) : (d.speedFlags v).store = d.store := by
  simp [Device.speedFlags, apply_ite Device.store]

theorem Device.speedFlags_rckFrame {rs bits : List Nat} (hb : speedBits ⊆ bits) (d : Device) (v : Nat) :
    d.RckFrame rs bits (d.speedFlags v) := by
  have hflags : ∀ e : Device, e.RckFrame rs bits ((e.setFlag RCK.STAT_STANDSTILL (v < vMin)).setFlag RCK.STAT_OVERSPEED
      (decide (vMax ≤ v))) := fun e => (RckFrame.setFlag e _ (hb (by decide))).trans (RckFrame.setFlag _ _ (hb (by decide)))
  exact RckFrame.trans (.ite (fun _ => .log d _ _) fun _ => .refl d) (hflags _)

theorem Device.speedFlags_standstill (d : Device) (v : Nat) :
    (d.speedFlags v).flag RCK.STAT_STANDSTILL = decide (v < vMin) :=
  (Device.flag_setFlag_bit _ _ (by decide) (by decide)).trans (Device.flag_setFlag_same _ _ _ rfl (by decide))

theorem Device.rerate_rckFrame {rs bits : List Nat} (hr : rateRegs ⊆ rs) (d : Device) (v : Nat) :
    d.RckFrame rs bits (d.rerate v) := .wr d _ (hr (by decide))

theorem Device.setRate_rck (d : Device) (v : Nat) (e : Int) :
    (d.setRate v e).rck = { d.rck with corr := roundDiv e (d.rd RCK.TSLEW * 100) } := rfl

theorem Device.setRate_rckFrame {rs bits : List Nat} (hr : rateRegs ⊆ rs) (d : Device) (v : Nat) (e : Int) :
    d.RckFrame rs bits (d.setRate v e) :=
  ((RckFrame.modRck d _).trans (Device.rerate_rckFrame hr _ v)).trans (.wr _ _ (hr (by decide)))

theorem Device.ownRate_rck (d : Device) : ∃ c, d.ownRate.rck = { d.rck with corr := c, holding := false } := by
  unfold Device.ownRate
  simp only [Device.setRate_rck, Device.speedFlags_rck]
  exact ⟨_, rfl⟩

theorem Device.setRate_store (d : Device) (v : Nat) (e : Int) : (d.setRate v e).store = d.store := rfl

theorem Device.ownRate_store (d : Device) : d.ownRate.store = d.store := by
  simp [Device.ownRate, Device.setRate_store, Device.speedFlags_store]

theorem Device.ownRate_rckFrame {rs bits : List Nat} (hr : rateRegs ⊆ rs) (hb : speedBits ⊆ bits) (d : Device) :
    d.RckFrame rs bits d.ownRate :=
  ((RckFrame.modRck d _).trans (Device.speedFlags_rckFrame hb _ _)).trans (Device.setRate_rckFrame hr _ _ _)

theorem Device.newSpeed_rck (d : Device) : d.newSpeed.rck = { d.rck with holding := false } := by
  simp [Device.newSpeed, Device.rerate, Device.speedFlags_rck]

theorem Device.newSpeed_rckFrame {rs bits : List Nat} (hr : rateRegs ⊆ rs) (hb : speedBits ⊆ bits) (d : Device) :
    d.RckFrame rs bits d.newSpeed :=
  ((RckFrame.modRck d _).trans (Device.speedFlags_rckFrame hb _ _)).trans (Device.rerate_rckFrame hr _ _)

theorem Device.holdReckoning_rck (d : Device) : d.holdReckoning.rck = { d.rck with holding := true } := by
  simp [Device.holdReckoning, Device.speedFlags_rck]

theorem Device.holdReckoning_rate (d : Device) : d.holdReckoning.rd RCK.RATE = 0 := Device.rd_wr_same _ _ 0

theorem Device.holdReckoning_rckFrame {rs bits : List Nat} (hr : rateRegs ⊆ rs) (hb : speedBits ⊆ bits) (d : Device) :
    d.RckFrame rs bits d.holdReckoning :=
  ((Device.speedFlags_rckFrame hb d _).trans (RckFrame.modRck _ _)).trans (.wr _ _ (hr (by decide)))

theorem Device.takeUp_rckFrame {rs bits : List Nat} (hr : rateRegs ⊆ rs) (hb : speedBits ⊆ bits) (d : Device) :
    d.RckFrame rs bits d.takeUp :=
  .ite (fun _ => d.holdReckoning_rckFrame hr hb) fun _ => d.ownRate_rckFrame hr hb

theorem Device.setSync_rck (d : Device) : d.setSync.rck = d.rck := by simp [Device.setSync]

theorem Device.setSync_rckFrame {rs bits : List Nat} (hb : RCK.STAT_SYNC.lo ∈ bits) (d : Device) :
    d.RckFrame rs bits d.setSync :=
  .ite (fun _ => .refl d) fun _ => (RckFrame.raise d hb).trans (Device.acceptNow_rckFrame _ _)

/-! ## What the host writes (R37, R44, R45) -/

/-- A write of HSPEED that takes effect: the host is the source in use, as of now. -/
def Device.hostTaken (d : Device) (v : Nat) : Device :=
  ((d.wr RCK.HSPEED v).lower RCK.STAT_SPEED_STALE).modRck fun r =>
    { r with hspeedAt := some r.tide, src := .host, srcLost := false, vEst := v, fwd := !d.flag RCK.HDIR_REVERSE
             pos := if d.isHead && d.flag RCK.STAT_FLYWHEEL then r.reck else r.pos }

/-- A write of HSPEED, in the terms of the device before it. -/
theorem Device.writeHspeed_eq (d : Device) (v : Nat) : d.writeHspeed v =
    if !d.rigged then d.wr RCK.HSPEED v
    else if !d.hostSource && d.rck.src != .host then
      (d.wr RCK.HSPEED v).modRck fun r => { r with hspeedAt := some r.tide }
    else if d.isHead then ((d.hostTaken v).lower RCK.STAT_FLYWHEEL).ownRate.setSync
    else d.hostTaken v := by
  have hf : ∀ f : Field, RCK.HSPEED.addr ≠ f.reg.addr → (d.wr RCK.HSPEED v).fld f = d.fld f := fun f h =>
    Device.fld_wr_ne d v h
  have hb : ∀ f : Field, RCK.HSPEED.addr ≠ f.reg.addr → (d.wr RCK.HSPEED v).flag f = d.flag f := fun f h =>
    congrArg (· == 1) (hf f h)
  have hl : ∀ f : Field, f.reg.addr ≠ RCK.STAT.addr → ((d.wr RCK.HSPEED v).lower RCK.STAT_SPEED_STALE).fld f =
      (d.wr RCK.HSPEED v).fld f := fun f h => Device.fld_setFld_reg _ _ h.symm
  have hrig : (d.wr RCK.HSPEED v).rigged = d.rigged := hb _ (by decide)
  have hsrc : (d.wr RCK.HSPEED v).hostSource = d.hostSource := congrArg (· == 4) (hf _ (by decide))
  have hdir : ((d.wr RCK.HSPEED v).lower RCK.STAT_SPEED_STALE).flag RCK.HDIR_REVERSE = d.flag RCK.HDIR_REVERSE :=
    congrArg (· == 1) ((hl _ (by decide)).trans (hf _ (by decide)))
  have hhead : (d.wr RCK.HSPEED v).isHead = d.isHead := congrArg (· == 1) (hf _ (by decide))
  have hhead' : (d.hostTaken v).isHead = d.isHead := congrArg (· == 1) ((hl _ (by decide)).trans (hf _ (by decide)))
  have hrck : (d.wr RCK.HSPEED v).rck = d.rck := by simp
  unfold Device.writeHspeed
  simp only [hrig, hsrc, hrck, Bool.not_true, Bool.or_false, hhead, hb RCK.STAT_FLYWHEEL (by decide), hdir]
  rw [← Device.hostTaken, hhead']

end Sys2Proof.Machine

namespace Sys2Proof.Machine

theorem Device.hostTaken_stale (d : Device) (v : Nat) : (d.hostTaken v).flag RCK.STAT_SPEED_STALE = false :=
  Device.flag_lower _ _ rfl (by decide)

/-- What a write of HSPEED does beside the register itself. -/
theorem Device.writeHspeed_rckFrame (d : Device) (v : Nat) :
    (d.wr RCK.HSPEED v).RckFrame rateRegs [0, 1, 3, 4, 5] (d.writeHspeed v) := by
  have htaken : (d.wr RCK.HSPEED v).RckFrame rateRegs [0, 1, 3, 4, 5] (d.hostTaken v) :=
    (RckFrame.setFlag _ false (by decide)).trans (.modRck _ _)
  have hrate : ∀ e : Device, e.RckFrame rateRegs [0, 1, 3, 4, 5] (e.lower RCK.STAT_FLYWHEEL).ownRate.setSync := fun e =>
    ((RckFrame.setFlag e false (by decide)).trans (Device.ownRate_rckFrame (by simp) (by decide) _)).trans
      (Device.setSync_rckFrame (by decide) _)
  rw [Device.writeHspeed_eq]
  exact .ite (fun _ => .refl _) fun _ => .ite (fun _ => .modRck _ _) fun _ => .ite (fun _ => htaken.trans (hrate _))
    fun _ => htaken

theorem hspeedWrite_stands (s : State) (w : Writer) (hp : s.dev.powered = true) (hw : s.dev.admits w) (v : BitVec 32) :
    Completes (.hspeedWrite w v) s fun d => d.rd RCK.HSPEED = v.toNat ∧
      (s.dev.hostSource = true → s.dev.rigged = true → d.rck.hspeedAt = some s.dev.now ∧ d.rck.src = .host ∧
        d.rck.vEst = v.toNat ∧ d.rck.srcLost = false ∧ d.flag RCK.STAT_SPEED_STALE = false) := by
  refine completes_write (f := fun d => d.writeHspeed v.toNat) hp hw rfl fun x => ⟨?_, fun hsrc hrig => ?_⟩
  · have h := (s.dev.writeHspeed_rckFrame v.toNat).reg RCK.HSPEED (by decide) (by decide) (by decide)
    exact h.trans ((Device.rd_wr_same _ _ _).trans (Nat.mod_eq_of_lt v.isLt))
  · change (s.dev.writeHspeed v.toNat).rck.hspeedAt = _ ∧ (s.dev.writeHspeed v.toNat).rck.src = _ ∧
      (s.dev.writeHspeed v.toNat).rck.vEst = _ ∧ (s.dev.writeHspeed v.toNat).rck.srcLost = _ ∧
      (s.dev.writeHspeed v.toNat).flag _ = _
    rw [Device.writeHspeed_eq, if_neg (by simp [hrig]), if_neg (by simp [hsrc])]
    split
    · obtain ⟨c, hc⟩ := ((s.dev.hostTaken v.toNat).lower RCK.STAT_FLYWHEEL).ownRate_rck
      have hframe := ((Device.RckFrame.setFlag (i := 3) (rs := rateRegs) (bits := [0, 1, 3, 4]) (s.dev.hostTaken v.toNat) false
        (by decide)).trans (Device.ownRate_rckFrame (by simp) (by decide) _)).trans (Device.setSync_rckFrame (by decide) _)
      rw [Device.setSync_rck, hc]
      exact ⟨rfl, rfl, rfl, rfl, (hframe.bit 5 (by decide) (by decide)).trans (Device.hostTaken_stale _ _)⟩
    · exact ⟨rfl, rfl, rfl, rfl, Device.hostTaken_stale _ _⟩

theorem Device.setFld_hdir (d : Device) (n : Nat) :
    (d.setFld RCK.HDIR_REVERSE (n % 2)).flag RCK.HDIR_REVERSE = n.testBit 0 := by
  have h : (d.setFld RCK.HDIR_REVERSE (n % 2)).fld RCK.HDIR_REVERSE = n % 2 % 2 :=
    Device.fld_setFld_same d RCK.HDIR_REVERSE _ (by decide)
  simp [Device.flag, h, Nat.testBit_zero, beq_eq_decide]

/-- What a write of HDIR does beside the register itself. -/
theorem Device.writeHdir_rckFrame (d : Device) (v : Nat) :
    (d.setFld RCK.HDIR_REVERSE (v % 2)).RckFrame rateRegs speedBits (d.writeHdir v) :=
  .ite (fun _ => .ite (fun _ => (RckFrame.modRck _ _).trans (Device.ownRate_rckFrame (by simp) (by simp) _)) fun _ => .modRck _ _)
    fun _ => .refl _

/-- Where the host drives the head, a write of HDIR gives its direction. -/
theorem Device.writeHdir_fwd {d : Device} (v : Nat) (hs : d.rck.src = .host) (hh : d.isHead = true) :
    (d.writeHdir v).rck.fwd = (v % 2 == 0) := by
  have hhead : (d.setFld RCK.HDIR_REVERSE (v % 2)).isHead = true :=
    (congrArg (· == 1) (Device.fld_setFld_reg d _ (by decide))).trans hh
  have hsrc : (d.setFld RCK.HDIR_REVERSE (v % 2)).rck.src = .host := hs
  simp only [Device.writeHdir, hsrc, hhead, beq_self_eq_true, Bool.and_self, if_true]
  split
  · obtain ⟨c, hc⟩ := ((d.setFld RCK.HDIR_REVERSE (v % 2)).modRck fun r => { r with fwd := v % 2 == 0 }).ownRate_rck
    rw [hc]; rfl
  · rfl

theorem hdirWrite_stands (s : State) (w : Writer) (hp : s.dev.powered = true) (hw : s.dev.admits w) (v : BitVec 8) :
    Completes (.hdirWrite w v) s fun d => d.flag RCK.HDIR_REVERSE = v.getLsbD 0 ∧
      (s.dev.rck.src = .host → s.dev.isHead = true → d.rck.fwd = !v.getLsbD 0) := by
  refine completes_write (f := fun d => d.writeHdir v.toNat) hp hw rfl fun x => ⟨?_, fun hs hh => ?_⟩
  · exact ((s.dev.writeHdir_rckFrame v.toNat).flag RCK.HDIR_REVERSE).trans (Device.setFld_hdir _ _)
  · refine (Device.writeHdir_fwd v.toNat hs hh).trans ?_
    rw [BitVec.getLsbD, Nat.testBit_zero]
    rcases Nat.mod_two_eq_zero_or_one v.toNat with h | h <;> simp [h]

theorem Device.writeHyaw_rckFrame (d : Device) (v : Nat) :
    (d.wr RCK.HYAW v).RckFrame [] [6] (d.writeHyaw v) :=
  .ite (fun _ => (RckFrame.setFlag _ false (by decide)).trans (.modRck _ _)) fun _ => .refl _

theorem hyawWrite_stands (s : State) (w : Writer) (hp : s.dev.powered = true) (hw : s.dev.admits w) (v : BitVec 32) :
    Completes (.hyawWrite w v) s fun d => d.rd RCK.HYAW = v.toNat ∧
      (s.dev.fld RCK.CFG_YAWSRC = 2 → s.dev.rigged = true →
        d.flag RCK.STAT_YAW_STALE = false ∧ d.rck.hyawAt = some s.dev.now) := by
  refine completes_write (f := fun d => d.writeHyaw v.toNat) hp hw rfl fun x => ⟨?_, fun hsrc hrig => ?_⟩
  · have h := (s.dev.writeHyaw_rckFrame v.toNat).reg RCK.HYAW (by decide) (by decide) (by decide)
    exact h.trans ((Device.rd_wr_same _ _ _).trans (Nat.mod_eq_of_lt v.isLt))
  · have hsrc' : (s.dev.wr RCK.HYAW v.toNat).fld RCK.CFG_YAWSRC = 2 := (Device.fld_wr_ne _ _ (by decide)).trans hsrc
    have hrig' : (s.dev.wr RCK.HYAW v.toNat).rigged = true := (Device.flag_wr_ne _ _ (by decide)).trans hrig
    have h : s.dev.writeHyaw v.toNat = ((s.dev.wr RCK.HYAW v.toNat).lower RCK.STAT_YAW_STALE).modRck fun r =>
        { r with hyawAt := some r.tide } := by simp [Device.writeHyaw, hsrc', hrig']
    simp only [h]
    exact ⟨Device.flag_lower _ _ rfl (by decide), rfl⟩

theorem cap_copies (s : State) (w : Writer) (hp : s.dev.powered = true) (hw : s.dev.admits w) (v : BitVec 8)
    (hv : v.getLsbD 0 = true) : Completes (.cap w v) s fun d =>
      d.rd RCK.CAPRECK = s.dev.reckoning % 2 ^ RCK.CAPRECK.width ∧
      d.rd RCK.CAPTIDE = s.dev.now % 2 ^ RCK.CAPTIDE.width := by
  have h : s.dev.capture v.toNat = (s.dev.wr RCK.CAPRECK s.dev.reckoning).wr RCK.CAPTIDE s.dev.now := if_pos hv
  refine completes_write (f := fun d => d.capture v.toNat) hp hw rfl fun x => ?_
  simp only [h]
  exact ⟨(Device.rd_wr_ne _ _ (by decide)).trans (Device.rd_wr_same _ _ _), Device.rd_wr_same _ _ _⟩

/-- Settles O24: each of the four writes by a lemma of its own. -/
theorem hostReckoningWrites : Obligations.HostReckoningWrites := fun s w hp hw =>
  ⟨hspeedWrite_stands s w hp hw, hdirWrite_stands s w hp hw, hyawWrite_stands s w hp hw, cap_copies s w hp hw⟩

end Sys2Proof.Machine

namespace Sys2Proof.Machine

/-! ## Counted distance (R31–R35, R41, R42) -/

/-- What an accepted count has noted before it moves anything: its counter and an overrun in the registers; of reckoning,
what the next estimates need. -/
structure Device.Noted (cnt : Reg) (o x : Device) : Prop where
  frame : o.RckFrame [cnt.addr] [RCK.STAT_COUNT_OVERRUN.lo] x
  store : x.store = o.store
  reck : x.rck.reck = o.rck.reck
  pos : x.rck.pos = o.rck.pos
  pOwn : x.rck.pOwn = o.rck.pOwn
  rev : x.rck.rev = o.rck.rev
  revDef : x.rck.revDef = o.rck.revDef
  src : x.rck.src = o.rck.src
  srcLost : x.rck.srcLost = o.rck.srcLost

/-- A change of the reckoning state that is none of course. -/
theorem Device.Noted.modRck {cnt : Reg} {o x : Device} (h : o.Noted cnt x) (g : Rck → Rck)
    (hg : ∀ r : Rck, (g r).reck = r.reck ∧ (g r).pos = r.pos ∧ (g r).pOwn = r.pOwn ∧ (g r).rev = r.rev ∧
      (g r).revDef = r.revDef ∧ (g r).src = r.src ∧ (g r).srcLost = r.srcLost) : o.Noted cnt (x.modRck g) := by
  obtain ⟨hreck, hpos, hown, hrev, hdef, hsrc, hlost⟩ := hg x.rck
  exact ⟨h.frame.trans (.modRck _ _), h.store, hreck.trans h.reck, hpos.trans h.pos, hown.trans h.pOwn, hrev.trans h.rev,
    hdef.trans h.revDef, hsrc.trans h.src, hlost.trans h.srcLost⟩

theorem Device.Noted.estimateOr {cnt : Reg} {o x : Device} (h : o.Noted cnt x) (l : List Stamp) :
    o.Noted cnt (x.estimateOr l).2 := by
  unfold Device.estimateOr
  split
  · exact h
  · exact ⟨h.frame.trans (.of_regs rfl rfl rfl), h.store, h.reck, h.pos, h.pOwn, h.rev, h.revDef, h.src, h.srcLost⟩

/-- The counter takes its value; before it, an overrun may have been set and logged. -/
theorem Device.noted_counter {cnt : Reg} (o : Device) (c : Bool) (i v : Nat) (hc : cnt.addr ≠ RCK.STAT.addr) :
    o.Noted cnt ((o.when c fun d => (d.raise RCK.STAT_COUNT_OVERRUN).log Ev.COUNT_OVERRUN [i]).wr cnt v) := by
  have hover : o.RckFrame [cnt.addr] [RCK.STAT_COUNT_OVERRUN.lo]
      (o.when c fun d => (d.raise RCK.STAT_COUNT_OVERRUN).log Ev.COUNT_OVERRUN [i]) :=
    .when c ((RckFrame.raise o (by decide)).trans (.log _ _ _))
  have hframe := hover.trans (RckFrame.wr _ v (List.mem_singleton_self _) hc)
  refine ⟨hframe, ?_, ?_, ?_, ?_, ?_, ?_, ?_, ?_⟩ <;> cases c <;> simp

theorem Device.Noted.counting {cnt : Reg} {o x : Device} (h : o.Noted cnt x) (hc : RCK.CFG.addr ∉ [cnt.addr]) :
    x.counting = o.counting := by
  unfold Device.counting; rw [h.frame.isHead hc, h.frame.isStandby hc]

/-- A distance that is counted, and the rate that a head takes from it. -/
def Device.moveBy (d : Device) (dist : Nat) (fwd : Bool) : Device :=
  if (d.travel dist fwd).driven then (d.travel dist fwd).ownRate else d.travel dist fwd

theorem Device.travel_rckFrame {rs bits : List Nat} (h : RCK.STAT_REVERSE.lo ∈ bits) (d : Device) (dist : Nat) (fwd : Bool) :
    d.RckFrame rs bits (d.travel dist fwd) :=
  (RckFrame.modRck d _).trans (.ite (fun _ => .setFlag _ false h) fun _ => .ite (fun _ => .raise _ h) fun _ => .refl _)

theorem Device.moveBy_rckFrame (d : Device) (dist : Nat) (fwd : Bool) :
    d.RckFrame rateRegs [1, 2, 4] (d.moveBy dist fwd) :=
  .ite (fun _ => (Device.travel_rckFrame (by decide) d dist fwd).trans (Device.ownRate_rckFrame (by simp) (by decide) _))
    fun _ => Device.travel_rckFrame (by decide) d dist fwd

theorem Device.revFlag_rest (d : Device) : d.revFlag.rck = d.rck ∧ d.revFlag.store = d.store := by
  unfold Device.revFlag
  (repeat' split) <;> simp

theorem Device.moveBy_store (d : Device) (dist : Nat) (fwd : Bool) : (d.moveBy dist fwd).store = d.store := by
  have h : (d.travel dist fwd).store = d.store := (Device.revFlag_rest _).2
  unfold Device.moveBy
  split
  · rw [Device.ownRate_store, h]
  · exact h

/-- A distance counted moves reckoning by no more than the correction in force. -/
theorem Device.moveBy_rck (d : Device) (dist : Nat) (fwd : Bool) :
    ∃ c h, (d.moveBy dist fwd).rck = { (d.travel dist fwd).rck with corr := c, holding := h } := by
  unfold Device.moveBy
  split
  · obtain ⟨c, hc⟩ := (d.travel dist fwd).ownRate_rck
    exact ⟨c, false, hc⟩
  · exact ⟨(d.travel dist fwd).rck.corr, (d.travel dist fwd).rck.holding, rfl⟩

theorem Device.travel_backward (d : Device) (dist : Nat) : (d.travel dist false).rck =
    { d.rck with rev := (d.rck.rev + dist) % 2 ^ 72, revDef := d.rck.revDef + dist, fwd := false } :=
  (Device.revFlag_rest _).1

/-- A forward distance pays back the deficit first; what is left of it advances the count position of the head, or the
shadow position of a standby. -/
theorem Device.travel_forward (d : Device) (dist : Nat) :
    let paid := min d.rck.revDef dist
    let adv := if d.flag RCK.CFG_REVMODE then dist else dist - paid
    (d.travel dist true).rck = { d.rck with
      revDef := if d.flag RCK.CFG_REVMODE then 0 else d.rck.revDef - paid, fwd := true
      pos := if d.isHead then d.rck.pos + adv else d.rck.pos
      pOwn := if d.isHead then d.rck.pOwn else d.rck.pOwn + adv } := by
  refine (Device.revFlag_rest _).1.trans ?_
  cases d.isHead <;> simp

/-- R41, R42: what a count of `dist` in the direction given makes of the positions, of reverse travel and of the
deficit. -/
def Device.countsAs (o : Device) (dist : Nat) (fwd : Bool) (d : Device) : Prop :=
  let paid := min o.rck.revDef dist
  let adv := if o.flag RCK.CFG_REVMODE then dist else dist - paid
  (fwd = true → d.rck.rev = o.rck.rev ∧
    d.rck.revDef = (if o.flag RCK.CFG_REVMODE then 0 else o.rck.revDef - paid) ∧
    d.rck.pos = (if o.isHead then o.rck.pos + adv else o.rck.pos) ∧
    d.rck.pOwn = (if o.isHead then o.rck.pOwn else o.rck.pOwn + adv)) ∧
  (fwd = false → d.rck.pos = o.rck.pos ∧ d.rck.pOwn = o.rck.pOwn ∧
    d.rck.rev = (o.rck.rev + dist) % 2 ^ 72 ∧ d.rck.revDef = o.rck.revDef + dist)

theorem Device.moveBy_countsAs {cnt : Reg} {o x : Device} (h : o.Noted cnt x) (hc : RCK.CFG.addr ∉ [cnt.addr])
    (dist : Nat) (fwd : Bool) : o.countsAs dist fwd (x.moveBy dist fwd) := by
  have hmode : x.flag RCK.CFG_REVMODE = o.flag RCK.CFG_REVMODE := h.frame.flag _ (hr := hc)
  have hhead : x.isHead = o.isHead := h.frame.isHead hc
  obtain ⟨c, k, hrck⟩ := x.moveBy_rck dist fwd
  refine ⟨?_, ?_⟩ <;> rintro rfl <;> rw [hrck]
  · rw [Device.travel_forward, hmode, hhead, h.rev, h.revDef, h.pos, h.pOwn]
    exact ⟨rfl, rfl, rfl, rfl⟩
  · rw [Device.travel_backward, h.rev, h.revDef, h.pos, h.pOwn]
    exact ⟨rfl, rfl, rfl, rfl⟩

/-- What a count leaves of reckoning and of the edges that wait. -/
theorem Device.moveBy_holds {cnt : Reg} {o x : Device} (h : o.Noted cnt x) (dist : Nat) :
    (x.moveBy dist false).reckoning = o.reckoning ∧ (x.moveBy dist false).store = o.store := by
  obtain ⟨c, k, hrck⟩ := x.moveBy_rck dist false
  refine ⟨?_, (x.moveBy_store dist false).trans h.store⟩
  unfold Device.reckoning
  rw [hrck, Device.travel_backward]
  exact congrArg (· / 2 ^ 24) h.reck

end Sys2Proof.Machine

namespace Sys2Proof.Machine

/-- The counter of an encoder pair. -/
def encCnt (e : Nat) : Reg := if e = 0 then RCK.CNT0 else RCK.CNT1

theorem encCnt_addr (e : Nat) : (encCnt e).addr / 256 = 1 ∧ (encCnt e).width = 32 ∧
    (encCnt e).addr ≠ RCK.STAT.addr ∧ (encCnt e).addr ∉ rateRegs ∧
    ∀ r ∈ [RCK.CFG, RCK.KENC0, RCK.KENC1], r.addr ∉ [(encCnt e).addr] := by
  unfold encCnt; split <;> decide

/-- The distance of an accepted count is counted where the source in use has one and is not lost. -/
def Device.takeCount (d : Device) (dist : Option Nat) (fwd : Bool) : Device :=
  match dist with
  | none => d
  | some n => if !d.counting || d.rck.srcLost then d else d.moveBy n fwd

theorem Device.over_rd (d : Device) (c : Bool) (i : Nat) {r : Reg} (hp : r.addr / 256 = 1) (hs : r.addr ≠ RCK.STAT.addr) :
    (d.when c fun d => (d.raise RCK.STAT_COUNT_OVERRUN).log Ev.COUNT_OVERRUN [i]).rd r = d.rd r :=
  (RckFrame.when (rs := []) (bits := [9]) c ((RckFrame.raise d (by decide)).trans (.log _ _ _))).reg r hp hs (by simp)

theorem unsigned_lt (w : Nat) (v : Int) : unsigned w v < 2 ^ w := by
  have h : (0 : Int) < (2 ^ w : Nat) := by exact_mod_cast Nat.two_pow_pos w
  have := Int.emod_lt_of_pos v h
  have := Int.emod_nonneg v h.ne'
  unfold unsigned
  omega

/-- R32: what an accepted count of an encoder notes, before its distance is counted. -/
theorem Device.encCount_noted (d : Device) (e : Nat) (fwd : Bool) : ∃ x, d.Noted (encCnt e) x ∧
    x.rd (encCnt e) = unsigned 32 ((d.rd (encCnt e) : Int) + (if fwd then 1 else -1)) ∧ x.rck.encFwd = fwd ∧
    d.encCount e fwd = x.takeCount (x.encDist e) fwd := by
  obtain ⟨hpage, hwidth, hstat, -, -⟩ := encCnt_addr e
  refine ⟨_, ((Device.noted_counter d _ e _ hstat).estimateOr _).modRck _ ?_, ?_, ?_, rfl⟩
  · intro r; split <;> exact ⟨rfl, rfl, rfl, rfl, rfl, rfl, rfl⟩
  · have hest : ∀ (y : Device) l (g : Rck → Rck), ((y.estimateOr l).2.modRck g).rd (encCnt e) = y.rd (encCnt e) :=
      fun y l g => by unfold Device.estimateOr; split <;> rfl
    refine (hest _ _ _).trans ((Device.rd_wr_same _ _ _).trans ?_)
    rw [hwidth, Nat.mod_eq_of_lt (unsigned_lt 32 _)]
    exact congrArg (fun n : Nat => unsigned 32 ((n : Int) + if fwd then 1 else -1)) (d.over_rd _ e hpage hstat)
  · rfl

/-- R33: what an accepted edge of RADAR notes, before its distance is counted. -/
theorem Device.radarCount_noted (d : Device) : ∃ x y, d.Noted RCK.CNTR x ∧ d.Noted RCK.CNTR y ∧
    x.rd RCK.CNTR = (d.rd RCK.CNTR + 1) % 2 ^ RCK.CNTR.width ∧ y.rd RCK.CNTR = x.rd RCK.CNTR ∧
    y.rck.encFwd = d.rck.encFwd ∧ d.radarCount = if x.rck.src != .radar || !x.counting || x.rck.srcLost then x
      else y.moveBy (x.rd RCK.KRAD * 256)
        (if y.flag RCK.CFG_RADDIR then !y.flag RCK.HDIR_REVERSE else y.rck.encFwd) := by
  have hcourse : ∀ (g : Rck → List Stamp) (r : Rck), let q : Rck := { r with stamps := g r }
      q.reck = r.reck ∧ q.pos = r.pos ∧ q.pOwn = r.pOwn ∧ q.rev = r.rev ∧ q.revDef = r.revDef ∧ q.src = r.src ∧
      q.srcLost = r.srcLost := fun _ _ => ⟨rfl, rfl, rfl, rfl, rfl, rfl, rfl⟩
  refine ⟨_, _, ?x, ?y, ?cnt, ?same, ?dir, rfl⟩
  case x => exact (Device.noted_counter d _ 2 _ (by decide)).modRck _ (hcourse _)
  case y =>
    exact ((Device.Noted.modRck (Device.noted_counter d _ 2 _ (by decide)) _ (hcourse _)).estimateOr _).modRck _
      fun _ => ⟨rfl, rfl, rfl, rfl, rfl, rfl, rfl⟩
  case cnt =>
    exact (Device.rd_count_same _ _ _).trans (congrArg (fun n => (n + 1) % 2 ^ RCK.CNTR.width)
      (d.over_rd _ 2 (by decide) (by decide)))
  case same => unfold Device.estimateOr; split <;> rfl
  case dir => unfold Device.estimateOr; split <;> simp [Device.count]

end Sys2Proof.Machine

namespace Sys2Proof.Machine

theorem Device.takeCount_rckFrame (d : Device) (dist : Option Nat) (fwd : Bool) :
    d.RckFrame rateRegs [1, 2, 4] (d.takeCount dist fwd) := by
  unfold Device.takeCount
  split
  · exact .refl d
  · exact .ite (fun _ => .refl d) fun _ => d.moveBy_rckFrame _ fwd

theorem Device.moveBy_encFwd (d : Device) (dist : Nat) (fwd : Bool) : (d.moveBy dist fwd).rck.encFwd = d.rck.encFwd := by
  obtain ⟨c, h, hrck⟩ := d.moveBy_rck dist fwd
  rw [hrck]
  cases fwd
  · rw [Device.travel_backward]
  · rw [Device.travel_forward]

theorem Device.takeCount_encFwd (d : Device) (dist : Option Nat) (fwd : Bool) :
    (d.takeCount dist fwd).rck.encFwd = d.rck.encFwd := by
  unfold Device.takeCount
  (repeat' split) <;> simp [Device.moveBy_encFwd]

/-- A backward count moves neither reckoning nor the edges that wait (R41). -/
theorem Device.takeCount_holds {cnt : Reg} {o x : Device} (h : o.Noted cnt x) (dist : Option Nat) :
    (x.takeCount dist false).reckoning = o.reckoning ∧ (x.takeCount dist false).store = o.store := by
  have hx : x.reckoning = o.reckoning ∧ x.store = o.store := ⟨congrArg (· / 2 ^ 24) h.reck, h.store⟩
  unfold Device.takeCount
  split
  · exact hx
  · split
    · exact hx
    · exact Device.moveBy_holds h _

/-- The distance counts as R41 and R42 say where the device counts its source and that is not lost. -/
theorem Device.takeCount_countsAs {cnt : Reg} {o x : Device} (h : o.Noted cnt x) (hc : RCK.CFG.addr ∉ [cnt.addr])
    (dist : Nat) (fwd : Bool) (hcount : o.counting = true) (hlost : o.rck.srcLost = false) :
    o.countsAs dist fwd (x.takeCount (some dist) fwd) := by
  have hgo : x.takeCount (some dist) fwd = x.moveBy dist fwd := by
    simp [Device.takeCount, h.counting hc, hcount, h.srcLost, hlost]
  rw [hgo]
  exact Device.moveBy_countsAs h hc dist fwd

theorem Device.Noted.encDist {e : Nat} {o x : Device} (h : o.Noted (encCnt e) x) (i : Nat) : x.encDist i = o.encDist i := by
  obtain ⟨-, -, -, -, hfree⟩ := encCnt_addr e
  unfold Device.encDist
  rw [h.frame.reg RCK.KENC0 (by decide) (by decide) (hfree _ (by decide)),
    h.frame.reg RCK.KENC1 (by decide) (by decide) (hfree _ (by decide)), h.src]

/-- The direction of an encoder's step: A leads B is forward on side 0 (R32). -/
def Device.stepFwd (d : Device) (step : EncStep) : Bool := (step == .aLeadsB) != d.flag RCK.CFG_ENCSIDE

theorem Device.encoderStep_counts {d : Device} {e : Nat} {step : EncStep} {stable : Nat} (hs : d.encFilter e ≤ stable)
    (hl : step ≠ .illegal) : d.encoderStep e step stable = d.encCount e (d.stepFwd step) := by
  unfold Device.encoderStep Device.stepFwd
  rw [if_neg (Nat.not_lt.2 hs)]
  cases step with
  | illegal => exact absurd rfl hl
  | aLeadsB => simp
  | bLeadsA => exact congrArg (d.encCount e) (Bool.false_bne _).symm

theorem encoderCount_ignored (s : State) (hp : s.dev.powered = true) (e : Fin 2) (step : EncStep) (stable : Nat)
    (h : stable < s.dev.encFilter e) : Completes (.encoderCount e step stable) s fun d => d = s.dev :=
  completes_run (f := fun d => d.encoderStep e step stable) hp rfl (if_pos h)

theorem encoderCount_illegal (s : State) (hp : s.dev.powered = true) (e : Fin 2) (stable : Nat)
    (h : s.dev.encFilter e ≤ stable) : Completes (.encoderCount e .illegal stable) s fun d =>
      d.rck = s.dev.rck ∧ s.dev.counted d RCK.ILLCNT ∧ d.flag RCK.STAT_ENC_ILLEGAL = true ∧
      s.dev.reported d Ev.ENC_ILLEGAL [e.val] := by
  refine completes_run (f := fun d => d.encoderStep e .illegal stable) hp rfl ?_
  have heq : s.dev.encoderStep e .illegal stable =
      ((s.dev.countSat RCK.ILLCNT).raise RCK.STAT_ENC_ILLEGAL).log Ev.ENC_ILLEGAL [e] := if_neg (Nat.not_lt.2 h)
  simp only [heq]
  refine ⟨by simp, ?_, ?_, Device.reported_log (by simp) _ _⟩
  · unfold Device.counted
    rw [Device.rd_log _ _ _ _ (by decide) (by decide), Device.rd_raise_ne _ (by decide), Device.rd_countSat_same]
  · rw [Device.flag_log _ _ _ _ (by decide) (by decide)]
    exact Device.flag_raise _ _ rfl (by decide)

theorem encoderCount_counts (s : State) (hp : s.dev.powered = true) (e : Fin 2) (step : EncStep) (stable : Nat)
    (h : s.dev.encFilter e ≤ stable) (hl : step ≠ .illegal) : Completes (.encoderCount e step stable) s fun d =>
      d.rd (encCnt e) = unsigned 32 ((s.dev.rd (encCnt e) : Int) + (if s.dev.stepFwd step then 1 else -1)) ∧
      d.rck.encFwd = s.dev.stepFwd step ∧
      (s.dev.stepFwd step = false → d.reckoning = s.dev.reckoning ∧ d.store = s.dev.store) ∧
      ∀ dist, s.dev.encDist e = some dist → s.dev.counting = true → s.dev.rck.srcLost = false →
        s.dev.countsAs dist (s.dev.stepFwd step) d := by
  obtain ⟨hpage, -, hstat, hrate, hfree⟩ := encCnt_addr e
  obtain ⟨x, hx, hcnt, hfwd, heq⟩ := s.dev.encCount_noted e (s.dev.stepFwd step)
  refine completes_run (f := fun d => d.encoderStep e step stable) hp rfl ?_
  simp only [Device.encoderStep_counts h hl, heq]
  refine ⟨?_, ?_, fun hb => ?_, fun dist hd hcount hlost => ?_⟩
  · exact ((x.takeCount_rckFrame _ _).reg _ hpage hstat hrate).trans hcnt
  · exact (x.takeCount_encFwd _ _).trans hfwd
  · rw [hb]; exact Device.takeCount_holds hx _
  · rw [hx.encDist, hd]
    exact Device.takeCount_countsAs hx (hfree _ (by decide)) dist _ hcount hlost

/-- The direction of a RADAR edge: HDIR's, or that of the last encoder count (R35). -/
def Device.radarFwd (d : Device) : Bool :=
  if d.flag RCK.CFG_RADDIR then !d.flag RCK.HDIR_REVERSE else d.rck.encFwd

theorem radarPulse_ignored (s : State) (hp : s.dev.powered = true) (stable : Nat) (h : stable < s.dev.fld RCK.FILT_TFR) :
    Completes (.radarPulse stable) s fun d => d = s.dev :=
  completes_run (f := fun d => d.radarPulse stable) hp rfl (if_pos h)

theorem radarPulse_counts (s : State) (hp : s.dev.powered = true) (stable : Nat) (h : s.dev.fld RCK.FILT_TFR ≤ stable) :
    Completes (.radarPulse stable) s fun d =>
      d.rd RCK.CNTR = (s.dev.rd RCK.CNTR + 1) % 2 ^ RCK.CNTR.width ∧
      (s.dev.radarFwd = false → d.reckoning = s.dev.reckoning ∧ d.store = s.dev.store) ∧
      (s.dev.rck.src = .radar → s.dev.counting = true → s.dev.rck.srcLost = false →
        s.dev.countsAs (s.dev.rd RCK.KRAD * 256) s.dev.radarFwd d) := by
  obtain ⟨x, y, hx, hy, hcnt, hsame, hdir, heq⟩ := s.dev.radarCount_noted
  have hfree : RCK.CFG.addr ∉ [RCK.CNTR.addr] := by decide
  have hfwd : (if y.flag RCK.CFG_RADDIR then !y.flag RCK.HDIR_REVERSE else y.rck.encFwd) = s.dev.radarFwd := by
    rw [hy.frame.flag RCK.CFG_RADDIR, hy.frame.flag RCK.HDIR_REVERSE, hdir]; rfl
  have hk : x.rd RCK.KRAD = s.dev.rd RCK.KRAD := hx.frame.reg _ (by decide) (by decide) (by decide)
  rw [hx.src, hx.counting hfree, hx.srcLost, hk, hfwd] at heq
  have hpulse : s.dev.radarPulse stable = s.dev.radarCount := if_neg (Nat.not_lt.2 h)
  refine completes_run (f := fun d => d.radarPulse stable) hp rfl ?_
  simp only [hpulse, heq]
  refine ⟨?_, fun hb => ?_, fun hs hc hl => ?_⟩
  · split
    · exact hcnt
    · exact ((y.moveBy_rckFrame _ _).reg RCK.CNTR (by decide) (by decide) (by decide)).trans (hsame.trans hcnt)
  · split
    · exact ⟨congrArg (· / 2 ^ 24) hx.reck, hx.store⟩
    · rw [hb]; exact Device.moveBy_holds hy _
  · rw [if_neg (by simp [hs, hc, hl])]
    exact Device.moveBy_countsAs hy hfree _ _

theorem encCnt_val (e : Fin 2) : encCnt e = if e = 0 then RCK.CNT0 else RCK.CNT1 := by
  match e with
  | 0 => rfl
  | 1 => rfl

/-- Settles O23: a count is noted, then its distance is counted (`Device.takeCount_countsAs`, `Device.moveBy_countsAs`). -/
theorem countedDistance : Obligations.CountedDistance := by
  intro s hp
  refine ⟨fun e step stable => ⟨encoderCount_ignored s hp e step stable, fun h => ⟨?_, fun hl => ?_⟩⟩,
    fun stable => ⟨radarPulse_ignored s hp stable, radarPulse_counts s hp stable⟩⟩
  · rintro rfl
    exact encoderCount_illegal s hp e stable h
  · have hc := encoderCount_counts s hp e step stable h hl
    rw [encCnt_val] at hc
    exact hc

end Sys2Proof.Machine

namespace Sys2Proof.Machine

/-! ## Sources that go stale and are lost (R36, R37, R39, R44) -/

/-- What a source's coming into use changes of reckoning: the source, and the speed and direction it brings. -/
theorem Device.useSource_rck (d : Device) (src : RckSource) :
    ∃ v f, (d.useSource src).rck = { d.rck with src := src, vEst := v, fwd := f } := by
  unfold Device.useSource Device.estimateOr
  dsimp only
  split
  · rw [Device.when_rck _ _ (by simp)]
    exact ⟨_, _, rfl⟩
  · split
    · split <;> exact ⟨_, _, rfl⟩
    · exact ⟨_, _, rfl⟩

theorem Device.useSource_rckFrame {rs bits : List Nat} (hb : RCK.STAT_SPEED_STALE.lo ∈ bits) (d : Device)
    (src : RckSource) : d.RckFrame rs bits (d.useSource src) := by
  have hest : ∀ (e : Device) l (g : Nat → Rck → Rck), e.RckFrame rs bits ((e.estimateOr l).2.modRck (g (e.estimateOr l).1)) :=
    fun e l g => by
      unfold Device.estimateOr
      split
      · exact .modRck e _
      · exact .of_regs rfl rfl rfl
  unfold Device.useSource
  dsimp only
  split
  · exact ((RckFrame.modRck d _).trans (.modRck _ _)).trans (.when _ (.raise _ hb))
  · split
    · exact (RckFrame.modRck d _).trans (hest _ _ fun v r => { r with vEst := v })
    · exact .modRck d _

/-- The bits of RCK.STAT that follow a change of source. -/
def sourceBits : List Nat := RCK.STAT_SPEED_STALE.lo :: speedBits

/-- The head's rate follows a source that has come into use. -/
theorem Device.newSpeedIf_rckFrame {d e : Device} (c : Bool) (h : d.RckFrame rateRegs sourceBits e) :
    d.RckFrame rateRegs sourceBits (if c then e.newSpeed else e) :=
  .ite (fun _ => h.trans (e.newSpeed_rckFrame (by simp) (by decide))) fun _ => h

theorem Device.newSpeedIf_rck (d : Device) (c : Bool) :
    ∃ h, (if c then d.newSpeed else d).rck = { d.rck with holding := h } := by
  cases c
  · exact ⟨d.rck.holding, rfl⟩
  · exact ⟨false, d.newSpeed_rck⟩

/-- A fallback other than the source lost takes over. -/
theorem Device.loseSource_fallback {d : Device} (hfb : d.fld RCK.CFG_FALLBK ≤ 4)
    (hne : sourceOf (d.fld RCK.CFG_FALLBK) ≠ d.rck.src) : d.loseSource =
      if (d.useSource (sourceOf (d.fld RCK.CFG_FALLBK))).driven
      then (d.useSource (sourceOf (d.fld RCK.CFG_FALLBK))).newSpeed else d.useSource (sourceOf (d.fld RCK.CFG_FALLBK)) := by
  unfold Device.loseSource
  exact if_pos (by simp [hfb, hne])

/-- Without one, the source is lost, and the head holds reckoning. -/
theorem Device.loseSource_none {d : Device}
    (h : 4 < d.fld RCK.CFG_FALLBK ∨ sourceOf (d.fld RCK.CFG_FALLBK) = d.rck.src) : d.loseSource =
      if d.isHead then ((d.modRck fun r => { r with srcLost := true }).holdReckoning).lossAct .sourceLost
      else d.modRck fun r => { r with srcLost := true } := by
  unfold Device.loseSource
  refine if_neg fun hc => ?_
  simp only [Bool.and_eq_true, decide_eq_true_eq, bne_iff_ne] at hc
  rcases h with h | h
  · omega
  · exact hc.2 h

theorem Device.loseSource_rckFrame (d : Device) : d.RckFrame rateRegs sourceBits d.loseSource := by
  by_cases h : d.fld RCK.CFG_FALLBK ≤ 4 ∧ sourceOf (d.fld RCK.CFG_FALLBK) ≠ d.rck.src
  · rw [Device.loseSource_fallback h.1 h.2]
    exact Device.newSpeedIf_rckFrame _ (d.useSource_rckFrame (by decide) _)
  · rw [Device.loseSource_none (by rw [not_and_or, not_le, not_not] at h; exact h)]
    exact .ite (fun _ => ((RckFrame.modRck d _).trans (Device.holdReckoning_rckFrame (by simp) (by decide) _)).trans
      (Device.lossAct_rckFrame _ _)) fun _ => .modRck d _

theorem Device.loseSource_takes {d : Device} (hfb : d.fld RCK.CFG_FALLBK ≤ 4)
    (hne : sourceOf (d.fld RCK.CFG_FALLBK) ≠ d.rck.src) : ∃ v f h, d.loseSource.rck =
      { d.rck with src := sourceOf (d.fld RCK.CFG_FALLBK), vEst := v, fwd := f, holding := h } := by
  rw [Device.loseSource_fallback hfb hne]
  obtain ⟨v, f, hsrc⟩ := d.useSource_rck (sourceOf (d.fld RCK.CFG_FALLBK))
  obtain ⟨h, hrck⟩ := Device.newSpeedIf_rck (d.useSource (sourceOf (d.fld RCK.CFG_FALLBK)))
    (d.useSource (sourceOf (d.fld RCK.CFG_FALLBK))).driven
  exact ⟨v, f, h, by rw [hrck, hsrc]⟩

theorem Device.loseSource_loses {d : Device}
    (h : 4 < d.fld RCK.CFG_FALLBK ∨ sourceOf (d.fld RCK.CFG_FALLBK) = d.rck.src) :
    ∃ k, d.loseSource.rck = { d.rck with srcLost := true, holding := k } ∧
      (d.isHead = true → k = true ∧ d.loseSource.rd RCK.RATE = 0) := by
  rw [Device.loseSource_none h]
  cases hh : d.isHead with
  | false => exact ⟨d.rck.holding, rfl, nofun⟩
  | true =>
    refine ⟨true, by simp [Device.holdReckoning_rck], fun _ => ⟨rfl, ?_⟩⟩
    exact ((Device.lossAct_rckFrame (rs := []) (bits := []) _ _).reg RCK.RATE (by decide) (by decide) (by decide)).trans
      (Device.holdReckoning_rate _)

end Sys2Proof.Machine

namespace Sys2Proof.Machine

theorem sourceOf_ne_host {k : Nat} (h : k < 4) : sourceOf k ≠ .host := by
  revert k; decide

theorem speedStale_reports (s : State) (hp : s.dev.powered = true)
    (hs : s.dev.hostSource = true ∨ s.dev.rck.src = .host)
    (hto : s.dev.past s.dev.rck.hspeedAt (s.dev.rd RCK.HTO * msec) = true)
    (hst : s.dev.flag RCK.STAT_SPEED_STALE = false) : Completes .speedStale s fun d =>
      d.flag RCK.STAT_SPEED_STALE = true ∧ s.dev.reported d Ev.SPEED_STALE [] ∧ d.rck = s.dev.rck := by
  have heq : s.dev.speedStale = (s.dev.raise RCK.STAT_SPEED_STALE).log Ev.SPEED_STALE [] :=
    if_pos (by rcases hs with hs | hs <;> simp [hs, hto, hst])
  refine completes_run (f := Device.speedStale) hp rfl ?_
  rw [heq]
  refine ⟨?_, Device.reported_log (by simp) _ _, by simp⟩
  rw [Device.flag_log _ _ _ _ (by decide) (by decide)]
  exact Device.flag_raise _ _ rfl (by decide)

theorem yawStale_reports (s : State) (hp : s.dev.powered = true) (hs : s.dev.fld RCK.CFG_YAWSRC = 2)
    (hto : s.dev.past s.dev.rck.hyawAt (s.dev.rd RCK.HTO * msec) = true)
    (hst : s.dev.flag RCK.STAT_YAW_STALE = false) : Completes .yawStale s fun d =>
      d.flag RCK.STAT_YAW_STALE = true ∧ s.dev.reported d Ev.YAW_STALE [] ∧ d.rck = s.dev.rck := by
  have heq : s.dev.yawStale = (s.dev.raise RCK.STAT_YAW_STALE).log Ev.YAW_STALE [] := if_pos (by simp [hs, hto, hst])
  refine completes_run (f := Device.yawStale) hp rfl ?_
  rw [heq]
  refine ⟨?_, Device.reported_log (by simp) _ _, by simp⟩
  rw [Device.flag_log _ _ _ _ (by decide) (by decide)]
  exact Device.flag_raise _ _ rfl (by decide)

/-- SRC_FAIL is set and logged, with the source that failed (R36, R37). -/
def Device.srcFailed (d : Device) (code : Nat) : Device := (d.raise RCK.STAT_SRC_FAIL).log Ev.SRC_FAIL [code]

theorem Device.srcFailed_rckFrame (d : Device) (code : Nat) :
    d.RckFrame [] [RCK.STAT_SRC_FAIL.lo] (d.srcFailed code) := (RckFrame.raise d (by decide)).trans (.log _ _ _)

theorem Device.srcFailed_rck (d : Device) (code : Nat) : (d.srcFailed code).rck = d.rck := by simp [Device.srcFailed]

/-- A failure that has been reported shows whatever the loss of the source does then. -/
theorem Device.srcFailed_shown {d e : Device} {code : Nat} (h : (d.srcFailed code).RckFrame rateRegs sourceBits e) :
    e.flag RCK.STAT_SRC_FAIL = true ∧ d.reported e Ev.SRC_FAIL [code] := by
  refine ⟨(h.bit 10 (by decide) (by decide)).trans ?_, h.reported (by decide) (Device.reported_log (by simp) _ _)⟩
  exact (Device.flag_log _ _ _ _ (by decide) (by decide)).trans (Device.flag_raise _ _ rfl (by decide))

theorem srcLost_loses (s : State) (hp : s.dev.powered = true) (hs : s.dev.rck.src = .host)
    (hl : s.dev.rck.srcLost = false)
    (hto : s.dev.past s.dev.rck.hspeedAt ((s.dev.rd RCK.HTO + s.dev.rd RCK.FLYTO) * msec) = true) :
    Completes .srcLost s fun d => d.flag RCK.STAT_SRC_FAIL = true ∧ s.dev.reported d Ev.SRC_FAIL [4] ∧
      (s.dev.fld RCK.CFG_FALLBK < 4 → d.rck.src = sourceOf (s.dev.fld RCK.CFG_FALLBK)) ∧
      (4 ≤ s.dev.fld RCK.CFG_FALLBK → d.rck.srcLost = true ∧
        (s.dev.isHead = true → d.rck.holding = true ∧ d.rd RCK.RATE = 0)) := by
  have heq : s.dev.srcLost = (s.dev.srcFailed 4).loseSource := if_pos (by simp [hs, hl, hto])
  have hframe := s.dev.srcFailed_rckFrame 4
  have hfb : (s.dev.srcFailed 4).fld RCK.CFG_FALLBK = s.dev.fld RCK.CFG_FALLBK := hframe.fld _
  have hsrc : (s.dev.srcFailed 4).rck.src = .host := by rw [Device.srcFailed_rck, hs]
  obtain ⟨hflag, hrep⟩ := Device.srcFailed_shown (s.dev.srcFailed 4).loseSource_rckFrame
  refine completes_run (f := Device.srcLost) hp rfl ?_
  rw [heq]
  refine ⟨hflag, hrep, fun h => ?_, fun h => ?_⟩
  · obtain ⟨v, f, k, hrck⟩ := Device.loseSource_takes (d := s.dev.srcFailed 4) (by omega)
      (by rw [hsrc, hfb]; exact sourceOf_ne_host h)
    rw [hrck, hfb]
  · have hnone : 4 < (s.dev.srcFailed 4).fld RCK.CFG_FALLBK ∨
        sourceOf ((s.dev.srcFailed 4).fld RCK.CFG_FALLBK) = (s.dev.srcFailed 4).rck.src := by
      rw [hfb, hsrc]
      rcases Nat.lt_or_eq_of_le h with h | h
      · exact .inl h
      · exact .inr (h ▸ rfl)
    obtain ⟨k, hrck, hhold⟩ := Device.loseSource_loses hnone
    rw [hrck]
    refine ⟨rfl, fun hh => ?_⟩
    exact hhold (hframe.isHead.trans hh)

/-- R36: how the source in use gives way to the failure of encoder `e`. -/
def Device.giveWay (d : Device) (e : Fin 2) : Device :=
  if (d.encDist e).isNone || d.rck.srcLost then d
  else if d.rck.src == .mean && 4 < d.fld RCK.CFG_FALLBK then
    let d := d.modRck fun r => { r with src := .solo (if e = 0 then 1 else 0) }
    if d.driven then d.newSpeed else d
  else d.loseSource

theorem Device.giveWay_rckFrame (d : Device) (e : Fin 2) : d.RckFrame rateRegs sourceBits (d.giveWay e) :=
  .ite (fun _ => .refl d) fun _ => .ite (fun _ => Device.newSpeedIf_rckFrame _ (.modRck d _)) fun _ => d.loseSource_rckFrame

/-- A change of source changes no record of failures. -/
theorem Device.loseSource_failed (d : Device) :
    d.loseSource.rck.failed = d.rck.failed ∧ d.loseSource.rck.resumed = d.rck.resumed := by
  by_cases h : d.fld RCK.CFG_FALLBK ≤ 4 ∧ sourceOf (d.fld RCK.CFG_FALLBK) ≠ d.rck.src
  · obtain ⟨v, f, k, hrck⟩ := Device.loseSource_takes h.1 h.2
    rw [hrck]; exact ⟨rfl, rfl⟩
  · obtain ⟨k, hrck, -⟩ := Device.loseSource_loses (d := d) (by rw [not_and_or, not_le, not_not] at h; exact h)
    rw [hrck]; exact ⟨rfl, rfl⟩

theorem Device.giveWay_failed (d : Device) (e : Fin 2) :
    (d.giveWay e).rck.failed = d.rck.failed ∧ (d.giveWay e).rck.resumed = d.rck.resumed := by
  unfold Device.giveWay
  split
  · exact ⟨rfl, rfl⟩
  · split
    · obtain ⟨k, hrck⟩ := Device.newSpeedIf_rck (d.modRck fun r => { r with src := .solo (if e = 0 then 1 else 0) })
        (d.modRck fun r => { r with src := .solo (if e = 0 then 1 else 0) }).driven
      rw [hrck]; exact ⟨rfl, rfl⟩
    · exact d.loseSource_failed

/-- Without a fallback the mean goes on with the other encoder. -/
theorem Device.giveWay_mean {d : Device} (e : Fin 2) (hs : d.rck.src = .mean) (hl : d.rck.srcLost = false)
    (hfb : 4 < d.fld RCK.CFG_FALLBK) : (d.giveWay e).rck.src = .solo (if e = 0 then 1 else 0) := by
  unfold Device.giveWay
  rw [if_neg (by simp [Device.encDist, hs, hl]), if_pos (by simp [hs, hfb])]
  obtain ⟨k, hrck⟩ := Device.newSpeedIf_rck (d.modRck fun r => { r with src := .solo (if e = 0 then 1 else 0) })
    (d.modRck fun r => { r with src := .solo (if e = 0 then 1 else 0) }).driven
  rw [hrck]; rfl

/-- A source of that encoder alone is lost with it. -/
theorem Device.giveWay_enc {d : Device} {e : Fin 2} (hs : d.rck.src = .enc e) (hl : d.rck.srcLost = false) :
    d.giveWay e = d.loseSource := by
  unfold Device.giveWay
  rw [if_neg (by simp [Device.encDist, hs, hl]), if_neg (by simp [hs])]

theorem srcFail_fails (s : State) (hp : s.dev.powered = true) (e : Fin 2) (t : Nat) (hrig : s.dev.rigged = true)
    (hf : s.dev.rck.failed ≠ some e) (ht : s.dev.silentFrom e = some t) (hdue : t + 500 * msec ≤ s.dev.now) :
    Completes (.srcFail e) s fun d => d.flag RCK.STAT_SRC_FAIL = true ∧ d.rck.failed = some e ∧
      d.rck.resumed = false ∧ s.dev.reported d Ev.SRC_FAIL [e.val] ∧
      (s.dev.rck.srcLost = false →
        (s.dev.rck.src = .mean → 4 < s.dev.fld RCK.CFG_FALLBK → d.rck.src = .solo (if e = 0 then 1 else 0)) ∧
        (s.dev.rck.src = .enc e → s.dev.fld RCK.CFG_FALLBK ≤ 4 → sourceOf (s.dev.fld RCK.CFG_FALLBK) ≠ .enc e →
          d.rck.src = sourceOf (s.dev.fld RCK.CFG_FALLBK)) ∧
        (s.dev.rck.src = .enc e → 4 < s.dev.fld RCK.CFG_FALLBK → d.rck.srcLost = true)) := by
  generalize hx : (s.dev.srcFailed e).modRck (fun r => { r with failed := some e, resumed := false }) = x
  have heq : s.dev.srcFail e = x.giveWay e := by
    have hgo : (!s.dev.rigged || s.dev.rck.failed == some e ||
        !(s.dev.silentFrom e).any fun t => decide (t + 500 * msec ≤ s.dev.now)) = false := by
      rw [ht, Option.any_some, decide_eq_true hdue, hrig]
      simp [hf]
    unfold Device.srcFail
    rw [hgo, if_neg Bool.false_ne_true, ← hx]
    rfl
  have hxrck : x.rck = { s.dev.rck with failed := some e, resumed := false } := by
    rw [← hx, Device.modRck_rck, Device.srcFailed_rck]
  have hfb : x.fld RCK.CFG_FALLBK = s.dev.fld RCK.CFG_FALLBK := hx ▸ (s.dev.srcFailed_rckFrame e).fld _
  have hshown := Device.srcFailed_shown (d := s.dev) (code := e) (e := x.giveWay e)
    ((hx ▸ .modRck (s.dev.srcFailed e) _ : Device.RckFrame _ _ (s.dev.srcFailed e) x).trans (x.giveWay_rckFrame e))
  obtain ⟨hfailed, hresumed⟩ := x.giveWay_failed e
  refine completes_run (f := fun d => d.srcFail e) hp rfl ?_
  simp only [heq]
  refine ⟨hshown.1, hfailed.trans (by rw [hxrck]), hresumed.trans (by rw [hxrck]), hshown.2, fun hl => ⟨?_, ?_, ?_⟩⟩
  · intro hs h
    exact Device.giveWay_mean e (by rw [hxrck]; exact hs) (by rw [hxrck]; exact hl) (by omega)
  · intro hs h hne
    rw [Device.giveWay_enc (by rw [hxrck]; exact hs) (by rw [hxrck]; exact hl)]
    obtain ⟨v, f, k, hrck⟩ := Device.loseSource_takes (d := x) (by omega) (by rw [hfb, hxrck, hs]; exact hne)
    rw [hrck, hfb]
  · intro hs h
    rw [Device.giveWay_enc (by rw [hxrck]; exact hs) (by rw [hxrck]; exact hl)]
    obtain ⟨k, hrck, -⟩ := Device.loseSource_loses (d := x) (.inl (by omega))
    rw [hrck]

/-- The rigged source, or the encoder as fallback of the host, comes back into use (R36). -/
def Device.srcBack (d : Device) : Device :=
  let d := d.useSource (sourceOf (if d.hostSource then d.fld RCK.CFG_FALLBK else d.fld RCK.CFG_SRC))
  if d.driven then d.newSpeed else d

theorem Device.srcBack_rck (d : Device) : ∃ v f h, d.srcBack.rck = { d.rck with
    src := sourceOf (if d.hostSource then d.fld RCK.CFG_FALLBK else d.fld RCK.CFG_SRC), vEst := v, fwd := f, holding := h } := by
  obtain ⟨v, f, hsrc⟩ := d.useSource_rck (sourceOf (if d.hostSource then d.fld RCK.CFG_FALLBK else d.fld RCK.CFG_SRC))
  obtain ⟨h, hrck⟩ := Device.newSpeedIf_rck
    (d.useSource (sourceOf (if d.hostSource then d.fld RCK.CFG_FALLBK else d.fld RCK.CFG_SRC))) (Device.driven _)
  exact ⟨v, f, h, hrck.trans (by rw [hsrc])⟩

theorem Device.srcRestore_restores {d : Device} {v : Nat} (hv : v.testBit 0 = true) (hf : d.rck.failed ≠ none)
    (hr : d.rck.resumed = true) :
    (d.srcRestore v).rck.failed = none ∧ (d.hostSource = false →
      (d.srcRestore v).rck.src = sourceOf (d.fld RCK.CFG_SRC) ∧ (d.srcRestore v).rck.srcLost = false) := by
  have hf' : d.rck.failed.isNone = false := by rw [Option.isNone_eq_false_iff, Option.isSome_iff_ne_none]; exact hf
  generalize hx : (d.modRck fun r => { r with
    failed := none, resumed := false, srcLost := r.srcLost && (d.hostSource && d.rck.src == .host) }) = x
  have heq : d.srcRestore v = if d.hostSource && d.rck.src == .host then x else x.srcBack := by
    unfold Device.srcRestore
    rw [if_neg (by simp [hv, hf', hr]), ← hx]
    rfl
  obtain ⟨v', f, k, hrck⟩ := x.srcBack_rck
  rw [heq]
  refine ⟨?_, fun hs => ?_⟩
  · split
    · rw [← hx]; rfl
    · rw [hrck, ← hx]; rfl
  · have hxs : x.hostSource = false := by rw [← hx]; exact hs
    rw [if_neg (by simp [hs]), hrck, hxs, ← hx]
    exact ⟨rfl, by simp [hs]⟩

theorem srcrst_restores (s : State) (hp : s.dev.powered = true) (w : Writer) (v : BitVec 8) (hw : s.dev.admits w)
    (hv : v.getLsbD 0 = true) (hf : s.dev.rck.failed ≠ none) (hr : s.dev.rck.resumed = true) :
    Completes (.srcrst w v) s fun d => d.rck.failed = none ∧
      (s.dev.hostSource = false → d.rck.src = sourceOf (s.dev.fld RCK.CFG_SRC) ∧ d.rck.srcLost = false) :=
  completes_write (f := fun d => d.srcRestore v.toNat) hp hw rfl fun _ => Device.srcRestore_restores hv hf hr

theorem standstill_sets (s : State) (hp : s.dev.powered = true) (hh : s.dev.isHead = true) (hv : s.dev.speedNow = 0) :
    Completes .standstill s fun d => d.flag RCK.STAT_STANDSTILL = true := by
  refine completes_run (f := Device.standstill) hp rfl ?_
  have h0 : (s.dev.speedFlags 0).flag RCK.STAT_STANDSTILL = true := s.dev.speedFlags_standstill 0
  simp only [Device.standstill, hv, if_true, Device.speedTick, hh, Bool.not_true, Bool.false_eq_true, if_false]
  split
  · exact ((Device.rerate_rckFrame (rs := rateRegs) (bits := []) (by simp) _ 0).bit 1 (by decide) (by decide)).trans h0
  · exact h0

/-- Settles O25: the six clauses by a lemma each; a loss by `Device.loseSource_takes` and `Device.loseSource_loses`. -/
theorem sourcesStaleAndLost : Obligations.SourcesStaleAndLost := fun s hp =>
  ⟨speedStale_reports s hp, yawStale_reports s hp, srcLost_loses s hp, srcFail_fails s hp, srcrst_restores s hp,
    standstill_sets s hp⟩

end Sys2Proof.Machine

namespace Sys2Proof.Machine

/-! ## Beacons sent (R46, R167) -/

theorem Device.onBeacon_ring (d : Device) : d.onBeacon.ring = d.ring := by
  have hk : ∀ (d : Device) l, (d.setK l).ring = d.ring := fun d l => by simp [Device.setK, apply_ite Device.ring]
  exact Device.each_same Device.ring (fun d l => by simp [Device.setDuty, hk]) d.recompute.leads d.recompute

/-- A message that the device may send joins those that wait, none of it sent yet. -/
theorem Device.queueMsg_queues {d : Device} {t : MsgType} {data : List Nat} (dst : Nat) (h : d.maySend t data = true) :
    ∃ m ∈ (d.queueMsg t dst data).ring.txq, m.msg.type = t ∧ m.paid = 0 := by
  unfold Device.queueMsg
  rw [if_pos h]
  exact ⟨_, List.mem_append_right _ (.head _), rfl, rfl⟩

/-- What a beacon carries has no part in whether it may be sent. -/
theorem Device.maySend_beacon (d : Device) (data : List Nat) : d.maySend .beacon data = d.maySend .beacon [] := by
  have h : (MsgType.beacon == MsgType.enum) = false := by decide
  simp only [Device.maySend, h, Bool.false_and]

theorem Device.beaconSend_sends {d : Device} (hh : d.isHead = true) (hd : d.rck.due ≤ d.now) :
    ∃ (x : Device) (data : List Nat), x.regs = d.regs ∧ x.rck.due = d.rck.due + beaconTicks ∧
      d.beaconSend = (x.queueMsg .beacon 0xFFF data).onBeacon := by
  have hgo : (!d.isHead || decide (d.now < d.rck.due)) = false := by simp [hh, hd]
  unfold Device.beaconSend
  rw [hgo, if_neg Bool.false_ne_true]
  refine ⟨_, _, ?_, ?_, rfl⟩ <;> rfl

theorem beaconSend_queues (s : State) (hp : s.dev.powered = true) (hh : s.dev.isHead = true)
    (hd : s.dev.rck.due ≤ s.dev.now) : Completes .beaconSend s fun d => d.rck.due = s.dev.rck.due + 25000 ∧
      (s.dev.maySend .beacon [] = true → ∃ m ∈ d.ring.txq, m.msg.type = .beacon ∧ m.paid = 0) := by
  obtain ⟨x, data, hregs, hdue, heq⟩ := Device.beaconSend_sends hh hd
  refine completes_run (f := Device.beaconSend) hp rfl ?_
  rw [heq]
  refine ⟨by simp [hdue, beaconTicks, usec], fun hm => ?_⟩
  rw [Device.onBeacon_ring]
  refine Device.queueMsg_queues _ ?_
  rw [Device.maySend_beacon, ← hm]
  simp only [Device.maySend, Device.addr, Device.fld_congr hregs, Device.flag_congr hregs]

/-! ## Beacons received (R46–R49, R52) -/

/-- A beacon in time finds nothing overdue. -/
theorem Device.overdue_onTime {d : Device} (h : d.onTime = true) : d.overdue = d := by
  simp only [Device.onTime, Bool.and_eq_true, Bool.or_eq_true, decide_eq_true_eq, Bool.not_eq_true'] at h
  obtain ⟨hmiss, hloss⟩ := h
  have hmissing : d.beaconMissing = d := if_pos (by
    simp only [Bool.or_eq_true, Bool.not_eq_true', decide_eq_true_eq]; exact hmiss)
  have heach : (d.each (List.range 4) fun d _ => d.beaconMissing) = d :=
    Device.each_keeps (P := fun x => x = d) (fun x _ hx => hx ▸ hmissing) _ _ rfl
  unfold Device.overdue
  rw [heach]
  exact if_pos (by simp only [Bool.or_eq_true, Bool.not_eq_true', decide_eq_true_eq]; exact hloss)

theorem Device.takeMsg_takes {d e : Device} {t : MsgType} {m : Msg} (h : d.takeMsg t = some (m, e)) :
    e = { d with ring := { d.ring with inbox := d.ring.inbox.erase m } } := by
  unfold Device.takeMsg at h
  split at h
  · cases h
  · simp only [Option.some.injEq, Prod.mk.injEq] at h
    obtain ⟨rfl, rfl⟩ := h
    rfl

/-- What a beacon taken from those delivered does: a stale one is counted, one of a lower epoch is none (R46, R52). -/
def Device.hearBeacon (d : Device) (m : Msg) : Device :=
  if d.rd RCK.AMAX * usec ≤ m.age then
    ((d.countSat RCK.STALECNT).raise RCK.STAT_BEACON_STALE).log Ev.BEACON_STALE [m.addr, m.age]
  else if fieldAt m.data 2 2 < d.rd RCK.EPOCH then d
  else
    let d := { d with ring := { d.ring with heard := true } }
    if d.isHead then
      if d.rd RCK.EPOCH < fieldAt m.data 2 2 then d.depose.applyBeacon m else d
    else d.applyBeacon m

theorem Device.beaconReceive_hears {d e : Device} {m : Msg} (hon : d.onTime = true) (h : d.takeMsg .beacon = some (m, e)) :
    d.beaconReceive = e.hearBeacon m := by
  unfold Device.beaconReceive
  rw [Device.overdue_onTime hon]
  simp only [h]
  rfl

theorem beaconReceive_stale (s : State) (hp : s.dev.powered = true) (m : Msg) (d0 : Device) (hon : s.dev.onTime = true)
    (h : s.dev.takeMsg .beacon = some (m, d0)) (hage : s.dev.rd RCK.AMAX * usec ≤ m.age) :
    Completes .beaconReceive s fun d => d.ring.inbox = s.dev.ring.inbox.erase m ∧ d.rck = s.dev.rck ∧
      s.dev.counted d RCK.STALECNT ∧ d.flag RCK.STAT_BEACON_STALE = true := by
  have hd0 := Device.takeMsg_takes h
  have hregs : d0.regs = s.dev.regs := by rw [hd0]
  have heq : d0.hearBeacon m =
      ((d0.countSat RCK.STALECNT).raise RCK.STAT_BEACON_STALE).log Ev.BEACON_STALE [m.addr, m.age] :=
    if_pos (by rw [Device.rd_congr hregs]; exact hage)
  refine completes_run (f := Device.beaconReceive) hp rfl ?_
  rw [Device.beaconReceive_hears hon h, heq]
  refine ⟨by simp [hd0], by simp [hd0], ?_, ?_⟩
  · unfold Device.counted
    rw [Device.rd_log _ _ _ _ (by decide) (by decide), Device.rd_raise_ne _ (by decide), Device.rd_countSat_same,
      Device.rd_congr hregs]
  · rw [Device.flag_log _ _ _ _ (by decide) (by decide)]
    exact Device.flag_raise _ _ rfl (by decide)

/-! ### A valid beacon is applied -/

/-- What a valid beacon shows at once: epoch, head and age, the end of a flywheel, the flags it carries. -/
def Device.beaconShown (d : Device) (m : Msg) : Device :=
  let pay := m.data
  let flags := byteAt pay 4
  let d := (((d.wr RCK.EPOCH (fieldAt pay 2 2)).setFld RCK.HEAD_ADDR m.addr).wr RCK.BAGE m.age).lower RCK.STAT_FLYWHEEL
  let d := d.modRck fun r =>
    { r with tL := fieldAt pay 11 8, missing := 0, bSpeed := fieldAt pay 19 4, bYaw := signed 32 (fieldAt pay 23 4)
             bLost := flags.testBit 5, holding := false }
  ((d.setFlag RCK.STAT_REVERSE (flags.testBit 0)).setFlag RCK.STAT_STANDSTILL (flags.testBit 1)).setFlag
    RCK.STAT_OVERSPEED (flags.testBit 2)

/-- How tide and rate follow it: speed `v`, reckoning `target` and tide `th` of the head. -/
def Device.beaconFollowed (d : Device) (v : Nat) (target : Int) (th : Nat) : Device :=
  if d.flag RCK.STAT_TIDE_LOCK then
    let e := target - d.rck.reck
    let d := (d.setRate v e).followTide th
    let ok := decide (e.natAbs * 20 < oneMark)
    let d := d.modRck fun r => { r with agree := if ok then r.agree + 1 else 0 }
    if 4 ≤ d.rck.agree then d.setSync else d
  else
    let t := d.now
    let d := d.modRck fun r =>
      { r with reck := target.toNat, tide := max t th, ahead := t - th, approach := decide (th < t), steerErr := 0, agree := 0 }
    (d.raise RCK.STAT_TIDE_LOCK).setRate v 0

/-- What comes last: the send interval, the effective marks and duties, and the reaction to a source lost at the head. -/
def Device.beaconEnd (d : Device) (since : Nat) (lostNew : Bool) : Device :=
  let d := d.modRck fun r => { r with tRecv := r.tide - since, offs := r.reck - r.pOwn }
  let d := d.newInterval.onBeacon
  if lostNew then d.lossAct .sourceLost else d

theorem Device.applyBeacon_eq (d : Device) (m : Msg) : ∃ v target th since lostNew,
    d.applyBeacon m = ((d.beaconShown m).beaconFollowed v target th).beaconEnd since lostNew :=
  ⟨fieldAt m.data 19 4, _, _, _, _, rfl⟩

theorem Device.followTide_rckFrame {rs bits : List Nat} (h : RCK.STAT_TIDE_SLIP.lo ∈ bits) (d : Device) (th : Nat) :
    d.RckFrame rs bits (d.followTide th) := by
  have hslip : ∀ (e : Device) (g : Rck → Rck) (n : Nat),
      e.RckFrame rs bits (((e.modRck g).raise RCK.STAT_TIDE_SLIP).log Ev.TIDE_SLIP [n]) := fun e g n =>
    ((RckFrame.modRck e g).trans (.raise _ h)).trans (.log _ _ _)
  exact .ite (fun _ => .modRck d _) fun _ => (RckFrame.modRck d _).trans (.ite (fun _ => hslip _ _ _) fun _ =>
    .ite (fun _ => hslip _ _ _) fun _ => .ite (fun _ => .modRck _ _) fun _ => .modRck _ _)

/-- Following a beacon leaves what it showed, and tide counts as locked. -/
theorem Device.beaconFollowed_rckFrame (d : Device) (v : Nat) (target : Int) (th : Nat) :
    d.RckFrame rateRegs [0, 7, 13] (d.beaconFollowed v target th) ∧
      (d.beaconFollowed v target th).flag RCK.STAT_TIDE_LOCK = true := by
  unfold Device.beaconFollowed
  split
  next hlock =>
    have h : d.RckFrame rateRegs [0, 13] (let e := target - d.rck.reck
        let d := (d.setRate v e).followTide th
        let ok := decide (e.natAbs * 20 < oneMark)
        let d := d.modRck fun r => { r with agree := if ok then r.agree + 1 else 0 }
        if 4 ≤ d.rck.agree then d.setSync else d) :=
      (((Device.setRate_rckFrame (by simp) d v _).trans (Device.followTide_rckFrame (by decide) _ th)).trans (.modRck _ _)).trans
        (.ite (fun _ => Device.setSync_rckFrame (by decide) _) fun _ => .refl _)
    exact ⟨h.mono (by simp) (by decide), (h.bit 7 (by decide) (by decide)).trans hlock⟩
  next =>
    have hrate := fun e : Device => Device.setRate_rckFrame (rs := rateRegs) (bits := []) (by simp) e v 0
    refine ⟨(RckFrame.modRck d _).trans ((RckFrame.raise _ (by decide)).trans ((hrate _).mono (by simp) (by simp))), ?_⟩
    exact ((hrate _).bit 7 (by decide) (by decide)).trans (Device.flag_raise _ _ rfl (by decide))

theorem Device.beaconEnd_rckFrame {rs bits : List Nat} (d : Device) (since : Nat) (lostNew : Bool) :
    d.RckFrame rs bits (d.beaconEnd since lostNew) := by
  have h : ∀ e : Device, e.RckFrame rs bits e.newInterval.onBeacon := fun e =>
    RckFrame.trans (e := e.newInterval) (.of_regs rfl rfl rfl) (Device.onBeacon_rckFrame _)
  exact ((RckFrame.modRck d _).trans (h _)).trans (.ite (fun _ => Device.lossAct_rckFrame _ _) fun _ => .refl _)

/-- A member follows the beacon: what follows its showing leaves it, and tide counts as locked. -/
theorem Device.applyBeacon_rckFrame (d : Device) (m : Msg) :
    (d.beaconShown m).RckFrame rateRegs [0, 7, 13] (d.applyBeacon m) ∧ (d.applyBeacon m).flag RCK.STAT_TIDE_LOCK = true := by
  obtain ⟨v, target, th, since, lostNew, heq⟩ := d.applyBeacon_eq m
  obtain ⟨hframe, hlock⟩ := (d.beaconShown m).beaconFollowed_rckFrame v target th
  have hend := fun e : Device => e.beaconEnd_rckFrame (rs := []) (bits := []) since lostNew
  rw [heq]
  exact ⟨hframe.trans ((hend _).mono (by simp) (by simp)), ((hend _).bit 7 (by decide) (by decide)).trans hlock⟩

end Sys2Proof.Machine

namespace Sys2Proof.Machine

theorem ofBytes_lt (l : List Nat) : ofBytes l < 256 ^ l.length := by
  induction l with
  | nil => simp [ofBytes]
  | cons b t ih =>
    have := Nat.mod_lt b (show 256 > 0 by decide)
    simp only [ofBytes, List.length_cons, Nat.pow_succ]
    omega

theorem fieldAt_lt (l : List Nat) (i n : Nat) : fieldAt l i n < 256 ^ n := by
  simpa [fieldAt] using ofBytes_lt ((List.range n).map fun k => byteAt l (i + k))

/-- What a member shows that follows a beacon (R46, R49). -/
def Device.follows (o : Device) (m : Msg) (d : Device) : Prop :=
  d.ring.inbox = o.ring.inbox.erase m ∧ d.rd RCK.EPOCH = fieldAt m.data 2 2 ∧
  d.fld RCK.HEAD_ADDR = m.addr % 4096 ∧ d.flag RCK.STAT_FLYWHEEL = false ∧
  d.flag RCK.STAT_TIDE_LOCK = true ∧ d.flag RCK.STAT_STANDSTILL = (byteAt m.data 4).testBit 1

/-- A beacon shows its own epoch, head and flags, and touches no other register of the page and no other bit. -/
theorem Device.beaconShown_shows (d : Device) (m : Msg) :
    (d.beaconShown m).rd RCK.EPOCH = fieldAt m.data 2 2 ∧ (d.beaconShown m).fld RCK.HEAD_ADDR = m.addr % 4096 ∧
    (d.beaconShown m).flag RCK.STAT_FLYWHEEL = false ∧
    (d.beaconShown m).flag RCK.STAT_STANDSTILL = (byteAt m.data 4).testBit 1 ∧
    d.RckFrame [RCK.EPOCH.addr, RCK.HEAD.addr, RCK.BAGE.addr] [1, 2, 3, 4] (d.beaconShown m) := by
  have hflags : ∀ (e : Device) (g : Rck → Rck) (a b c : Bool), (e.lower RCK.STAT_FLYWHEEL).RckFrame [] [1, 2, 4]
      (((((e.lower RCK.STAT_FLYWHEEL).modRck g).setFlag RCK.STAT_REVERSE a).setFlag RCK.STAT_STANDSTILL b).setFlag
        RCK.STAT_OVERSPEED c) := fun e g a b c =>
    (((RckFrame.modRck _ g).trans (.setFlag _ a (by decide))).trans (.setFlag _ b (by decide))).trans
      (.setFlag _ c (by decide))
  have hlower : ∀ e : Device, e.RckFrame [] [3] (e.lower RCK.STAT_FLYWHEEL) := fun e => .setFlag e false (by decide)
  generalize hx : (d.wr RCK.EPOCH (fieldAt m.data 2 2)).setFld RCK.HEAD_ADDR m.addr = x
  have hrest : (x.wr RCK.BAGE m.age).RckFrame [] [1, 2, 3, 4] (d.beaconShown m) := by
    rw [← hx]
    exact ((hlower _).mono (by simp) (by decide)).trans ((hflags _ _ _ _ _).mono (by simp) (by decide))
  have hage : x.RckFrame [RCK.BAGE.addr] [1, 2, 3, 4] (d.beaconShown m) :=
    (RckFrame.wr x _ (by decide)).trans (hrest.mono (by simp) (by simp))
  have hhead : (d.wr RCK.EPOCH (fieldAt m.data 2 2)).RckFrame [RCK.HEAD.addr, RCK.BAGE.addr] [1, 2, 3, 4]
      (d.beaconShown m) := (hx ▸ RckFrame.setFld _ _ (by decide)).trans (hage.mono (by simp) (by simp))
  refine ⟨?_, ?_, ?_, ?_, (RckFrame.wr d _ (by decide)).trans (hhead.mono (by simp) (by simp))⟩
  · refine (hhead.reg RCK.EPOCH (by decide) (by decide) (by decide)).trans ((Device.rd_wr_same _ _ _).trans ?_)
    exact Nat.mod_eq_of_lt (fieldAt_lt m.data 2 2)
  · refine (hage.fld RCK.HEAD_ADDR).trans ?_
    rw [← hx]
    exact Device.fld_setFld_same _ RCK.HEAD_ADDR _ (by decide)
  · exact ((hflags _ _ _ _ _).bit 3 (by decide) (by decide)).trans (Device.flag_lower _ _ rfl (by decide))
  · exact (Device.flag_setFlag_bit _ _ (by decide) (by decide)).trans (Device.flag_setFlag_same _ _ _ rfl (by decide))

/-- From `d`, a beacon that is applied changes its own registers, RATE and ERR, and bits 0 to 4, 7 and 13 of STAT. -/
theorem Device.applyBeacon_follows {o d : Device} {m : Msg} (hi : d.ring.inbox = o.ring.inbox.erase m) :
    o.follows m (d.applyBeacon m) ∧
      d.RckFrame ([RCK.EPOCH.addr, RCK.HEAD.addr, RCK.BAGE.addr] ++ rateRegs) [0, 1, 2, 3, 4, 7, 13] (d.applyBeacon m) := by
  obtain ⟨hepoch, hhead, hfly, hstill, hshown⟩ := d.beaconShown_shows m
  obtain ⟨hframe, hlock⟩ := d.applyBeacon_rckFrame m
  refine ⟨⟨?_, ?_, ?_, ?_, hlock, ?_⟩, (hshown.mono (List.subset_append_left _ _) (by decide)).trans
    (hframe.mono (List.subset_append_right _ _) (by decide))⟩
  · exact hframe.inbox.trans (hshown.inbox.trans hi)
  · exact (hframe.reg RCK.EPOCH (by decide) (by decide) (by decide)).trans hepoch
  · exact (hframe.fld RCK.HEAD_ADDR).trans hhead
  · exact (hframe.bit 3 (by decide) (by decide)).trans hfly
  · exact (hframe.bit 1 (by decide) (by decide)).trans hstill

/-- A head that is deposed drops its table and the beacons that wait, and counts as locked. -/
theorem Device.depose_eq (d : Device) : ∃ y : Device,
    (((d.setFld RCK.CFG_ROLE 0).lower RING.RSTAT_LOAD_OVER).raise RCK.STAT_HEAD_DEPOSED).RckFrame [] [] y ∧
      d.depose = (y.raise RCK.STAT_TIDE_LOCK).log Ev.HEAD_DEPOSED [] := by
  unfold Device.depose
  generalize ((d.setFld RCK.CFG_ROLE 0).lower RING.RSTAT_LOAD_OVER).raise RCK.STAT_HEAD_DEPOSED = x
  refine ⟨_, ?_, rfl⟩
  exact .of_regs rfl rfl rfl

/-- A head that is deposed is a member, and says so. -/
theorem Device.depose_deposes (d : Device) : d.depose.isHead = false ∧ d.depose.flag RCK.STAT_HEAD_DEPOSED = true ∧
    d.depose.ring.inbox = d.ring.inbox := by
  obtain ⟨y, hring, heq⟩ := d.depose_eq
  have hlast : y.RckFrame [] [7] d.depose := heq ▸ (RckFrame.raise y (by decide)).trans (.log _ _ _)
  generalize hx : (d.setFld RCK.CFG_ROLE 0).lower RING.RSTAT_LOAD_OVER = x at hring
  have hlower : (d.setFld RCK.CFG_ROLE 0).RckFrame [] [] x :=
    .of_pages (ps := [0x0D]) (hx ▸ (Device.lower_pages _ (by decide)).mpr (Device.onlyPages_refl _)) (by decide)
      (by simp [← hx]) (by simp [← hx])
  have hraise : x.RckFrame [] [15] (x.raise RCK.STAT_HEAD_DEPOSED) := .raise x (by decide)
  have hrole : (d.setFld RCK.CFG_ROLE 0).isHead = false :=
    congrArg (· == 1) (Device.fld_setFld_same d RCK.CFG_ROLE 0 (by decide))
  refine ⟨hlast.isHead.trans (hring.isHead.trans (hraise.isHead.trans (hlower.isHead.trans hrole))), ?_, ?_⟩
  · exact (hlast.bit 15 (by decide) (by decide)).trans ((hring.bit 15 (by decide) (by simp)).trans
      (Device.flag_raise x _ rfl (by decide)))
  · exact hlast.inbox.trans (hring.inbox.trans (hraise.inbox.trans (hlower.inbox.trans (by simp))))

theorem Device.hearBeacon_follows {o d : Device} {m : Msg} (hi : d.ring.inbox = o.ring.inbox.erase m)
    (hage : m.age < d.rd RCK.AMAX * usec) (hh : d.isHead = false) (hepoch : d.rd RCK.EPOCH ≤ fieldAt m.data 2 2) :
    o.follows m (d.hearBeacon m) := by
  generalize hx : ({ d with ring := { d.ring with heard := true } } : Device) = x
  have hx' : x.isHead = false := by rw [← hx]; exact hh
  have heq : d.hearBeacon m = x.applyBeacon m := by
    unfold Device.hearBeacon
    rw [if_neg (by omega), if_neg (by omega), hx]
    exact if_neg (by rw [hx']; exact Bool.false_ne_true)
  rw [heq]
  exact (Device.applyBeacon_follows (by rw [← hx]; exact hi)).1

theorem Device.hearBeacon_deposes {o d : Device} {m : Msg} (hi : d.ring.inbox = o.ring.inbox.erase m)
    (hage : m.age < d.rd RCK.AMAX * usec) (hh : d.isHead = true) (hepoch : d.rd RCK.EPOCH < fieldAt m.data 2 2) :
    o.follows m (d.hearBeacon m) ∧ (d.hearBeacon m).isHead = false ∧
      (d.hearBeacon m).flag RCK.STAT_HEAD_DEPOSED = true := by
  generalize hx : ({ d with ring := { d.ring with heard := true } } : Device) = x
  have heq : d.hearBeacon m = x.depose.applyBeacon m := by
    unfold Device.hearBeacon
    rw [if_neg (by omega), if_neg (by omega), hx, if_pos (by rw [← hx]; exact hh), if_pos (by rw [← hx]; exact hepoch)]
  obtain ⟨hmember, hflag, hinbox⟩ := x.depose_deposes
  obtain ⟨hfollows, hframe⟩ := Device.applyBeacon_follows (o := o) (d := x.depose) (m := m)
    (hinbox.trans (by rw [← hx]; exact hi))
  rw [heq]
  exact ⟨hfollows, hframe.isHead.trans hmember, (hframe.bit 15 (by decide) (by decide)).trans hflag⟩

theorem beaconReceive_follows (s : State) (hp : s.dev.powered = true) (m : Msg) (d0 : Device) (hon : s.dev.onTime = true)
    (h : s.dev.takeMsg .beacon = some (m, d0)) (hage : m.age < s.dev.rd RCK.AMAX * usec) :
    (s.dev.isHead = false → s.dev.rd RCK.EPOCH ≤ fieldAt m.data 2 2 →
      Completes .beaconReceive s fun d => s.dev.follows m d) ∧
    (s.dev.isHead = true → s.dev.rd RCK.EPOCH < fieldAt m.data 2 2 → Completes .beaconReceive s fun d =>
      s.dev.follows m d ∧ d.isHead = false ∧ d.flag RCK.STAT_HEAD_DEPOSED = true) := by
  have hd0 := Device.takeMsg_takes h
  have hi : d0.ring.inbox = s.dev.ring.inbox.erase m := by rw [hd0]
  have hrd : ∀ r, d0.rd r = s.dev.rd r := fun r => Device.rd_congr (by rw [hd0]) r
  have hhead : d0.isHead = s.dev.isHead := by rw [hd0]; rfl
  rw [← hrd] at hage
  refine ⟨fun hh he => ?_, fun hh he => ?_⟩ <;> refine completes_run (f := Device.beaconReceive) hp rfl ?_ <;>
    rw [Device.beaconReceive_hears hon h]
  · exact Device.hearBeacon_follows hi hage (hhead.trans hh) (hrd _ ▸ he)
  · exact Device.hearBeacon_deposes hi hage (hhead.trans hh) (hrd _ ▸ he)

end Sys2Proof.Machine

namespace Sys2Proof.Machine

/-! ## Missing beacons, take-over and loss (R49, R51, R52, R63, R383) -/

/-- The standby has the role, the epoch and the address of a head, and says so (R51). -/
def Device.newEpoch (d : Device) : Device := ((d.setFld RCK.CFG_ROLE 1).count RCK.EPOCH).raise RCK.STAT_HEAD_TAKEOVER

def Device.headTaken (d : Device) : Device :=
  (d.newEpoch.setFld RCK.HEAD_ADDR d.newEpoch.addr).log Ev.HEAD_TAKEOVER [d.newEpoch.rd RCK.EPOCH]

theorem Device.headTaken_shows (d : Device) : d.headTaken.isHead = true ∧
    d.headTaken.rd RCK.EPOCH = (d.rd RCK.EPOCH + 1) % 2 ^ RCK.EPOCH.width ∧
    d.headTaken.flag RCK.STAT_HEAD_TAKEOVER = true ∧
    d.reported d.headTaken Ev.HEAD_TAKEOVER [d.newEpoch.rd RCK.EPOCH] := by
  have hlast : d.newEpoch.RckFrame [RCK.HEAD.addr] [] d.headTaken :=
    (RckFrame.setFld _ _ (by decide)).trans (.log _ _ _)
  have hraise : ((d.setFld RCK.CFG_ROLE 1).count RCK.EPOCH).RckFrame [] [14] d.newEpoch := .raise _ (by decide)
  have hcount : (d.setFld RCK.CFG_ROLE 1).RckFrame [RCK.EPOCH.addr] [] ((d.setFld RCK.CFG_ROLE 1).count RCK.EPOCH) :=
    .wr _ _ (by decide)
  have hrole : (d.setFld RCK.CFG_ROLE 1).isHead = true :=
    congrArg (· == 1) (Device.fld_setFld_same d RCK.CFG_ROLE 1 (by decide))
  refine ⟨hlast.isHead.trans (hraise.isHead.trans (hcount.isHead.trans hrole)), ?_, ?_, ?_⟩
  · rw [hlast.reg RCK.EPOCH (by decide) (by decide) (by decide), hraise.reg RCK.EPOCH (by decide) (by decide) (by decide),
      Device.rd_count_same, Device.rd_setFld_ne d 1 (by decide)]
  · exact (hlast.bit 14 (by decide) (by decide)).trans (Device.flag_raise _ _ rfl (by decide))
  · exact Device.reported_log (by simp [Device.newEpoch]) _ _

/-- The new head then takes up a source of its own, or flywheels on without one (R52). -/
theorem Device.takeover_eq (d : Device) : ∃ x : Device, d.headTaken.RckFrame [] [] x ∧
    d.takeover = (if d.ownSource then (x.lower RCK.STAT_FLYWHEEL).takeUp else x.setRate d.rck.bSpeed 0).setSync := by
  unfold Device.takeover
  dsimp only
  rw [← Device.newEpoch, ← Device.headTaken]
  refine ⟨_, ?_, rfl⟩
  exact .of_regs rfl rfl rfl

/-- What it goes on to do leaves what it showed. -/
theorem Device.takeover_rckFrame (d : Device) : d.headTaken.RckFrame rateRegs [0, 1, 3, 4] d.takeover := by
  obtain ⟨x, hx, heq⟩ := d.takeover_eq
  have hown : x.RckFrame rateRegs [0, 1, 3, 4] (x.lower RCK.STAT_FLYWHEEL).takeUp :=
    (RckFrame.setFlag x false (by decide)).trans (Device.takeUp_rckFrame (by simp) (by decide) _)
  have hsource : x.RckFrame rateRegs [0, 1, 3, 4]
      (if d.ownSource then (x.lower RCK.STAT_FLYWHEEL).takeUp else x.setRate d.rck.bSpeed 0) :=
    .ite (fun _ => hown) fun _ => Device.setRate_rckFrame (by simp) x _ _
  rw [heq]
  exact (hx.mono (by simp) (by simp)).trans (hsource.trans (Device.setSync_rckFrame (by decide) _))

theorem Device.takeover_takes (d : Device) : d.takeover.isHead = true ∧
    d.takeover.rd RCK.EPOCH = (d.rd RCK.EPOCH + 1) % 2 ^ RCK.EPOCH.width ∧
    d.takeover.flag RCK.STAT_HEAD_TAKEOVER = true ∧ d.reportedCode d.takeover Ev.HEAD_TAKEOVER := by
  obtain ⟨hhead, hepoch, hflag, hrep⟩ := d.headTaken_shows
  have hframe := d.takeover_rckFrame
  obtain ⟨x, hx, hcode, -, horig⟩ := hframe.reported (by decide) hrep
  exact ⟨hframe.isHead.trans hhead, (hframe.reg RCK.EPOCH (by decide) (by decide) (by decide)).trans hepoch,
    (hframe.bit 14 (by decide) (by decide)).trans hflag, x, hx, hcode, horig⟩

/-- A beacon is counted as missing: the device flywheels (R49). -/
def Device.flywheels (d : Device) : Device :=
  (d.modRck fun r => { r with missing := d.rck.missing + 1, agree := if d.flag RCK.STAT_SYNC then r.agree else 0 }).raise
    RCK.STAT_FLYWHEEL

theorem Device.flywheels_rckFrame (d : Device) : d.RckFrame [] [3] d.flywheels :=
  (RckFrame.modRck d _).trans (.raise _ (by decide))

theorem Device.beaconMissing_due {d : Device} (hh : d.isHead = false) (hl : d.flag RCK.STAT_TIDE_LOCK = true)
    (hdue : d.rck.tL + (d.rck.missing + 1) * 25000 + d.rd RCK.AMAX * usec ≤ d.now) : d.beaconMissing =
      if d.isStandby && decide (4 ≤ d.rck.missing + 1) && !d.suspended then d.flywheels.takeover else d.flywheels := by
  have hgo : (d.isHead || !d.flag RCK.STAT_TIDE_LOCK ||
      decide (d.now < d.rck.tL + (d.rck.missing + 1) * beaconTicks + d.rd RCK.AMAX * usec)) = false := by
    rw [hh, hl, show beaconTicks = 25000 from rfl, decide_eq_false (by omega)]; rfl
  have hstandby : d.flywheels.isStandby = d.isStandby := d.flywheels_rckFrame.isStandby
  have hsusp : d.flywheels.suspended = d.suspended := by
    simp [Device.suspended, Device.flywheels, Device.now]
  unfold Device.beaconMissing
  dsimp only
  rw [hgo, if_neg Bool.false_ne_true, ← Device.flywheels, hstandby, hsusp]

theorem beaconMissing_flywheels (s : State) (hp : s.dev.powered = true) (hl : s.dev.flag RCK.STAT_TIDE_LOCK = true)
    (hh : s.dev.isHead = false)
    (hdue : s.dev.rck.tL + (s.dev.rck.missing + 1) * 25000 + s.dev.rd RCK.AMAX * usec ≤ s.dev.now) :
    ((s.dev.isStandby = false ∨ s.dev.rck.missing < 3 ∨ s.dev.suspended = true) →
      Completes .beaconMissing s fun d =>
        d.flag RCK.STAT_FLYWHEEL = true ∧ d.rck.missing = s.dev.rck.missing + 1 ∧ d.isHead = false) ∧
    (s.dev.isStandby = true → 3 ≤ s.dev.rck.missing → s.dev.suspended = false → Completes .beaconMissing s fun d =>
      d.isHead = true ∧ d.rd RCK.EPOCH = (s.dev.rd RCK.EPOCH + 1) % 2 ^ RCK.EPOCH.width ∧
      d.flag RCK.STAT_HEAD_TAKEOVER = true ∧ s.dev.reportedCode d Ev.HEAD_TAKEOVER) := by
  have heq := Device.beaconMissing_due hh hl hdue
  refine ⟨fun hno => ?_, fun hs hk hsusp => ?_⟩ <;> refine completes_run (f := Device.beaconMissing) hp rfl ?_ <;> rw [heq]
  · have hwait : (s.dev.isStandby && decide (4 ≤ s.dev.rck.missing + 1) && !s.dev.suspended) = false := by
      rcases hno with h | h | h
      · simp [h]
      · simp [show ¬ 3 ≤ s.dev.rck.missing by omega]
      · simp [h]
    rw [hwait, if_neg Bool.false_ne_true]
    exact ⟨Device.flag_raise _ _ rfl (by decide), by simp [Device.flywheels], s.dev.flywheels_rckFrame.isHead.trans hh⟩
  · have hgo : (s.dev.isStandby && decide (4 ≤ s.dev.rck.missing + 1) && !s.dev.suspended) = true := by
      simp [hs, hsusp, show 3 ≤ s.dev.rck.missing from hk]
    rw [if_pos hgo]
    have hepoch : s.dev.flywheels.rd RCK.EPOCH = s.dev.rd RCK.EPOCH :=
      s.dev.flywheels_rckFrame.reg RCK.EPOCH (by decide) (by decide) (by decide)
    have hevents : s.dev.flywheels.events = s.dev.events := by simp [Device.flywheels]
    rw [← hepoch]
    simpa only [Device.reportedCode, hevents] using s.dev.flywheels.takeover_takes

/-- The flywheel limit has run out: SYNC and the tide lock are lost, and reported. -/
def Device.lockLost (d : Device) : Device :=
  (((d.raise RCK.STAT_BEACON_LOSS).lower RCK.STAT_SYNC).lower RCK.STAT_TIDE_LOCK).log Ev.BEACON_LOSS []

/-- Reckoning holds. -/
def Device.lossHold (d : Device) : Device :=
  (((d.modRck fun r => { r with bSpeed := 0, holding := true, agree := 0, missing := 0 }).raise RCK.STAT_STANDSTILL).lower
    RCK.STAT_OVERSPEED).wr RCK.RATE 0

theorem Device.lockLost_shows (d : Device) : d.lockLost.flag RCK.STAT_BEACON_LOSS = true ∧
    d.lockLost.flag RCK.STAT_SYNC = false ∧ d.lockLost.flag RCK.STAT_TIDE_LOCK = false ∧
    d.reported d.lockLost Ev.BEACON_LOSS [] := by
  have hlog : ∀ e : Device, e.RckFrame [] [] (e.log Ev.BEACON_LOSS []) := fun e => .log e _ _
  have hsync : ∀ e : Device, e.RckFrame [] [0] (e.lower RCK.STAT_SYNC) := fun e => .setFlag e false (by decide)
  have hlock : ∀ e : Device, e.RckFrame [] [7] (e.lower RCK.STAT_TIDE_LOCK) := fun e => .setFlag e false (by decide)
  refine ⟨?_, ?_, ?_, Device.reported_log (by simp) _ _⟩
  · exact ((hlog _).bit 12 (by decide) (by simp)).trans (((hlock _).bit 12 (by decide) (by decide)).trans
      (((hsync _).bit 12 (by decide) (by decide)).trans (Device.flag_raise d _ rfl (by decide))))
  · exact ((hlog _).bit 0 (by decide) (by simp)).trans (((hlock _).bit 0 (by decide) (by decide)).trans
      (Device.flag_lower _ _ rfl (by decide)))
  · exact ((hlog _).bit 7 (by decide) (by simp)).trans (Device.flag_lower _ _ rfl (by decide))

theorem Device.lossHold_rckFrame (d : Device) : d.RckFrame rateRegs speedBits d.lossHold :=
  (((RckFrame.modRck d _).trans (.raise _ (by decide))).trans (.setFlag _ false (by decide))).trans (.wr _ _ (by decide))

/-- The reaction to the loss on the channels, and the edges held. -/
def Device.lossReacts (d : Device) : Device := (d.lossAct .beaconLoss).discard (fun _ => true) Ev.DISCARDED_SYNC

theorem Device.lossReacts_rckFrame (d : Device) : d.RckFrame [] [] d.lossReacts :=
  (d.lossAct_rckFrame _).trans (Device.discard_rckFrame _ _ _)

theorem Device.discard_all_store (d : Device) (ev : Nat) : (d.discard (fun _ => true) ev).store = [] := by
  unfold Device.discard
  simp only [List.filter_true, List.length_eq_zero_iff]
  split
  next h => exact h
  next => simp

theorem Device.beaconLoss_due {d : Device} (hl : d.flag RCK.STAT_TIDE_LOCK = true) (hf : d.flag RCK.STAT_FLYWHEEL = true)
    (hs : d.suspended = false) (hdue : d.rck.tRecv + d.rd RCK.FLYTO * msec ≤ d.now) :
    d.beaconLoss = d.lockLost.lossHold.lossReacts := by
  have hgo : (!d.flag RCK.STAT_TIDE_LOCK || !d.flag RCK.STAT_FLYWHEEL || d.suspended ||
      decide (d.now < d.rck.tRecv + d.rd RCK.FLYTO * msec)) = false := by
    rw [hl, hf, hs, decide_eq_false (by omega)]; rfl
  unfold Device.beaconLoss
  rw [hgo, if_neg Bool.false_ne_true]
  rfl

theorem beaconLoss_loses (s : State) (hp : s.dev.powered = true) (hl : s.dev.flag RCK.STAT_TIDE_LOCK = true)
    (hf : s.dev.flag RCK.STAT_FLYWHEEL = true) (hs : s.dev.suspended = false)
    (hdue : s.dev.rck.tRecv + s.dev.rd RCK.FLYTO * msec ≤ s.dev.now) : Completes .beaconLoss s fun d =>
      d.flag RCK.STAT_BEACON_LOSS = true ∧ d.flag RCK.STAT_SYNC = false ∧ d.flag RCK.STAT_TIDE_LOCK = false ∧
      d.rd RCK.RATE = 0 ∧ d.rck.holding = true ∧ d.store = [] ∧ s.dev.reported d Ev.BEACON_LOSS [] := by
  obtain ⟨hloss, hsync, hlock, hrep⟩ := s.dev.lockLost_shows
  have hreacts := s.dev.lockLost.lossHold.lossReacts_rckFrame
  have hframe := s.dev.lockLost.lossHold_rckFrame.trans (hreacts.mono (by simp) (by simp))
  refine completes_run (f := Device.beaconLoss) hp rfl ?_
  rw [Device.beaconLoss_due hl hf hs hdue]
  refine ⟨(hframe.bit 12 (by decide) (by decide)).trans hloss, (hframe.bit 0 (by decide) (by decide)).trans hsync,
    (hframe.bit 7 (by decide) (by decide)).trans hlock, ?_, ?_, Device.discard_all_store _ _, hframe.reported (by decide) hrep⟩
  · exact (hreacts.reg RCK.RATE (by decide) (by decide) (by decide)).trans (Device.rd_wr_same _ _ 0)
  · simp [Device.lossReacts, Device.lossHold]

/-- Settles O26: a lemma for each clause; the registers shown survive what follows by `Device.RckFrame`. -/
theorem beacons : Obligations.Beacons :=
  ⟨fun s hp => ⟨beaconSend_queues s hp, beaconReceive_stale s hp, beaconReceive_follows s hp⟩,
    fun s hp hl => ⟨beaconMissing_flywheels s hp hl, beaconLoss_loses s hp hl⟩⟩

end Sys2Proof.Machine

namespace Sys2Proof.Machine

/-! ## Time alone (R45, R47)

What the tick runs beside tide leaves reckoning alone; `<operation>_rck` as above. -/

/-! ### Banks -/

@[simp] theorem Device.outOn_rck (d : Device) (n : Nat) : (d.outOn n).rck = d.rck := by simp [Device.outOn]

@[simp] theorem Device.gangOff_rck (d : Device) (l : Nat) : (d.gangOff l).rck = d.rck := by simp [Device.gangOff]

@[simp] theorem Device.turnOn_rck (d : Device) (l : Nat) (fired checked : Bool) (duty : Nat) :
    (d.turnOn l fired checked duty).rck = d.rck := by
  simp only [Device.turnOn, Device.rck_ite]
  simp

@[simp] theorem Device.doRetry_rck (d : Device) (l : Nat) : (d.doRetry l).rck = d.rck := by
  simp [Device.doRetry, Device.untrip]

@[simp] theorem Device.bankStep_rck (d : Device) (m : Nat) : (d.bankStep m).rck = d.rck := by
  simp only [Device.bankStep, Device.rck_ite]
  simp [Device.postponedRetry, Device.faultStep]

@[simp] theorem Device.pulseTick_rck (d : Device) (l : Nat) : (d.pulseTick l).rck = d.rck := by
  unfold Device.pulseTick
  split <;> simp

@[simp] theorem Device.chopTick_rck (d : Device) (l : Nat) : (d.chopTick l).rck = d.rck := by
  simp only [Device.chopTick, Device.rck_ite]
  simp

/-! ### Rails -/

@[simp] theorem Device.phasePeriod_rck (d : Device) (r n : Nat) : (d.phasePeriod r n).rck = d.rck := by
  simp [Device.phasePeriod]

@[simp] theorem Device.shedAbort_rck (d : Device) (r : Nat) : (d.shedAbort r).rck = d.rck := by
  simp [Device.shedAbort, Device.dropShed, Device.joinAll]

@[simp] theorem Device.joinPhases_rck (d : Device) (r : Nat) : (d.joinPhases r).rck = d.rck := by
  simp [Device.joinPhases, Device.countPhases]

@[simp] theorem Device.pwmTick_rck (d : Device) (r : Nat) : (d.pwmTick r).rck = d.rck := by
  simp only [Device.pwmTick, Device.railPeriod, Device.rck_ite]
  simp

@[simp] theorem Device.bankTick_rck (d : Device) : d.bankTick.rck = d.rck := by simp [Device.bankTick]

@[simp] theorem Device.railTick_rck (d : Device) (n r : Nat) : (d.railTick n r).rck = d.rck := by
  simp only [Device.railTick, Device.rck_ite]
  simp

/-! ### Feeds -/

@[simp] theorem Device.modFeed_rck (d : Device) (f : FeedId) (g : Feed → Feed) : (d.modFeed f g).rck = d.rck := by
  cases f <;> rfl

@[simp] theorem Device.feedTick_rck (d : Device) (n : Nat) (f : FeedId) : (d.feedTick n f).rck = d.rck := by
  simp only [Device.feedTick, Device.rck_ite]
  simp

@[simp] theorem Device.selectFeed_rck (d : Device) : d.selectFeed.rck = d.rck := by
  simp only [Device.selectFeed, Device.rck_ite]
  simp [Device.turnFeedOn]

@[simp] theorem Device.feedsTick_rck (d : Device) (n : Nat) : (d.feedsTick n).rck = d.rck := by simp [Device.feedsTick]

/-! ### Counters, the second of the ring, windows -/

@[simp] theorem Device.wdtTick_rck (d : Device) (n : Nat) : (d.wdtTick n).rck = d.rck := by simp [Device.wdtTick]

@[simp] theorem Device.chargeTick_rck (d : Device) (n : Nat) : (d.chargeTick n).rck = d.rck := by simp [Device.chargeTick]

@[simp] theorem Device.sclkTick_rck (d : Device) : d.sclkTick.rck = d.rck := by simp [Device.sclkTick]

@[simp] theorem Device.speedTick_rck (d : Device) : d.speedTick.rck = d.rck := by
  simp [Device.speedTick, Device.speedFlags_rck, Device.rerate]

@[simp] theorem Device.modPort_rck (d : Device) (p : Port) (g : PortSt → PortSt) : (d.modPort p g).rck = d.rck := by
  cases p <;> rfl

@[simp] theorem Device.linkDegraded_rck (d : Device) : d.linkDegraded.rck = d.rck := by
  simp [Device.linkDegraded, Device.degrade, Device.modRing]

@[simp] theorem Device.secondTick_rck (d : Device) : d.secondTick.rck = d.rck := by
  simp [Device.secondTick, Device.modRing]

@[simp] theorem Device.attSettle_rck (d : Device) : d.attSettle.rck = d.rck := by
  obtain ⟨x, hx⟩ := d.attSettle_twi
  rw [hx]

@[simp] theorem Device.tripFollow_rck (d : Device) (l : Nat) (cause : Cause) : (d.tripFollow l cause).rck = d.rck := by
  simp only [Device.tripFollow, Device.rck_ite]
  simp

@[simp] theorem Device.trip_rck (d : Device) (n : Nat) (cause : Cause) (imeas : Nat) : (d.trip n cause imeas).rck = d.rck := by
  simp only [Device.trip, Device.rck_ite]
  simp [Device.tripOff, Device.reportTrip, Device.recordState, Device.cnt]

@[simp] theorem Device.windowActs_rck (d : Device) : d.windowActs.rck = d.rck := by
  have hact : ∀ (d : Device) (e : Nat) (v : Int), (d.windowAct e v).rck = d.rck := fun d e v => by
    simp only [Device.windowAct, Device.rck_ite]
    simp
  simp [Device.windowActs, hact]

@[simp] theorem Device.timers_rck (d : Device) (n moved : Nat) : (d.timers n moved).rck = d.rck := by
  simp [Device.timers, Device.ib0Tick]

/-! ### Tide -/

theorem Device.steer_now (d : Device) : d.steer.now = d.now := by
  simp [Device.steer, Device.now, apply_ite Rck.tide]

/-- How far tide goes is decided first; it has not gone yet. -/
theorem Device.pllTide_now (d : Device) : d.pllTide.2.now = d.now := by
  unfold Device.pllTide
  dsimp only
  split
  · split <;> rfl
  · split
    · exact d.steer_now
    · split
      · exact d.steer_now
      · exact d.steer_now

theorem Device.travel_now (d : Device) (dist : Nat) (fwd : Bool) : (d.travel dist fwd).now = d.now := by
  cases fwd
  · simp [Device.now, Device.travel_backward]
  · simp [Device.now, Device.travel_forward]

theorem Device.ownRate_now (d : Device) : d.ownRate.now = d.now := by
  obtain ⟨c, h⟩ := d.ownRate_rck
  simp [Device.now, h]

theorem Device.hostTick_now (d : Device) : d.hostTick.now = d.now := by
  unfold Device.hostTick
  split
  · rw [Device.ownRate_now]
    split
    · rfl
    · exact d.travel_now _ _
  · rfl

theorem Device.reckonTick_now (d : Device) : d.reckonTick.now = d.now := by
  unfold Device.reckonTick
  split <;> rfl

theorem Device.tideTick_now (d : Device) : d.tideTick.now = d.now + 1 := by
  unfold Device.tideTick
  rw [Device.reckonTick_now, Device.hostTick_now]
  rfl

theorem Device.bankTick_now (d : Device) : d.bankTick.now = d.now := congrArg Rck.tide d.bankTick_rck

theorem Device.timers_now (d : Device) (n moved : Nat) : (d.timers n moved).now = d.now :=
  congrArg Rck.tide (d.timers_rck n moved)

/-- Without power tide stands; at the PLL's rate it goes 0, 1 or 2 ticks; without the PLL it goes an LFRC period. -/
theorem Device.now_le_tick (d : Device) : d.now ≤ d.tick.now := by
  unfold Device.tick
  split
  next hp =>
    refine Nat.le_of_eq ?_
    unfold Device.onFeeds
    split
    · exact (congrArg Rck.tide (d.feedsTick_rck 1)).symm
    · rfl
  next =>
    split
    · rw [Device.timers_now, Device.bankTick_now, ← d.pllTide_now]
      split
      · exact Nat.le_refl _
      · split
        · rw [Device.tideTick_now]; omega
        · rw [Device.tideTick_now, Device.tideTick_now]; omega
    · rw [Device.timers_now]
      exact Nat.le_add_right _ _

/-- Settles O2: the step is a tick, and no part of a tick takes tide back (`Device.now_le_tick`). -/
theorem emptyQueueTicks : Obligations.EmptyQueueTicks := fun s h =>
  ⟨{ s with dev := s.dev.tick }, step_nil s h, h, s.dev.now_le_tick⟩

end Sys2Proof.Machine

namespace Sys2Proof.Machine

/-! ## Edges refused (R58, R61) -/

@[simp] theorem Device.logFirst_store (d : Device) (code key : Nat) (args : List Nat) (report : Bool) :
    (d.logFirst code key args report).store = d.store := by
  unfold Device.logFirst
  dsimp only
  (repeat' split) <;> simp [Device.toHead_rest]

/-- Logging a refusal under R460 writes the registers of page RING alone. -/
theorem Device.rd_logFirst (d : Device) (code key : Nat) (args : List Nat) (report : Bool) {r : Reg}
    (hr : r.addr / 256 ≠ 0x0D) : (d.logFirst code key args report).rd r = d.rd r :=
  (Device.logFirst_pages (o := d) (ps := [0x0D]) d code key args report (by decide)).mpr (Device.onlyPages_refl d) r
    (by simpa using hr)

/-- A refused edge leaves no entry, and is counted. -/
theorem Device.refuse_counts (d : Device) (src : Source) (e : EdgeReq) (c : Code) :
    (d.refuse src e c).store = d.store ∧
      (d.refuse src e c).rd EDGE.CNTREF = (d.rd EDGE.CNTREF + 1) % 2 ^ EDGE.CNTREF.width := by
  have hraise : ∀ f : Field, f.reg = EDGE.STAT → ((d.count EDGE.CNTREF).raise f).rd EDGE.CNTREF =
      (d.rd EDGE.CNTREF + 1) % 2 ^ EDGE.CNTREF.width := fun f hf =>
    (Device.rd_raise_ne _ (by rw [hf]; decide)).trans (Device.rd_count_same d _ _)
  unfold Device.refuse
  dsimp only
  split
  · exact ⟨by simp, (Device.rd_log _ _ _ _ (by decide) (by decide)).trans (hraise _ rfl)⟩
  · exact ⟨by simp, (Device.rd_log _ _ _ _ (by decide) (by decide)).trans (hraise _ rfl)⟩
  · exact ⟨by simp, (Device.rd_logFirst _ _ _ _ _ (by decide)).trans (hraise _ rfl)⟩

/-! ## Edges entered (R59–R62, R66) -/

/-- An edge that does not go round the ring first is judged and entered here alone (R59). -/
theorem Device.submit_here {d : Device} {src : Source} {x : Nat}
    (h : d.isHead = true → (edgeReq x).ttype = 2 → src = .head) : d.submit src x = d.enter src (edgeReq x) := by
  unfold Device.submit
  dsimp only
  rw [if_neg]
  intro hc
  simp only [Bool.and_eq_true, beq_iff_eq, bne_iff_ne] at hc
  obtain ⟨⟨hhead, htype⟩, hsrc⟩ := hc
  exact hsrc (h hhead htype)

theorem Device.enter_refused {d : Device} {src : Source} {e : EdgeReq} {c : Code} (h : d.check6 src e true = some c) :
    d.enter src e = (d.refuse src e c, { code := c }) := by
  unfold Device.enter; rw [h]

/-- Check 6 lets only an edge with an action pass. -/
theorem Device.check6_action {d : Device} {src : Source} {e : EdgeReq} {modes : Bool}
    (h : d.check6 src e modes = none) : ∃ a, edgeAction e = some a := by
  cases ha : edgeAction e with
  | some a => exact ⟨a, rfl⟩
  | none =>
    unfold Device.check6 at h
    simp only [ha, Option.isNone_none, Bool.true_or, if_true] at h
    (repeat' split at h) <;> cases h

/-- The entry of an edge that is not late. -/
def Device.entryOf (d : Device) (src : Source) (e : EdgeReq) (a : Action) (l : Nat) : Entry where
  ch := l
  fire := e.fire
  seq := e.seq
  src := src
  act := a
  feff := d.feffOf l e.fire a
  late := false
  drop := d.dropPolicy src e
  tgt := e.index + e.ttype * 4096

/-- Before its marks are reached an edge is placed whole, one entry for each lead that it reaches. -/
theorem Device.place_early {d : Device} {src : Source} {e : EdgeReq} {a : Action}
    (h : ∀ l ∈ d.targets e, d.reckoning < d.feffOf l e.fire a) :
    (d.place src e a).1.store = d.store ++ (d.targets e).map (d.entryOf src e a) ∧
      (d.place src e a).2 = { code := .accepted, entries := (d.targets e).length } := by
  have hall : ((d.targets e).map fun l =>
      { ch := l, fire := e.fire, seq := e.seq, src := src, act := a, feff := d.feffOf l e.fire a
        late := d.flag RCK.STAT_SYNC && d.feffOf l e.fire a ≤ d.reckoning, drop := d.dropPolicy src e
        tgt := e.index + e.ttype * 4096 : Entry }) = (d.targets e).map (d.entryOf src e a) :=
    List.map_congr_left fun l hl => by simp [Device.entryOf, h l hl]
  have hlate : ((d.targets e).map (d.entryOf src e a)).filter (·.late) = [] := by
    simp [List.filter_eq_nil_iff, Device.entryOf]
  have hkept : ∀ p : Entry → Bool, ((d.targets e).map (d.entryOf src e a)).filter (fun x => !(x.late && p x)) =
      (d.targets e).map (d.entryOf src e a) := fun p =>
    List.filter_eq_self.2 fun x hx => by
      obtain ⟨l, -, rfl⟩ := List.mem_map.1 hx
      rfl
  unfold Device.place
  dsimp only
  rw [hall, hlate, hkept]
  simp [Device.reportLate]

/-- An edge that passes every check is placed. -/
theorem Device.enter_enterable {d : Device} {src : Source} {e : EdgeReq} (h : d.enterable src e) :
    d.entered (d.enter src e).1 src e ∧
      (d.enter src e).2 = { code := .accepted, entries := (d.targets e).length } := by
  obtain ⟨h6, hmap, h10, -, -, hearly⟩ := h
  obtain ⟨a, ha⟩ := Device.check6_action h6
  have henter : d.enter src e = d.place src e a := by simp [Device.enter, h6, hmap, h10, ha]
  obtain ⟨hstore, hres⟩ := Device.place_early (src := src) (hearly a ha)
  rw [henter]
  refine ⟨⟨?_, ?_, ?_⟩, hres⟩
  · simp [hstore]
  · intro x hx
    rw [hstore]
    exact List.mem_append_left _ hx
  · intro l hl
    refine ⟨d.entryOf src e a l, ?_, rfl, rfl, rfl, rfl, rfl, ha⟩
    rw [hstore]
    exact List.mem_append_right _ (List.mem_map_of_mem hl)

theorem Device.submit_enterable {d : Device} {src : Source} {x : Nat} (h : d.enterable src (edgeReq x)) :
    d.entered (d.submit src x).1 src (edgeReq x) ∧
      (d.submit src x).2 = { code := .accepted, entries := (d.targets (edgeReq x)).length } := by
  have hhere : d.submit src x = d.enter src (edgeReq x) := by
    obtain ⟨-, -, -, hhead, -, -⟩ := h
    exact Device.submit_here hhead
  rw [hhere]
  exact Device.enter_enterable h

theorem Device.submit_refused {d : Device} {src : Source} {x : Nat} {c : Code}
    (hhead : d.isHead = true → (edgeReq x).ttype = 2 → src = .head)
    (h : d.check6 src (edgeReq x) true = some c) : d.submit src x = (d.refuse src (edgeReq x) c, { code := c }) :=
  (Device.submit_here hhead).trans (Device.enter_refused h)

/-! ## What the window and the core are told (R58, R84) -/

theorem Code.num_lt (c : Code) : c.num < 256 := by cases c <;> decide

@[simp] theorem Device.putResult_store (d : Device) (r : EdgeResult) : (d.putResult r).store = d.store := by
  simp [Device.putResult]

theorem Device.putResult_code (d : Device) (r : EdgeResult) : (d.putResult r).fld EDGE.WRES_CODE = r.code.num := by
  unfold Device.putResult
  rw [Device.fld_wr_ne _ _ (by decide),
    Device.fld_setFld_beside (f := EDGE.WRES_NLATE) (g := EDGE.WRES_CODE) _ _ rfl (by decide) (by decide),
    Device.fld_setFld_beside (f := EDGE.WRES_ENTRIES) (g := EDGE.WRES_CODE) _ _ rfl (by decide) (by decide),
    Device.fld_setFld_same _ _ _ (by decide)]
  exact Nat.mod_eq_of_lt r.code.num_lt

theorem Device.rd_putResult (d : Device) (r : EdgeResult) {q : Reg} (hres : EDGE.WRES.addr ≠ q.addr)
    (hlate : EDGE.WLATE.addr ≠ q.addr) : (d.putResult r).rd q = d.rd q := by
  unfold Device.putResult
  rw [Device.rd_wr_ne _ _ hlate, Device.rd_setFld_ne _ _ hres, Device.rd_setFld_ne _ _ hres,
    Device.rd_setFld_ne _ _ hres]

/-- What is entered stands in the store. -/
theorem Device.entered_congr {o d d' : Device} {src : Source} {e : EdgeReq} (h : d'.store = d.store) :
    o.entered d' src e = o.entered d src e := by
  unfold Device.entered; rw [h]

/-- The window as the last byte completes it (R60). -/
abbrev Device.windowFilled (d : Device) (v : BitVec 8) : Device := d.setFld ⟨EDGE.WIN, 120, 8⟩ v.toNat

/-- The edge in the window. -/
abbrev Device.windowEdge (d : Device) : EdgeReq := edgeReq (d.rd EDGE.WIN)

theorem Device.submitWindow_enters {d : Device} {w : Writer} (h : d.enterable (writerSource w) d.windowEdge) :
    d.entered (d.submitWindow w) (writerSource w) d.windowEdge ∧
      (d.submitWindow w).fld EDGE.WRES_CODE = 0 := by
  obtain ⟨hent, hres⟩ := Device.submit_enterable h
  unfold Device.submitWindow
  dsimp only
  rw [Device.entered_congr (Device.putResult_store _ _), Device.putResult_code, hres]
  exact ⟨hent, rfl⟩

theorem Device.submitWindow_refuses {d : Device} {w : Writer} {c : Code}
    (hhead : d.isHead = true → d.windowEdge.ttype = 2 → w = .ring)
    (hc : d.check6 (writerSource w) d.windowEdge true = some c) :
    (d.submitWindow w).store = d.store ∧ (d.submitWindow w).fld EDGE.WRES_CODE = c.num ∧
      (d.submitWindow w).rd EDGE.CNTREF = (d.rd EDGE.CNTREF + 1) % 2 ^ EDGE.CNTREF.width := by
  have hsub := Device.submit_refused (fun h ht => by rw [hhead h ht]; rfl) hc
  obtain ⟨hstore, hcount⟩ := d.refuse_counts (writerSource w) d.windowEdge c
  unfold Device.submitWindow
  dsimp only
  rw [hsub, Device.putResult_store, Device.putResult_code, Device.rd_putResult _ _ (by decide) (by decide)]
  exact ⟨hstore, rfl, hcount⟩

/-- A write completes with what it does, where what is said of it does not look at the two-wire port. -/
theorem completes_write_blind {c : Instr} {s : State} {w : Writer} {f : Device → Device} {P : Device → Prop}
    (hp : s.dev.powered = true) (hw : s.dev.admits w) (hc : exec c s = s.run fun d => d.asWriter w f)
    (hblind : ∀ d x, P d → P { d with twi := x }) (h : P (f s.dev)) : Completes c s P :=
  completes_write hp hw hc fun x => hblind _ x h

section
variable (s : State) (w : Writer) (v : BitVec 8) (hp : s.dev.powered = true) (hw : s.dev.admits w)
include hp hw

theorem edgeSubmit_enters (h : (s.dev.windowFilled v).enterable (writerSource w) (s.dev.windowFilled v).windowEdge) :
    Completes (.edgeSubmit w v) s fun d =>
      (s.dev.windowFilled v).entered d (writerSource w) (s.dev.windowFilled v).windowEdge ∧
        d.fld EDGE.WRES_CODE = 0 :=
  completes_write_blind (f := fun d => (d.windowFilled v).submitWindow w) hp hw rfl (fun _ _ h => h)
    (Device.submitWindow_enters h)

theorem edgeSubmit_refuses (c : Code)
    (hhead : (s.dev.windowFilled v).isHead = true → (s.dev.windowFilled v).windowEdge.ttype = 2 → w = .ring)
    (hc : (s.dev.windowFilled v).check6 (writerSource w) (s.dev.windowFilled v).windowEdge true = some c) :
    Completes (.edgeSubmit w v) s fun d => d.store = s.dev.store ∧ d.fld EDGE.WRES_CODE = c.num ∧
      d.rd EDGE.CNTREF = (s.dev.rd EDGE.CNTREF + 1) % 2 ^ EDGE.CNTREF.width := by
  obtain ⟨hstore, hcode, hcount⟩ := Device.submitWindow_refuses hhead hc
  rw [Device.rd_setFld_ne _ _ (by decide)] at hcount
  simp only [Device.setFld_rest] at hstore
  exact completes_write_blind (f := fun d => (d.windowFilled v).submitWindow w) hp hw rfl (fun _ _ h => h)
    ⟨hstore, hcode, hcount⟩

end

theorem coreEdge_enters (s : State) (hand : Bool) (x : EdgeBits) (hp : s.dev.powered = true)
    (he : s.dev.enterable .core (edgeReq x.toNat)) : Completes (.coreEdge hand x) s fun d' =>
      s.dev.entered d' .core (edgeReq x.toNat) ∧
      d'.coreRes = some { code := 0, entries := (s.dev.targets (edgeReq x.toNat)).length, nlate := 0, worst := 0 } := by
  obtain ⟨hent, hres⟩ := Device.submit_enterable he
  refine completes_run (f := fun d => d.coreEdge x.toNat) hp rfl ⟨hent, ?_⟩
  exact congrArg (fun r => some (EdgeResult.reply r)) hres

theorem coreEdge_refuses (s : State) (hand : Bool) (x : EdgeBits) (hp : s.dev.powered = true) (c : Code)
    (hhead : s.dev.isHead = true → (edgeReq x.toNat).ttype ≠ 2)
    (hc : s.dev.check6 .core (edgeReq x.toNat) true = some c) : Completes (.coreEdge hand x) s fun d' =>
      d'.store = s.dev.store ∧ d'.coreRes = some { code := c.num, entries := 0, nlate := 0, worst := 0 } ∧
      d'.rd EDGE.CNTREF = (s.dev.rd EDGE.CNTREF + 1) % 2 ^ EDGE.CNTREF.width := by
  have hsub := Device.submit_refused (fun h ht => absurd ht (hhead h)) hc
  have hcore : s.dev.coreEdge x.toNat = { s.dev.refuse .core (edgeReq x.toNat) c with
      coreRes := some { code := c.num, entries := 0, nlate := 0, worst := 0 } } := by
    unfold Device.coreEdge; rw [hsub]; rfl
  obtain ⟨hstore, hcount⟩ := s.dev.refuse_counts .core (edgeReq x.toNat) c
  refine completes_run (f := fun d => d.coreEdge x.toNat) hp rfl ?_
  rw [hcore]
  exact ⟨hstore, rfl, hcount⟩

/-- Settles O13: the window and the core's queue, entered by `Device.submit_enterable`, refused by
`Device.submit_refused`. -/
theorem edgesEntered : Obligations.EdgesEntered :=
  ⟨fun s w v hp hw => ⟨edgeSubmit_enters s w v hp hw, edgeSubmit_refuses s w v hp hw⟩,
    fun s hand x hp => ⟨coreEdge_enters s hand x hp, coreEdge_refuses s hand x hp⟩⟩

end Sys2Proof.Machine

namespace Sys2Proof.Machine

/-! ## FLUSH (R64) -/

/-- What a discard leaves in the store. -/
theorem Device.discard_store (d : Device) (which : Entry → Bool) (ev : Nat) :
    (d.discard which ev).store = d.store.filter fun e => !which e := by
  unfold Device.discard
  dsimp only
  split
  next h =>
    have hnone : ∀ e ∈ d.store, which e = false := by simpa using h
    exact (List.filter_eq_self.2 fun e he => by simp [hnone e he]).symm
  next => simp

/-- A discard that takes entries counts them. -/
theorem Device.discard_counts (d : Device) (which : Entry → Bool) (ev : Nat) (h : d.store.filter which ≠ []) :
    (d.discard which ev).rd EDGE.CNTDISC =
      (d.rd EDGE.CNTDISC + (d.store.filter which).length) % 2 ^ EDGE.CNTDISC.width := by
  unfold Device.discard
  dsimp only
  rw [if_neg (by simpa using h), Device.rd_log _ _ _ _ (by decide) (by decide), Device.rd_raise_ne _ (by decide),
    Device.rd_count_same]
  rfl

/-- A source stands in FLUSH.SRCMASK by the bit that R84 gives it; fault logic and STRIKE have none. -/
theorem flushMask_testBit (src : Source) (v : Nat) : ((srcMaskBit src).map (bitsOf v 16 4).testBit).getD false =
    ((src == .head && v.testBit 16) || (src == .core && v.testBit 17) || (src == .host && v.testBit 18)
      || (src == .svc && v.testBit 19)) := by
  cases src <;> simp [srcMaskBit, bitsOf_testBit, beq_eq_decide, -Nat.testBit_zero]

theorem Device.flush_eq_discard (d : Device) (v : Nat) : d.flush v = d.discard (d.flushes v) Ev.FLUSHED := by
  unfold Device.flush
  dsimp only
  congr 1
  funext e
  rw [flushMask_testBit]
  unfold Device.flushes
  dsimp only
  congr 1
  split
  · simp [beq_eq_decide]
  · (repeat' split) <;> rfl

/-- Settles O15: FLUSH is a discard of what it names (`Device.flush_eq_discard`). -/
theorem flushDiscards : Obligations.FlushDiscards := by
  intro s w v hp hw
  refine completes_write (f := fun d => d.flush v.toNat) hp hw rfl fun x => ?_
  rw [Device.flush_eq_discard]
  exact ⟨s.dev.discard_store _ _, s.dev.discard_counts _ _⟩

end Sys2Proof.Machine

namespace Sys2Proof.Machine

/-! ## Internal regulators (R68, R224, R225) -/

theorem ib0vWrite_takes (s : State) (w : Writer) (hp : s.dev.powered = true) (hw : s.dev.admits w) (v : BitVec 16)
    (hlo : 90 ≤ v.toNat) (hhi : v.toNat ≤ 180) : Completes (.ib0vWrite w v) s fun d => d.rd INT.IB0V = v.toNat := by
  refine completes_write (f := fun d => d.writeIb0v v.toNat) hp hw rfl fun x => ?_
  have h : s.dev.writeIb0v v.toNat = s.dev.wr INT.IB0V v.toNat := if_neg (by simp; omega)
  rw [h]
  exact (Device.rd_wr_same _ _ _).trans (Nat.mod_eq_of_lt v.isLt)

theorem ib0vWrite_refuses (s : State) (w : Writer) (hp : s.dev.powered = true) (hw : s.dev.admits w) (v : BitVec 16)
    (hv : v.toNat < 90 ∨ 180 < v.toNat) : Completes (.ib0vWrite w v) s fun d =>
      d.rd INT.IB0V = s.dev.rd INT.IB0V ∧ d.flag INT.STAT_IB0V_REF = true ∧ s.dev.reported d Ev.IB0V_REF [v.toNat] := by
  refine completes_write (f := fun d => d.writeIb0v v.toNat) hp hw rfl fun x => ?_
  have h : s.dev.writeIb0v v.toNat = (s.dev.raise INT.STAT_IB0V_REF).log Ev.IB0V_REF [v.toNat] := if_pos (by simpa using hv)
  rw [h]
  refine ⟨?_, ?_, Device.reported_log (d := s.dev.raise INT.STAT_IB0V_REF) (by simp) _ _⟩
  · exact (Device.rd_log _ _ _ _ (by decide) (by decide)).trans (Device.rd_raise_ne _ (by decide))
  · exact (Device.flag_log _ _ _ _ (by decide) (by decide)).trans (Device.flag_raise _ _ rfl (by decide))

/-- The clock and its centring term follow each other (R68). -/
theorem Device.setClock_sets (d : Device) (slow : Bool) :
    (d.setClock slow).flag INT.STAT_CLK = slow ∧ (d.setClock slow).rd EDGE.DC = if slow then 140 else 100 := by
  refine ⟨(Device.flag_wr_ne _ _ (by decide)).trans (Device.flag_setFlag_same _ _ _ rfl (by decide)), ?_⟩
  refine (Device.rd_wr_same _ _ _).trans (Nat.mod_eq_of_lt ?_)
  cases slow <;> decide

theorem clockSwitch_halves (s : State) (hp : s.dev.powered = true) (hpll : s.dev.rck.pll = true)
    (hclk : s.dev.flag INT.STAT_CLK = false) (hv : s.dev.rd INT.IB0V < 100) :
    Completes .clockSwitch s fun d => d.flag INT.STAT_CLK = true ∧ d.rd EDGE.DC = 140 := by
  refine completes_run (f := Device.clockSwitch) hp rfl ?_
  have h : s.dev.clockSwitch = s.dev.setClock true := by simp [Device.clockSwitch, hpll, hclk, hv]
  rw [h]
  exact s.dev.setClock_sets true

theorem clockSwitch_returns (s : State) (hp : s.dev.powered = true) (hpll : s.dev.rck.pll = true)
    (hclk : s.dev.flag INT.STAT_CLK = true) (hv : 100 ≤ s.dev.rd INT.IB0V) (hib0 : 1000000 ≤ s.dev.int.ib0)
    (habove : s.dev.int.above + 2000 ≤ s.dev.now) :
    Completes .clockSwitch s fun d => d.flag INT.STAT_CLK = false ∧ d.rd EDGE.DC = 100 := by
  refine completes_run (f := Device.clockSwitch) hp rfl ?_
  have h : s.dev.clockSwitch = s.dev.setClock false := by
    unfold Device.clockSwitch
    rw [if_neg (by simp [hpll]), if_neg (by simp [hclk]), if_pos (by simpa using ⟨hib0, habove⟩),
      if_neg (Nat.not_lt.2 hv)]
  rw [h]
  exact s.dev.setClock_sets false

theorem ioUv_reports (s : State) (hp : s.dev.powered = true) (vio : BitVec 16) (held : Nat)
    (hlow : 10 * vio.toNat < 9 * s.dev.rd INT.IB1V) (hheld : 100 * usec ≤ held) :
    Completes (.ioUv vio held) s fun d => d.flag INT.STAT_IO_UV = true ∧ s.dev.reported d Ev.IO_UV [] := by
  refine completes_run (f := fun d => d.ioUv vio.toNat held) hp rfl ?_
  have h : s.dev.ioUv vio.toNat held = (s.dev.raise INT.STAT_IO_UV).log Ev.IO_UV [] := if_pos (by simp [hlow, hheld])
  rw [h]
  exact ⟨(Device.flag_log _ _ _ _ (by decide) (by decide)).trans (Device.flag_raise _ _ rfl (by decide)),
    Device.reported_log (by simp) _ _⟩

/-- STAT.LDOFF shows the latch of each LDO in a bit of its own. -/
theorem Device.ldOff_testBit (d : Device) {k : Nat} (hk : k < 3) :
    (d.fld INT.STAT_LDOFF).testBit k = d.flag ⟨INT.STAT, 5 + k, 1⟩ := by
  simp only [Device.flag, Device.fld, bitsOf_testBit, hk, decide_true, Bool.true_and]
  rw [Nat.testBit_eq_decide_div_mod_eq]
  simp [bitsOf, beq_eq_decide]

theorem ldOc_latches (s : State) (hp : s.dev.powered = true) (k : Fin 3) (held : Nat) (hon : s.dev.ldOn k = true)
    (hheld : 10 * msec ≤ held) : Completes (.ldOc k held) s fun d => d.ldOn k = false ∧
      (d.fld INT.STAT_LDOFF).testBit k = true ∧ d.flag INT.STAT_LD_OC = true ∧
      s.dev.reported d Ev.LD_OC [k.val + 1] := by
  have hk := k.isLt
  refine completes_run (f := fun d => d.ldOc k held) hp rfl ?_
  have h : s.dev.ldOc k held =
      ((s.dev.setFlag ⟨INT.STAT, 5 + k, 1⟩ true).raise INT.STAT_LD_OC).log Ev.LD_OC [k.val + 1] :=
    if_pos (by simp [hon, hheld])
  have hlog : ∀ i, (s.dev.ldOc k held).flag ⟨INT.STAT, i, 1⟩ =
      ((s.dev.setFlag ⟨INT.STAT, 5 + k, 1⟩ true).raise INT.STAT_LD_OC).flag ⟨INT.STAT, i, 1⟩ := fun i => by
    rw [h]
    exact Device.flag_log _ _ _ _ (show RING.RSTAT.addr ≠ INT.STAT.addr by decide)
      (show RING.EVDROPCNT.addr ≠ INT.STAT.addr by decide)
  have hoff : ((s.dev.ldOc k held).fld INT.STAT_LDOFF).testBit k = true := by
    rw [Device.ldOff_testBit _ hk, hlog, Device.flag_raise_bit _ (by decide) (by simp only [INT.STAT]; omega),
      if_neg (by omega), Device.flag_setFlag_bit _ _ (by simp only [INT.STAT]; omega) (by simp only [INT.STAT]; omega),
      if_pos rfl]
  refine ⟨?_, hoff, ?_, ?_⟩
  · simp only [Device.ldOn, hoff, Bool.not_true, Bool.and_false]
  · exact (hlog 10).trans (Device.flag_raise _ _ rfl (by decide))
  · rw [h]; exact Device.reported_log (by simp) _ _

/-- What a write of LDCLR does for LD(k+1). -/
def Device.ldClearOne (d : Device) (v k : Nat) : Device :=
  if v.testBit (k + 1) then d.setFlag ⟨INT.STAT, 5 + k, 1⟩ false else d

theorem Device.ldClear_eq (d : Device) (v : Nat) :
    d.ldClear v = ((d.ldClearOne v 0).ldClearOne v 1).ldClearOne v 2 := rfl

theorem Device.ldClearOne_latch (d : Device) (v : Nat) {n k : Nat} (hn : n < 3) (hk : k < 3) :
    (d.ldClearOne v n).flag ⟨INT.STAT, 5 + k, 1⟩ =
      if n = k ∧ v.testBit (k + 1) = true then false else d.flag ⟨INT.STAT, 5 + k, 1⟩ := by
  unfold Device.ldClearOne
  split
  next hv =>
    rw [Device.flag_setFlag_bit _ _ (by simp only [INT.STAT]; omega) (by simp only [INT.STAT]; omega)]
    by_cases hnk : n = k
    · subst hnk
      rw [if_pos rfl, if_pos ⟨rfl, hv⟩]
    · rw [if_neg (by omega), if_neg (by simp [hnk])]
  next hv =>
    rw [if_neg]
    rintro ⟨rfl, h⟩
    exact hv h

theorem ldclr_clears (s : State) (w : Writer) (hp : s.dev.powered = true) (hw : s.dev.admits w) (k : Fin 3)
    (v : BitVec 8) (hv : v.getLsbD (k.val + 1) = true) :
    Completes (.ldclr w v) s fun d => (d.fld INT.STAT_LDOFF).testBit k = false := by
  have hk := k.isLt
  refine completes_write (f := fun d => d.ldClear v.toNat) hp hw rfl fun x => ?_
  rw [Device.ldOff_testBit _ hk]
  change (s.dev.ldClear v.toNat).flag _ = false
  rw [Device.ldClear_eq, Device.ldClearOne_latch _ _ (by decide) hk, Device.ldClearOne_latch _ _ (by decide) hk,
    Device.ldClearOne_latch _ _ (by decide) hk]
  have hbit : v.toNat.testBit (k.val + 1) = true := hv
  obtain h | h | h : k.val = 0 ∨ k.val = 1 ∨ k.val = 2 := by omega
  all_goals simp [h, h ▸ hbit]

/-- Settles O39: a lemma for each clause. -/
theorem internalRegulators : Obligations.InternalRegulators := fun s w hp hw =>
  ⟨fun v => ⟨ib0vWrite_takes s w hp hw v, ib0vWrite_refuses s w hp hw v⟩, clockSwitch_halves s hp,
    clockSwitch_returns s hp, ioUv_reports s hp, ldOc_latches s hp, ldclr_clears s w hp hw⟩

end Sys2Proof.Machine

namespace Sys2Proof.Machine

/-! ## Frames that the core serves (R373, R374) -/

/-- A served frame completes with what its command makes of the device. -/
theorem completes_svc {c : Instr} {s : State} {f : Device → Device} {P : Device → Prop} (hp : s.dev.powered = true)
    (hserve : s.dev.coreServes = true) (hc : exec c s = s.runSvc f) (h : P (f s.dev)) : Completes c s P :=
  completes_run hp hc (by simpa [hserve] using h)

/-- A frame that is answered completes with what its command makes of the device, where what is said of it does not look
at the response. -/
theorem completes_answered {c : Instr} {s : State} {f : Device → Device} {e : Device} {P : Device → Prop} {cmd : Nat}
    {tag : BitVec 8} {status : Nat} {data : List Nat} (hp : s.dev.powered = true) (hserve : s.dev.coreServes = true)
    (hc : exec c s = s.runSvc f) (hf : f s.dev = e.respond false cmd tag status data)
    (hblind : ∀ d x, P d → P { d with upd := { d.upd with resp := x } }) (h : P e) : Completes c s P :=
  completes_svc hp hserve hc (hf ▸ hblind _ _ h)

/-- Outside the store window a read is the bytes of its registers and nothing else. -/
theorem Device.readBytes_plain (d : Device) {page off n : Nat} (hpage : page ≠ 0x0E) (hfit : off + n ≤ 256) :
    d.readBytes page off n = ((List.range n).map fun i => d.readByte page (off + i), d) := by
  have hbytes : ((List.range n).map fun i => if off + i < 256 then d.readByte page (off + i) else 0) =
      (List.range n).map fun i => d.readByte page (off + i) :=
    List.map_congr_left fun i hi => if_pos (by have := List.mem_range.1 hi; omega)
  simp [Device.readBytes, hpage, hbytes]

section
variable {s : State} (hp : s.dev.powered = true) (hserve : s.dev.coreServes = true) (tag : BitVec 8)
include hp hserve

theorem svcPing_answers : Completes (.svcPing false tag) s fun d =>
    d.upd.resp = some ⟨1, tag.toNat, 0 :: s.dev.pingData⟩ ∧ ∀ r : Reg, d.rd r = s.dev.rd r :=
  completes_svc hp hserve (f := fun d => d.respond false 0x01 tag resOk d.pingData) rfl ⟨rfl, fun _ => rfl⟩

theorem svcPing_silent : Completes (.svcPing true tag) s fun d => d.upd.resp = none ∧ ∀ r : Reg, d.rd r = s.dev.rd r :=
  completes_svc hp hserve (f := fun d => d.respond true 0x01 tag resOk d.pingData) rfl ⟨rfl, fun _ => rfl⟩

theorem svcStatus_answers : Completes (.svcStatus false tag) s fun d => (∀ r : Reg, d.rd r = s.dev.rd r) ∧
    d.upd.resp = some ⟨0x13, tag.toNat,
      0 :: (toBytes 2 (s.dev.rd UPD.STAT) ++ [s.dev.rd UPD.RES] ++ toBytes 64 (s.dev.rd UPD.RXMAP))⟩ :=
  completes_svc hp hserve (f := fun d => d.respond false 0x13 tag resOk
    (toBytes 2 (d.rd UPD.STAT) ++ [d.rd UPD.RES] ++ toBytes 64 (d.rd UPD.RXMAP))) rfl ⟨fun _ => rfl, rfl⟩

theorem svcRead_answers (page off n : BitVec 8) (hpos : 1 ≤ n.toNat) (hmax : n.toNat ≤ 64)
    (hfit : off.toNat + n.toNat ≤ 256) (hpage : page.toNat ≠ 0x0E) :
    Completes (.svcRead false tag page off n) s fun d => (∀ r : Reg, d.rd r = s.dev.rd r) ∧
      d.upd.resp = some ⟨2, tag.toNat,
        0 :: (List.range n.toNat).map fun i => s.dev.readByte page.toNat (off.toNat + i)⟩ := by
  refine completes_svc hp hserve (f := fun d => d.svcRead false tag page.toNat off.toNat n.toNat) rfl ?_
  have hok : ¬(n.toNat = 0 || 64 < n.toNat || 256 < off.toNat + n.toNat) = true := by simp; omega
  simp only [Device.svcRead]
  rw [if_neg hok, Device.readBytes_plain _ hpage hfit]
  exact ⟨fun _ => rfl, rfl⟩

theorem svcRead_refuses (page off n : BitVec 8) (hn : n.toNat = 0 ∨ 64 < n.toNat ∨ 256 < off.toNat + n.toNat) :
    Completes (.svcRead false tag page off n) s fun d => (∀ r : Reg, d.rd r = s.dev.rd r) ∧
      d.upd.resp = some ⟨2, tag.toNat, [resBadRange]⟩ := by
  refine completes_svc hp hserve (f := fun d => d.svcRead false tag page.toNat off.toNat n.toNat) rfl ?_
  simp only [Device.svcRead]
  rw [if_pos (by simpa [or_assoc] using hn)]
  exact ⟨fun _ => rfl, rfl⟩

theorem svcWrite_unmaintained (page off : BitVec 8) (bytes : List (BitVec 8)) (hm : s.dev.maint = false) :
    Completes (.svcWrite false tag page off bytes) s fun d => (∀ r : Reg, d.rd r = s.dev.rd r) ∧
      d.upd.resp = some ⟨3, tag.toNat, [resNotMaint]⟩ := by
  refine completes_svc hp hserve
    (f := fun d => d.svcWrite false tag page.toNat off.toNat (bytes.map BitVec.toNat)) rfl ?_
  simp only [Device.svcWrite]
  rw [if_pos (by simp [hm])]
  exact ⟨fun _ => rfl, rfl⟩

theorem svcWrite_writes (page off : BitVec 8) (bytes : List (BitVec 8)) (hm : s.dev.maint = true)
    (hfit : writeFits .service off.toNat bytes.length = true) :
    Completes (.svcWrite false tag page off bytes) s fun d => d.upd.resp = some ⟨3, tag.toNat, [resOk]⟩ ∧
      ∀ r : Reg, d.rd r = (s.dev.registerWrite .service page.toNat off.toNat (bytes.map BitVec.toNat)).rd r := by
  refine completes_svc hp hserve
    (f := fun d => d.svcWrite false tag page.toNat off.toNat (bytes.map BitVec.toNat)) rfl ?_
  simp only [Device.svcWrite]
  rw [if_neg (by simp [hm]), if_neg (by simp [hfit])]
  exact ⟨rfl, fun _ => rfl⟩

/-- An edge of the service port is entered as any other (`Device.submit_enterable`). -/
theorem svcEdge_enters (e : EdgeBits) (hm : s.dev.maint = true) (he : s.dev.enterable .svc (edgeReq e.toNat)) :
    Completes (.svcEdge false tag e) s fun d => s.dev.entered d .svc (edgeReq e.toNat) ∧
      ∃ rest, d.upd.resp = some ⟨4, tag.toNat, 0 :: 0 :: rest⟩ := by
  obtain ⟨hent, hres⟩ := Device.submit_enterable he
  refine completes_svc hp hserve (f := fun d => d.svcEdge false tag e.toNat) rfl ⟨hent, ?_⟩
  simp only [Device.svcEdge]
  rw [hres, hm]
  exact ⟨_, rfl⟩

end

/-- While the core does not run, a PING changes nothing (R312). -/
theorem svcPing_unserved {s : State} (hp : s.dev.powered = true) (tag : BitVec 8) (h : s.dev.coreServes = false) :
    Completes (.svcPing false tag) s fun d => d = s.dev :=
  completes_run hp rfl (if_neg (by simp [h]))

theorem svcFrameDiscard_counts {s : State} (hp : s.dev.powered = true) :
    Completes .svcFrameDiscard s fun d => s.dev.counted d UPD.SVCERR ∧ d.upd = s.dev.upd :=
  completes_run hp (f := fun d => d.countSat UPD.SVCERR) rfl ⟨Device.rd_countSat_same _ _ _, rfl⟩

/-! ## The slots and the transfer's state -/

theorem Device.xstate_setX (d : Device) {x : Nat} (h : x < 8) : (d.setX x).xstate = x :=
  (Device.fld_setFld_same d UPD.STAT_XSTATE x (by decide)).trans (Nat.mod_eq_of_lt h)

theorem Device.fld_of_rd {d e : Device} {f : Field} (h : e.rd f.reg = d.rd f.reg) : e.fld f = d.fld f := by
  unfold Device.fld; rw [h]

theorem Device.xstate_of_rd {d e : Device} (h : e.rd UPD.STAT = d.rd UPD.STAT) : e.xstate = d.xstate :=
  Device.fld_of_rd (f := UPD.STAT_XSTATE) h

theorem Device.xrig_of_rd {d e : Device} (h : e.rd UPD.STAT = d.rd UPD.STAT) : e.xrig = d.xrig :=
  Device.flag_of_rd (f := UPD.STAT_XKIND) h

/-- The two devices find the same store: its presence and its contents. -/
structure Device.SameStore (d e : Device) : Prop where
  present : e.present = d.present
  flash : e.flash = d.flash

theorem Device.SameStore.of_rd {d e : Device} (h : e.rd STORE.STAT = d.rd STORE.STAT) (hf : e.flash = d.flash) :
    d.SameStore e := ⟨Device.flag_of_rd (f := STORE.STAT_PRESENT) h, hf⟩

theorem Device.SameStore.inactiveSlot {d e : Device} (h : d.SameStore e) (rig : Bool) :
    e.inactiveSlot rig = d.inactiveSlot rig := by
  simp only [Device.inactiveSlot, Device.activeSlot, Device.bootHdr, h.present, h.flash]

theorem Device.SameStore.flashRead {d e : Device} (h : d.SameStore e) (a n : Nat) :
    e.flashRead a n = d.flashRead a n := by
  simp only [Device.flashRead, h.flash]

theorem Device.SameStore.header {d e : Device} (h : d.SameStore e) (rig : Bool) (slot : Nat) :
    e.header rig slot = d.header rig slot := by
  simp only [Device.header, h.present, h.flashRead]

theorem Device.SameStore.compat {d e : Device} (h : d.SameStore e) (slot : Nat) : e.compat slot = d.compat slot := by
  simp only [Device.compat, h.present, h.flashRead]

theorem Device.SameStore.imageCheck {d e : Device} (h : d.SameStore e) (hotp : e.otp = d.otp) (rig : Bool) (slot : Nat) :
    e.imageCheck rig slot = d.imageCheck rig slot := by
  unfold Device.imageCheck
  dsimp only
  rw [h.header, h.compat, h.flashRead, hotp]

theorem Device.inactiveSlot_le (d : Device) (rig : Bool) : d.inactiveSlot rig ≤ 1 := Nat.sub_le _ _

/-- Two slots of two kinds have four identities. -/
theorem slotIx_lt (rig : Bool) {slot : Nat} (h : slot ≤ 1) : slotIx rig slot < 4 := by
  unfold slotIx; split <;> omega

/-! ## OPEN and CLOSE (R377, R379) -/

/-- The device as OPEN finds it once the checks have passed: the transfer's registers begin afresh. -/
def Device.openRegs (d : Device) (rig : Bool) (len : Nat) : Device :=
  ((((d.setX xErasing).setFlag UPD.STAT_XKIND rig).wr UPD.XLEN len).wr UPD.XRCV 0).wr UPD.RXMAP 0

/-- A transfer that has been opened. -/
def Device.opened (d : Device) (rig : Bool) (len : Nat) : Device :=
  (((d.openRegs rig len).wr (UPD.SLOTID (slotIx rig (d.inactiveSlot rig))) 0).modUpd fun u =>
    { u.setReady rig false with toErase := transferSectors rig len, pages := [] }).wr UPD.RES resOk

theorem Device.openRegs_flash (d : Device) (rig : Bool) (len : Nat) : (d.openRegs rig len).flash = d.flash := by
  simp [Device.openRegs, Device.setX]

theorem Device.openTransfer_opens {d : Device} {kind len : Nat} (hkind : kind < 2) (htrial : d.onTrial = false)
    (harmed : d.flag UPD.STAT_ARMED = false) (hx : d.xstate ≠ xVerifying) (hlen : lengthOk (kind == 1) len = true) :
    (d.openTransfer kind len).1 = d.opened (kind == 1) len := by
  have hslot : (d.openRegs (kind == 1) len).inactiveSlot (kind == 1) = d.inactiveSlot (kind == 1) := by
    refine (Device.SameStore.of_rd (d := d) ?_ (d.openRegs_flash _ _)).inactiveSlot _
    unfold Device.openRegs Device.setX Device.setFlag
    rw [Device.rd_wr_ne _ _ (by decide), Device.rd_wr_ne _ _ (by decide), Device.rd_wr_ne _ _ (by decide),
      Device.rd_setFld_ne _ _ (by decide), Device.rd_setFld_ne _ _ (by decide)]
  unfold Device.openTransfer
  dsimp only
  rw [if_neg (Nat.not_le.2 hkind), if_neg (by simp [htrial, harmed, hx]), if_neg (by simp [hlen])]
  unfold Device.opened
  rw [← hslot]
  rfl

@[simp] theorem Device.rd_modUpd (d : Device) (f : Upd → Upd) (r : Reg) : (d.modUpd f).rd r = d.rd r := rfl

/-- Beside the slots' identities the transfer's registers are those that OPEN begins afresh. -/
theorem Device.rd_opened (d : Device) (rig : Bool) (len : Nat) {r : Reg}
    (hr : r.addr < 0xf20 ∨ 0xf40 ≤ r.addr) (hres : UPD.RES.addr ≠ r.addr) :
    (d.opened rig len).rd r = (d.openRegs rig len).rd r := by
  have hi := slotIx_lt rig (d.inactiveSlot_le rig)
  unfold Device.opened
  rw [Device.rd_wr_ne _ _ hres, Device.rd_modUpd, Device.rd_wr_ne]
  simp only [UPD.SLOTID]
  omega

/-- What OPEN leaves: the transfer erases, and the identity of the slot that it fills is blank. -/
theorem Device.opened_erases (d : Device) (rig : Bool) {len : Nat} (hlen : len < 2 ^ 32) :
    (d.opened rig len).xstate = xErasing ∧ (d.opened rig len).xrig = rig ∧ (d.opened rig len).rd UPD.XLEN = len ∧
      (d.opened rig len).rd UPD.RXMAP = 0 ∧ (d.opened rig len).slotId rig (d.inactiveSlot rig) = 0 ∧
      (d.opened rig len).upd.toErase = transferSectors rig len := by
  have hstat : (d.opened rig len).rd UPD.STAT = ((d.setX xErasing).setFlag UPD.STAT_XKIND rig).rd UPD.STAT := by
    rw [Device.rd_opened _ _ _ (by decide) (by decide)]
    unfold Device.openRegs
    rw [Device.rd_wr_ne _ _ (by decide), Device.rd_wr_ne _ _ (by decide), Device.rd_wr_ne _ _ (by decide)]
  refine ⟨(Device.xstate_of_rd hstat).trans ?_, (Device.xrig_of_rd hstat).trans ?_, ?_, ?_, ?_, rfl⟩
  · exact (Device.fld_setFld_beside _ (f := UPD.STAT_XKIND) (g := UPD.STAT_XSTATE) _ rfl (by decide) (by decide)).trans
      (d.xstate_setX (by decide))
  · exact Device.flag_setFlag_same _ UPD.STAT_XKIND rig rfl (by decide)
  · rw [Device.rd_opened _ _ _ (by decide) (by decide)]
    unfold Device.openRegs
    rw [Device.rd_wr_ne _ _ (by decide), Device.rd_wr_ne _ _ (by decide), Device.rd_wr_same]
    exact Nat.mod_eq_of_lt hlen
  · rw [Device.rd_opened _ _ _ (by decide) (by decide)]
    unfold Device.openRegs
    rw [Device.rd_wr_same, Nat.zero_mod]
  · unfold Device.opened Device.slotId
    rw [Device.rd_wr_ne _ _ (by simp only [UPD.RES, UPD.SLOTID]; omega), Device.rd_modUpd, Device.rd_wr_same,
      Nat.zero_mod]

theorem svcOpen_opens {s : State} (hp : s.dev.powered = true) (hserve : s.dev.coreServes = true) (tag kind : BitVec 8)
    (len : BitVec 32) (hkind : kind.toNat < 2) (htrial : s.dev.onTrial = false)
    (harmed : s.dev.flag UPD.STAT_ARMED = false) (hx : s.dev.xstate ≠ xVerifying)
    (hlen : lengthOk (kind.toNat == 1) len.toNat = true) :
    let k := kind.toNat == 1
    Completes (.svcOpen false tag kind len) s fun d => d.xstate = xErasing ∧ d.xrig = k ∧ d.rd UPD.XLEN = len.toNat ∧
      d.rd UPD.RXMAP = 0 ∧ d.slotId k (s.dev.inactiveSlot k) = 0 ∧ d.upd.toErase = transferSectors k len.toNat :=
  completes_answered hp hserve (f := fun d => respondWith (d.openTransfer kind.toNat len.toNat) false 0x10 tag) rfl rfl
    (fun _ _ h => h) (Device.openTransfer_opens hkind htrial harmed hx hlen ▸ s.dev.opened_erases _ len.isLt)

/-- What a refusal leaves: its result, its event bit, and the transfer's state. -/
theorem Device.updRefused_result (d : Device) {code : Nat} (h : code < 256) :
    (d.updRefused code).1.rd UPD.RES = code ∧ (d.updRefused code).1.xstate = d.xstate ∧
      (d.updRefused code).1.flag UPD.STAT_UPD_REFUSED = true := by
  have hstat : (d.updRefused code).1.rd UPD.STAT = (d.raise UPD.STAT_UPD_REFUSED).rd UPD.STAT :=
    (Device.rd_wr_ne _ _ (by decide)).trans (Device.rd_log _ _ _ _ (by decide) (by decide))
  refine ⟨(Device.rd_wr_same _ _ _).trans (Nat.mod_eq_of_lt h), (Device.xstate_of_rd hstat).trans ?_, ?_⟩
  · exact Device.fld_setFld_beside _ (f := UPD.STAT_UPD_REFUSED) (g := UPD.STAT_XSTATE) _ rfl (by decide) (by decide)
  · exact (Device.flag_of_rd (f := UPD.STAT_UPD_REFUSED) hstat).trans (Device.flag_raise _ _ rfl (by decide))

theorem svcOpen_badLength {s : State} (hp : s.dev.powered = true) (hserve : s.dev.coreServes = true)
    (tag kind : BitVec 8) (len : BitVec 32) (hkind : kind.toNat < 2) (htrial : s.dev.onTrial = false)
    (harmed : s.dev.flag UPD.STAT_ARMED = false) (hx : s.dev.xstate ≠ xVerifying)
    (hlen : lengthOk (kind.toNat == 1) len.toNat = false) : Completes (.svcOpen false tag kind len) s fun d =>
      d.rd UPD.RES = resSize ∧ d.xstate = s.dev.xstate ∧ d.flag UPD.STAT_UPD_REFUSED = true := by
  have h : s.dev.openTransfer kind.toNat len.toNat = s.dev.updRefused resSize := by
    unfold Device.openTransfer
    dsimp only
    rw [if_neg (Nat.not_le.2 hkind), if_neg (by simp [htrial, harmed, hx]), if_pos (by simp [hlen])]
  exact completes_answered hp hserve
    (f := fun d => respondWith (d.openTransfer kind.toNat len.toNat) false 0x10 tag) rfl rfl
    (fun _ _ h => h) (h ▸ s.dev.updRefused_result (code := resSize) (by decide))

theorem svcOpen_badState {s : State} (hp : s.dev.powered = true) (hserve : s.dev.coreServes = true)
    (tag kind : BitVec 8) (len : BitVec 32) (hkind : kind.toNat < 2)
    (hstate : s.dev.onTrial = true ∨ s.dev.flag UPD.STAT_ARMED = true ∨ s.dev.xstate = xVerifying) :
    Completes (.svcOpen false tag kind len) s fun d =>
      d.rd UPD.RES = resBadState ∧ d.xstate = s.dev.xstate ∧ d.flag UPD.STAT_UPD_REFUSED = true := by
  have h : s.dev.openTransfer kind.toNat len.toNat = s.dev.updRefused resBadState := by
    unfold Device.openTransfer
    dsimp only
    rw [if_neg (Nat.not_le.2 hkind), if_pos (by simpa [or_assoc] using hstate)]
  exact completes_answered hp hserve
    (f := fun d => respondWith (d.openTransfer kind.toNat len.toNat) false 0x10 tag) rfl rfl
    (fun _ _ h => h) (h ▸ s.dev.updRefused_result (code := resBadState) (by decide))

section
variable {s : State} (hp : s.dev.powered = true) (hserve : s.dev.coreServes = true) (tag : BitVec 8)
  (hx : s.dev.xstate = xReceiving)
include hp hserve hx

theorem svcClose_verifies (hall : s.dev.received = true) :
    Completes (.svcClose false tag) s fun d => d.xstate = xVerifying ∧ d.rd UPD.RES = resBusy := by
  have h : s.dev.closeTransfer = ((s.dev.setX xVerifying).wr UPD.RES resBusy, resOk) := by
    simp [Device.closeTransfer, hx, hall]
  refine completes_answered hp hserve (f := fun d => d.svcClose false tag) rfl rfl (fun _ _ h => h)
    (e := s.dev.closeTransfer.1) ?_
  rw [h]
  exact ⟨(Device.xstate_of_rd (Device.rd_wr_ne _ _ (by decide))).trans (s.dev.xstate_setX (by decide)),
    Device.rd_wr_same _ _ _⟩

theorem svcClose_incomplete (hall : s.dev.received = false) :
    Completes (.svcClose false tag) s fun d => d.xstate = xReceiving ∧ d.rd UPD.RES = resIncomplete := by
  have h : s.dev.closeTransfer = s.dev.res resIncomplete := by simp [Device.closeTransfer, hx, hall]
  refine completes_answered hp hserve (f := fun d => d.svcClose false tag) rfl rfl (fun _ _ h => h)
    (e := s.dev.closeTransfer.1) ?_
  rw [h]
  exact ⟨(Device.xstate_of_rd (Device.rd_wr_ne _ _ (by decide))).trans hx, Device.rd_wr_same _ _ _⟩

end

end Sys2Proof.Machine

namespace Sys2Proof.Machine

/-! ## The erase of a transfer's sectors (R377) -/

/-- An energy check writes EHOLD and EREQ alone. -/
theorem Device.rd_storeEnergy (d : Device) (env : EnergyEnv) (us : Nat) {q : Reg} (hq : q.addr / 256 ≠ 0x0E) :
    (d.storeEnergy env us).2.rd q = d.rd q :=
  (Device.storeEnergy_pages (o := d) (ps := [0x0E]) d env us (by decide)).mpr (Device.onlyPages_refl d) q
    (by simpa using hq)

theorem Device.storeEnergy_sameStore (d : Device) (env : EnergyEnv) (us : Nat) : d.SameStore (d.storeEnergy env us).2 :=
  .of_rd ((Device.rd_wr_ne _ _ (by decide)).trans (Device.rd_wr_ne _ _ (by decide))) rfl

/-- Where the energy is there, the check says so. -/
theorem Device.storeEnergy_eq {d : Device} {env : EnergyEnv} {us : Nat} {ok : Bool} (h : (d.storeEnergy env us).1 = ok) :
    d.storeEnergy env us = (ok, (d.storeEnergy env us).2) := Prod.ext h rfl

theorem Store.writeDefect_flash (s : Store) (k p cause : Nat) : (s.writeDefect k p cause).flash = s.flash := rfl

theorem Device.spareCount_flash (d : Device) : d.spareCount.flash = d.flash := by simp [Device.spareCount]

/-- Retiring a sector, and the count of an erase, leave the slots' bytes. -/
theorem Device.retire_bytes (d : Device) (k cause : Nat) : (d.retire k cause).flash.flash = d.flash.flash := by
  unfold Device.retire
  split
  · simp
  · split
    · simp
    · simp [Device.spareCount_flash, Store.writeDefect_flash]

theorem Device.countErase_bytes (d : Device) (k : Nat) : (d.countErase k).flash.flash = d.flash.flash := by
  have hmust : ∀ (e : Device) (c : Nat), (e.mustRetire k c).flash.flash = e.flash.flash := fun e c => by
    unfold Device.mustRetire
    split
    · exact e.retire_bytes k c
    · rfl
  unfold Device.countErase
  dsimp only
  split
  · rw [hmust]; rfl
  · rfl

/-- Sector `b` of a slot is counted and erased. -/
def Device.eraseSector (rig : Bool) (slot : Nat) (d : Device) (b : Nat) : Device :=
  (d.countErase (blockSector rig slot b)).flashErase (slotBase rig slot + b * sectorBytes) sectorBytes

theorem Device.eraseSector_bytes (rig : Bool) (slot : Nat) (d : Device) (b : Nat) :
    (d.eraseSector rig slot b).flash.flash =
      Bytes.erase d.flash.flash (slotBase rig slot + b * sectorBytes) sectorBytes :=
  congrArg (Bytes.erase · _ _) (d.countErase_bytes _)

/-- An address lies in one of the sectors of a list, counted from `base`. -/
def inSectors (base : Nat) (l : List Nat) (a : Nat) : Prop :=
  ∃ b ∈ l, base + b * sectorBytes ≤ a ∧ a < base + (b + 1) * sectorBytes

/-- Sectors erased one after another read 0xFF; every other byte stays. -/
theorem Device.eraseSectors_bytes (rig : Bool) (slot a : Nat) : ∀ (l : List Nat) (d : Device),
    (inSectors (slotBase rig slot) l a →
      byteIn (d.each l (Device.eraseSector rig slot)).flash.flash a = 0xFF) ∧
    (¬ inSectors (slotBase rig slot) l a →
      byteIn (d.each l (Device.eraseSector rig slot)).flash.flash a = byteIn d.flash.flash a)
  | [], d => ⟨fun ⟨_, h, _⟩ => (List.not_mem_nil h).elim, fun _ => rfl⟩
  | b :: l, d => by
    obtain ⟨hin, hout⟩ := Device.eraseSectors_bytes rig slot a l (d.eraseSector rig slot b)
    rw [Device.eraseSector_bytes] at hout
    change (_ → byteIn ((d.eraseSector rig slot b).each l _).flash.flash a = _) ∧
      (_ → byteIn ((d.eraseSector rig slot b).each l _).flash.flash a = _)
    have hend : slotBase rig slot + (b + 1) * sectorBytes = slotBase rig slot + b * sectorBytes + sectorBytes := by ring
    by_cases hl : inSectors (slotBase rig slot) l a
    · obtain ⟨c, hc, hr⟩ := hl
      exact ⟨fun _ => hin ⟨c, hc, hr⟩, fun h => (h ⟨c, .tail _ hc, hr⟩).elim⟩
    · rw [hout hl]
      constructor
      · rintro ⟨c, hc, hr⟩
        obtain rfl | hc := List.mem_cons.1 hc
        · exact Bytes.erase_in _ hr.1 (by omega)
        · exact (hl ⟨c, hc, hr⟩).elim
      · intro h
        refine Bytes.erase_out _ ?_
        by_contra hr
        exact h ⟨b, .head _, by omega, by omega⟩

/-- The erases as they are done once the energy is there. -/
theorem Device.eraseDone_erases {d : Device} {env : EnergyEnv} (hserve : d.coreServes = true)
    (hx : d.xstate = xErasing) (hpres : d.present = true) (hidle : d.storeIdle = true)
    (hok : (d.storeEnergy env d.flash.tErase).1 = true) : d.eraseDone env =
      ((((d.storeEnergy env d.flash.tErase).2.each d.upd.toErase
        (Device.eraseSector d.xrig (d.inactiveSlot d.xrig))).modUpd fun u => { u with toErase := [] }).setX xReceiving) := by
  have hrig : (d.storeEnergy env d.flash.tErase).2.xrig = d.xrig := Device.xrig_of_rd (d.rd_storeEnergy env _ (by decide))
  unfold Device.eraseDone
  rw [if_neg (by simp [hserve, hx, hpres, hidle]), Device.storeEnergy_eq hok]
  dsimp only
  rw [hrig, (d.storeEnergy_sameStore env _).inactiveSlot]
  rfl

theorem Device.memoryWf.flash {d : Device} (h : d.memoryWf = true) : Memory.wf d.flash.flash = true := by
  simp only [Device.memoryWf, Bool.and_eq_true] at h
  exact h.1.1

theorem transferEraseDone_erases {s : State} (hp : s.dev.powered = true) (hserve : s.dev.coreServes = true)
    (env : EnergyEnv) (hx : s.dev.xstate = xErasing) (hpres : s.dev.present = true) (hidle : s.dev.storeIdle = true)
    (hok : (s.dev.storeEnergy env s.dev.flash.tErase).1 = true) (hwf : s.dev.memoryWf = true) :
    let base := slotBase s.dev.xrig (s.dev.inactiveSlot s.dev.xrig)
    Completes (.transferEraseDone env) s fun d => d.xstate = xReceiving ∧
      ∀ a, (inSectors base s.dev.upd.toErase a → d.flashRead a 1 = [0xFF]) ∧
        (¬ inSectors base s.dev.upd.toErase a → d.flashRead a 1 = s.dev.flashRead a 1) := by
  intro base
  have hflash := Device.memoryWf.flash hwf
  have hwfE : Memory.wf (s.dev.eraseDone env).flash.flash = true := by
    rw [Device.eraseDone_erases hserve hx hpres hidle hok]
    refine Device.each_keeps (P := fun d => Memory.wf d.flash.flash = true) (fun d b h => ?_) _ _ hflash
    rw [Device.eraseSector_bytes]
    exact Bytes.erase_wf _ _ h
  refine completes_run (f := fun d => d.eraseDone env) hp rfl ⟨?_, fun a => ?_⟩
  · rw [Device.eraseDone_erases hserve hx hpres hidle hok]
    exact Device.xstate_setX _ (by decide)
  · obtain ⟨hin, hout⟩ := Device.eraseSectors_bytes s.dev.xrig (s.dev.inactiveSlot s.dev.xrig) a s.dev.upd.toErase
      (s.dev.storeEnergy env s.dev.flash.tErase).2
    rw [flashRead_byte hwfE, flashRead_byte hflash, Device.eraseDone_erases hserve hx hpres hidle hok]
    exact ⟨fun h => congrArg (fun b => [b]) (hin h), fun h => congrArg (fun b => [b]) (hout h)⟩

/-! ## DATA (R378) -/

/-- Marking a block complete writes RXMAP alone. -/
theorem Device.markBlock_eq (d : Device) (off : Nat) : ∃ x, d.markBlock off = d ∨ d.markBlock off = d.wr UPD.RXMAP x := by
  unfold Device.markBlock
  dsimp only
  split
  · exact ⟨_, .inr rfl⟩
  · exact ⟨0, .inl rfl⟩

theorem Device.rd_markBlock (d : Device) (off : Nat) {q : Reg} (hq : UPD.RXMAP.addr ≠ q.addr) :
    (d.markBlock off).rd q = d.rd q := by
  obtain ⟨x, h | h⟩ := d.markBlock_eq off
  · rw [h]
  · rw [h, Device.rd_wr_ne _ _ hq]

theorem Device.markBlock_flash (d : Device) (off : Nat) : (d.markBlock off).flash = d.flash := by
  obtain ⟨x, h | h⟩ := d.markBlock_eq off <;> rw [h]; rfl

/-- The bytes of a frame in the slot, and their count, before the blocks they complete are marked. -/
def Device.programmed (d : Device) (off : Nat) (data : List Nat) : Device :=
  ((d.flashWrite (slotBase d.xrig (d.inactiveSlot d.xrig) + off) data).modUpd fun u =>
    { u with pages := pagesOf off data.length ++ u.pages }).count UPD.XRCV data.length

theorem Device.receiveData_programs {d : Device} {off : Nat} {data : List Nat} {env : EnergyEnv}
    (hx : d.xstate = xReceiving) (hframe : frameOk (d.rd UPD.XLEN) off data.length = true)
    (hnew : (pagesOf off data.length).all d.upd.pages.contains = false)
    (hok : (d.storeEnergy env d.flash.tProg).1 = true) (hpres : d.present = true) :
    d.receiveData off data env =
      (((d.storeEnergy env d.flash.tProg).2.programmed off data).markBlock off).res resOk := by
  have hpres' : (d.storeEnergy env d.flash.tProg).2.present = true := (d.storeEnergy_sameStore env _).present.trans hpres
  unfold Device.receiveData
  dsimp only
  rw [if_neg (by simp [hx, hframe]), if_neg (by simp [hnew]), Device.storeEnergy_eq hok]
  dsimp only
  rw [if_neg (by simp [hpres'])]
  rfl

theorem Device.receiveData_done {d : Device} {off : Nat} {data : List Nat} {env : EnergyEnv}
    (hx : d.xstate = xReceiving) (hframe : frameOk (d.rd UPD.XLEN) off data.length = true)
    (hnew : (pagesOf off data.length).all d.upd.pages.contains = false)
    (hok : (d.storeEnergy env d.flash.tProg).1 = true) (hpres : d.present = true) :
    (d.receiveData off data env).1.rd UPD.RES = resOk ∧
      (d.receiveData off data env).1.rd UPD.XRCV = (d.rd UPD.XRCV + data.length) % 2 ^ 32 ∧
      (d.receiveData off data env).1.flash.flash =
        Bytes.write d.flash.flash (slotBase d.xrig (d.inactiveSlot d.xrig) + off) data := by
  have hsame := d.storeEnergy_sameStore env d.flash.tProg
  have hrd : ∀ q : Reg, q.addr / 256 ≠ 0x0E → (d.storeEnergy env d.flash.tProg).2.rd q = d.rd q :=
    fun q hq => d.rd_storeEnergy env _ hq
  rw [Device.receiveData_programs hx hframe hnew hok hpres]
  generalize (d.storeEnergy env d.flash.tProg).2 = e at hsame hrd
  refine ⟨Device.rd_wr_same _ _ _, ?_, ?_⟩
  · refine (Device.rd_wr_ne _ _ (by decide)).trans ((Device.rd_markBlock _ _ (by decide)).trans ?_)
    rw [← hrd UPD.XRCV (by decide)]
    exact Device.rd_count_same _ _ _
  · rw [← hsame.flash, ← hsame.inactiveSlot, ← Device.xrig_of_rd (hrd UPD.STAT (by decide))]
    exact congrArg Store.flash ((e.programmed off data).markBlock_flash off)

theorem Device.receiveData_short {d : Device} {off : Nat} {data : List Nat} {env : EnergyEnv}
    (hx : d.xstate = xReceiving) (hframe : frameOk (d.rd UPD.XLEN) off data.length = true)
    (hnew : (pagesOf off data.length).all d.upd.pages.contains = false)
    (hok : (d.storeEnergy env d.flash.tProg).1 = false) :
    d.receiveData off data env = (d.storeEnergy env d.flash.tProg).2.res resEnergy := by
  unfold Device.receiveData
  dsimp only
  rw [if_neg (by simp [hx, hframe]), if_neg (by simp [hnew]), Device.storeEnergy_eq hok]
  rfl

section
variable {s : State} (hp : s.dev.powered = true) (hserve : s.dev.coreServes = true) (tag : BitVec 8)
  (off : BitVec 32) (data : List (BitVec 8)) (env : EnergyEnv) (hx : s.dev.xstate = xReceiving)
  (hframe : frameOk (s.dev.rd UPD.XLEN) off.toNat data.length = true)
  (hnew : (pagesOf off.toNat data.length).all s.dev.upd.pages.contains = false)
include hp hserve hx hframe hnew

theorem svcData_programs (hok : (s.dev.storeEnergy env s.dev.flash.tProg).1 = true) (hpres : s.dev.present = true)
    (hwf : s.dev.memoryWf = true) :
    let at_ := slotBase s.dev.xrig (s.dev.inactiveSlot s.dev.xrig) + off.toNat
    Completes (.svcData false tag off data env) s fun d => d.rd UPD.RES = resOk ∧
      d.rd UPD.XRCV = (s.dev.rd UPD.XRCV + data.length) % 2 ^ 32 ∧
      (∀ i, i < data.length → d.flashRead (at_ + i) 1 = [(data.getD i 0).toNat]) ∧
      ∀ a, (a < at_ ∨ at_ + data.length ≤ a) → d.flashRead a 1 = s.dev.flashRead a 1 := by
  intro at_
  have hlen : (data.map BitVec.toNat).length = data.length := List.length_map _
  obtain ⟨hres, hcount, hbytes⟩ := Device.receiveData_done hx (hlen ▸ hframe) (hlen ▸ hnew) hok hpres
  have hflash := Device.memoryWf.flash hwf
  refine completes_answered hp hserve
    (f := fun d => respondWith (d.receiveData off.toNat (data.map BitVec.toNat) env) false 0x11 tag) rfl rfl
    (fun _ _ h => h) (e := (s.dev.receiveData off.toNat (data.map BitVec.toNat) env).1) ?_
  generalize (s.dev.receiveData off.toNat (data.map BitVec.toNat) env).1 = t at hres hcount hbytes ⊢
  have hwft : Memory.wf t.flash.flash = true := hbytes ▸ Bytes.write_wf _ _ hflash
  refine ⟨hres, hlen ▸ hcount, fun i hi => ?_, fun a ha => ?_⟩
  · rw [flashRead_byte hwft, hbytes, Bytes.write_in _ (by omega)]
    simpa [hi] using (data[i]).isLt
  · rw [flashRead_byte hwft, hbytes, Bytes.write_out _ (by omega), flashRead_byte hflash]

theorem svcData_short (hok : (s.dev.storeEnergy env s.dev.flash.tProg).1 = false) :
    Completes (.svcData false tag off data env) s fun d => d.rd UPD.RES = resEnergy ∧ d.flash.flash = s.dev.flash.flash := by
  have hlen : (data.map BitVec.toNat).length = data.length := List.length_map _
  have hres : s.dev.receiveData off.toNat (data.map BitVec.toNat) env =
      (s.dev.storeEnergy env s.dev.flash.tProg).2.res resEnergy :=
    Device.receiveData_short hx (by rw [hlen]; exact hframe) (by rw [hlen]; exact hnew) hok
  refine completes_answered hp hserve
    (f := fun d => respondWith (d.receiveData off.toNat (data.map BitVec.toNat) env) false 0x11 tag) rfl rfl
    (fun _ _ h => h) (e := (s.dev.receiveData off.toNat (data.map BitVec.toNat) env).1) ?_
  rw [hres]
  exact ⟨Device.rd_wr_same _ _ _, 
    congrArg Store.flash (s.dev.storeEnergy_sameStore env s.dev.flash.tProg).flash⟩

end

/-! ## The end of a verification (R379) -/

/-- A check of an image leaves the store, the OTP array and the transfer, and takes nothing from the log. -/
structure Device.Checked (d e : Device) : Prop where
  store : d.SameStore e
  otp : e.otp = d.otp
  stat : e.rd UPD.STAT = d.rd UPD.STAT
  events : d.events <+: e.events

theorem Device.authenticate_checked (d : Device) (rig : Bool) (slot : Nat) : d.Checked (d.authenticate rig slot).1 := by
  have hp : d.onlyPages [0x0D, 0x11] (d.authenticate rig slot).1 :=
    (Device.authenticate_pages d rig slot (by decide) (by decide)).mpr (Device.onlyPages_refl d)
  have hrest : (d.authenticate rig slot).1.flash = d.flash ∧ (d.authenticate rig slot).1.otp = d.otp ∧
      d.events <+: (d.authenticate rig slot).1.events := by
    unfold Device.authenticate
    dsimp only
    (repeat' split) <;> simp [Device.log_events]
  obtain ⟨hflash, hotp, hevents⟩ := hrest
  exact ⟨.of_rd (hp STORE.STAT (by decide)) hflash, hotp, hp UPD.STAT (by decide), hevents⟩

/-- An image that passed: its trailer, its identity and its state. -/
def Device.imageTaken (d : Device) (rig : Bool) (slot : Nat) (h : List Nat) : Device :=
  (((((d.putTrailer rig slot).setX xReady).wr (UPD.SLOTID (slotIx rig slot)) (hImgid h)).wr
    (UPD.SLOTVER (slotIx rig slot)) (hVersion h)).modUpd fun u => u.setReady rig true).wr UPD.RES resOk

theorem eq_pair_of_snd {α β : Type} {p : α × β} {b : β} (h : p.2 = b) : p = (p.1, b) := Prod.ext rfl h

section
variable {d : Device} {rig : Bool} {slot : Nat} (hserve : d.coreServes = true) (hx : d.xstate = xVerifying)
  (hrig : d.xrig = rig) (hslot : d.inactiveSlot rig = slot)
include hserve hx hrig hslot

theorem Device.verifyDone_passed (hreason : d.authReason rig slot = 0) (himage : d.imageCheck rig slot = none) :
    d.verifyDone = (((d.authenticate rig slot).1.imageTaken rig slot (d.header rig slot)).raise
      UPD.STAT_UPD_IMAGE_OK).log Ev.UPD_IMAGE_OK [rig.toNat, hImgid (d.header rig slot)] := by
  have hc := d.authenticate_checked rig slot
  have hauth : d.authenticate rig slot = ((d.authenticate rig slot).1, true) :=
    eq_pair_of_snd (by rw [d.authenticate_snd, hreason]; rfl)
  unfold Device.verifyDone
  rw [if_neg (by simp [hserve, hx])]
  dsimp only
  rw [hrig, hslot, hauth]
  dsimp only
  rw [if_neg (by decide), hc.store.imageCheck hc.otp, himage]
  dsimp only
  rw [hc.store.header]
  rfl

theorem Device.verifyDone_rejected (hreason : d.authReason rig slot ≠ 0) :
    d.verifyDone = (d.authenticate rig slot).1.imageBad resAuth := by
  have hauth : d.authenticate rig slot = ((d.authenticate rig slot).1, false) :=
    eq_pair_of_snd ((d.authenticate_snd rig slot).trans (decide_eq_false hreason))
  unfold Device.verifyDone
  rw [if_neg (by simp [hserve, hx])]
  dsimp only
  rw [hrig, hslot, hauth]
  rfl

end

theorem Device.putTrailer_events (d : Device) (rig : Bool) (slot : Nat) : (d.putTrailer rig slot).events = d.events := by
  unfold Device.putTrailer
  refine Device.each_same (fun d : Device => d.events) (fun _ _ => ?_) _ d
  rfl

theorem Upd.ready_setReady (u : Upd) (rig b : Bool) : (u.setReady rig b).ready rig = b := by cases rig <;> rfl

/-- An image that passed is READY, and its slot carries its identity. -/
theorem Device.imageTaken_takes (d : Device) (rig : Bool) {slot : Nat} (h : List Nat) (hslot : slot ≤ 1) :
    (d.imageTaken rig slot h).xstate = xReady ∧ (d.imageTaken rig slot h).upd.ready rig = true ∧
      (d.imageTaken rig slot h).slotId rig slot = hImgid h % 2 ^ 32 ∧ (d.imageTaken rig slot h).events = d.events := by
  have hi := slotIx_lt rig hslot
  have hid : UPD.STAT.addr < (UPD.SLOTID (slotIx rig slot)).addr := by simp only [UPD.STAT, UPD.SLOTID]; omega
  have hver : (UPD.SLOTID (slotIx rig slot)).addr < (UPD.SLOTVER (slotIx rig slot)).addr := by
    simp only [UPD.SLOTID, UPD.SLOTVER]; omega
  have hstat : (d.imageTaken rig slot h).rd UPD.STAT = ((d.putTrailer rig slot).setX xReady).rd UPD.STAT := by
    unfold Device.imageTaken
    rw [Device.rd_wr_ne _ _ (by decide), Device.rd_modUpd, Device.rd_wr_ne _ _ (by omega), Device.rd_wr_ne _ _ (by omega)]
  refine ⟨(Device.xstate_of_rd hstat).trans (Device.xstate_setX _ (by decide)), ?_, ?_, ?_⟩
  · simp [Device.imageTaken, Upd.ready_setReady]
  · unfold Device.imageTaken Device.slotId
    rw [Device.rd_wr_ne _ _ (by simp only [UPD.RES, UPD.SLOTID]; omega), Device.rd_modUpd,
      Device.rd_wr_ne _ _ (by omega)]
    exact Device.rd_wr_same _ _ _
  · simp [Device.imageTaken, Device.setX, Device.putTrailer_events]

theorem Device.imageBad_fails {o d : Device} (h : o.events <+: d.events) {code : Nat} (hc : code < 256) :
    (d.imageBad code).xstate = xFailed ∧ (d.imageBad code).rd UPD.RES = code ∧
      o.reported (d.imageBad code) Ev.UPD_IMAGE_BAD [d.xrig.toNat, code] := by
  have hrd : ∀ q : Reg, q.addr = UPD.STAT.addr ∨ q.addr = UPD.RES.addr → (d.imageBad code).rd q =
      (((d.setX xFailed).wr UPD.RES code).raise UPD.STAT_UPD_IMAGE_BAD).rd q := fun q hq => by
    refine Device.rd_log _ _ _ _ ?_ ?_ <;> rcases hq with h | h <;> rw [h] <;> decide
  refine ⟨?_, ?_, Device.reported_log (by simpa [Device.setX] using h) _ _⟩
  · refine (Device.xstate_of_rd (hrd _ (.inl rfl))).trans ?_
    refine (Device.fld_setFld_beside _ (f := UPD.STAT_UPD_IMAGE_BAD) (g := UPD.STAT_XSTATE) _ rfl (by decide)
      (by decide)).trans ?_
    exact (Device.xstate_of_rd (Device.rd_wr_ne _ _ (by decide))).trans (d.xstate_setX (by decide))
  · refine (hrd _ (.inr rfl)).trans ((Device.rd_raise_ne _ (by decide)).trans ?_)
    exact (Device.rd_wr_same _ _ _).trans (Nat.mod_eq_of_lt hc)

/-- The report of an image that passed leaves its state and identity. -/
theorem Device.imageOk_reports {o d : Device} (h : o.events <+: d.events) (args : List Nat) :
    let e := (d.raise UPD.STAT_UPD_IMAGE_OK).log Ev.UPD_IMAGE_OK args
    e.xstate = d.xstate ∧ e.upd = d.upd ∧ (∀ rig slot, e.slotId rig slot = d.slotId rig slot) ∧
      o.reported e Ev.UPD_IMAGE_OK args := by
  have hrd : ∀ q : Reg, 0xf00 ≤ q.addr →
      ((d.raise UPD.STAT_UPD_IMAGE_OK).log Ev.UPD_IMAGE_OK args).rd q = (d.raise UPD.STAT_UPD_IMAGE_OK).rd q := fun q hq =>
    Device.rd_log _ _ _ _ (by simp only [RING.RSTAT]; omega) (by simp only [RING.EVDROPCNT]; omega)
  refine ⟨(Device.xstate_of_rd (hrd UPD.STAT (by decide))).trans ?_, by simp, fun rig slot => ?_,
    Device.reported_log (by simpa using h) _ _⟩
  · exact Device.fld_setFld_beside _ (f := UPD.STAT_UPD_IMAGE_OK) (g := UPD.STAT_XSTATE) _ rfl (by decide) (by decide)
  · unfold Device.slotId
    rw [hrd _ (by simp only [UPD.SLOTID]; omega), Device.rd_raise_ne _ (by simp only [UPD.STAT, UPD.SLOTID]; omega)]

theorem verifyDone_passes {s : State} (hp : s.dev.powered = true) (hserve : s.dev.coreServes = true)
    (hx : s.dev.xstate = xVerifying) :
    let rig := s.dev.xrig
    let slot := s.dev.inactiveSlot rig
    s.dev.authReason rig slot = 0 → s.dev.imageCheck rig slot = none → Completes .verifyDone s fun d =>
      d.xstate = xReady ∧ d.upd.ready rig = true ∧ d.slotId rig slot = hImgid (s.dev.header rig slot) % 2 ^ 32 ∧
      s.dev.reported d Ev.UPD_IMAGE_OK [rig.toNat, hImgid (s.dev.header rig slot)] := by
  intro rig slot hreason himage
  have hc := s.dev.authenticate_checked rig slot
  obtain ⟨hstate, hready, hid, hevents⟩ := (s.dev.authenticate rig slot).1.imageTaken_takes rig
    (s.dev.header rig slot) (s.dev.inactiveSlot_le rig)
  have hlog := hc.events
  rw [← hevents] at hlog
  obtain ⟨hxstate, hupd, hslotId, hrep⟩ := Device.imageOk_reports hlog [rig.toNat, hImgid (s.dev.header rig slot)]
  refine completes_run (f := Device.verifyDone) hp rfl ?_
  rw [Device.verifyDone_passed hserve hx rfl rfl hreason himage]
  exact ⟨hxstate.trans hstate, hupd.symm ▸ hready, (hslotId rig slot).trans hid, hrep⟩

theorem verifyDone_fails {s : State} (hp : s.dev.powered = true) (hserve : s.dev.coreServes = true)
    (hx : s.dev.xstate = xVerifying) :
    let rig := s.dev.xrig
    let slot := s.dev.inactiveSlot rig
    s.dev.authReason rig slot ≠ 0 → Completes .verifyDone s fun d =>
      d.xstate = xFailed ∧ d.rd UPD.RES = resAuth ∧ s.dev.reported d Ev.UPD_IMAGE_BAD [rig.toNat, resAuth] := by
  intro rig slot hreason
  have hc := s.dev.authenticate_checked rig slot
  refine completes_run (f := Device.verifyDone) hp rfl ?_
  rw [Device.verifyDone_rejected hserve hx rfl rfl hreason]
  have h := Device.imageBad_fails hc.events (code := resAuth) (by decide)
  rwa [Device.xrig_of_rd hc.stat] at h

/-- Settles O58: a lemma for each clause. -/
theorem servicePort : Obligations.ServicePort :=
  ⟨fun _ tag hp => ⟨fun hserve => ⟨svcPing_answers hp hserve tag, svcPing_silent hp hserve tag,
      svcStatus_answers hp hserve tag,
      fun page off n => ⟨svcRead_answers hp hserve tag page off n, svcRead_refuses hp hserve tag page off n⟩,
      fun page off bytes => ⟨svcWrite_unmaintained hp hserve tag page off bytes,
        svcWrite_writes hp hserve tag page off bytes⟩,
      svcEdge_enters hp hserve tag⟩,
    svcPing_unserved hp tag, svcFrameDiscard_counts hp⟩,
  fun _ tag hp hserve => ⟨fun kind len hkind => ⟨fun htrial harmed hx =>
        ⟨svcOpen_opens hp hserve tag kind len hkind htrial harmed hx,
          svcOpen_badLength hp hserve tag kind len hkind htrial harmed hx⟩,
      svcOpen_badState hp hserve tag kind len hkind⟩,
    transferEraseDone_erases hp hserve,
    fun off data env hx hframe hnew => ⟨svcData_programs hp hserve tag off data env hx hframe hnew,
      svcData_short hp hserve tag off data env hx hframe hnew⟩,
    fun hx => ⟨svcClose_verifies hp hserve tag hx, svcClose_incomplete hp hserve tag hx⟩,
    fun hx => ⟨verifyDone_passes hp hserve hx, verifyDone_fails hp hserve hx⟩⟩⟩

end Sys2Proof.Machine

namespace Sys2Proof.Machine

/-! ## What falls due to the journal (R109, R243, R346) -/

/-- What falls due joins the queue of the journal, each part with the present tide. -/
@[simp] theorem Device.journalDue_ready (d : Device) (bs : List RecBody) :
    (d.journalDue bs).flash.ready = d.flash.ready ++ bs.map fun b => (b, d.now) := rfl

theorem counterJournal_queues {s : State} (hp : s.dev.powered = true) (hcore : s.dev.coreRuns = true)
    (hpend : s.dev.flag CNT.JSTAT_PENDING = true) : Completes .counterJournal s fun d =>
      d.flash.ready = s.dev.flash.ready ++ ((List.range 3).map s.dev.counterPart).map (fun b => (b, s.dev.now)) ∧
        d.flag CNT.JSTAT_PENDING = false := by
  refine completes_run (f := Device.counterJournal) hp rfl ?_
  unfold Device.counterJournal
  rw [if_neg (by simp [hcore, hpend])]
  exact ⟨rfl, Device.flag_lower _ CNT.JSTAT_PENDING rfl (by decide)⟩

theorem latencyJournal_queues {s : State} (hp : s.dev.powered = true) (hcore : s.dev.coreRuns = true)
    (hdue : s.dev.flash.latDue = true ∨ (s.dev.inRun = true ∧ s.dev.flash.latAt + 600 * second ≤ s.dev.now)) :
    Completes .latencyJournal s fun d =>
      d.flash.ready = s.dev.flash.ready ++ ((List.range 54).map s.dev.latencyGroup).map (fun b => (b, s.dev.now)) ∧
        d.flash.latAt = s.dev.now := by
  refine completes_run (f := Device.latencyJournal) hp rfl ?_
  unfold Device.latencyJournal
  rw [if_neg (by simp [hcore]), if_pos (by simpa only [Bool.or_eq_true, Bool.and_eq_true, decide_eq_true_eq] using hdue)]
  exact ⟨rfl, rfl⟩

theorem clockJournal_queues {s : State} (hp : s.dev.powered = true) (hcore : s.dev.coreRuns = true)
    (hdue : s.dev.flash.clockDue = true ∨ s.dev.flash.clockAt + 3600 * second ≤ s.dev.now) :
    Completes .clockJournal s fun d =>
      d.flash.ready = s.dev.flash.ready ++ [s.dev.clockPart].map (fun b => (b, s.dev.now)) ∧
        d.flash.clockAt = s.dev.now := by
  refine completes_run (f := Device.clockJournal) hp rfl ?_
  unfold Device.clockJournal
  rw [if_neg (by simp [hcore]), if_pos (by simpa only [Bool.or_eq_true, decide_eq_true_eq] using hdue)]
  exact ⟨rfl, rfl⟩

/-! ## Clearing counters (R243, R245) -/

/-- R245: six counters of two bytes open the sixteen bytes of each target. -/
theorem cntReg_addr {i : Nat} {r : Reg} (h : cntReg i = some r) :
    i < 60 ∧ r.addr = 0x1300 + 2 * (i % 6) + 0x10 * (i / 6) := by
  unfold cntReg at h
  simp only [Option.ite_none_right_eq_some, Option.some.injEq] at h
  obtain ⟨hj, rfl⟩ := h
  refine ⟨by omega, ?_⟩
  have hlt : i % 6 < 6 := Nat.mod_lt _ (by decide)
  generalize i % 6 = m at hlt ⊢
  interval_cases m <;> rfl

theorem cntReg_addr_ne {i k : Nat} {r q : Reg} (hi : cntReg i = some r) (hk : cntReg k = some q) (h : i ≠ k) :
    r.addr ≠ q.addr := by
  obtain ⟨-, hr⟩ := cntReg_addr hi
  obtain ⟨-, hq⟩ := cntReg_addr hk
  omega

/-- Counter `i` of page CNT set to 0, as a clear sets it. -/
def Device.cntZero (d : Device) (i : Nat) : Device := (cntReg i).elim d fun r => d.wr r 0

theorem Device.rd_cntZero (d : Device) (i : Nat) {k : Nat} {r : Reg} (hk : cntReg k = some r) :
    (d.cntZero i).rd r = if i = k then 0 else d.rd r := by
  unfold Device.cntZero
  by_cases h : i = k
  · subst h
    simp [hk, Device.rd_wr_same]
  · rw [if_neg h]
    cases hi : cntReg i with
    | none => rfl
    | some q => exact d.rd_wr_ne 0 (cntReg_addr_ne hi hk h)

/-- Of counters set to 0 one after another, those of the list read 0 and the others as before. -/
theorem Device.rd_each_cntZero {k : Nat} {r : Reg} (hk : cntReg k = some r) (l : List Nat) (d : Device) :
    (d.each l Device.cntZero).rd r = if k ∈ l then 0 else d.rd r := by
  induction l generalizing d with
  | nil => rfl
  | cons i t ih =>
    refine (ih (d.cntZero i)).trans ?_
    rw [d.rd_cntZero i hk]
    by_cases ht : k ∈ t <;> simp [ht, eq_comm (a := k)]

/-- Counter `i` is selected by both masks of a value written to CNT.CLR. -/
def cntSelected (v i : Nat) : Bool := v.testBit (i / 6) && v.testBit (10 + i % 6)

/-- A clear that selects a counter writes 0 to those selected and calls for the journal. -/
theorem Device.cntClear_selected (d : Device) {v : Nat} (h : ∃ i < 60, cntSelected v i = true) :
    ∃ g, d.cntClear v = ((d.each ((List.range 60).filter (cntSelected v)) Device.cntZero).raise
      CNT.JSTAT_PENDING).modStore g := by
  obtain ⟨i, hi, hv⟩ := h
  refine ⟨_, if_neg fun he => ?_⟩
  exact List.filter_eq_nil_iff.1 (List.isEmpty_iff.1 he) i (List.mem_range.2 hi) hv

theorem Device.cntClear_reads (d : Device) {v : Nat} (h : ∃ i < 60, cntSelected v i = true) :
    (d.cntClear v).flag CNT.JSTAT_PENDING = true ∧
      ∀ i r, cntReg i = some r → (d.cntClear v).rd r = if cntSelected v i then 0 else d.rd r := by
  obtain ⟨g, hg⟩ := d.cntClear_selected h
  rw [hg]
  refine ⟨Device.flag_raise _ CNT.JSTAT_PENDING rfl (by decide), fun i r hr => ?_⟩
  obtain ⟨hi, haddr⟩ := cntReg_addr hr
  calc _ = (d.each ((List.range 60).filter (cntSelected v)) Device.cntZero).rd r :=
        Device.rd_raise_ne _ (by simp only [CNT.JSTAT]; omega)
    _ = _ := by simp [Device.rd_each_cntZero hr, hi]

theorem cntClr_clears {s : State} (hp : s.dev.powered = true) {w : Writer} (v : BitVec 16) (hw : s.dev.admits w)
    (h : ∃ i, i < 60 ∧ v.getLsbD (i / 6) = true ∧ v.getLsbD (10 + i % 6) = true) :
    Completes (.cntClr w v) s fun d => d.flag CNT.JSTAT_PENDING = true ∧ ∀ i r, i < 60 → cntReg i = some r →
      d.rd r = if v.getLsbD (i / 6) && v.getLsbD (10 + i % 6) then 0 else s.dev.rd r := by
  have hsel : ∀ i, cntSelected v.toNat i = (v.getLsbD (i / 6) && v.getLsbD (10 + i % 6)) := fun i => by
    simp only [cntSelected, BitVec.testBit_toNat]
  obtain ⟨hpend, hrd⟩ := s.dev.cntClear_reads (v := v.toNat) (by simpa only [hsel, Bool.and_eq_true] using h)
  refine completes_write hp hw rfl fun x => ⟨hpend, fun i r _ hr => ?_⟩
  rw [← hsel]
  exact hrd i r hr

/-- Settles O43: a lemma for each journal command, and one for CNT.CLR. -/
theorem journalFallsDue : Obligations.JournalFallsDue := fun _ hp =>
  ⟨fun hcore => ⟨counterJournal_queues hp hcore, latencyJournal_queues hp hcore, clockJournal_queues hp hcore⟩,
    fun _ v hw h => cntClr_clears hp v hw h⟩

end Sys2Proof.Machine

namespace Sys2Proof.Machine

/-! ## Latency learning (R106–R108) -/

/-- A command that completes with `P` completes with what `P` implies. -/
theorem Completes.imp {c : Instr} {s : State} {P Q : Device → Prop} (h : Completes c s P) (hPQ : ∀ d, P d → Q d) :
    Completes c s Q := by
  obtain ⟨t, hexec, hpend, hP⟩ := h
  exact ⟨t, hexec, hpend, hPQ _ hP⟩

/-- The length of the search window of an action (R106): twice its rigged LMAX. -/
def Chan.latencyWindow (c : Chan) (on : Bool) : Nat := 2 * ((if on then c.lmaxOn else c.lmaxOff) * 100)

/-- The channel's search has ended. -/
def Device.endSearch (d : Device) (n : Nat) : Device := d.modChan n fun c => { c with search := none }

theorem Device.endSearch_chan (d : Device) {n : Nat} (hn : n < 160) :
    (d.endSearch n).chan n = { d.chan n with search := none } := d.modChan_chan_same n _ hn

theorem Device.endSearch_learnOf (d : Device) {n : Nat} (on : Bool) (hn : n < 160) :
    (d.endSearch n).learnOf n on = d.learnOf n on := by
  unfold Device.learnOf; rw [d.endSearch_chan hn]

/-- What is learned of an action is that action's learning from then on, and the search stays as it was. -/
theorem Device.setLearn_learnOf (d : Device) {n : Nat} (on : Bool) (x : Learn) (hn : n < 160) :
    (d.setLearn n on x).learnOf n on = x ∧ ((d.setLearn n on x).chan n).search = (d.chan n).search := by
  unfold Device.setLearn Device.learnOf
  cases on <;> simp [Device.chan, Device.modChan, Device.setChan, hn]

@[simp] theorem Device.setLearn_events (d : Device) (n : Nat) (on : Bool) (x : Learn) :
    (d.setLearn n on x).events = d.events := by
  unfold Device.setLearn; simp

theorem unlField_addr (n : Nat) (on : Bool) : (unlField n on).reg.addr = 0x3000 + 16 * n := by cases on <;> rfl

theorem Device.setLearn_unl (d : Device) (n : Nat) (on : Bool) (x : Learn) :
    (d.setLearn n on x).flag (unlField n on) = d.flag (unlField n on) := by
  unfold Device.setLearn
  refine Device.flag_wr_ne _ _ ?_
  rw [unlField_addr]
  cases on <;> simp [CHS.LON, CHS.LOFF]

theorem Device.flag_raise_unl (d : Device) (n : Nat) (on : Bool) :
    (d.raise (unlField n on)).flag (unlField n on) = true := by
  cases on <;> exact Device.flag_raise _ _ rfl (by simp [unlField, CHS.STAT])

theorem Device.flag_log_unl (d : Device) (code : Nat) (args : List Nat) (n : Nat) (on : Bool) :
    (d.log code args).flag (unlField n on) = d.flag (unlField n on) :=
  Device.flag_log _ _ _ _ (by rw [unlField_addr]; simp only [RING.RSTAT]; omega)
    (by rw [unlField_addr]; simp only [RING.EVDROPCNT]; omega)

/-- What a success at `v` makes of an action's learning while the flag is clear (R107). -/
def Device.learnedAt (d : Device) (n : Nat) (on : Bool) (v : Nat) : Learn :=
  { lat := learnStep (d.learnOf n on).lat v ((if on then (d.chan n).lminOn else (d.chan n).lminOff) * 100)
      ((if on then (d.chan n).lmaxOn else (d.chan n).lmaxOff) * 100) }

/-- An action unlearned (R108): its rigged latency, and nothing counted. -/
def Device.unlearned (d : Device) (n : Nat) (on : Bool) : Learn :=
  { lat := (if on then (d.chan n).ldefOn else (d.chan n).ldefOff) * 100 }

theorem Device.endSearch_learnedAt (d : Device) {n : Nat} (on : Bool) (v : Nat) (hn : n < 160) :
    (d.endSearch n).learnedAt n on v = d.learnedAt n on v := by
  unfold Device.learnedAt; rw [d.endSearch_learnOf on hn, d.endSearch_chan hn]

theorem Device.endSearch_unlearned (d : Device) {n : Nat} (on : Bool) (hn : n < 160) :
    (d.endSearch n).unlearned n on = d.unlearned n on := by
  unfold Device.unlearned; rw [d.endSearch_chan hn]

theorem Device.learnHit_learned {d : Device} {n : Nat} {on : Bool} (hunl : d.flag (unlField n on) = false) (v : Nat) :
    d.learnHit n on v = d.setLearn n on (d.learnedAt n on v) := by
  unfold Device.learnHit
  rw [if_neg (by simp [hunl])]
  rfl

/-- With the flag clear the eighth failure in succession unlearns the latency. -/
theorem Device.learnMiss_eighth {d : Device} {n : Nat} {on : Bool} (hunl : d.flag (unlField n on) = false)
    (hfails : 7 ≤ (d.learnOf n on).fails) :
    d.learnMiss n on = ((d.raise (unlField n on)).log Ev.LATENCY_UNLEARNED [n, actionCode on]).setLearn n on
      (d.unlearned n on) := by
  unfold Device.learnMiss
  rw [if_neg (by simp [hunl]), if_neg (by omega)]
  rfl

/-- A search window of the action that has ended (R106), with its unlearned flag clear. -/
structure Device.Searched (d : Device) (n : Nat) (on : Bool) (t0 : Nat) : Prop where
  search : (d.chan n).search = some (on, t0)
  ended : t0 + (d.chan n).latencyWindow on ≤ d.now
  learned : d.flag (unlField n on) = false

section
variable {d : Device} {n : Nat} {on : Bool} {t0 : Nat} (h : d.Searched n on t0)
include h

/-- A window that has ended is judged: by a cusp inside it as a success, and else as a failure. -/
theorem Device.Searched.sample (cusp : Option Nat) :
    d.latencySample n on cusp = (cusp.filter (· < (d.chan n).latencyWindow on)).elim ((d.endSearch n).learnMiss n on)
      fun v => (d.endSearch n).learnHit n on v := by
  have hwin : 2 * (if on then (d.chan n).lmaxOn else (d.chan n).lmaxOff) * 100 = (d.chan n).latencyWindow on :=
    Nat.mul_assoc ..
  unfold Device.latencySample
  rw [h.search]
  dsimp only
  rw [hwin, if_neg (by simpa using h.ended)]
  cases cusp.filter (· < (d.chan n).latencyWindow on) <;> rfl

theorem Device.Searched.hit (hn : n < 160) {v : Nat} (hv : v < (d.chan n).latencyWindow on) :
    d.latencySample n on (some v) = (d.endSearch n).setLearn n on (d.learnedAt n on v) := by
  rw [h.sample, Option.filter_some, if_pos (by simpa using hv), Option.elim_some,
    Device.learnHit_learned (d := d.endSearch n) h.learned, d.endSearch_learnedAt on v hn]

theorem Device.Searched.eighthMiss (hn : n < 160) {cusp : Option Nat}
    (hc : cusp = none ∨ ∃ v, cusp = some v ∧ (d.chan n).latencyWindow on ≤ v) (hfails : 7 ≤ (d.learnOf n on).fails) :
    d.latencySample n on cusp = (((d.endSearch n).raise (unlField n on)).log Ev.LATENCY_UNLEARNED
      [n, actionCode on]).setLearn n on (d.unlearned n on) := by
  have hnone : cusp.filter (· < (d.chan n).latencyWindow on) = none := by
    rcases hc with rfl | ⟨v, rfl, hv⟩
    · rfl
    · rw [Option.filter_some, if_neg (by simpa using hv)]
  rw [h.sample, hnone, Option.elim_none,
    Device.learnMiss_eighth (d := d.endSearch n) h.learned (by rwa [d.endSearch_learnOf on hn]),
    d.endSearch_unlearned on hn]

end

theorem latencySample_learns {s : State} {n : ChanId} {on : Bool} {t0 : Nat} (hp : s.dev.powered = true)
    (h : s.dev.Searched n on t0) {v : Nat} (hv : v < (s.dev.chan n).latencyWindow on) :
    Completes (.latencySample n on (some v)) s fun d =>
      (d.chan n).search = none ∧ d.learnOf n on = s.dev.learnedAt n on v := by
  refine completes_run (f := fun d => d.latencySample n on (some v)) hp rfl ?_
  simp only [h.hit n.isLt hv]
  obtain ⟨hlearn, hsearch⟩ := (s.dev.endSearch n).setLearn_learnOf on (s.dev.learnedAt n on v) n.isLt
  exact ⟨by rw [hsearch, s.dev.endSearch_chan n.isLt], hlearn⟩

theorem latencySample_unlearns {s : State} {n : ChanId} {on : Bool} {t0 : Nat} (hp : s.dev.powered = true)
    (h : s.dev.Searched n on t0) {cusp : Option Nat}
    (hc : cusp = none ∨ ∃ v, cusp = some v ∧ (s.dev.chan n).latencyWindow on ≤ v)
    (hfails : 7 ≤ (s.dev.learnOf n on).fails) :
    Completes (.latencySample n on cusp) s fun d =>
      d.flag (unlField n on) = true ∧ d.learnOf n on = s.dev.unlearned n on ∧
      s.dev.reported d Ev.LATENCY_UNLEARNED [n.val, actionCode on] := by
  refine completes_run (f := fun d => d.latencySample n on cusp) hp rfl ?_
  simp only [h.eighthMiss n.isLt hc hfails]
  refine ⟨?_, (Device.setLearn_learnOf _ on _ n.isLt).1, ?_⟩
  · rw [Device.setLearn_unl, Device.flag_log_unl, Device.flag_raise_unl]
  · unfold Device.reported
    rw [Device.setLearn_events]
    exact Device.reported_log (o := s.dev) (d := (s.dev.endSearch n).raise (unlField n on)) (List.prefix_refl _) _ _

/-- Settles O17: a success is a filter step, an eighth failure an unlearning. -/
theorem latencyLearns : Obligations.LatencyLearns := by
  intro s n on cusp t0 c x lo hi hp hsearch hend hunl
  have h : s.dev.Searched n on t0 := ⟨hsearch, hend, hunl⟩
  refine ⟨fun v hcusp hv => ?_, fun hc hfails => ?_⟩
  · subst hcusp
    refine (latencySample_learns hp h hv).imp fun d ⟨hs, hl⟩ => ⟨hs, ?_⟩
    rw [hl]
    exact ⟨rfl, rfl⟩
  · refine (latencySample_unlearns hp h hc hfails).imp fun d ⟨hf, hl, hr⟩ => ⟨hf, ?_, hr⟩
    rw [hl]
    rfl

end Sys2Proof.Machine

namespace Sys2Proof.Machine

/-! ## FAULT, TRIPS and what a channel holds of its trip (R122–R126) -/

theorem Device.fld_of_page {ps : List Nat} {d e : Device} (h : d.onlyPages ps e) {f : Field}
    (hf : f.reg.addr / 256 ∉ ps) : e.fld f = d.fld f := congrArg (bitsOf · f.lo f.w) (h f.reg hf)

/-- The lead of a channel follows from the rigging of the channels. -/
theorem Device.lead_congr {d e : Device} (h : ∀ n < 160, e.rd (CH.CFG n) = d.rd (CH.CFG n)) {n : Nat} (hn : n < 160) :
    e.lead n = d.lead n := by
  unfold Device.lead
  rw [Device.isLead_congr (h n hn), Device.fld_of_rd (f := CH.CFG_GANG (n - 1)) (h (n - 1) (by omega))]

/-- A status bit of a channel is no part of FAULT. -/
@[simp] theorem Device.fault_setFlag (d : Device) (n k i : Nat) (b : Bool) (hi : i < 8 := by decide) :
    (d.setFlag ⟨CHS.STAT n, i, 1⟩ b).fld (CHS.STAT_FAULT k) = d.fld (CHS.STAT_FAULT k) := by
  by_cases h : n = k
  · subst h
    exact Device.fld_setFld_beside d (f := ⟨CHS.STAT n, i, 1⟩) (g := CHS.STAT_FAULT n) _ rfl (.inl (by simp only []; omega))
      (by simp only [CHS.STAT]; omega)
  · exact Device.fld_setFld_reg d (f := ⟨CHS.STAT n, i, 1⟩) (g := CHS.STAT_FAULT k) _ (chs_addr_ne h)

/-- FAULT is no part of a channel's status bits. -/
@[simp] theorem Device.flag_setFault (d : Device) (n k i v : Nat) (hi : i < 8 := by decide) :
    (d.setFld (CHS.STAT_FAULT n) v).flag ⟨CHS.STAT k, i, 1⟩ = d.flag ⟨CHS.STAT k, i, 1⟩ := by
  unfold Device.flag
  by_cases h : n = k
  · subst h
    rw [Device.fld_setFld_beside d (f := CHS.STAT_FAULT n) (g := ⟨CHS.STAT n, i, 1⟩) _ rfl (.inr (by simp only []; omega))
      (by simp only [CHS.STAT]; omega)]
  · rw [Device.fld_setFld_reg d (f := CHS.STAT_FAULT n) (g := ⟨CHS.STAT k, i, 1⟩) _ (chs_addr_ne h)]

theorem Device.fault_setFault (d : Device) (n k v : Nat) :
    (d.setFld (CHS.STAT_FAULT n) v).fld (CHS.STAT_FAULT k) = if n = k then v % 8 else d.fld (CHS.STAT_FAULT k) := by
  split
  · next h => subst h; exact Device.fld_setFld_same d (CHS.STAT_FAULT n) v (by simp only [CHS.STAT]; omega)
  · next h => exact Device.fld_setFld_reg d (f := CHS.STAT_FAULT n) _ (chs_addr_ne h)

/-- FAULT takes a value in each channel of a list. -/
def Device.setFaults (d : Device) (ks : List Nat) (v : Nat → Nat) : Device :=
  d.each ks fun d k => d.setFld (CHS.STAT_FAULT k) (v k)

theorem Device.setFaults_fault (ks : List Nat) (v : Nat → Nat) (k : Nat) (d : Device) :
    (d.setFaults ks v).fld (CHS.STAT_FAULT k) = if k ∈ ks then v k % 8 else d.fld (CHS.STAT_FAULT k) := by
  induction ks generalizing d with
  | nil => simp [Device.setFaults, Device.each]
  | cons n t ih =>
    refine (ih (d.setFld (CHS.STAT_FAULT n) (v n))).trans ?_
    rw [Device.fault_setFault]
    by_cases h : n = k
    · subst h; simp
    · simp [h, Ne.symm h]

theorem Device.setFaults_flag (d : Device) (ks : List Nat) (v : Nat → Nat) (k i : Nat) (hi : i < 8 := by decide) :
    (d.setFaults ks v).flag ⟨CHS.STAT k, i, 1⟩ = d.flag ⟨CHS.STAT k, i, 1⟩ :=
  Device.each_same (fun d : Device => d.flag ⟨CHS.STAT k, i, 1⟩) (fun d n => Device.flag_setFault d n k i (v n) hi) ks d

theorem Device.setFaults_rest (d : Device) (ks : List Nat) (v : Nat → Nat) :
    (d.setFaults ks v).chans = d.chans ∧ (d.setFaults ks v).events = d.events ∧
    ∀ r : Reg, r.addr < 0x3000 → (d.setFaults ks v).rd r = d.rd r :=
  ⟨Device.each_same (fun d : Device => d.chans) (fun d n => by simp) ks d,
    Device.each_same (fun d : Device => d.events) (fun d n => by simp) ks d,
    fun r hr => Device.each_rd (fun d n => Device.rd_setFld_ne (f := CHS.STAT_FAULT n) d _ (by simp only [CHS.STAT]; omega))
      ks d⟩

/-- A bit of TRIPS takes a value: that bit alone, of that bank alone, reads it. -/
theorem Device.bit_setBit_trips (d : Device) (m k : Nat) {i j : Nat} (b : Bool) (hi : i < 64) (hj : j < 64) :
    (d.setBit (BANK.TRIPS m) i b).bit (BANK.TRIPS k) j = if m = k ∧ i = j then b else d.bit (BANK.TRIPS k) j := by
  by_cases h : m = k
  · subst h
    exact (Device.flag_setFlag_bit d (r := BANK.TRIPS m) b hi hj).trans (by simp [Device.bit, Device.flag])
  · rw [if_neg fun hc => h hc.1]
    exact Device.flag_setFlag_reg d (f := ⟨BANK.TRIPS m, i, 1⟩) (g := ⟨BANK.TRIPS k, j, 1⟩) b
      (by simp only [BANK.TRIPS]; omega)

theorem trips_bit_lt (l : Nat) : l % 40 < 64 := by omega

/-! ### What a channel holds of its trip -/

/-- Two states of a channel hold the same of its trip: how it ends, the retries, the sensor (R121, R126). -/
structure Chan.SameTrip (c e : Chan) : Prop where
  trip : e.trip = c.trip
  retries : e.retries = c.retries
  watch : e.watch = c.watch
  hot : e.hot = c.hot

/-- Of every channel's trip the same is held before and after. -/
def Device.keepsTrips (d e : Device) : Prop := ∀ k, (d.chan k).SameTrip (e.chan k)

namespace Device.keepsTrips

theorem of_chans {d e : Device} (h : e.chans = d.chans) : d.keepsTrips e := fun k => by
  unfold Device.chan; rw [h]; exact ⟨rfl, rfl, rfl, rfl⟩

theorem trans {d e f : Device} (h : d.keepsTrips e) (h' : e.keepsTrips f) : d.keepsTrips f := fun k =>
  ⟨(h' k).trip.trans (h k).trip, (h' k).retries.trans (h k).retries, (h' k).watch.trans (h k).watch,
    (h' k).hot.trans (h k).hot⟩

end Device.keepsTrips

/-- What a change of one channel keeps of that channel, it keeps of every channel. -/
theorem Device.modChan_keeps {α : Type} (p : Chan → α) (d : Device) (n k : Nat) {f : Chan → Chan}
    (hf : ∀ c, p (f c) = p c) : p ((d.modChan n f).chan k) = p (d.chan k) := by
  by_cases h : n = k
  · subst h
    by_cases hn : n < 160
    · rw [Device.modChan_chan_same d n f hn, hf]
    · simp [Device.modChan, Device.setChan, Device.chan, hn]
  · rw [Device.modChan_chan_ne d f h]

namespace Device.keepsTrips

theorem modChan (d : Device) (n : Nat) {f : Chan → Chan} (hf : ∀ c : Chan, c.SameTrip (f c)) :
    d.keepsTrips (d.modChan n f) := fun k =>
  ⟨d.modChan_keeps Chan.trip n k fun c => (hf c).trip, d.modChan_keeps Chan.retries n k fun c => (hf c).retries,
    d.modChan_keeps Chan.watch n k fun c => (hf c).watch, d.modChan_keeps Chan.hot n k fun c => (hf c).hot⟩

theorem each {f : Device → Nat → Device} (h : ∀ (d : Device) n, d.keepsTrips (f d n)) (d : Device) (l : List Nat) :
    d.keepsTrips (d.each l f) :=
  Device.each_keeps (P := d.keepsTrips) (fun e n he => he.trans (h e n)) l d (of_chans rfl)

theorem outOff (d : Device) (n : Nat) : d.keepsTrips (d.outOff n) :=
  modChan ((d.lower (CHS.STAT_OUT n)).lower (CHS.STAT_PEAK n)) n fun _ => ⟨rfl, rfl, rfl, rfl⟩

theorem bankTurnOff (d : Device) (l : Nat) : d.keepsTrips (d.bankTurnOff l) := by
  unfold Device.bankTurnOff
  exact (each outOff d (d.gang l)).trans (modChan _ l fun _ => ⟨rfl, rfl, rfl, rfl⟩)

theorem recordState (d : Device) (l rk : Nat) : d.keepsTrips (d.recordState l rk) := by
  unfold Device.recordState
  exact modChan d l fun _ => ⟨rfl, rfl, rfl, rfl⟩

theorem endHold (d : Device) (l rk : Nat) : d.keepsTrips (d.endHold l rk) := by
  have hlow : d.keepsTrips (d.each (d.gang l) fun d n => d.lower (CHS.STAT_CMD n)) :=
    each (fun d n => of_chans (by simp)) d (d.gang l)
  unfold Device.endHold
  exact ((hlow.trans (of_chans (by simp [Device.dropCmdsOf]))).trans (bankTurnOff _ l)).trans (recordState _ l rk)

theorem tripOff (d : Device) (l : Nat) : d.keepsTrips (d.tripOff l) := by
  unfold Device.tripOff
  exact ((bankTurnOff d l).trans (recordState _ l 1)).trans (modChan _ l fun _ => ⟨rfl, rfl, rfl, rfl⟩)

end Device.keepsTrips

/-! ### Where outputs turn off -/

theorem Device.bankTurnOff_fault (d : Device) (l k : Nat) :
    (d.bankTurnOff l).fld (CHS.STAT_FAULT k) = d.fld (CHS.STAT_FAULT k) :=
  Device.each_same (fun d : Device => d.fld (CHS.STAT_FAULT k)) (fun d n => by simp [Device.outOff]) (d.gang l) d

theorem Device.endHold_fault (d : Device) (l rk k : Nat) :
    (d.endHold l rk).fld (CHS.STAT_FAULT k) = d.fld (CHS.STAT_FAULT k) := by
  have hdrop : ∀ e : Device, (e.dropCmdsOf l).fld (CHS.STAT_FAULT k) = e.fld (CHS.STAT_FAULT k) := fun _ => rfl
  simp only [Device.endHold, Device.recordState, Device.fld_modChan, Device.bankTurnOff_fault, hdrop]
  exact Device.each_same (fun d : Device => d.fld (CHS.STAT_FAULT k)) (fun d n => by simp) (d.gang l) d

theorem Device.tripOff_out (d : Device) (l k : Nat) :
    (d.tripOff l).flag (CHS.STAT_OUT k) = (decide (k ∉ d.gang l) && d.flag (CHS.STAT_OUT k)) := by
  simp only [Device.tripOff, Device.recordState, Device.flag_modChan, Device.bankTurnOff_out]

theorem Device.tripOff_events (d : Device) (l : Nat) : (d.tripOff l).events = d.events := by
  have hoff : (d.bankTurnOff l).events = d.events :=
    Device.each_same (fun d : Device => d.events) Device.outOff_events (d.gang l) d
  simp [Device.tripOff, Device.recordState, hoff]

/-! ## A trip (R122, R123) -/

/-- The outputs and FAULT of a gang that trips. -/
def Device.tripGang (d : Device) (l code : Nat) : Device :=
  (d.tripOff l).setFaults ((d.tripOff l).gang l) fun k => if k = l then code else 7

/-- A trip of lead `l` that member `n` caused stands in TRIPS and is reported. -/
def Device.tripReported (d : Device) (l n : Nat) (cause : Cause) (imeas : Nat) : Device :=
  (d.raiseBit (BANK.TRIPS (bankOf l)) (l % 40)).reportTrip n cause imeas

/-- What is noted of such a trip: the report, the counter, and what follows it. -/
def Device.tripNoted (d : Device) (l n : Nat) (cause : Cause) (imeas : Nat) : Device :=
  ((d.tripReported l n cause imeas).when (cause.fault ≤ 3) fun e => e.cnt CNT.OC (6 + bankOf l)).tripFollow l cause

/-- A channel without a fault trips in two parts. -/
theorem Device.trip_first {d : Device} {n : Nat} (hf : d.fld (CHS.STAT_FAULT (d.lead n)) = 0) (cause : Cause)
    (imeas : Nat) :
    d.trip n cause imeas = (d.tripGang (d.lead n) cause.fault).tripNoted (d.lead n) n cause imeas := by
  unfold Device.trip
  exact if_neg (by simp [hf])

section
variable {l : Nat} (hl : l < 160)
include hl

theorem Device.tripOff_gang (d : Device) : (d.tripOff l).gang l = d.gang l :=
  Device.gang_of_pages ((Device.tripOff_pages (fun _ h => h) d hl).mpr (Device.onlyPages_refl d)) hl

theorem Device.tripGang_pages (d : Device) (code : Nat) : d.onlyPages chsPages (d.tripGang l code) := by
  unfold Device.tripGang Device.setFaults
  rw [Device.gangFault_pages (fun _ h => h) _ _ hl, Device.tripOff_pages (fun _ h => h) d hl]
  exact Device.onlyPages_refl d

theorem Device.tripGang_shows (d : Device) {code : Nat} (hcode : code < 8) :
    (d.tripGang l code).fld (CHS.STAT_FAULT l) = code ∧
    (∀ k ∈ d.gang l, k ≠ l → (d.tripGang l code).fld (CHS.STAT_FAULT k) = 7) ∧
    ∀ k ∈ d.gang l, (d.tripGang l code).flag (CHS.STAT_OUT k) = false := by
  unfold Device.tripGang
  rw [d.tripOff_gang hl]
  refine ⟨?_, fun k hk hne => ?_, fun k hk => ?_⟩
  · rw [Device.setFaults_fault, if_pos (d.mem_gang_self l), if_pos rfl, Nat.mod_eq_of_lt hcode]
  · rw [Device.setFaults_fault, if_pos hk, if_neg hne]
  · rw [Device.setFaults_flag _ _ _ k 0, d.tripOff_out]
    simp [hk]

/-- What is noted of a trip stands on the pages BANK, RING and CNT. -/
theorem Device.tripNoted_pages (d : Device) (n : Nat) (cause : Cause) (imeas : Nat) :
    d.onlyPages [0x04, 0x0D, 0x13] (d.tripNoted l n cause imeas) := by
  have hm := bankOf_lt hl
  obtain ⟨-, ht, -⟩ := bank_page (ps := [0x04, 0x0D, 0x13]) (by decide) hm
  obtain ⟨-, -, hc, -⟩ := cnt_page (ps := [0x04, 0x0D, 0x13]) (by decide) (show 6 + bankOf l < 10 by omega)
  unfold Device.tripNoted Device.tripReported
  rw [Device.tripFollow_pages (by decide) (by decide), Device.pages_when _ _ fun d => Device.cnt_pages d (by decide) hc,
    Device.reportTrip_pages (by decide) (by decide), Device.raiseBit_pages d _ ht]
  exact Device.onlyPages_refl d

end

theorem Device.tripGang_events (d : Device) (l code : Nat) : (d.tripGang l code).events = d.events :=
  (Device.setFaults_rest _ _ _).2.1.trans (d.tripOff_events l)

/-! ### What is noted of a trip -/

/-- What follows a trip: the channel's own state, and a report where the retries are exhausted (R125, R126). -/
theorem Device.tripFollow_cases (d : Device) (l : Nat) (cause : Cause) :
    ∃ g, (d.tripFollow l cause = d.modChan l g ∨
        d.tripFollow l cause = ((d.modChan l g).raise BANK.PSTAT_RETRY_EXHAUSTED).log Ev.RETRY_EXHAUSTED [l]) ∧
      ∀ c : Chan, (g c).hot = c.hot := by
  unfold Device.tripFollow
  dsimp only
  split
  · exact ⟨_, .inl rfl, fun _ => rfl⟩
  · split
    · exact ⟨_, .inr rfl, fun _ => rfl⟩
    · exact ⟨_, .inl rfl, fun _ => rfl⟩

theorem Cause.bit_eq (cause : Cause) : ∃ i < 32, cause.bit = ⟨BANK.PSTAT, i, 1⟩ := by
  cases cause <;> exact ⟨_, by decide, rfl⟩

theorem Cause.fault_lt (cause : Cause) : cause.fault < 8 := by cases cause <;> decide

/-- Reporting a trip writes PSTAT and the registers of the log alone. -/
theorem Device.reportTrip_rd (d : Device) (n : Nat) (cause : Cause) (imeas : Nat) {r : Reg} (hp : BANK.PSTAT.addr ≠ r.addr)
    (h1 : RING.RSTAT.addr ≠ r.addr) (h2 : RING.EVDROPCNT.addr ≠ r.addr) :
    (d.reportTrip n cause imeas).rd r = d.rd r := by
  obtain ⟨i, -, hb⟩ := cause.bit_eq
  exact (Device.rd_log _ _ _ _ h1 h2).trans (Device.rd_raise_ne d (by rw [hb]; exact hp))

/-- So does what follows a trip. -/
theorem Device.tripFollow_rd (d : Device) (l : Nat) (cause : Cause) {r : Reg} (hp : BANK.PSTAT.addr ≠ r.addr)
    (h1 : RING.RSTAT.addr ≠ r.addr) (h2 : RING.EVDROPCNT.addr ≠ r.addr) : (d.tripFollow l cause).rd r = d.rd r := by
  obtain ⟨g, h | h, -⟩ := d.tripFollow_cases l cause
  · rw [h]; rfl
  · rw [h]
    exact (Device.rd_log _ _ _ _ h1 h2).trans (Device.rd_raise_ne (f := BANK.PSTAT_RETRY_EXHAUSTED) (d.modChan l g) hp)

theorem Device.pstat_log (d : Device) (code : Nat) (args : List Nat) (front : Bool) (i : Nat) :
    (d.log code args front).flag ⟨BANK.PSTAT, i, 1⟩ = d.flag ⟨BANK.PSTAT, i, 1⟩ :=
  Device.flag_of_rd (f := ⟨BANK.PSTAT, i, 1⟩) (d.rd_log (r := BANK.PSTAT) code args front (by decide) (by decide))

/-- What stands in PSTAT stays there through what follows a trip. -/
theorem Device.tripFollow_pstat {d : Device} {i : Nat} (hi : i < 32) (h : d.flag ⟨BANK.PSTAT, i, 1⟩ = true) (l : Nat)
    (cause : Cause) : (d.tripFollow l cause).flag ⟨BANK.PSTAT, i, 1⟩ = true := by
  obtain ⟨g, he | he, -⟩ := d.tripFollow_cases l cause
  · rw [he]; exact h
  · have hraise := Device.flag_raise_bit (d.modChan l g) (r := BANK.PSTAT) (i := 7) (by decide) hi
    rw [he, Device.pstat_log, hraise, Device.flag_modChan, h, ite_self]

theorem Device.tripCnt_rd (d : Device) (c : Bool) {m : Nat} (hm : m < 4) {r : Reg} (h : r.addr / 256 ≠ 0x13) :
    (d.when c fun e => e.cnt CNT.OC (6 + m)).rd r = d.rd r := by
  obtain ⟨-, -, hc, -⟩ := cnt_page (ps := [0x13]) (by decide) (show 6 + m < 10 by omega)
  exact (Device.pages_when d c fun d => Device.cnt_pages d (by decide) hc).mpr (Device.onlyPages_refl d) r (by simpa using h)

section
variable {l : Nat} (hl : l < 160) (d : Device) (n : Nat) (cause : Cause) (imeas : Nat)

include hl in
theorem Device.tripNoted_trips : (d.tripNoted l n cause imeas).bit (BANK.TRIPS (bankOf l)) (l % 40) = true := by
  have hm := bankOf_lt hl
  have ha : (BANK.TRIPS (bankOf l)).addr = 0x428 + 0x18 * bankOf l := rfl
  have hne : ∀ r : Reg, r.addr < 0x428 ∨ 0x500 ≤ r.addr → r.addr ≠ (BANK.TRIPS (bankOf l)).addr :=
    fun r hr => by omega
  have hrd := calc (d.tripNoted l n cause imeas).rd (BANK.TRIPS (bankOf l))
      = ((d.tripReported l n cause imeas).when (cause.fault ≤ 3) fun e => e.cnt CNT.OC (6 + bankOf l)).rd _ :=
        Device.tripFollow_rd _ _ _ (hne _ (by decide)) (hne _ (by decide)) (hne _ (by decide))
    _ = (d.tripReported l n cause imeas).rd _ := Device.tripCnt_rd _ _ hm (by omega)
    _ = (d.raiseBit (BANK.TRIPS (bankOf l)) (l % 40)).rd _ :=
        Device.reportTrip_rd _ _ _ _ (hne _ (by decide)) (hne _ (by decide)) (hne _ (by decide))
  refine (congrArg (· == 1) (Device.fld_of_rd (f := ⟨BANK.TRIPS (bankOf l), l % 40, 1⟩) hrd)).trans ?_
  exact (Device.bit_setBit_trips d _ _ true (trips_bit_lt l) (trips_bit_lt l)).trans (if_pos ⟨rfl, rfl⟩)

include hl in
theorem Device.tripNoted_pstat : (d.tripNoted l n cause imeas).flag cause.bit = true := by
  obtain ⟨i, hi, hb⟩ := cause.bit_eq
  have hrep : (d.tripReported l n cause imeas).flag ⟨BANK.PSTAT, i, 1⟩ = true := by
    unfold Device.tripReported Device.reportTrip
    rw [hb, Device.pstat_log]
    exact Device.flag_raise _ _ rfl hi
  rw [hb]
  refine Device.tripFollow_pstat hi ?_ l cause
  rwa [Device.flag_of_rd (f := ⟨BANK.PSTAT, i, 1⟩) (Device.tripCnt_rd (r := BANK.PSTAT) _ _ (bankOf_lt hl) (by decide))]

theorem Device.tripArgs_plain (h : cause.damage = false) :
    d.tripArgs n cause imeas = [d.lead n, cause.fault, imeas, n] := by
  unfold Device.tripArgs; rw [if_neg (by simp [h])]

include hl in
/-- A trip is reported with its lead, cause, current and member (R123). -/
theorem Device.tripNoted_reported {o : Device} (he : o.events = d.events) (hn : n < 160) (hlead : d.lead n = l)
    (hcause : cause.damage = false) :
    o.reported (d.tripNoted l n cause imeas) cause.event [l, cause.fault, imeas, n] := by
  have hm := bankOf_lt hl
  have hlead' : (d.raiseBit (BANK.TRIPS (bankOf l)) (l % 40)).lead n = l := (Device.lead_congr (fun k _ =>
    Device.rd_raiseBit_ne d _ (by simp only [BANK.TRIPS, CH.CFG]; omega)) hn).trans hlead
  have hrep : o.reported (d.tripReported l n cause imeas) cause.event [l, cause.fault, imeas, n] := by
    unfold Device.tripReported Device.reportTrip
    rw [Device.tripArgs_plain _ _ _ _ hcause, hlead']
    exact Device.reported_log (by simp [he]) _ _
  refine Device.reported_mono (Device.KeepsBank.tripFollow hm _ l cause).events (Device.reported_mono ?_ hrep)
  rw [Device.when_same (fun d : Device => d.events) _ _ (by simp [Device.cnt])]

/-- A trip leaves what the sensors have shown. -/
theorem Device.tripNoted_hot (k : Nat) : ((d.tripNoted l n cause imeas).chan k).hot = (d.chan k).hot := by
  have hrep : (d.tripReported l n cause imeas).chans = d.chans := by simp [Device.tripReported, Device.reportTrip]
  have hcnt : ((d.tripReported l n cause imeas).when (cause.fault ≤ 3) fun e => e.cnt CNT.OC (6 + bankOf l)).chans
      = d.chans := (Device.when_same (fun d : Device => d.chans) _ _ (by simp [Device.cnt])).trans hrep
  have hhot : ∀ e : Device, ((e.tripFollow l cause).chan k).hot = (e.chan k).hot := fun e => by
    obtain ⟨g, h | h, hg⟩ := e.tripFollow_cases l cause
    · rw [h]; exact e.modChan_keeps Chan.hot l k hg
    · rw [h, Device.chan, (Device.log_rest _ _ _ _).1]; exact e.modChan_keeps Chan.hot l k hg
  exact (hhot _).trans (by simp [Device.chan, hcnt])

end

/-! ### The causes -/

section
variable {d : Device} {n : Nat} (hn : n < 160) (hlive : d.bankLive (bankOf n))
  (hf : d.fld (CHS.STAT_FAULT (d.lead n)) = 0) (cause : Cause) (imeas : Nat)
include hlive hf

/-- A channel without a fault, on a bank that runs, trips at once. -/
theorem Device.bankTrip_first :
    d.bankTrip n cause imeas = (d.tripGang (d.lead n) cause.fault).tripNoted (d.lead n) n cause imeas := by
  unfold Device.bankTrip
  rw [if_neg (by rw [show (d.bank (bankOf n)).dead = false from hlive]; exact Bool.false_ne_true), Device.trip_first hf]

include hn

/-- The gang of the lead goes off, FAULT holds the cause, and it is reported (R122, R123). -/
theorem Device.bankTrip_tripped (hcause : cause.damage = false) :
    d.tripped (d.bankTrip n cause imeas) (d.lead n) cause.fault cause.bit cause.event
      [d.lead n, cause.fault, imeas, n] := by
  have hl := d.lead_lt hn
  obtain ⟨hlead, hmember, hout⟩ := d.tripGang_shows hl cause.fault_lt
  have hpages := (d.tripGang (d.lead n) cause.fault).tripNoted_pages hl n cause imeas
  have hchs : ∀ k i w, (Device.tripNoted (d.tripGang (d.lead n) cause.fault) (d.lead n) n cause imeas).fld
      ⟨CHS.STAT k, i, w⟩ = (d.tripGang (d.lead n) cause.fault).fld ⟨CHS.STAT k, i, w⟩ := fun k i w =>
    Device.fld_of_page hpages (by simp [CHS.STAT]; omega)
  rw [Device.bankTrip_first hlive hf]
  refine ⟨(hchs _ _ _).trans hlead, fun k hk hne => (hchs _ _ _).trans (hmember k hk hne), fun k hk => ?_,
    Device.tripNoted_trips hl _ _ _ _, Device.tripNoted_pstat hl _ _ _ _,
    Device.tripNoted_reported hl _ _ _ _ (d.tripGang_events _ _).symm hn ?_ hcause⟩
  · exact (congrArg (· == 1) (hchs k 0 1)).trans (hout k hk)
  · exact Device.lead_congr (fun _ => (d.tripGang_pages hl cause.fault).cfg) hn

omit hn in
theorem Device.bankTrip_hot (k : Nat) : ((d.bankTrip n cause imeas).chan k).hot = (d.chan k).hot := by
  rw [Device.bankTrip_first hlive hf, Device.tripNoted_hot]
  have h := (Device.keepsTrips.tripOff d (d.lead n)).trans (.of_chans (Device.setFaults_rest _
    ((d.tripOff (d.lead n)).gang (d.lead n)) fun k => if k = d.lead n then cause.fault else 7).1)
  exact (h k).hot

end

/-! ## The commands that trip (R118–R121) -/

/-- The sensor of a channel reads 165 °C or more. -/
def Device.heat (d : Device) (n : Nat) : Device := d.modChan n fun c => { c with hot := true }

/-- A timer that started at `t` shows its expiry from `w` to `late` ticks after (R117). -/
theorem expires_of_some {x : Option Nat} {t w late clk : Nat} (h : x = some t) (hfrom : t + w ≤ clk)
    (hto : clk < t + late) : (x.any fun t0 => t0 + w ≤ clk && decide (clk < t0 + late)) = true := by
  subst h; simp [hfrom, hto]

section
variable {s : State} {n : ChanId} (hp : s.dev.powered = true) (hlive : s.dev.bankLive (bankOf n))
  (hf : s.dev.fld (CHS.STAT_FAULT (s.dev.lead n)) = 0)
include hp hlive hf

/-- A command that comes to a trip of its channel completes with the gang tripped. -/
theorem completes_trip {c : Instr} {f : Device → Device} {cause : Cause} {imeas : Nat} (hc : exec c s = s.run f)
    (hgo : f s.dev = s.dev.bankTrip n cause imeas) (hcause : cause.damage = false) :
    Completes c s fun d => s.dev.tripped d (s.dev.lead n) cause.fault cause.bit cause.event
      [s.dev.lead n, cause.fault, imeas, n] :=
  completes_run hp hc (hgo ▸ Device.bankTrip_tripped n.isLt hlive hf cause imeas hcause)

/-- R121: the sensor at 165 °C. -/
theorem thermal_trips (i : BitVec 16) {temp : Nat} (hsup : s.dev.bankSupplied (bankOf n) = true) (htemp : 165 ≤ temp) :
    Completes (.thermal n i temp) s fun d =>
      s.dev.tripped d (s.dev.lead n) 4 BANK.PSTAT_THERMAL Ev.THERMAL [s.dev.lead n, 4, i.toNat, n] ∧
      (d.chan n).hot = true := by
  have hgo : s.dev.thermalTrip n i.toNat temp = (s.dev.heat n).bankTrip n .thermal i.toNat := by
    simp [Device.thermalTrip, hsup, htemp, Device.heat]
  refine completes_run (f := fun d => d.thermalTrip n i.toNat temp) hp rfl ?_
  simp only [hgo]
  refine ⟨Device.bankTrip_tripped (d := s.dev.heat n) n.isLt hlive hf .thermal _ rfl, ?_⟩
  rw [Device.bankTrip_hot (d := s.dev.heat n) hlive hf, Device.heat, Device.modChan_chan_same _ _ _ n.isLt]

end

/-- Settles O18: each command that finds its cause comes to a trip of the bank by that cause
(`Device.bankTrip_tripped`). -/
theorem channelTrips : Obligations.ChannelTrips := by
  intro s n i l hp hlive hf
  refine ⟨fun t hl hout hmode ht hfrom hto hlim => ?_, fun hl hout hmode hwin hfull => ?_, fun hout hi => ?_,
    fun temp hsup htemp => thermal_trips hp hlive hf i hsup htemp⟩
  · refine completes_trip (f := fun d => d.inrushFail n i.toNat) (cause := .inrushFail) hp hlive hf rfl ?_ rfl
    simp [Device.inrushFail, hl, hout, hmode, expires_of_some ht hfrom hto, hlim]
  · refine completes_trip (f := fun d => d.overload n i.toNat) (cause := .overload) hp hlive hf rfl ?_ rfl
    simp [Device.overload, Device.faultSteps, hl, hout, hmode, hwin, hfull]
  · refine completes_trip (f := fun d => d.shortTrip n i.toNat) (cause := .short) hp hlive hf rfl ?_ rfl
    simp [Device.shortTrip, hout, hi]

/-! ## FAULT and TRIPS are cleared (R125, R126) -/

theorem Device.bit_modChan (d : Device) (n : Nat) (f : Chan → Chan) (r : Reg) (i : Nat) :
    (d.modChan n f).bit r i = d.bit r i := rfl

theorem Device.untrip_eq (d : Device) (l : Nat) :
    d.untrip l = (d.setFaults (d.gang l) fun _ => 0).setBit (BANK.TRIPS (bankOf l)) (l % 40) false := rfl

theorem Device.untrip_chans (d : Device) (l : Nat) : (d.untrip l).chans = d.chans :=
  (Device.setFaults_rest d (d.gang l) fun _ => 0).1

/-- Clearing FAULT and TRIPS writes no other register below the channels' status. -/
theorem Device.untrip_rd (d : Device) {l : Nat} {r : Reg} (hr : r.addr < 0x3000)
    (ht : (BANK.TRIPS (bankOf l)).addr ≠ r.addr) :
    (d.untrip l).rd r = d.rd r :=
  (Device.rd_setFld_ne (f := ⟨BANK.TRIPS (bankOf l), l % 40, 1⟩) _ _ ht).trans ((Device.setFaults_rest _ _ _).2.2 r hr)

theorem Device.untrip_trips (d : Device) (l : Nat) {m j : Nat} (hm : m < 4) (hj : j < 64) :
    (d.untrip l).bit (BANK.TRIPS m) j = if bankOf l = m ∧ l % 40 = j then false else d.bit (BANK.TRIPS m) j := by
  rw [Device.untrip_eq, Device.bit_setBit_trips _ _ _ _ (trips_bit_lt l) hj]
  refine congrArg (ite _ _) (congrArg (· == 1) (Device.fld_of_rd (f := ⟨BANK.TRIPS m, j, 1⟩) ?_))
  exact (Device.setFaults_rest _ _ _).2.2 _ (by simp only [BANK.TRIPS]; omega)

section
variable {l : Nat} (hl : l < 160) (d : Device) (k : Nat)
include hl

theorem trips_addr_ne_chs : (BANK.TRIPS (bankOf l)).addr ≠ (CHS.STAT k).addr := by
  have := bankOf_lt hl
  simp only [BANK.TRIPS, CHS.STAT]; omega

theorem Device.untrip_fault :
    (d.untrip l).fld (CHS.STAT_FAULT k) = if k ∈ d.gang l then 0 else d.fld (CHS.STAT_FAULT k) :=
  (Device.fld_setFld_reg _ (f := ⟨BANK.TRIPS (bankOf l), l % 40, 1⟩) _ (trips_addr_ne_chs hl k)).trans
    (Device.setFaults_fault (d.gang l) (fun _ => 0) k d)

theorem Device.untrip_cmd : (d.untrip l).flag (CHS.STAT_CMD k) = d.flag (CHS.STAT_CMD k) :=
  (Device.flag_setFlag_reg _ (f := ⟨BANK.TRIPS (bankOf l), l % 40, 1⟩) false (trips_addr_ne_chs hl k)).trans
    (Device.setFaults_flag d (d.gang l) (fun _ => 0) k 1)

/-- A gang's rigging is out of reach of a clear. -/
theorem Device.untrip_gang (hk : k < 160) : (d.untrip l).gang k = d.gang k :=
  Device.gang_congr (d.untrip_rd (by simp only [CH.CFG]; omega) (by
    have := bankOf_lt hl
    simp only [BANK.TRIPS, CH.CFG]; omega))

end

/-! ## A clear (R125) -/

/-- What a channel holds of its trip once that is cleared. -/
def Chan.tripCleared (c : Chan) : Chan :=
  { c with trip := .none, retries := 0, watch := false, clearPend := false, retryPend := false }

/-- The trip of lead `l` is cleared, and its hold has ended. -/
def Device.tripCleared (d : Device) (l : Nat) : Device := ((d.untrip l).endHold l 1).modChan l Chan.tripCleared

/-- A clear that finds no trip, or waits for the sensor, changes neither a register nor what is held of a trip; any other
clears the trip. -/
theorem Device.clearTrip_cases (d : Device) (l : Nat) :
    (d.keepsTrips (d.clearTrip l) ∧ (d.clearTrip l).regs = d.regs) ∨ d.clearTrip l = d.tripCleared l := by
  unfold Device.clearTrip
  split
  · exact .inl ⟨.of_chans rfl, rfl⟩
  · split
    · exact .inl ⟨.modChan d l fun _ => ⟨rfl, rfl, rfl, rfl⟩, rfl⟩
    · exact .inr rfl

theorem Device.clearTrip_clears {d : Device} {l : Nat} (ht : (d.chan l).trip ≠ .none) (hg : d.gangHot l = false) :
    d.clearTrip l = d.tripCleared l := by
  unfold Device.clearTrip
  rw [if_neg (by simpa using ht), if_neg (by simp [hg])]
  rfl

/-- No trip of lead `l` is left: it is commanded off, and its retries are forgotten. -/
structure Device.Cleared (l : Nat) (d : Device) : Prop where
  untripped : d.untripped l
  cmd : d.flag (CHS.STAT_CMD l) = false
  retries : (d.chan l).retries = 0

/-- Lead `l` holds a trip that no sensor keeps from being cleared. -/
structure Device.MayClear (l : Nat) (d : Device) : Prop where
  trip : (d.chan l).trip ≠ .none
  cool : d.gangHot l = false

section
variable {l : Nat} (hl : l < 160) (d : Device)

/-- Up to the channel's own state a clear keeps what is held of every trip. -/
theorem Device.endHold_untrip_keepsTrips (l : Nat) : d.keepsTrips ((d.untrip l).endHold l 1) :=
  (Device.keepsTrips.of_chans (d.untrip_chans l)).trans (Device.keepsTrips.endHold (d.untrip l) l 1)

theorem Device.tripCleared_hot (l k : Nat) : ((d.tripCleared l).chan k).hot = (d.chan k).hot := by
  rw [Device.tripCleared, Device.modChan_keeps Chan.hot (f := Chan.tripCleared) _ l k fun _ => rfl]
  exact (d.endHold_untrip_keepsTrips l k).hot

theorem Device.tripCleared_sameTrip {k : Nat} (h : l ≠ k) : (d.chan k).SameTrip ((d.tripCleared l).chan k) := by
  rw [Device.tripCleared, Device.modChan_chan_ne _ _ h]
  exact d.endHold_untrip_keepsTrips l k

include hl

theorem Device.tripCleared_chan : (d.tripCleared l).chan l = (((d.untrip l).endHold l 1).chan l).tripCleared :=
  Device.modChan_chan_same _ l _ hl

theorem Device.tripCleared_fault (k : Nat) :
    (d.tripCleared l).fld (CHS.STAT_FAULT k) = if k ∈ d.gang l then 0 else d.fld (CHS.STAT_FAULT k) := by
  rw [Device.tripCleared, Device.fld_modChan, Device.endHold_fault, d.untrip_fault hl]

theorem Device.tripCleared_cmd (k : Nat) :
    (d.tripCleared l).flag (CHS.STAT_CMD k) = (decide (k ∉ d.gang l) && d.flag (CHS.STAT_CMD k)) := by
  rw [Device.tripCleared, Device.flag_modChan, (Device.endHold_offStep 1).cmd (d.untrip l) l k hl, d.untrip_gang hl l hl,
    d.untrip_cmd hl]

theorem Device.tripCleared_trips {m j : Nat} (hm : m < 4) (hj : j < 64) : (d.tripCleared l).bit (BANK.TRIPS m) j =
    if bankOf l = m ∧ l % 40 = j then false else d.bit (BANK.TRIPS m) j := by
  have hend := (Device.endHold_offStep 1).pages (d.untrip l) l hl
  rw [← d.untrip_trips l hm hj, Device.tripCleared, Device.bit_modChan]
  refine congrArg (· == 1) (Device.fld_of_page (f := ⟨BANK.TRIPS m, j, 1⟩) hend ?_)
  rw [show (BANK.TRIPS m).addr / 256 = 4 by simp only [BANK.TRIPS]; omega]
  decide

theorem Device.tripCleared_cleared : (d.tripCleared l).Cleared l := by
  have hchan := d.tripCleared_chan hl
  refine ⟨⟨?_, ?_, by rw [hchan]; rfl⟩, ?_, by rw [hchan]; rfl⟩
  · rw [d.tripCleared_fault hl, if_pos (d.mem_gang_self l)]
  · rw [d.tripCleared_trips hl (bankOf_lt hl) (trips_bit_lt l), if_pos ⟨rfl, rfl⟩]
  · rw [d.tripCleared_cmd hl]; simp [d.mem_gang_self l]

end

/-- A clear of some trip leaves what has been cleared. -/
theorem Device.clearTrip_keeps_cleared {d : Device} {l j : Nat} (hl : l < 160) (hj : j < 160) (h : d.Cleared l) :
    (d.clearTrip j).Cleared l := by
  obtain ⟨⟨hfault, htrips, htrip⟩, hcmd, hretries⟩ := h
  rcases d.clearTrip_cases j with ⟨hkeep, hregs⟩ | he
  · have hfld := Device.fld_congr hregs
    exact ⟨⟨(hfld _).trans hfault, (congrArg (· == 1) (hfld ⟨BANK.TRIPS (bankOf l), l % 40, 1⟩)).trans htrips,
      (hkeep l).trip.trans htrip⟩, (Device.flag_congr hregs _).trans hcmd, (hkeep l).retries.trans hretries⟩
  · rw [he]
    by_cases hjl : j = l
    · exact hjl ▸ d.tripCleared_cleared hj
    · have hsame := d.tripCleared_sameTrip hjl
      refine ⟨⟨?_, ?_, hsame.trip.trans htrip⟩, ?_, hsame.retries.trans hretries⟩
      · rw [d.tripCleared_fault hj, hfault, ite_self]
      · rw [d.tripCleared_trips hj (bankOf_lt hl) (trips_bit_lt l), htrips, ite_self]
      · rw [d.tripCleared_cmd hj, hcmd, Bool.and_false]

theorem Device.clearTrip_hot (d : Device) (l k : Nat) : ((d.clearTrip l).chan k).hot = (d.chan k).hot := by
  rcases d.clearTrip_cases l with ⟨hkeep, -⟩ | he
  · exact (hkeep k).hot
  · rw [he, d.tripCleared_hot]

theorem Device.gangHot_congr {d e : Device} {l : Nat} (hg : e.gang l = d.gang l)
    (hh : ∀ k, (e.chan k).hot = (d.chan k).hot) : e.gangHot l = d.gangHot l := by
  unfold Device.gangHot; simp only [hg, hh]

/-- A clear of another trip leaves a trip that may be cleared. -/
theorem Device.clearTrip_keeps_mayClear {d : Device} {l j : Nat} (hl : l < 160) (hj : j < 160) (hjl : j ≠ l)
    (h : d.MayClear l) : (d.clearTrip j).MayClear l := by
  have hgang : (d.clearTrip j).gang l = d.gang l := by
    have hp : (CH.CFG l).addr / 256 ∉ 0x04 :: chsPages := fun hm => by
      have := ch_page hl
      simp only [chsPages, List.mem_cons, List.mem_map, List.mem_range] at hm
      omega
    exact Device.gang_congr ((Device.clearTrip_pages (by simp) (by simp) d hj).mpr (Device.onlyPages_refl d) _ hp)
  refine ⟨?_, (Device.gangHot_congr hgang (d.clearTrip_hot j)).trans h.cool⟩
  rcases d.clearTrip_cases j with ⟨hkeep, -⟩ | he
  · rw [(hkeep l).trip]; exact h.trip
  · rw [he, (d.tripCleared_sameTrip hjl).trip]; exact h.trip

/-- Clearing the trips of a bank in turn clears each that is named and may be cleared. -/
theorem Device.clearEach_cleared {m i : Nat} {b : Nat → Bool} (hm : m < 4) (hi : i < 40) (hb : b i = true) {ls : List Nat}
    (hls : ∀ j ∈ ls, j < 40) {d : Device} (h : i ∈ ls ∧ d.MayClear (40 * m + i) ∨ d.Cleared (40 * m + i)) :
    (d.each ls fun d j => if b j then d.clearTrip (40 * m + j) else d).Cleared (40 * m + i) := by
  induction ls generalizing d with
  | nil => exact h.resolve_left fun hn => nomatch hn.1
  | cons j t ih =>
    have hj : j < 40 := hls j (.head _)
    have hmax : 40 * m + j < 160 ∧ 40 * m + i < 160 := by omega
    refine ih (fun j hj => hls j (.tail _ hj)) ?_
    dsimp only
    rcases h with ⟨hit, hmay⟩ | hdone
    · by_cases hji : j = i
      · subst hji
        rw [if_pos hb, Device.clearTrip_clears hmay.trip hmay.cool]
        exact .inr (d.tripCleared_cleared hmax.1)
      · refine .inl ⟨(List.mem_cons.1 hit).resolve_left (Ne.symm hji), ?_⟩
        split
        · exact Device.clearTrip_keeps_mayClear hmax.2 hmax.1 (by omega) hmay
        · exact hmay
    · right
      split
      · exact Device.clearTrip_keeps_cleared hmax.2 hmax.1 hdone
      · exact hdone

/-! ## A retry (R126) -/

/-- What a retry holds of its channel: the trip is gone, and with a turn-on the count and the second begin. -/
def Chan.retried (c : Chan) (clk : Nat) (on : Bool) : Chan :=
  { c with trip := .none, clearPend := false, retryPend := false, retryAt := clk
           retries := if on then c.retries + 1 else 0, watch := on }

/-- The trip of lead `l` gives way to a retry. -/
def Device.retried (d : Device) (l : Nat) : Device :=
  (d.untrip l).modChan l fun c => c.retried (d.untrip l).clk (d.flag (CHS.STAT_CMD l))

/-- The outputs of a gang as its turn-on leaves them. -/
def Device.gangStart (d : Device) (l : Nat) (peak : Bool) : Device :=
  d.each (d.gang l) fun d n => (d.outOn n).setFlag (CHS.STAT_PEAK n) peak

theorem Device.gangStart_fault (d : Device) (l : Nat) (peak : Bool) (k : Nat) :
    (d.gangStart l peak).fld (CHS.STAT_FAULT k) = d.fld (CHS.STAT_FAULT k) :=
  Device.each_same (fun d : Device => d.fld (CHS.STAT_FAULT k)) (fun d n => by simp [Device.outOn]) (d.gang l) d

theorem Device.gangStart_out (d : Device) (l : Nat) (peak : Bool) : (d.gangStart l peak).flag (CHS.STAT_OUT l) = true :=
  (Device.each_sets (g := fun d => d.flag (CHS.STAT_OUT l)) (k := l)
    (f := fun d n => (d.outOn n).setFlag (CHS.STAT_PEAK n) peak) (fun d n => by simp [Device.outOn_out]) (d.gang l) d).trans
    (by simp [Device.mem_gang_self])

theorem Device.keepsTrips.gangStart (d : Device) (l : Nat) (peak : Bool) : d.keepsTrips (d.gangStart l peak) := by
  refine Device.keepsTrips.each (fun d n => ?_) d (d.gang l)
  have hon : d.keepsTrips (d.outOn n) := by
    unfold Device.outOn
    exact Device.keepsTrips.modChan (d.setFlag (CHS.STAT_OUT n) true) n fun _ => ⟨rfl, rfl, rfl, rfl⟩
  exact hon.trans (.of_chans (by simp))

/-- A turn-on is refused, is noted alone, or starts the gang; the lead's own state keeps its trip. -/
theorem Device.turnOn_cases (d : Device) (l : Nat) (fired checked : Bool) (duty : Nat) :
    d.turnOn l fired checked duty = d ∨ ∃ f g b,
      (d.turnOn l fired checked duty = d.modChan l f ∨
        d.turnOn l fired checked duty = ((d.modChan l f).gangStart l b).modChan l g) ∧
      (∀ c : Chan, c.SameTrip (f c)) ∧ ∀ c : Chan, c.SameTrip (g c) := by
  unfold Device.turnOn
  extract_lets mode pwm ot
  split
  · exact .inl rfl
  · right
    extract_lets
    split
    · exact ⟨_, id, true, .inl rfl, fun _ => ⟨rfl, rfl, rfl, rfl⟩, fun _ => ⟨rfl, rfl, rfl, rfl⟩⟩
    · exact ⟨_, _, _, .inr rfl, fun _ => ⟨rfl, rfl, rfl, rfl⟩, fun _ => ⟨rfl, rfl, rfl, rfl⟩⟩

/-- A turn-on keeps what is held of every trip, and FAULT. -/
theorem Device.turnOn_keeps (d : Device) (l : Nat) (fired checked : Bool) (duty : Nat) :
    d.keepsTrips (d.turnOn l fired checked duty) ∧
    ∀ k, (d.turnOn l fired checked duty).fld (CHS.STAT_FAULT k) = d.fld (CHS.STAT_FAULT k) := by
  rcases d.turnOn_cases l fired checked duty with h | ⟨f, g, b, h | h, hf, hg⟩ <;> rw [h]
  · exact ⟨.of_chans rfl, fun _ => rfl⟩
  · exact ⟨.modChan d l hf, fun _ => rfl⟩
  · exact ⟨((Device.keepsTrips.modChan d l hf).trans (.gangStart _ l b)).trans (.modChan _ l hg),
      fun k => (d.modChan l f).gangStart_fault l b k⟩

/-- A STATIC channel that may conduct conducts when it is turned on (R86). -/
theorem Device.turnOn_static {d : Device} {l : Nat} (fired checked : Bool) (duty : Nat) (hmay : d.mayConduct l = true)
    (hmode : d.fld (CH.CFG_MODE l) = 0) : (d.turnOn l fired checked duty).flag (CHS.STAT_OUT l) = true := by
  have hpwm : (d.fld (CH.CFG_MODE l) == 1 || d.fld (CH.CFG_MODE l) == 3) = false := by rw [hmode]; rfl
  unfold Device.turnOn
  rw [if_neg (by simp [hmay])]
  simp only [hpwm, Bool.false_eq_true, if_false]
  rw [if_neg (by decide), Device.flag_modChan]
  exact Device.gangStart_out _ l _

/-! ### A retry carried out -/

section
variable {l : Nat} (hl : l < 160) (d : Device)

theorem Device.retried_hot (l k : Nat) : ((d.retried l).chan k).hot = (d.chan k).hot := by
  have h := Device.modChan_keeps Chan.hot (d.untrip l) l k
    (f := fun c => c.retried (d.untrip l).clk (d.flag (CHS.STAT_CMD l))) fun _ => rfl
  exact h.trans (by simp [Device.chan, d.untrip_chans])

include hl

/-- What gives way to a retry writes no register of the device's own pages but a bit of TRIPS. -/
theorem Device.retried_rd {r : Reg} (h : r.addr < 0x428 ∨ 0x500 ≤ r.addr ∧ r.addr < 0x3000) :
    (d.retried l).rd r = d.rd r := by
  have hm := bankOf_lt hl
  rw [Device.retried, Device.rd_modChan]
  exact d.untrip_rd (by omega) (by simp only [BANK.TRIPS]; omega)

theorem Device.retried_fault : (d.retried l).fld (CHS.STAT_FAULT l) = 0 := by
  rw [Device.retried, Device.fld_modChan, d.untrip_fault hl, if_pos (d.mem_gang_self l)]

theorem Device.retried_trips : (d.retried l).bit (BANK.TRIPS (bankOf l)) (l % 40) = false := by
  rw [Device.retried, Device.bit_modChan, d.untrip_trips l (bankOf_lt hl) (trips_bit_lt l), if_pos ⟨rfl, rfl⟩]

theorem Device.retried_held : (d.retried l).flag (BANK.STAT_HELD (bankOf l)) = d.flag (BANK.STAT_HELD (bankOf l)) := by
  have hm := bankOf_lt hl
  rw [Device.retried, Device.flag_modChan]
  exact Device.flag_of_rd (d.untrip_rd (by simp only [BANK.STAT]; omega) (by simp only [BANK.TRIPS, BANK.STAT]; omega))

/-- A group's opening is out of reach of a retry. -/
theorem Device.retried_groupOpen : (d.retried l).groupOpen l = d.groupOpen l := by
  have hen : ∀ k, (d.retried l).fld ⟨SEQ.ENMASK, k, 1⟩ = d.fld ⟨SEQ.ENMASK, k, 1⟩ := fun k =>
    Device.fld_of_rd (f := ⟨SEQ.ENMASK, k, 1⟩) (d.retried_rd (r := SEQ.ENMASK) hl (.inr (by decide)))
  have hslot : ∀ k ∈ allSlots, ∀ i w,
      (d.retried l).fld ⟨SEQ.SLOTA k, i, w⟩ = d.fld ⟨SEQ.SLOTA k, i, w⟩ := fun k hk i w => by
    have := List.mem_range.1 hk
    exact Device.fld_of_rd (d.retried_rd hl (.inr (by simp only [SEQ.SLOTA]; omega)))
  rw [Bool.eq_iff_iff]
  simp only [Device.groupOpen, List.all_eq_true]
  refine forall₂_congr fun k hk => ?_
  simp only [Device.inGroup, Device.slotType, Device.slotGroup, Device.slotEnabled, Device.bit, hslot k hk, hen]

/-- Where no other hold is left, a channel that gives way to a retry may conduct in RUN (R30, R124, R182, R228). -/
theorem Device.retried_mayConduct (hrun : d.inRun = true) (hopen : d.groupOpen l = true) (hhold : d.otherHold l = false)
    (hby : d.flag RING.RSTAT_BYPASS = false) : (d.retried l).mayConduct l = true := by
  obtain ⟨hstrike, hheld⟩ := Bool.or_eq_false_iff.1 hhold
  have hrun' : (d.retried l).inRun = true :=
    (congrArg (· == stRun) (Device.fld_of_rd (f := SEC.PSTAT_STATE) (d.retried_rd hl (.inr (by decide))))).trans hrun
  have hstrike' : (d.retried l).flag BANK.STRIKESTAT_ACTIVE = false :=
    (Device.flag_of_rd (d.retried_rd hl (.inl (by decide)))).trans hstrike
  have hby' : (d.retried l).flag RING.RSTAT_BYPASS = false :=
    (Device.flag_of_rd (d.retried_rd hl (.inr (by decide)))).trans hby
  simp [Device.mayConduct, Device.held, hrun', d.retried_fault hl, hstrike', d.retried_held hl, hheld,
    d.retried_groupOpen hl, hopen, hby']

theorem Device.retried_chan : (d.retried l).chan l
    = (d.chan l).retried (d.untrip l).clk (d.flag (CHS.STAT_CMD l)) := by
  rw [Device.retried, Device.modChan_chan_same _ l _ hl, Device.chan, d.untrip_chans]
  rfl

theorem Device.doRetry_eq : d.doRetry l = if d.flag (CHS.STAT_CMD l) = true then
    (d.retried l).turnOn l false true ((d.retried l).fld (CHS.DEFF_DUTY l)) else d.retried l := by
  unfold Device.doRetry
  simp only [d.untrip_cmd hl]
  rfl

/-- What follows the giving way writes the CHS pages alone, keeps what is held of every trip, and FAULT. -/
theorem Device.doRetry_keeps : (d.retried l).keepsTrips (d.doRetry l) ∧ (d.retried l).onlyPages chsPages (d.doRetry l) ∧
    ∀ k, (d.doRetry l).fld (CHS.STAT_FAULT k) = (d.retried l).fld (CHS.STAT_FAULT k) := by
  rw [d.doRetry_eq hl]
  split
  · obtain ⟨htrips, hfault⟩ := (d.retried l).turnOn_keeps l false true ((d.retried l).fld (CHS.DEFF_DUTY l))
    exact ⟨htrips, (Device.turnOn_pages (fun _ h => h) _ _ _ _ hl).mpr (Device.onlyPages_refl _), hfault⟩
  · exact ⟨.of_chans rfl, Device.onlyPages_refl _, fun _ => rfl⟩

theorem Device.doRetry_untripped : (d.doRetry l).untripped l := by
  obtain ⟨htrips, hpages, hfault⟩ := d.doRetry_keeps hl
  have hm := bankOf_lt hl
  have hpage : (BANK.TRIPS (bankOf l)).addr / 256 ∉ chsPages := by
    rw [show (BANK.TRIPS (bankOf l)).addr / 256 = 4 by simp only [BANK.TRIPS]; omega]; decide
  refine ⟨(hfault l).trans ?_, ?_, (htrips l).trip.trans ?_⟩
  · exact d.retried_fault hl
  · refine Eq.trans ?_ (d.retried_trips hl)
    exact congrArg (· == 1) (Device.fld_of_page (f := ⟨BANK.TRIPS (bankOf l), l % 40, 1⟩) hpages hpage)
  · rw [d.retried_chan hl]; rfl

theorem Device.doRetry_hot (k : Nat) : ((d.doRetry l).chan k).hot = (d.chan k).hot :=
  ((d.doRetry_keeps hl).1 k).hot.trans (d.retried_hot l k)

end

/-- A retry instant with every hold ended (R126). -/
structure Device.MayRetry (d : Device) (l : Nat) : Prop where
  trip : (d.chan l).trip = .waiting
  cool : d.gangHot l = false
  due : d.retryDue l = true
  free : d.otherHold l = false

theorem Device.MayRetry.retry {d : Device} {l : Nat} (h : d.MayRetry l) : d.retry l = d.doRetry l := by
  unfold Device.retry
  rw [if_neg (by simp [h.trip, h.due]), if_neg (by simp [h.cool, h.free])]

/-! ## The sensors cool (R121) -/

/-- The sensor of a channel reads below 150 °C. -/
def Device.cool (d : Device) (n : Nat) : Device := d.modChan n fun c => { c with hot := false }

theorem Device.cool_hot (d : Device) {n : Nat} (hn : n < 160) : ((d.cool n).chan n).hot = false := by
  rw [Device.cool, Device.modChan_chan_same _ _ _ hn]

theorem Device.cool_keeps {α : Type} (p : Chan → α) (hp : ∀ c : Chan, p { c with hot := false } = p c) (d : Device)
    (n k : Nat) : p ((d.cool n).chan k) = p (d.chan k) := d.modChan_keeps p n k hp

theorem Device.cool_gangHot {d : Device} {n l : Nat} (hn : n < 160)
    (h : ∀ k ∈ d.gang l, k ≠ n → (d.chan k).hot = false) : (d.cool n).gangHot l = false := by
  refine List.any_eq_false.2 fun k hk => ?_
  by_cases hkn : k = n
  · subst hkn; simp [d.cool_hot hn]
  · rw [Device.cool, Device.modChan_chan_ne _ _ (Ne.symm hkn), h k hk hkn]
    exact Bool.false_ne_true

/-- With its gang cool, a recovery carries out the clear that waited, or else the retry. -/
theorem Device.thermalRecovery_cool {d : Device} {n temp : Nat} (ht : temp < 150)
    (hg : (d.cool n).gangHot (d.lead n) = false) : d.thermalRecovery n temp =
      if ((d.cool n).chan (d.lead n)).clearPend = true then (d.cool n).clearTrip (d.lead n)
      else if ((d.cool n).chan (d.lead n)).retryPend = true then (d.cool n).retry (d.lead n) else d.cool n := by
  unfold Device.thermalRecovery
  rw [if_neg (by omega)]
  exact if_neg fun hhot => Bool.false_ne_true (hg.symm.trans hhot)

/-! ## The commands that end a trip (R121, R125, R126) -/

/-- R125: a 1 in TRIPS, but for a trip of this very cycle. -/
theorem tripClear_clears (s : State) (hp : s.dev.powered = true) (w : Writer) (b : BankId) (v : BitVec 64) (i : Fin 40)
    (hw : s.dev.admits w) (hv : v.getLsbD i = true) (hfresh : (s.dev.freshBits (BANK.TRIPS b)).testBit i = false)
    (ht : (s.dev.chan (40 * b.val + i.val)).trip ≠ .none) (hg : s.dev.gangHot (40 * b.val + i.val) = false) :
    Completes (.tripClear w b v) s fun d => d.Cleared (40 * b.val + i.val) := by
  have hnamed : (v.toNat.testBit i && !(s.dev.freshBits (BANK.TRIPS b)).testBit i) = true := by
    rw [BitVec.testBit_toNat, hv, hfresh]; rfl
  have h : (s.dev.clearTrips b v.toNat).Cleared (40 * b.val + i.val) :=
    Device.clearEach_cleared (b := fun i => v.toNat.testBit i && !(s.dev.freshBits (BANK.TRIPS b)).testBit i) b.isLt i.isLt
      hnamed (fun j hj => List.mem_range.1 hj) (.inl ⟨List.mem_range.2 i.isLt, ht, hg⟩)
  exact completes_write hp hw rfl fun _ => ⟨h.untripped, h.cmd, h.retries⟩

/-- R126: a retry instant. -/
theorem retry_retries (s : State) (hp : s.dev.powered = true) (n : ChanId) (h : s.dev.MayRetry n) :
    Completes (.retry n) s fun d =>
      d.untripped n ∧ (d.chan n).watch = s.dev.flag (CHS.STAT_CMD n) ∧
      (d.chan n).retries = (if s.dev.flag (CHS.STAT_CMD n) then (s.dev.chan n).retries + 1 else 0) ∧
      (s.dev.flag (CHS.STAT_CMD n) = true → s.dev.fld (CH.CFG_MODE n) = 0 → s.dev.inRun = true →
        s.dev.groupOpen n = true → s.dev.flag RING.RSTAT_BYPASS = false → d.flag (CHS.STAT_OUT n) = true) := by
  have hkeep := (s.dev.doRetry_keeps n.isLt).1 n
  have hchan := s.dev.retried_chan n.isLt
  refine completes_run (f := fun d => d.retry n) hp rfl ?_
  simp only [h.retry]
  refine ⟨s.dev.doRetry_untripped n.isLt, ?_, ?_, fun hcmd hmode hrun hopen hby => ?_⟩
  · rw [hkeep.watch, hchan]; rfl
  · rw [hkeep.retries, hchan]; rfl
  · rw [s.dev.doRetry_eq n.isLt, if_pos hcmd]
    have hmay := s.dev.retried_mayConduct n.isLt hrun hopen h.free hby
    refine Device.turnOn_static _ _ _ hmay ((Device.fld_of_rd (s.dev.retried_rd n.isLt (.inr ?_))).trans hmode)
    simp only [CH.CFG]; omega

/-- R126: a second without a trip. -/
theorem retryCountReset_resets (s : State) (hp : s.dev.powered = true) (n : ChanId) (hwatch : (s.dev.chan n).watch = true)
    (hat : (s.dev.chan n).retryAt + second ≤ s.dev.clk) :
    Completes (.retryCountReset n) s fun d => (d.chan n).watch = false ∧ (d.chan n).retries = 0 := by
  refine completes_run (f := fun d => d.retryReset n) hp rfl ?_
  simp only [Device.retryReset]
  rw [if_pos (by simp [hwatch, hat]), Device.modChan_chan_same _ _ _ n.isLt]
  exact ⟨rfl, rfl⟩

section
variable (s : State) (hp : s.dev.powered = true) (n : ChanId) {temp : Nat} (htemp : temp < 150)
  (hothers : ∀ k ∈ s.dev.gang (s.dev.lead n), k ≠ n.val → (s.dev.chan k).hot = false)
include hp htemp hothers

/-- R121: a clear that waited for the sensors. -/
theorem thermalRecovery_clears (hpend : (s.dev.chan (s.dev.lead n)).clearPend = true)
    (ht : (s.dev.chan (s.dev.lead n)).trip ≠ .none) :
    Completes (.thermalRecovery n temp) s fun d => (d.chan n).hot = false ∧ d.untripped (s.dev.lead n) := by
  have hl := s.dev.lead_lt n.isLt
  have hcool := Device.cool_gangHot (l := s.dev.lead n) n.isLt hothers
  have ht' : ((s.dev.cool n).chan (s.dev.lead n)).trip ≠ .none := by
    rwa [Device.cool_keeps Chan.trip fun _ => rfl]
  refine completes_run (f := fun d => d.thermalRecovery n temp) hp rfl ?_
  simp only [Device.thermalRecovery_cool htemp hcool, Device.cool_keeps Chan.clearPend fun _ => rfl, hpend, if_true]
  refine ⟨(Device.clearTrip_hot _ _ n).trans (s.dev.cool_hot n.isLt), ?_⟩
  rw [Device.clearTrip_clears ht' hcool]
  exact (Device.tripCleared_cleared hl _).untripped

/-- R121, R126: a retry that waited for the sensors. -/
theorem thermalRecovery_retries (hclear : (s.dev.chan (s.dev.lead n)).clearPend = false)
    (hpend : (s.dev.chan (s.dev.lead n)).retryPend = true) (ht : (s.dev.chan (s.dev.lead n)).trip = .waiting)
    (hdue : s.dev.retryDue (s.dev.lead n) = true) (hhold : s.dev.otherHold (s.dev.lead n) = false) :
    Completes (.thermalRecovery n temp) s fun d => (d.chan n).hot = false ∧ d.untripped (s.dev.lead n) := by
  have hl := s.dev.lead_lt n.isLt
  have hcool := Device.cool_gangHot (l := s.dev.lead n) n.isLt hothers
  have hdue' : (s.dev.cool n).retryDue (s.dev.lead n) = true := by
    unfold Device.retryDue
    rw [Device.cool_keeps Chan.tripAt fun _ => rfl, Device.cool_keeps Chan.retries fun _ => rfl]
    exact hdue
  have hmay : (s.dev.cool n).MayRetry (s.dev.lead n) :=
    ⟨(Device.cool_keeps Chan.trip (fun _ => rfl) _ _ _).trans ht, hcool, hdue', hhold⟩
  refine completes_run (f := fun d => d.thermalRecovery n temp) hp rfl ?_
  simp only [Device.thermalRecovery_cool htemp hcool, Device.cool_keeps Chan.clearPend fun _ => rfl, hclear,
    Device.cool_keeps Chan.retryPend fun _ => rfl, hpend, Bool.false_eq_true, if_false, if_true, hmay.retry]
  exact ⟨(Device.doRetry_hot hl _ n).trans (s.dev.cool_hot n.isLt), Device.doRetry_untripped hl _⟩

end

/-- Settles O19: a lemma for each command; a THERMAL trip's recovery carries out the clear or the retry that waited. -/
theorem tripsEnd : Obligations.TripsEnd := by
  refine fun s hp => ⟨fun w b v i hw hv hfresh ht hg => ?_, fun n ht hg hdue hstrike hheld => ?_,
    fun n hwatch hat => retryCountReset_resets s hp n hwatch hat, fun n temp htemp hothers => ⟨?_, ?_⟩⟩
  · exact (tripClear_clears s hp w b v i hw hv hfresh ht hg).imp fun d h => ⟨h.untripped, h.cmd, h.retries⟩
  · exact retry_retries s hp n ⟨ht, hg, by simp [Device.retryDue, hdue], by simp [Device.otherHold, hstrike, hheld]⟩
  · exact thermalRecovery_clears s hp n htemp hothers
  · exact thermalRecovery_retries s hp n htemp hothers

end Sys2Proof.Machine

namespace Sys2Proof.Machine

/-! ## Register frames by address

As `Device.onlyPages`, one lemma per operation, `<operation>_onlyRegs`: the registers outside the addresses `as` read as
in `o` after the operation exactly where they did before it, as soon as the registers that it writes stand in `as`. -/

/-- Every register outside the addresses `as` reads as in `o`. -/
def Device.onlyRegs (as : List Nat) (o d : Device) : Prop := ∀ r : Reg, r.addr ∉ as → d.rd r = o.rd r

/-- The registers that tell of an event sent to the head. -/
def logRegs : List Nat := [RING.RSTAT.addr, RING.EVDROPCNT.addr]

section
variable {o d e : Device} {as : List Nat}

@[simp] theorem Device.onlyRegs_refl (d : Device) : d.onlyRegs as d := fun _ _ => rfl

theorem Device.onlyRegs.fld (h : d.onlyRegs as e) (f : Field) (hf : f.reg.addr ∉ as) : e.fld f = d.fld f :=
  congrArg (bitsOf · f.lo f.w) (h f.reg hf)

theorem Device.onlyRegs.flag (h : d.onlyRegs as e) (f : Field) (hf : f.reg.addr ∉ as) : e.flag f = d.flag f :=
  congrArg (· == 1) (h.fld f hf)

theorem Device.onlyRegs_congr (h : e.regs = d.regs) : o.onlyRegs as e = o.onlyRegs as d := by
  unfold Device.onlyRegs; simp only [Device.rd_congr h]

@[simp ↓] theorem Device.onlyRegs_ite (c : Prop) [Decidable c] (a b : Device) :
    o.onlyRegs as (if c then a else b) = if c then o.onlyRegs as a else o.onlyRegs as b := apply_ite _ c a b

@[simp] theorem Device.wr_onlyRegs (d : Device) {r : Reg} (v : Nat) (h : r.addr ∈ as) :
    o.onlyRegs as (d.wr r v) = o.onlyRegs as d :=
  propext (forall_congr' fun q => imp_congr_right fun hq => by rw [Device.rd_wr_ne d v fun e => hq (e ▸ h)])

@[simp] theorem Device.setFld_onlyRegs (d : Device) {f : Field} (v : Nat) (h : f.reg.addr ∈ as) :
    o.onlyRegs as (d.setFld f v) = o.onlyRegs as d := Device.wr_onlyRegs d _ h

@[simp] theorem Device.setFlag_onlyRegs (d : Device) {f : Field} (b : Bool) (h : f.reg.addr ∈ as) :
    o.onlyRegs as (d.setFlag f b) = o.onlyRegs as d := Device.wr_onlyRegs d _ h

@[simp] theorem Device.raise_onlyRegs (d : Device) {f : Field} (h : f.reg.addr ∈ as) :
    o.onlyRegs as (d.raise f) = o.onlyRegs as d := Device.setFlag_onlyRegs d true h

@[simp] theorem Device.count_onlyRegs (d : Device) {r : Reg} (n : Nat) (h : r.addr ∈ as) :
    o.onlyRegs as (d.count r n) = o.onlyRegs as d := Device.wr_onlyRegs d _ h

@[simp] theorem Device.countSat_onlyRegs (d : Device) {r : Reg} (n : Nat) (h : r.addr ∈ as) :
    o.onlyRegs as (d.countSat r n) = o.onlyRegs as d := Device.wr_onlyRegs d _ h

@[simp] theorem Device.log_onlyRegs (d : Device) (code : Nat) (args : List Nat) (front : Bool) (h : logRegs ⊆ as) :
    o.onlyRegs as (d.log code args front) = o.onlyRegs as d :=
  propext (forall_congr' fun q => imp_congr_right fun hq => by
    rw [Device.rd_log d code args front (fun he => hq (he ▸ h (by decide))) fun he => hq (he ▸ h (by decide))])

@[simp] theorem Device.modRing_onlyRegs (d : Device) (f : Ring → Ring) :
    o.onlyRegs as (d.modRing f) = o.onlyRegs as d := Device.onlyRegs_congr rfl

@[simp] theorem Device.modPort_onlyRegs (d : Device) (p : Port) (f : PortSt → PortSt) :
    o.onlyRegs as (d.modPort p f) = o.onlyRegs as d := Device.onlyRegs_congr (Device.setPort_regs d p _)

@[simp] theorem Device.queueMsg_onlyRegs (d : Device) (t : MsgType) (dst : Nat) (data : List Nat) :
    o.onlyRegs as (d.queueMsg t dst data) = o.onlyRegs as d :=
  Device.onlyRegs_congr (by unfold Device.queueMsg; split <;> rfl)

end

/-! ## The ring's ports -/

section
variable (d : Device) (p : Port) (f : PortSt → PortSt)

@[simp] theorem Device.modPort_port_same : (d.modPort p f).port p = f (d.port p) := Device.setPort_port_same d p _

@[simp] theorem Device.modPort_port_other : (d.modPort p f).port (otherPort p) = d.port (otherPort p) :=
  Device.setPort_port_other d p _

@[simp] theorem Device.modPort_rest :
    (d.modPort p f).regs = d.regs ∧ (d.modPort p f).events = d.events ∧ (d.modPort p f).clk = d.clk ∧
    (d.modPort p f).ring.inbox = d.ring.inbox ∧ (d.modPort p f).ring.txq = d.ring.txq ∧
    (d.modPort p f).ring.evq = d.ring.evq := by cases p <;> exact ⟨rfl, rfl, rfl, rfl, rfl, rfl⟩

@[simp] theorem Device.rd_modPort (r : Reg) : (d.modPort p f).rd r = d.rd r := by cases p <;> rfl
@[simp] theorem Device.fld_modPort (g : Field) : (d.modPort p f).fld g = d.fld g := by cases p <;> rfl
@[simp] theorem Device.flag_modPort (g : Field) : (d.modPort p f).flag g = d.flag g := by cases p <;> rfl
@[simp] theorem Device.portState_modPort (q : Port) : (d.modPort p f).portState q = d.portState q := by cases p <;> rfl
@[simp] theorem Device.isUp_modPort (q : Port) : (d.modPort p f).isUp q = d.isUp q := by cases p <;> rfl

theorem Device.modPort_modPort (g : PortSt → PortSt) : (d.modPort p f).modPort p g = d.modPort p fun x => g (f x) := by
  cases p <;> rfl

variable {d p f} in
theorem Device.modPort_eq_self (h : f (d.port p) = d.port p) : d.modPort p f = d := by
  unfold Device.modPort; rw [h]; cases p <;> rfl

end

theorem Device.port_congr {d e : Device} (h : e.ring = d.ring) (p : Port) : e.port p = d.port p := by
  cases p <;> simp [Device.port, h]

@[simp] theorem Device.rd_modRing (d : Device) (f : Ring → Ring) (r : Reg) : (d.modRing f).rd r = d.rd r := rfl
@[simp] theorem Device.fld_modRing (d : Device) (f : Ring → Ring) (g : Field) : (d.modRing f).fld g = d.fld g := rfl
@[simp] theorem Device.flag_modRing (d : Device) (f : Ring → Ring) (g : Field) : (d.modRing f).flag g = d.flag g := rfl

/-- Of the ring, logging touches the events that wait for the head alone. -/
theorem Device.log_ring (d : Device) (code : Nat) (args : List Nat) (front : Bool) :
    ∃ q, (d.log code args front).ring = { d.ring with evq := q } := by
  unfold Device.log Device.toHead
  dsimp only
  (repeat' split) <;> exact ⟨_, rfl⟩

@[simp] theorem Device.log_port (d : Device) (code : Nat) (args : List Nat) (front : Bool) (p : Port) :
    (d.log code args front).port p = d.port p := by
  obtain ⟨q, hq⟩ := d.log_ring code args front
  cases p <;> simp [Device.port, hq]

/-! ## Port states -/

@[simp] theorem Device.portState_setState (d : Device) (p : Port) (v : Nat) :
    (d.setFld (RING.PSTAT_STATE (PortIx p)) v).portState p = v % 4 :=
  Device.fld_setFld_same d (RING.PSTAT_STATE (PortIx p)) v (by simp [RING.PSTAT])

/-- A status bit of a port is no part of its state. -/
@[simp] theorem Device.portState_setFlag (d : Device) (p : Port) (i : Nat) (b : Bool) (hi : 2 ≤ i := by decide) :
    (d.setFlag ⟨RING.PSTAT (PortIx p), i, 1⟩ b).portState p = d.portState p :=
  Device.fld_setFld_beside d (f := ⟨RING.PSTAT (PortIx p), i, 1⟩) (g := RING.PSTAT_STATE (PortIx p)) _ rfl (.inr hi)
    (by simp [RING.PSTAT])

@[simp] theorem Device.portState_raise (d : Device) (p : Port) (i : Nat) (hi : 2 ≤ i := by decide) :
    (d.raise ⟨RING.PSTAT (PortIx p), i, 1⟩).portState p = d.portState p := d.portState_setFlag p i true hi

section
variable {as : List Nat} {d e : Device} {p : Port}

theorem Device.onlyRegs.portState (h : d.onlyRegs as e) (hp : (RING.PSTAT (PortIx p)).addr ∉ as) :
    e.portState p = d.portState p := h.fld (RING.PSTAT_STATE (PortIx p)) hp

theorem Device.onlyRegs.isUp (h : d.onlyRegs as e) (hp : (RING.PSTAT (PortIx p)).addr ∉ as) : e.isUp p = d.isUp p :=
  congrArg (· == portUp) (h.portState hp)

end

theorem Device.isUp_iff {d : Device} {p : Port} : d.isUp p = true ↔ d.portState p = portUp := beq_iff_eq

end Sys2Proof.Machine

namespace Sys2Proof.Machine

/-! ## A port goes DOWN (R160, R162) -/

/-- A port leaves SYNC or UP, and that is counted. -/
def Device.downCounted (d : Device) (p : Port) : Device :=
  (d.setFld (RING.PSTAT_STATE (PortIx p)) portDown).countSat (RING.DOWNCNT (PortIx p))

def Device.downTold (d : Device) (p : Port) : Device :=
  (d.raise (RING.PSTAT_LINK_DOWN (PortIx p))).log Ev.LINK_DOWN [PortIx p]

/-- What the port was passing on or had to send ends. -/
def Device.portEmptied (d : Device) (p : Port) : Device :=
  ((d.modLive p fun _ c => sealCell true c.toNat).portClear p).chainFlags

def Device.ringBroken (d : Device) (p : Port) : Device :=
  ((d.raise RING.LSTAT_RING_BREAK).log Ev.RING_BREAK [PortIx p]).askQuery

/-- A port that trains or is UP. -/
def Device.linked (d : Device) (p : Port) : Prop := d.portState p = portSync ∨ d.portState p = portUp

theorem Device.goDown_linked {d : Device} {p : Port} (h : d.linked p) (report : Bool) :
    d.goDown p report = (((d.downCounted p).when report fun d => d.downTold p).portEmptied p).ringBroken p := by
  unfold Device.goDown
  dsimp only
  rw [if_neg]
  · rfl
  · rcases h with h | h <;> simp [h]

theorem Device.goDown_unlinked {d : Device} {p : Port} (h : ¬d.linked p) (report : Bool) : d.goDown p report = d := by
  unfold Device.goDown
  exact if_pos (by simpa [Device.linked] using h)

/-! ### Its parts -/

section
variable (d : Device) (p : Port)

theorem Device.downCounted_onlyRegs :
    d.onlyRegs [(RING.PSTAT (PortIx p)).addr, (RING.DOWNCNT (PortIx p)).addr] (d.downCounted p) := by
  unfold Device.downCounted; simp

theorem Device.downTold_onlyRegs : d.onlyRegs ((RING.PSTAT (PortIx p)).addr :: logRegs) (d.downTold p) := by
  unfold Device.downTold; simp

theorem Device.portEmptied_onlyRegs : d.onlyRegs [RING.LSTAT.addr] (d.portEmptied p) := by
  have hclear : ∀ e : Device, (e.portClear p).regs = e.regs := fun e => by unfold Device.portClear; simp
  unfold Device.portEmptied Device.chainFlags
  simp [Device.onlyRegs_congr (hclear _), Device.modLive]

theorem Device.askQuery_rest : d.askQuery.regs = d.regs ∧ d.askQuery.events = d.events ∧ d.askQuery.port p = d.port p := by
  unfold Device.askQuery
  split
  · cases p <;> exact ⟨rfl, rfl, rfl⟩
  · exact ⟨rfl, rfl, rfl⟩

theorem Device.ringBroken_onlyRegs : d.onlyRegs (RING.LSTAT.addr :: logRegs) (d.ringBroken p) := by
  unfold Device.ringBroken
  rw [Device.onlyRegs_congr (Device.askQuery_rest _ p).1]
  simp

theorem Device.downCounted_state : (d.downCounted p).portState p = portDown :=
  (Device.fld_countSat_ne _ (f := RING.PSTAT_STATE (PortIx p)) 1 (by cases p <;> decide)).trans
    (d.portState_setState p portDown)

theorem Device.downCounted_counted : d.counted (d.downCounted p) (RING.DOWNCNT (PortIx p)) := by
  unfold Device.downCounted Device.counted
  rw [Device.rd_countSat_same, Device.rd_setFld_ne _ _ (by cases p <;> decide)]

theorem Device.downTold_state : (d.downTold p).portState p = d.portState p :=
  (Device.fld_log (f := RING.PSTAT_STATE (PortIx p)) _ _ _ _ (by cases p <;> decide) (by cases p <;> decide)).trans
    (d.portState_raise p 8)

theorem Device.downTold_flag : (d.downTold p).flag (RING.PSTAT_LINK_DOWN (PortIx p)) = true :=
  (Device.flag_log _ _ _ _ (by cases p <;> decide) (by cases p <;> decide)).trans
    (Device.flag_raise d _ rfl (by simp [RING.PSTAT]))

theorem Device.portEmptied_events : (d.portEmptied p).events = d.events := by
  unfold Device.portEmptied Device.chainFlags Device.portClear Device.modLive
  cases p <;> simp [Device.setPort]

theorem Device.ringBroken_flag : (d.ringBroken p).flag RING.LSTAT_RING_BREAK = true := by
  unfold Device.ringBroken
  rw [Device.flag_congr (Device.askQuery_rest _ p).1, Device.flag_log _ _ _ _ (by decide) (by decide)]
  exact Device.flag_raise d _ rfl (by decide)

theorem Device.ringBroken_prefix : d.events <+: (d.ringBroken p).events := by
  unfold Device.ringBroken
  rw [(Device.askQuery_rest _ p).2.1]
  exact Device.log_prefix (d.raise RING.LSTAT_RING_BREAK) _ _

variable {d p} in
theorem Device.ringBroken_reported {o : Device} (h : o.events <+: d.events) :
    o.reported (d.ringBroken p) Ev.RING_BREAK [PortIx p] := by
  unfold Device.ringBroken Device.reported
  rw [(Device.askQuery_rest _ p).2.1]
  exact Device.reported_log (d := d.raise RING.LSTAT_RING_BREAK) h Ev.RING_BREAK [PortIx p]

end

/-! ### The whole -/

/-- Since `o` the port has gone DOWN, counted, and has broken the ring. -/
def Device.wentDown (p : Port) (o d : Device) : Prop :=
  d.portState p = portDown ∧ o.counted d (RING.DOWNCNT (PortIx p)) ∧ d.flag RING.LSTAT_RING_BREAK = true ∧
    o.reported d Ev.RING_BREAK [PortIx p]

/-- The loss of the port has been reported since `o`. -/
def Device.toldDown (p : Port) (o d : Device) : Prop :=
  d.flag (RING.PSTAT_LINK_DOWN (PortIx p)) = true ∧ o.reported d Ev.LINK_DOWN [PortIx p]

/-- The registers that a port going DOWN may write. -/
def downRegs (p : Port) : List Nat :=
  (RING.PSTAT (PortIx p)).addr :: (RING.DOWNCNT (PortIx p)).addr :: RING.LSTAT.addr :: logRegs

theorem logRegs_subset_downRegs (p : Port) : logRegs ⊆ downRegs p := fun _ h => .tail _ (.tail _ (.tail _ h))

section
variable {o d : Device} {p : Port}

theorem Device.onlyRegs.mono {as bs : List Nat} (h : o.onlyRegs as d) (hs : as ⊆ bs) : o.onlyRegs bs d :=
  fun r hr => h r fun ha => hr (hs ha)

theorem Device.onlyRegs.trans {as : List Nat} {e : Device} (h : o.onlyRegs as d) (k : d.onlyRegs as e) :
    o.onlyRegs as e := fun r hr => (k r hr).trans (h r hr)

theorem Device.downTold_when_prefix (d : Device) (p : Port) (report : Bool) :
    d.events <+: (d.when report fun d => d.downTold p).events := by
  cases report
  · exact List.prefix_refl _
  · exact Device.log_prefix (d.raise (RING.PSTAT_LINK_DOWN (PortIx p))) _ _

theorem Device.goDown_onlyRegs (d : Device) (p : Port) (report : Bool) : d.onlyRegs (downRegs p) (d.goDown p report) := by
  by_cases h : d.linked p
  · rw [Device.goDown_linked h]
    have htold : ∀ e : Device, e.onlyRegs (downRegs p) (e.when report fun d => d.downTold p) := fun e => by
      cases report
      · exact Device.onlyRegs_refl e
      · exact (e.downTold_onlyRegs p).mono (List.cons_subset.2 ⟨.head _, logRegs_subset_downRegs p⟩)
    exact (((d.downCounted_onlyRegs p).mono (by simp [downRegs])).trans (htold _)).trans
      (((Device.portEmptied_onlyRegs _ p).mono (by simp [downRegs])).trans
        ((Device.ringBroken_onlyRegs _ p).mono (by simp [downRegs])))
  · rw [Device.goDown_unlinked h]
    exact Device.onlyRegs_refl d

theorem Device.goDown_prefix (d : Device) (p : Port) (report : Bool) : d.events <+: (d.goDown p report).events := by
  by_cases h : d.linked p
  · rw [Device.goDown_linked h]
    refine List.IsPrefix.trans ?_ (Device.ringBroken_prefix _ p)
    rw [Device.portEmptied_events]
    exact (d.downCounted p).downTold_when_prefix p report
  · rw [Device.goDown_unlinked h]

/-- What follows the count leaves the port DOWN and its count. -/
theorem Device.goDown_counted (h : d.linked p) (report : Bool) : (d.goDown p report).portState p = portDown ∧
    d.counted (d.goDown p report) (RING.DOWNCNT (PortIx p)) := by
  have hlater : ∀ e : Device, e.onlyRegs (RING.LSTAT.addr :: logRegs) ((e.portEmptied p).ringBroken p) := fun e =>
    ((e.portEmptied_onlyRegs p).mono (by simp)).trans (Device.ringBroken_onlyRegs _ p)
  rw [Device.goDown_linked h]
  refine ⟨?_, ?_⟩
  · rw [(hlater _).portState (by cases p <;> decide)]
    cases report
    · exact d.downCounted_state p
    · exact ((d.downCounted p).downTold_state p).trans (d.downCounted_state p)
  · refine ((hlater _) _ (by cases p <;> decide)).trans (Eq.trans ?_ (d.downCounted_counted p))
    cases report
    · rfl
    · exact (d.downCounted p).downTold_onlyRegs p _ (by cases p <;> decide)

theorem Device.goDown_wentDown (h : d.linked p) (report : Bool) (he : o.events <+: d.events)
    (hc : d.rd (RING.DOWNCNT (PortIx p)) = o.rd (RING.DOWNCNT (PortIx p))) : o.wentDown p (d.goDown p report) := by
  obtain ⟨hstate, hcount⟩ := Device.goDown_counted h report
  refine ⟨hstate, by unfold Device.counted; rw [← hc]; exact hcount, ?_⟩
  rw [Device.goDown_linked h]
  refine ⟨Device.ringBroken_flag _ p, Device.ringBroken_reported ?_⟩
  rw [Device.portEmptied_events]
  exact he.trans ((d.downCounted p).downTold_when_prefix p report)

theorem Device.goDown_toldDown (h : d.linked p) (he : o.events <+: d.events) : o.toldDown p (d.goDown p true) := by
  rw [Device.goDown_linked h, Device.when_true]
  refine ⟨?_, ?_⟩
  · rw [(Device.ringBroken_onlyRegs _ p).flag _ (by cases p <;> decide),
      (Device.portEmptied_onlyRegs _ p).flag _ (by cases p <;> decide)]
    exact (d.downCounted p).downTold_flag p
  · refine Device.reported_mono (Device.ringBroken_prefix _ p) ?_
    unfold Device.reported
    rw [Device.portEmptied_events]
    exact Device.reported_log (d := (d.downCounted p).raise (RING.PSTAT_LINK_DOWN (PortIx p))) he Ev.LINK_DOWN [PortIx p]

/-- A port that is DOWN stays so where the other one goes DOWN. -/
theorem Device.wentDown.other (h : o.wentDown p d) (report : Bool) : o.wentDown p (d.goDown (otherPort p) report) := by
  obtain ⟨hstate, hcount, hbroken, hevent⟩ := h
  have hregs := d.goDown_onlyRegs (otherPort p) report
  refine ⟨(hregs.portState (by cases p <;> decide)).trans hstate,
    (hregs _ (by cases p <;> decide)).trans hcount, ?_, Device.reported_mono (d.goDown_prefix _ report) hevent⟩
  by_cases hlinked : d.linked (otherPort p)
  · rw [Device.goDown_linked hlinked]
    exact Device.ringBroken_flag _ _
  · rw [Device.goDown_unlinked hlinked, hbroken]

end

/-! ## The losses (R144, R158, R160) -/

section
variable (s : State) (p : Port) (hp : s.dev.powered = true) (hs : s.dev.linked p)
include hp hs

theorem syncLost_downs (plus : Bool) (gs : List (BitVec 10)) (violations : Nat) (hl : loses plus gs = true) :
    Completes (.syncLost p plus gs violations) s fun d => s.dev.wentDown p d ∧ s.dev.toldDown p d ∧
      d.rd (RING.CVCNT (PortIx p)) = (s.dev.rd (RING.CVCNT (PortIx p)) + violations) % 2 ^ 32 := by
  refine completes_run (f := fun d => d.syncLost p plus gs violations) hp rfl ?_
  have hlinked : (s.dev.portState p == portSync || s.dev.isUp p) = true := by
    rcases hs with h | h <;> simp [Device.isUp, h]
  unfold Device.syncLost
  rw [hlinked, hl, Bool.and_true, if_pos rfl]
  have hregs : s.dev.onlyRegs [(RING.CVCNT (PortIx p)).addr] (s.dev.count (RING.CVCNT (PortIx p)) violations) := by simp
  have hs' : (s.dev.count (RING.CVCNT (PortIx p)) violations).linked p := by
    unfold Device.linked
    rw [hregs.portState (by cases p <;> decide)]
    exact hs
  refine ⟨Device.goDown_wentDown hs' true (List.prefix_refl _) (hregs _ (by cases p <;> decide)),
    Device.goDown_toldDown hs' (List.prefix_refl _), ?_⟩
  rw [Device.goDown_onlyRegs _ p true _ (by cases p <;> decide)]
  exact Device.rd_count_same _ _ _

theorem lossOfSignal_downs :
    Completes (.lossOfSignal p) s fun d => s.dev.wentDown p d ∧ s.dev.toldDown p d :=
  completes_run (f := fun d => d.goDown p true) hp rfl
    ⟨Device.goDown_wentDown hs true (List.prefix_refl _) rfl, Device.goDown_toldDown hs (List.prefix_refl _)⟩

theorem helloTimeout_downs (ht : (s.dev.port p).helloRx + msec ≤ s.dev.now) :
    Completes (.helloTimeout p) s fun d => s.dev.wentDown p d ∧ s.dev.toldDown p d := by
  refine completes_run (f := fun d => d.helloTimeout p) hp rfl ?_
  unfold Device.helloTimeout
  rw [if_pos ht]
  exact ⟨Device.goDown_wentDown hs true (List.prefix_refl _) rfl, Device.goDown_toldDown hs (List.prefix_refl _)⟩

/-- Of the two ports East goes DOWN first; neither hinders the other. -/
theorem linkRetrain_downs (w : Writer) (v : BitVec 8) (hw : s.dev.admits w) (hv : v.getLsbD (PortIx p) = true) :
    Completes (.linkRetrain w v) s fun d => s.dev.wentDown p d := by
  refine completes_write_blind (f := fun d => d.retrain v.toNat) hp hw rfl (fun _ _ h => h) ?_
  have hbit : v.toNat.testBit (PortIx p) = true := hv
  unfold Device.retrain
  cases p with
  | east =>
    have hdown := Device.goDown_wentDown (o := s.dev) hs false (List.prefix_refl _) rfl
    rw [show v.toNat.testBit 0 = true from hbit, if_pos rfl]
    dsimp only
    split
    · exact hdown.other false
    · exact hdown
  | west =>
    rw [show v.toNat.testBit 1 = true from hbit, if_pos rfl]
    split
    · have hregs := s.dev.goDown_onlyRegs .east false
      refine Device.goDown_wentDown ?_ false (s.dev.goDown_prefix .east false) (hregs _ (by decide))
      unfold Device.linked
      rw [hregs.portState (by decide)]
      exact hs
    · exact Device.goDown_wentDown hs false (List.prefix_refl _) rfl

end

end Sys2Proof.Machine

namespace Sys2Proof.Machine

/-! ## LINK cells leave (R152, R158, R161) -/

/-- One more cell has left on the port since `o`. -/
def Device.sentCell (p : Port) (o d : Device) : Prop :=
  d.rd (RING.TXCELLS (PortIx p)) = (o.rd (RING.TXCELLS (PortIx p)) + 1) % 2 ^ 32

section
variable (d : Device) (p : Port)

/-- When the next cell may begin after one that leaves now. -/
def Device.freeAfter (d : Device) (c : CellBits) : Nat :=
  d.clk + (if c = 0 then 2 * idleTicks else cellTicks) + 2 * idleTicks

theorem Device.cellOut_port (c : CellBits) (live : Option Nat) :
    (d.cellOut p c live).port p = { d.port p with out := c, outLive := live, freeAt := d.freeAfter c } :=
  d.modPort_port_same p fun x => { x with out := c, outLive := live, freeAt := d.freeAfter c }

theorem Device.cellOut_sent (c : CellBits) (live : Option Nat) : d.sentCell p (d.cellOut p c live) :=
  (Device.rd_count_same (d.modPort p _) _ 1).trans (by rw [Device.rd_modPort]; rfl)

/-- What leaving changes at the port beside the cell itself. -/
def LinkOut.note (now : Nat) : LinkOut → PortSt → PortSt
  | .hello, x => { x with helloTx := now }
  | .ping, x =>
    { x with pingNum := x.results.length, pingT1 := some now, pingOut := some x.results.length, pingAt := now
             pingTx := now, roundAt := if x.results = [] && x.pingOut.isNone then now else x.roundAt }
  | .echo _ _, x => { x with pingAt := now }

theorem Device.linkOut_sent (o : LinkOut) : d.sentCell p (d.linkOut p o) := by
  cases o <;> exact (Device.rd_modPort _ p _ _).trans (d.cellOut_sent p _ none)

/-- A LINK cell that leaves notes its own and moves no LINK cell that waits or has been received. -/
theorem Device.linkOut_port (o : LinkOut) : ∃ c, (d.linkOut p o).port p =
    o.note d.now { d.port p with out := c, outLive := none, freeAt := d.freeAfter c } := by
  cases o with
  | hello => exact ⟨_, ((Device.modPort_port_same _ p _).trans (by rw [Device.sendLink, Device.cellOut_port]; rfl))⟩
  | ping => exact ⟨_, ((Device.modPort_port_same _ p _).trans (by rw [Device.sendLink, Device.cellOut_port]; rfl))⟩
  | echo n t2 => exact ⟨_, ((Device.modPort_port_same _ p _).trans (by rw [Device.sendLink, Device.cellOut_port]; rfl))⟩

theorem Device.linkOut_linkq (o : LinkOut) : ((d.linkOut p o).port p).linkq = (d.port p).linkq := by
  obtain ⟨c, h⟩ := d.linkOut_port p o
  rw [h]; cases o <;> rfl

theorem Device.linkOut_rx (o : LinkOut) : ((d.linkOut p o).port p).rx = (d.port p).rx := by
  obtain ⟨c, h⟩ := d.linkOut_port p o
  rw [h]; cases o <;> rfl

/-- Neither what waits nor what has been received has a part in whether a LINK cell may leave. -/
theorem Device.linkReady_modPort (rx : PortSt → List LinkMsg) (q : PortSt → List LinkOut) :
    (d.modPort p fun x => { x with rx := rx x, linkq := q x }).linkReady p = d.linkReady p := by
  funext o; cases o <;> cases p <;> rfl

theorem Device.ownTurn_modPort (rx : PortSt → List LinkMsg) (q : PortSt → List LinkOut) (incoming : Bool) :
    (d.modPort p fun x => { x with rx := rx x, linkq := q x }).ownTurn p incoming = d.ownTurn p incoming := by
  cases p <;> rfl

end

section
variable {d : Device} {p : Port} {o : LinkOut} {incoming : Bool}

theorem Device.startLink_sends (ht : d.ownTurn p incoming = true)
    (hf : (d.port p).linkq.find? (d.linkReady p) = some o) :
    d.startLink p incoming = (d.modPort p fun x => { x with linkq := x.linkq.erase o }).linkOut p o := by
  simp [Device.startLink, ht, hf]

theorem Device.startLink_waits (h : d.ownTurn p incoming = false ∨ (d.port p).linkq.find? (d.linkReady p) = none) :
    d.startLink p incoming = d := by
  unfold Device.startLink
  rcases h with h | h
  · simp [h]
  · simp only [h]; split <;> rfl

/-- The port with one LINK cell more that waits. -/
def Device.linkQueued (d : Device) (p : Port) (o : LinkOut) : Device :=
  d.modPort p fun x => { x with linkq := x.linkq ++ [o] }

theorem Device.linkQueued_linkq (d : Device) (p : Port) (o : LinkOut) :
    ((d.linkQueued p o).port p).linkq = (d.port p).linkq ++ [o] := by
  simp [Device.linkQueued]

theorem Device.askLink_new (hq : o ∉ (d.port p).linkq) :
    d.askLink p o incoming = (d.linkQueued p o).startLink p incoming := by
  simp [Device.askLink, Device.linkQueued, hq]

theorem Device.linkQueued_ready (d : Device) (p : Port) (o : LinkOut) :
    (d.linkQueued p o).linkReady p = d.linkReady p :=
  d.linkReady_modPort p PortSt.rx fun x => x.linkq ++ [o]

theorem Device.linkQueued_turn (d : Device) (p : Port) (o : LinkOut) :
    (d.linkQueued p o).ownTurn p incoming = d.ownTurn p incoming :=
  d.ownTurn_modPort p PortSt.rx (fun x => x.linkq ++ [o]) incoming

/-- A cell that joins those that wait, none of which may leave, leaves at once where it may. -/
theorem Device.askLink_sends (ht : d.ownTurn p incoming = true)
    (hf : (d.port p).linkq.find? (d.linkReady p) = none) (ho : d.linkReady p o = true) :
    d.askLink p o incoming = d.linkOut p o := by
  have hq : o ∉ (d.port p).linkq := fun hmem => List.find?_eq_none.1 hf o hmem ho
  have hfind : ((d.linkQueued p o).port p).linkq.find? ((d.linkQueued p o).linkReady p) = some o := by
    rw [Device.linkQueued_linkq, Device.linkQueued_ready, List.find?_append, hf]
    simp [ho]
  have hback : ((d.linkQueued p o).modPort p fun x => { x with linkq := x.linkq.erase o }) = d := by
    rw [Device.linkQueued, Device.modPort_modPort]
    exact Device.modPort_eq_self (by rw [List.erase_append_right _ hq]; simp)
  rw [Device.askLink_new hq, Device.startLink_sends ((Device.linkQueued_turn d p o).trans ht) hfind, hback]

theorem Device.askLink_waits (hq : o ∉ (d.port p).linkq) (hf : (d.port p).linkq.find? (d.linkReady p) = none)
    (h : d.ownTurn p incoming = false ∨ d.linkReady p o = false) : d.askLink p o incoming = d.linkQueued p o := by
  rw [Device.askLink_new hq]
  refine Device.startLink_waits (h.imp (Device.linkQueued_turn d p o).trans fun ho => ?_)
  rw [Device.linkQueued_linkq, Device.linkQueued_ready, List.find?_append, hf]
  simp [ho]

end

/-! ## Training (R144, R158, R161) -/

/-- A HELLO is always ready, so it waits only behind none. -/
theorem hello_notMem {d : Device} {p : Port} (hf : (d.port p).linkq.find? (d.linkReady p) = none) :
    LinkOut.hello ∉ (d.port p).linkq := fun hmem => List.find?_eq_none.1 hf _ hmem rfl

theorem Device.helloSend_due {d : Device} {p : Port} (incoming : Bool) (hs : d.portState p = portSync ∨ d.isUp p = true)
    (hdue : (d.port p).helloTx + (if d.isUp p then 25000 else 1000) ≤ d.now) :
    d.helloSend p incoming = d.askLink p .hello incoming := by
  have hstate : (d.portState p == portSync || d.isUp p) = true := by
    rcases hs with h | h <;> simp [h]
  unfold Device.helloSend
  exact if_pos (by rw [hstate, decide_eq_true (by exact hdue)]; simp)

section
variable (s : State) (p : Port) (hp : s.dev.powered = true)
include hp

theorem syncAcquired_trains (plus : Bool) (gs : List (BitVec 10)) (hdown : s.dev.portState p = portDown)
    (hpll : s.dev.rck.pll = true) (hen : s.dev.portEnabled p = true) (ha : acquires plus gs = true) :
    Completes (.syncAcquired p plus gs) s fun d =>
      d.portState p = portSync ∧ (d.port p).helloRx = s.dev.now ∧ (d.port p).linkq = [] := by
  refine completes_run (f := fun d => d.syncAcquired p plus gs) hp rfl ?_
  unfold Device.syncAcquired
  rw [if_pos (by simp [hdown, hpll, hen, ha])]
  refine ⟨?_, ?_, ?_⟩
  · rw [Device.portState_modPort]
    exact s.dev.portState_setState p portSync
  · rw [Device.modPort_port_same]
  · rw [Device.modPort_port_same]

theorem helloSend_leaves (incoming : Bool) (hs : s.dev.portState p = portSync ∨ s.dev.isUp p = true)
    (hdue : (s.dev.port p).helloTx + (if s.dev.isUp p then 25000 else 1000) ≤ s.dev.now)
    (hf : (s.dev.port p).linkq.find? (s.dev.linkReady p) = none) (ht : s.dev.ownTurn p incoming = true) :
    Completes (.helloSend p incoming) s fun d => (d.port p).helloTx = s.dev.now ∧ s.dev.sentCell p d := by
  refine completes_run (f := fun d => d.helloSend p incoming) hp rfl ?_
  rw [Device.helloSend_due incoming hs hdue, Device.askLink_sends ht hf rfl]
  refine ⟨?_, s.dev.linkOut_sent p .hello⟩
  obtain ⟨c, h⟩ := s.dev.linkOut_port p .hello
  rw [h]
  rfl

theorem helloSend_queues (incoming : Bool) (hs : s.dev.portState p = portSync ∨ s.dev.isUp p = true)
    (hdue : (s.dev.port p).helloTx + (if s.dev.isUp p then 25000 else 1000) ≤ s.dev.now)
    (hf : (s.dev.port p).linkq.find? (s.dev.linkReady p) = none) (ht : s.dev.ownTurn p incoming = false) :
    Completes (.helloSend p incoming) s fun d => (d.port p).linkq = (s.dev.port p).linkq ++ [.hello] := by
  refine completes_run (f := fun d => d.helloSend p incoming) hp rfl ?_
  rw [Device.helloSend_due incoming hs hdue, Device.askLink_waits (hello_notMem hf) hf (.inl ht)]
  exact s.dev.linkQueued_linkq p .hello

end

/-! ## A HELLO is read (R158, R160) -/

/-- A HELLO is taken from those received. -/
def Device.helloTaken (d : Device) (p : Port) (ok : Bool) (rest : List LinkMsg) : Device :=
  (d.modPort p fun x =>
    { x with rx := rest, helloRx := d.now, helloOk := x.helloOk || ok, badRx := if ok then 0 else x.badRx + 1 }).setFlag
    (RING.PSTAT_PEERRX (PortIx p)) ok

/-- The peer that a HELLO names. -/
def Device.peerShown (d : Device) (p : Port) (pp a lo hi : Nat) : Device :=
  (((d.setFld (RING.PEER_ADDR (PortIx p)) a).setFld (RING.PEER_PORT (PortIx p)) pp).setFld
    (RING.PEERVER_LO (PortIx p)) lo).setFld (RING.PEERVER_HI (PortIx p)) hi

section
variable {d : Device} {p : Port} {ok : Bool} {pp a lo hi : Nat} {rest : List LinkMsg}

theorem Device.helloReceive_reads (h : (d.port p).rx = .hello ok pp a lo hi :: rest) : d.helloReceive p =
    if ok then (d.helloTaken p ok rest).peerShown p pp a lo hi
    else if 3 ≤ ((d.helloTaken p ok rest).port p).badRx then (d.helloTaken p ok rest).goDown p true
    else d.helloTaken p ok rest := by
  unfold Device.helloReceive
  rw [h]
  rfl

theorem Device.setFlag_port (d : Device) (f : Field) (b : Bool) (p : Port) : (d.setFlag f b).port p = d.port p :=
  Device.port_congr rfl p

theorem Device.helloTaken_port (d : Device) (p : Port) (ok : Bool) (rest : List LinkMsg) :
    (d.helloTaken p ok rest).port p =
      { d.port p with rx := rest, helloRx := d.now, helloOk := (d.port p).helloOk || ok
                      badRx := if ok then 0 else (d.port p).badRx + 1 } := by
  rw [Device.helloTaken, Device.setFlag_port, Device.modPort_port_same]

theorem Device.helloTaken_peerRx (d : Device) (p : Port) (ok : Bool) (rest : List LinkMsg) :
    (d.helloTaken p ok rest).flag (RING.PSTAT_PEERRX (PortIx p)) = ok :=
  Device.flag_setFlag_same _ _ ok rfl (by simp [RING.PSTAT])

theorem Device.helloTaken_state (d : Device) (p : Port) (ok : Bool) (rest : List LinkMsg) :
    (d.helloTaken p ok rest).portState p = d.portState p :=
  (Device.portState_setFlag _ p 2 ok).trans (d.portState_modPort p _ p)

theorem Device.peerShown_addr (d : Device) (p : Port) (pp a lo hi : Nat) :
    (d.peerShown p pp a lo hi).fld (RING.PEER_ADDR (PortIx p)) = a % 4096 := by
  unfold Device.peerShown
  rw [Device.fld_setFld_reg _ _ (by cases p <;> decide), Device.fld_setFld_reg _ _ (by cases p <;> decide),
    Device.fld_setFld_beside (f := RING.PEER_PORT (PortIx p)) (g := RING.PEER_ADDR (PortIx p)) _ _ rfl (.inr (Nat.le_refl 12))
      (by simp [RING.PEER]),
    Device.fld_setFld_same _ _ _ (by simp [RING.PEER])]
  rfl

theorem Device.peerShown_peerRx (d : Device) (p : Port) (pp a lo hi : Nat) :
    (d.peerShown p pp a lo hi).flag (RING.PSTAT_PEERRX (PortIx p)) = d.flag (RING.PSTAT_PEERRX (PortIx p)) := by
  have h : d.onlyRegs [(RING.PEER (PortIx p)).addr, (RING.PEERVER (PortIx p)).addr] (d.peerShown p pp a lo hi) := by
    unfold Device.peerShown; simp
  exact h.flag _ (by cases p <;> decide)

theorem Device.peerShown_port (d : Device) (p : Port) (pp a lo hi : Nat) : (d.peerShown p pp a lo hi).port p = d.port p :=
  Device.port_congr rfl p

end

section
variable (s : State) (p : Port) (hp : s.dev.powered = true) {pp a lo hi : Nat} {rest : List LinkMsg}
include hp

theorem linkHelloReceive_shows (h : (s.dev.port p).rx = .hello true pp a lo hi :: rest) :
    Completes (.linkHelloReceive p) s fun d =>
      (d.port p).rx = rest ∧ (d.port p).helloRx = s.dev.now ∧ (d.port p).badRx = 0 ∧
      d.flag (RING.PSTAT_PEERRX (PortIx p)) = true ∧ d.fld (RING.PEER_ADDR (PortIx p)) = a % 4096 := by
  refine completes_run (f := fun d => d.helloReceive p) hp rfl ?_
  rw [Device.helloReceive_reads h, if_pos rfl, Device.peerShown_port, Device.helloTaken_port]
  exact ⟨rfl, rfl, rfl, (Device.peerShown_peerRx _ p pp a lo hi).trans (s.dev.helloTaken_peerRx p true rest),
    Device.peerShown_addr _ p pp a lo hi⟩

theorem linkHelloReceive_counts (h : (s.dev.port p).rx = .hello false pp a lo hi :: rest) (hb : (s.dev.port p).badRx < 2) :
    Completes (.linkHelloReceive p) s fun d =>
      (d.port p).rx = rest ∧ (d.port p).helloRx = s.dev.now ∧ (d.port p).badRx = (s.dev.port p).badRx + 1 ∧
      d.flag (RING.PSTAT_PEERRX (PortIx p)) = false ∧ d.portState p = s.dev.portState p := by
  refine completes_run (f := fun d => d.helloReceive p) hp rfl ?_
  have hfew : ¬3 ≤ ((s.dev.helloTaken p false rest).port p).badRx := by
    rw [Device.helloTaken_port]
    exact Nat.not_le.2 (Nat.succ_lt_succ hb)
  rw [Device.helloReceive_reads h, if_neg Bool.false_ne_true, if_neg hfew, Device.helloTaken_port]
  exact ⟨rfl, rfl, rfl, s.dev.helloTaken_peerRx p false rest, s.dev.helloTaken_state p false rest⟩

theorem linkHelloReceive_downs (h : (s.dev.port p).rx = .hello false pp a lo hi :: rest)
    (hb : 2 ≤ (s.dev.port p).badRx) (hs : s.dev.linked p) :
    Completes (.linkHelloReceive p) s fun d => d.portState p = portDown := by
  refine completes_run (f := fun d => d.helloReceive p) hp rfl ?_
  have hthree : 3 ≤ ((s.dev.helloTaken p false rest).port p).badRx := by
    rw [Device.helloTaken_port]
    exact Nat.succ_le_succ hb
  rw [Device.helloReceive_reads h, if_neg Bool.false_ne_true, if_pos hthree]
  refine (Device.goDown_counted ?_ true).1
  unfold Device.linked
  rw [Device.helloTaken_state]
  exact hs

end

theorem Device.linked_of_isUp {d : Device} {p : Port} (h : d.portState p = portSync ∨ d.isUp p = true) : d.linked p :=
  h.imp_right Device.isUp_iff.1

/-- Settles O27: a lemma for each loss, all of them `Device.goDown`, then one for each step of training. -/
theorem portStates : Obligations.PortStates := by
  refine ⟨fun s p hp hs => ⟨fun plus gs n hl => ?_, lossOfSignal_downs s p hp hs, helloTimeout_downs s p hp hs,
    linkRetrain_downs s p hp hs⟩, fun s p hp => ⟨syncAcquired_trains s p hp, fun incoming hs hdue hf =>
      ⟨helloSend_leaves s p hp incoming hs hdue hf, helloSend_queues s p hp incoming hs hdue hf⟩,
      fun ok pp a lo hi rest h => ⟨?_, ?_, ?_⟩⟩⟩
  · exact syncLost_downs s p hp hs plus gs n hl
  · rintro rfl
    exact linkHelloReceive_shows s p hp h
  · rintro rfl hb
    exact linkHelloReceive_counts s p hp h hb
  · rintro rfl hb hs
    exact linkHelloReceive_downs s p hp h hb (Device.linked_of_isUp hs)

end Sys2Proof.Machine

namespace Sys2Proof.Machine

/-! ## PING and ECHO (R152, R159) -/

/-- The port with the oldest LINK cell read. -/
def Device.linkTaken (d : Device) (p : Port) (rest : List LinkMsg) : Device := d.modPort p fun x => { x with rx := rest }

theorem Device.linkTaken_ready (d : Device) (p : Port) (rest : List LinkMsg) :
    (d.linkTaken p rest).linkReady p = d.linkReady p := d.linkReady_modPort p (fun _ => rest) PortSt.linkq

theorem Device.linkTaken_turn (d : Device) (p : Port) (rest : List LinkMsg) (incoming : Bool) :
    (d.linkTaken p rest).ownTurn p incoming = d.ownTurn p incoming :=
  d.ownTurn_modPort p (fun _ => rest) PortSt.linkq incoming

theorem Device.linkTaken_port (d : Device) (p : Port) (rest : List LinkMsg) :
    (d.linkTaken p rest).port p = { d.port p with rx := rest } := Device.modPort_port_same _ _ _

theorem Device.pingReceive_reads {d : Device} {p : Port} {n t2 : Nat} {rest : List LinkMsg} (incoming : Bool)
    (h : (d.port p).rx = .ping n t2 :: rest) :
    d.pingReceive p incoming = (d.linkTaken p rest).askLink p (.echo n t2) incoming := by
  unfold Device.pingReceive
  rw [h]
  rfl

section
variable (s : State) (p : Port) (hp : s.dev.powered = true)
include hp

theorem pingSend_leaves (incoming : Bool)
    (hs : s.dev.isUp p = true ∨ (s.dev.portState p = portSync ∧ (s.dev.port p).helloOk = true))
    (hdue : s.dev.pingDue p ≤ s.dev.now) (ht : s.dev.ownTurn p incoming = true)
    (hf : (s.dev.port p).linkq.find? (s.dev.linkReady p) = none) :
    Completes (.pingSend p incoming) s fun d => s.dev.sentCell p d ∧ (d.port p).pingT1 = some s.dev.now ∧
      (d.port p).pingOut = some (s.dev.port p).results.length := by
  refine completes_run (f := fun d => d.pingSend p incoming) hp rfl ?_
  have hmay : (s.dev.isUp p || (s.dev.portState p == portSync && (s.dev.port p).helloOk)) = true := by
    rcases hs with h | ⟨h, hok⟩
    · rw [h, Bool.true_or]
    · rw [h, hok]; exact Bool.or_true _
  have hready : s.dev.linkReady p .ping = true := by simp [Device.linkReady, hdue]
  obtain ⟨c, h⟩ := s.dev.linkOut_port p .ping
  have hsend : s.dev.pingSend p incoming = s.dev.linkOut p .ping := by
    unfold Device.pingSend
    dsimp only
    rw [hmay, hready, Bool.true_and, if_pos rfl, Device.askLink_sends ht hf hready]
  rw [hsend]
  exact ⟨s.dev.linkOut_sent p .ping, by rw [h]; rfl, by rw [h]; rfl⟩

section
variable (incoming : Bool) {n t2 : Nat} {rest : List LinkMsg} (h : (s.dev.port p).rx = .ping n t2 :: rest)
  (hf : (s.dev.port p).linkq.find? (s.dev.linkReady p) = none)
include h hf

theorem pingReceive_answers (ht : s.dev.ownTurn p incoming = true) (ho : s.dev.linkReady p (.echo n t2) = true) :
    Completes (.pingReceive p incoming) s fun d => s.dev.sentCell p d ∧ (d.port p).rx = rest ∧
      (d.port p).linkq = (s.dev.port p).linkq ∧ (d.port p).pingAt = s.dev.now := by
  refine completes_run (f := fun d => d.pingReceive p incoming) hp rfl ?_
  have hport := s.dev.linkTaken_port p rest
  have hready := s.dev.linkTaken_ready p rest
  rw [Device.pingReceive_reads incoming h, Device.askLink_sends ((s.dev.linkTaken_turn p rest incoming).trans ht)
    (by rw [hready, hport]; exact hf) (by rw [hready, ho])]
  obtain ⟨c, hecho⟩ := (s.dev.linkTaken p rest).linkOut_port p (.echo n t2)
  refine ⟨?_, ?_, ?_, ?_⟩
  · exact ((s.dev.linkTaken p rest).linkOut_sent p _).trans (by rw [Device.linkTaken, Device.rd_modPort])
  · rw [Device.linkOut_rx, hport]
  · rw [Device.linkOut_linkq, hport]
  · rw [hecho]
    exact congrArg Rck.tide (s.dev.modPort_rck p _)

theorem pingReceive_queues (hq : (s.dev.port p).linkq.contains (.echo n t2) = false)
    (ho : s.dev.ownTurn p incoming = false ∨ s.dev.linkReady p (.echo n t2) = false) :
    Completes (.pingReceive p incoming) s fun d =>
      (d.port p).rx = rest ∧ (d.port p).linkq = (s.dev.port p).linkq ++ [.echo n t2] := by
  refine completes_run (f := fun d => d.pingReceive p incoming) hp rfl ?_
  have hport := s.dev.linkTaken_port p rest
  have hready := s.dev.linkTaken_ready p rest
  have hq' : LinkOut.echo n t2 ∉ ((s.dev.linkTaken p rest).port p).linkq := by
    rw [hport]
    simpa using hq
  rw [Device.pingReceive_reads incoming h, Device.askLink_waits hq' (by rw [hready, hport]; exact hf)
    (ho.imp (s.dev.linkTaken_turn p rest incoming).trans (congrFun hready _).trans), Device.linkQueued,
    Device.modPort_port_same, hport]
  exact ⟨rfl, rfl⟩

end

end

/-! ## The measured delay (R158, R159) -/

/-- An operation that yields one of its two operands yields, over a list, its start or a member. -/
theorem foldl_pick_mem {α : Type} {f : α → α → α} (hf : ∀ a b, f a b = a ∨ f a b = b) :
    ∀ (l : List α) (a : α), l.foldl f a = a ∨ l.foldl f a ∈ l
  | [], _ => .inl rfl
  | b :: t, a => by
    rw [List.foldl_cons]
    rcases foldl_pick_mem hf t (f a b) with h | h
    · rcases hf a b with hab | hab
      · exact .inl (h.trans hab)
      · exact .inr (by rw [h, hab]; exact .head _)
    · exact .inr (.tail _ h)

theorem foldl_pick_head_mem {f : Int → Int → Int} (hf : ∀ a b, f a b = a ∨ f a b = b) {l : List Int} (hl : l ≠ []) :
    l.foldl f (l.headD 0) ∈ l := by
  cases l with
  | nil => exact absurd rfl hl
  | cons a t =>
    rcases foldl_pick_mem hf (a :: t) a with h | h
    · rw [List.headD_cons, h]; exact .head _
    · exact h

/-- How far the results lie apart at most. -/
def spreadOf (rs : List Int) : Nat := (rs.foldl max (rs.headD 0) - rs.foldl min (rs.headD 0)).toNat

theorem spreadOf_le {rs : List Int} (hne : rs ≠ []) (h : ∀ x ∈ rs, ∀ y ∈ rs, x - y ≤ 8) : spreadOf rs ≤ 8 := by
  have := h _ (foldl_pick_head_mem max_choice hne) _ (foldl_pick_head_mem min_choice hne)
  unfold spreadOf
  omega

/-- The results of a round are in: the spread and, where they agree, their mean are shown. -/
def Device.delayShown (d : Device) (p : Port) (rs : List Int) : Device :=
  ((d.wr (RING.LDSPRD (PortIx p)) (min 255 (ceilDiv (spreadOf rs) 2))).modPort p fun x => { x with results := [] }).wr
    (RING.LDLY (PortIx p)) (unsigned 16 (roundDiv (rs.foldl (· + ·) 0) 32))

theorem Device.measured_agree {d : Device} {p : Port} {rs : List Int} (h : spreadOf rs ≤ 8) :
    d.measured p rs = if (d.delayShown p rs).isUp p then d.delayShown p rs else (d.delayShown p rs).portRises p := by
  unfold Device.measured
  exact if_pos h

section
variable (d : Device) (p : Port) (rs : List Int)

theorem Device.delayShown_delay :
    (d.delayShown p rs).rd (RING.LDLY (PortIx p)) = unsigned 16 (roundDiv (rs.foldl (· + ·) 0) 32) :=
  (Device.rd_wr_same _ _ _).trans (Nat.mod_eq_of_lt (unsigned_lt 16 _))

theorem Device.delayShown_state : (d.delayShown p rs).portState p = d.portState p := by
  have h : d.onlyRegs [(RING.LDSPRD (PortIx p)).addr, (RING.LDLY (PortIx p)).addr] (d.delayShown p rs) := by
    unfold Device.delayShown; simp
  exact h.portState (by cases p <;> decide)

theorem Device.delayShown_events : (d.delayShown p rs).events = d.events := by
  unfold Device.delayShown; simp

/-- The port is UP, and that is logged. -/
def Device.portRisen : Device :=
  ((d.setFld (RING.PSTAT_STATE (PortIx p)) portUp).raise (RING.PSTAT_LINK_UP (PortIx p))).log Ev.LINK_UP
    [PortIx p, d.rd (RING.LDLY (PortIx p))]

/-- What follows at the ring: its flags, the healing of a break, the head window. -/
def Device.ringJoined (heal : Bool) : Device :=
  let d := (d.chainFlags.modRing fun r => { r with upSince := true }).modPort p fun x => { x with upAt := d.clk }
  let d := if heal then ((d.raise RING.LSTAT_RING_HEAL).log Ev.RING_HEAL [PortIx p]).askQuery else d
  d.openWindow

theorem Device.portRises_eq : d.portRises p = (d.portRisen p).ringJoined p (d.isUp (otherPort p)) := rfl

theorem Device.portRisen_flag : (d.portRisen p).flag (RING.PSTAT_LINK_UP (PortIx p)) = true :=
  (Device.flag_log _ _ _ _ (by cases p <;> decide) (by cases p <;> decide)).trans
    (Device.flag_raise _ _ rfl (by simp [RING.PSTAT]))

theorem Device.portRisen_isUp : (d.portRisen p).isUp p = true :=
  Device.isUp_iff.2 <|
    (Device.fld_log (f := RING.PSTAT_STATE (PortIx p)) _ _ _ _ (by cases p <;> decide) (by cases p <;> decide)).trans
      ((Device.portState_raise _ p 9).trans (d.portState_setState p portUp))

theorem Device.portRisen_onlyRegs : d.onlyRegs ((RING.PSTAT (PortIx p)).addr :: logRegs) (d.portRisen p) := by
  unfold Device.portRisen; simp

theorem Device.openWindow_rest : d.openWindow.regs = d.regs ∧ d.openWindow.events = d.events := by
  unfold Device.openWindow
  dsimp only
  split <;> exact ⟨rfl, rfl⟩

theorem Device.ringJoined_onlyRegs (heal : Bool) : d.onlyRegs (RING.LSTAT.addr :: logRegs) (d.ringJoined p heal) := by
  unfold Device.ringJoined Device.chainFlags
  dsimp only
  rw [Device.onlyRegs_congr (Device.openWindow_rest _).1]
  cases heal
  · simp
  · rw [if_pos rfl, Device.onlyRegs_congr (Device.askQuery_rest _ p).1]
    simp

theorem Device.ringJoined_prefix (heal : Bool) : d.events <+: (d.ringJoined p heal).events := by
  unfold Device.ringJoined Device.chainFlags
  dsimp only
  rw [(Device.openWindow_rest _).2]
  cases heal
  · simp
  · rw [if_pos rfl, (Device.askQuery_rest _ p).2.1, Device.log_events]
    simp

variable {d p rs} in
/-- The sixteenth result of a round that agrees takes a training port UP. -/
theorem Device.measured_rises {o : Device} (hev : d.events = o.events) (hs : d.portState p = portSync) (h : spreadOf rs ≤ 8) :
    (d.measured p rs).isUp p = true ∧ (d.measured p rs).flag (RING.PSTAT_LINK_UP (PortIx p)) = true ∧
      o.reportedCode (d.measured p rs) Ev.LINK_UP ∧
      (d.measured p rs).rd (RING.LDLY (PortIx p)) = unsigned 16 (roundDiv (rs.foldl (· + ·) 0) 32) := by
  have hup : (d.delayShown p rs).isUp p = false := by
    unfold Device.isUp
    rw [Device.delayShown_state, hs]
    rfl
  rw [Device.measured_agree h, hup, if_neg Bool.false_ne_true, Device.portRises_eq]
  have hjoined := (((d.delayShown p rs).portRisen p).ringJoined_onlyRegs p ((d.delayShown p rs).isUp (otherPort p)))
  refine ⟨?_, ?_, ?_, ?_⟩
  · rw [hjoined.isUp (by cases p <;> decide), Device.portRisen_isUp]
  · rw [hjoined.flag _ (by cases p <;> decide), Device.portRisen_flag]
  · have hrisen : o.reported ((d.delayShown p rs).portRisen p) Ev.LINK_UP _ :=
      Device.reported_log (by simp [Device.delayShown_events, hev]) _ _
    obtain ⟨e, he, hcode, -, horig⟩ := Device.reported_mono (Device.ringJoined_prefix _ p _) hrisen
    exact ⟨e, he, hcode, horig⟩
  · rw [hjoined _ (by cases p <;> decide), Device.portRisen_onlyRegs _ p _ (by cases p <;> decide), Device.delayShown_delay]

end

/-! ## An ECHO is read (R159) -/

/-- The exchange under way ends with a result. -/
def Device.resultNoted (d : Device) (p : Port) (rest : List LinkMsg) (rs : List Int) : Device :=
  (d.linkTaken p rest).modPort p fun x => { x with pingT1 := none, pingOut := none, results := rs }

theorem Device.echoReceive_reads {d : Device} {p : Port} {n hold t4 t1 : Nat} {rest : List LinkMsg}
    (h : (d.port p).rx = .echo n hold t4 :: rest) (h1 : (d.port p).pingT1 = some t1) (ho : (d.port p).pingOut = some n) :
    let rs := ((t4 : Int) - t1 - hold) :: (d.port p).results
    d.echoReceive p = if rs.length < 16 then d.resultNoted p rest rs else (d.resultNoted p rest rs).measured p rs := by
  unfold Device.echoReceive
  rw [h]
  simp only [takeLink, h1, ho, ne_eq, not_true_eq_false, if_false]
  rfl

section
variable (s : State) (p : Port) (hp : s.dev.powered = true) {n hold t4 t1 : Nat} {rest : List LinkMsg}
  (h : (s.dev.port p).rx = .echo n hold t4 :: rest) (h1 : (s.dev.port p).pingT1 = some t1)
  (ho : (s.dev.port p).pingOut = some n)
include hp h h1 ho

theorem echoReceive_results (hl : (((t4 : Int) - t1 - hold) :: (s.dev.port p).results).length < 16) :
    Completes (.echoReceive p) s fun d =>
      (d.port p).results = ((t4 : Int) - t1 - hold) :: (s.dev.port p).results ∧ (d.port p).rx = rest := by
  refine completes_run (f := fun d => d.echoReceive p) hp rfl ?_
  rw [Device.echoReceive_reads h h1 ho, if_pos hl, Device.resultNoted, Device.modPort_port_same, Device.linkTaken,
    Device.modPort_port_same]
  exact ⟨rfl, rfl⟩

theorem echoReceive_rises (hl : 16 ≤ (((t4 : Int) - t1 - hold) :: (s.dev.port p).results).length)
    (hs : s.dev.portState p = portSync)
    (hd : ∀ x ∈ ((t4 : Int) - t1 - hold) :: (s.dev.port p).results,
      ∀ y ∈ ((t4 : Int) - t1 - hold) :: (s.dev.port p).results, x - y ≤ 8) :
    Completes (.echoReceive p) s fun d => d.isUp p = true ∧ d.flag (RING.PSTAT_LINK_UP (PortIx p)) = true ∧
      s.dev.reportedCode d Ev.LINK_UP ∧ d.rd (RING.LDLY (PortIx p)) =
        unsigned 16 (roundDiv ((((t4 : Int) - t1 - hold) :: (s.dev.port p).results).foldl (· + ·) 0) 32) := by
  refine completes_run (f := fun d => d.echoReceive p) hp rfl ?_
  rw [Device.echoReceive_reads h h1 ho, if_neg (Nat.not_lt.2 hl)]
  refine Device.measured_rises ?_ ?_ (spreadOf_le (List.cons_ne_nil _ _) hd)
  · simp [Device.resultNoted, Device.linkTaken]
  · simpa [Device.resultNoted, Device.linkTaken] using hs

end

/-- Settles O28: a lemma for each command; sixteen results that agree are `Device.measured_rises`. -/
theorem portsMeasure : Obligations.PortsMeasure := fun s p hp =>
  ⟨fun incoming hs hdue ht hf => pingSend_leaves s p hp incoming hs hdue ht hf,
    fun incoming _ _ _ h hf hq => ⟨pingReceive_answers s p hp incoming h hf, pingReceive_queues s p hp incoming h hf hq⟩,
    fun _ _ _ _ _ h h1 ho => ⟨echoReceive_results s p hp h h1 ho, echoReceive_rises s p hp h h1 ho⟩⟩

end Sys2Proof.Machine

namespace Sys2Proof.Machine

/-! ## Cells counted (R147, R149, R150, R161)

What a good cell is delivered to counts elsewhere: `deliveryRegs` are all the registers that delivery may write. -/

/-- The counters of what delivery turns away. -/
def deliveryRegs : List Nat :=
  [RING.VERCNT.addr, RING.OLDCNT.addr, RING.DUPCNT.addr, RING.RASMTO.addr, RING.NOTHEADCNT.addr]

section
variable {o : Device} (d : Device)

@[simp] theorem Device.putSrc_onlyRegs {as : List Nat} (x : SrcRec) : o.onlyRegs as (d.putSrc x) = o.onlyRegs as d :=
  Device.onlyRegs_congr rfl

@[simp] theorem Device.noteSeg_onlyRegs {as : List Nat} (src seq seg : Nat) (port : Option Port) :
    o.onlyRegs as (d.noteSeg src seq seg port) = o.onlyRegs as d := by
  unfold Device.noteSeg
  split <;> simp

@[simp] theorem Device.snoop_onlyRegs {as : List Nat} (f : Cell) : o.onlyRegs as (d.snoop f) = o.onlyRegs as d := by
  unfold Device.snoop
  split <;> simp

@[simp] theorem Device.noteHops_onlyRegs {as : List Nat} (p : Port) (f : Cell) :
    o.onlyRegs as (d.noteHops p f) = o.onlyRegs as d := by
  unfold Device.noteHops
  split <;> simp

@[simp] theorem Device.eastFirst_onlyRegs {as : List Nat} (p : Port) (f : Cell) (stamp : Nat) :
    o.onlyRegs as (d.eastFirst p f stamp) = o.onlyRegs as d := by
  unfold Device.eastFirst
  split
  · rfl
  · dsimp only
    split <;> simp

@[simp] theorem Device.roomForPart_onlyRegs : o.onlyRegs deliveryRegs d.roomForPart = o.onlyRegs deliveryRegs d := by
  unfold Device.roomForPart
  split <;> simp [deliveryRegs]

@[simp] theorem Device.deliverMsg_onlyRegs (m : Msg) :
    o.onlyRegs deliveryRegs (d.deliverMsg m) = o.onlyRegs deliveryRegs d := by
  unfold Device.deliverMsg
  (repeat' split) <;> simp [deliveryRegs]

@[simp] theorem Device.assemble_onlyRegs (p : Port) (f : Cell) (t : MsgType) (stamp : Nat) :
    o.onlyRegs deliveryRegs (d.assemble p f t stamp) = o.onlyRegs deliveryRegs d := by
  have hdup : RING.DUPCNT.addr ∈ deliveryRegs := by decide
  unfold Device.assemble
  dsimp only
  split
  · simp
  · simp [hdup]

/-- The source's record is brought up to date. -/
theorem Device.heard_onlyRegs {as : List Nat} (src : Nat) :
    o.onlyRegs as (match d.srcRec src with
      | some x => d.putSrc { x with lastCell := d.clk }
      | none => d) = o.onlyRegs as d := by
  split <;> simp

theorem Device.dataCell_onlyRegs (p : Port) (f : Cell) (soc : Nat) : d.onlyRegs deliveryRegs (d.dataCell p f soc) := by
  have hver : RING.VERCNT.addr ∈ deliveryRegs := by decide
  have hold : RING.OLDCNT.addr ∈ deliveryRegs := by decide
  have hdup : RING.DUPCNT.addr ∈ deliveryRegs := by decide
  unfold Device.dataCell
  dsimp only
  (repeat' split) <;> simp [hver, hold, hdup]

theorem Device.linkCell_onlyRegs {as : List Nat} (p : Port) (f : Cell) (soc : Nat) :
    d.onlyRegs as (d.linkCell p f soc) := by
  unfold Device.linkCell
  dsimp only
  split <;> simp

end

/-- The code violations that come with a cell are counted, and its copy ends. -/
def Device.cellEnded (d : Device) (p : Port) (c : CellBits) (a : Arrival) : Device :=
  (d.endCopy p c a).count (RING.CVCNT (PortIx p)) (a.violations + a.outside)

/-- A cell that is not stomped and whose CRC or form is wrong. -/
def Cell.bad (f : Cell) : Bool := f.crc != f.crcCalc || (f.link && f.type != 0) || (!f.link && f.type == 0)

/-- What a good cell is for. -/
def Device.cellTaken (d : Device) (p : Port) (f : Cell) (ago : Nat) : Device :=
  if f.link then d.linkCell p f (d.now - ago)
  else if d.upFor p ago then d.dataCell p f (d.now - ago)
  else d

section
variable {d : Device} {p : Port} {c : CellBits} {a : Arrival}

theorem Device.cellReceive_ended (hs : d.portState p = portSync ∨ d.isUp p = true) (hc : startsCell c = true) :
    d.cellReceive p c a =
      let e := d.cellEnded p c a
      let f := cellFields c.toNat
      if a.violations != 0 then e
      else if a.missing != 0 then e.count (RING.CRCCNT (PortIx p))
      else if f.crc == f.crcCalc ^^^ 0xFFFF then e.count (RING.STOMPCNT (PortIx p))
      else if f.bad then e.count (RING.CRCCNT (PortIx p))
      else (e.count (RING.RXCELLS (PortIx p))).cellTaken p f a.sinceSoc := by
  unfold Device.cellReceive
  dsimp only
  rw [if_neg]
  · rfl
  · rcases hs with h | h <;> simp [h, hc]

theorem Device.endCopy_rest (d : Device) (p : Port) (c : CellBits) (a : Arrival) :
    (d.endCopy p c a).regs = d.regs ∧ (d.endCopy p c a).ring.inbox = d.ring.inbox := by
  unfold Device.endCopy Device.modLive
  simp

theorem Device.cellEnded_violations (d : Device) (p : Port) (c : CellBits) (a : Arrival) :
    (d.cellEnded p c a).rd (RING.CVCNT (PortIx p)) =
      (d.rd (RING.CVCNT (PortIx p)) + (a.violations + a.outside)) % 2 ^ 32 := by
  unfold Device.cellEnded
  rw [Device.rd_count_same, Device.rd_congr (d.endCopy_rest p c a).1]
  rfl

theorem Device.cellEnded_rd (d : Device) (p : Port) (c : CellBits) (a : Arrival) {r : Reg}
    (h : (RING.CVCNT (PortIx p)).addr ≠ r.addr) : (d.cellEnded p c a).rd r = d.rd r :=
  (Device.rd_wr_ne _ _ h).trans (Device.rd_congr (d.endCopy_rest p c a).1 r)

theorem Device.cellEnded_inbox (d : Device) (p : Port) (c : CellBits) (a : Arrival) :
    (d.cellEnded p c a).ring.inbox = d.ring.inbox := (d.endCopy_rest p c a).2

/-- The cell that ends is counted once in `r`, with the violations that came with it. -/
def Device.countedCell (p : Port) (a : Arrival) (r : Reg) (o d : Device) : Prop :=
  d.rd r = (o.rd r + 1) % 2 ^ r.width ∧
    d.rd (RING.CVCNT (PortIx p)) = (o.rd (RING.CVCNT (PortIx p)) + (a.violations + a.outside)) % 2 ^ 32

theorem Device.cellEnded_countedCell (d : Device) (p : Port) (c : CellBits) (a : Arrival) {r : Reg}
    (h : (RING.CVCNT (PortIx p)).addr ≠ r.addr) : d.countedCell p a r ((d.cellEnded p c a).count r) :=
  ⟨(Device.rd_count_same _ r 1).trans (by rw [Device.cellEnded_rd d p c a h]),
    (Device.rd_wr_ne _ _ h.symm).trans (d.cellEnded_violations p c a)⟩

theorem Device.cellTaken_onlyRegs (d : Device) (p : Port) (f : Cell) (ago : Nat) :
    d.onlyRegs deliveryRegs (d.cellTaken p f ago) := by
  unfold Device.cellTaken
  (repeat' split)
  · exact d.linkCell_onlyRegs p f _
  · exact d.dataCell_onlyRegs p f _
  · exact Device.onlyRegs_refl d

theorem Cell.bad_iff (f : Cell) : f.bad = true ↔ f.crc ≠ f.crcCalc ∨ ¬(f.link = true ↔ f.type = 0) := by
  unfold Cell.bad
  cases hl : f.link <;> simp

/-- No CRC is its own stomped form. -/
theorem xor_ones_ne (x : Nat) : x ≠ x ^^^ 0xFFFF := fun h => by
  have := congrArg (Nat.testBit · 0) h
  simp at this
  omega

end

section
variable (s : State) (p : Port) (hp : s.dev.powered = true) (hs : s.dev.portState p = portSync ∨ s.dev.isUp p = true)
  (c : CellBits) (a : Arrival) (hc : startsCell c = true)
include hp hs hc

theorem cellReceive_violated (hv : a.violations ≠ 0) : Completes (.cellReceive p c a) s fun d =>
    d.rd (RING.CVCNT (PortIx p)) = (s.dev.rd (RING.CVCNT (PortIx p)) + (a.violations + a.outside)) % 2 ^ 32 ∧
    d.rd (RING.RXCELLS (PortIx p)) = s.dev.rd (RING.RXCELLS (PortIx p)) ∧ d.ring.inbox = s.dev.ring.inbox := by
  refine completes_run (f := fun d => d.cellReceive p c a) hp rfl ?_
  rw [Device.cellReceive_ended hs hc, if_pos (by simpa using hv)]
  exact ⟨s.dev.cellEnded_violations p c a, s.dev.cellEnded_rd p c a (by cases p <;> decide), s.dev.cellEnded_inbox p c a⟩

variable (hv : a.violations = 0)
include hv

theorem cellReceive_early (hm : a.missing ≠ 0) : Completes (.cellReceive p c a) s fun d =>
    s.dev.countedCell p a (RING.CRCCNT (PortIx p)) d ∧ d.ring.inbox = s.dev.ring.inbox := by
  refine completes_run (f := fun d => d.cellReceive p c a) hp rfl ?_
  rw [Device.cellReceive_ended hs hc, if_neg (by simpa using hv), if_pos (by simpa using hm)]
  exact ⟨s.dev.cellEnded_countedCell p c a (by cases p <;> decide), s.dev.cellEnded_inbox p c a⟩

variable (hm : a.missing = 0)
include hm

theorem cellReceive_stomped (hcrc : (cellFields c.toNat).crc = (cellFields c.toNat).crcCalc ^^^ 0xFFFF) :
    Completes (.cellReceive p c a) s fun d =>
      s.dev.countedCell p a (RING.STOMPCNT (PortIx p)) d ∧ d.ring.inbox = s.dev.ring.inbox := by
  refine completes_run (f := fun d => d.cellReceive p c a) hp rfl ?_
  rw [Device.cellReceive_ended hs hc, if_neg (by simpa using hv), if_neg (by simpa using hm), if_pos (by simpa using hcrc)]
  exact ⟨s.dev.cellEnded_countedCell p c a (by cases p <;> decide), s.dev.cellEnded_inbox p c a⟩

theorem cellReceive_bad (hcrc : (cellFields c.toNat).crc ≠ (cellFields c.toNat).crcCalc ^^^ 0xFFFF)
    (hbad : (cellFields c.toNat).bad = true) :
    Completes (.cellReceive p c a) s fun d =>
      s.dev.countedCell p a (RING.CRCCNT (PortIx p)) d ∧ d.ring.inbox = s.dev.ring.inbox := by
  refine completes_run (f := fun d => d.cellReceive p c a) hp rfl ?_
  rw [Device.cellReceive_ended hs hc, if_neg (by simpa using hv), if_neg (by simpa using hm), if_neg (by simpa using hcrc),
    if_pos hbad]
  exact ⟨s.dev.cellEnded_countedCell p c a (by cases p <;> decide), s.dev.cellEnded_inbox p c a⟩

theorem cellReceive_good (hcrc : (cellFields c.toNat).crc = (cellFields c.toNat).crcCalc)
    (hgood : (cellFields c.toNat).bad = false) :
    Completes (.cellReceive p c a) s fun d => s.dev.countedCell p a (RING.RXCELLS (PortIx p)) d := by
  refine completes_run (f := fun d => d.cellReceive p c a) hp rfl ?_
  have hnot : ¬((cellFields c.toNat).crc == (cellFields c.toNat).crcCalc ^^^ 0xFFFF) = true := by
    rw [hcrc, beq_iff_eq]
    exact xor_ones_ne _
  rw [Device.cellReceive_ended hs hc, if_neg (by simpa using hv), if_neg (by simpa using hm), if_neg hnot,
    if_neg (by simp [hgood])]
  have htaken := ((s.dev.cellEnded p c a).count (RING.RXCELLS (PortIx p))).cellTaken_onlyRegs p (cellFields c.toNat) a.sinceSoc
  obtain ⟨hcount, hviol⟩ := s.dev.cellEnded_countedCell p c a (r := RING.RXCELLS (PortIx p)) (by cases p <;> decide)
  exact ⟨(htaken _ (by cases p <;> decide)).trans hcount, (htaken _ (by cases p <;> decide)).trans hviol⟩

end

/-! ## A degraded link (R161) -/

def Device.reportDegraded (d : Device) (p : Port) (rise : Nat) : Device :=
  (d.raise (RING.PSTAT_LINK_DEGRADED (PortIx p))).log Ev.LINK_DEGRADED [PortIx p, rise]

/-- DEGRADED shows whether the rise is above DEGTHR. -/
def Device.degradeShown (o : Device) (p : Port) (d : Device) : Device :=
  d.setFlag (RING.PSTAT_DEGRADED (PortIx p)) (decide (o.fld RING.LCFG_DEGTHR < (o.port p).crcRise))

section
variable (d : Device) (p : Port)

/-- A rise above DEGTHR is reported where DEGRADED does not stand yet. -/
theorem Device.degrade_eq : d.degrade p = d.degradeShown p
    (d.when (decide (d.fld RING.LCFG_DEGTHR < (d.port p).crcRise) && !d.flag (RING.PSTAT_DEGRADED (PortIx p))) fun e =>
      e.reportDegraded p (d.port p).crcRise) := rfl

theorem Device.degrade_cases : d.degrade p = d.degradeShown p d ∨
    d.degrade p = d.degradeShown p (d.reportDegraded p (d.port p).crcRise) := by
  rw [Device.degrade_eq]
  cases decide (d.fld RING.LCFG_DEGTHR < (d.port p).crcRise) && !d.flag (RING.PSTAT_DEGRADED (PortIx p))
  · exact .inl rfl
  · exact .inr rfl

theorem Device.degrade_flag :
    (d.degrade p).flag (RING.PSTAT_DEGRADED (PortIx p)) = decide (d.fld RING.LCFG_DEGTHR < (d.port p).crcRise) := by
  rw [Device.degrade_eq]
  exact Device.flag_setFlag_same _ _ _ rfl (by simp [RING.PSTAT])

theorem Device.degrade_onlyRegs : d.onlyRegs ((RING.PSTAT (PortIx p)).addr :: logRegs) (d.degrade p) := by
  rcases d.degrade_cases p with h | h
  · rw [h]; simp [Device.degradeShown]
  · rw [h]; simp [Device.degradeShown, Device.reportDegraded]

/-- Beside the report it leaves what is kept of the ports alone. -/
theorem Device.degrade_ring : ∃ q, (d.degrade p).ring = { d.ring with evq := q } := by
  rcases d.degrade_cases p with h | h
  · rw [h]; exact ⟨d.ring.evq, rfl⟩
  · rw [h]; exact Device.log_ring (d.raise (RING.PSTAT_LINK_DEGRADED (PortIx p))) _ _ _

theorem Device.degrade_port (q : Port) : (d.degrade p).port q = d.port q := by
  obtain ⟨x, hx⟩ := d.degrade_ring p
  cases q <;> simp [Device.port, hx]

theorem Device.degrade_prefix : d.events <+: (d.degrade p).events := by
  rcases d.degrade_cases p with h | h
  · rw [h]; exact List.prefix_refl _
  · rw [h]; exact Device.log_prefix (d.raise (RING.PSTAT_LINK_DEGRADED (PortIx p))) _ _

/-- Both ports are judged, East first. -/
theorem Device.linkDegraded_judges (h : d.ring.degSec < d.ring.second) :
    d.linkDegraded = ((d.degrade .east).degrade .west).modRing fun r => { r with degSec := r.second } :=
  if_neg (Nat.not_le.2 h)

theorem Device.linkDegraded_degSec (h : d.ring.degSec < d.ring.second) : d.linkDegraded.ring.degSec = d.ring.second := by
  obtain ⟨q, hq⟩ := d.degrade_ring .east
  obtain ⟨q', hq'⟩ := (d.degrade .east).degrade_ring .west
  rw [d.linkDegraded_judges h, Device.modRing_ring, hq', hq]

end

/-- The port's link is reported as degraded since `o`, with the rise. -/
def Device.toldDegraded (p : Port) (rise : Nat) (o d : Device) : Prop :=
  d.flag (RING.PSTAT_LINK_DEGRADED (PortIx p)) = true ∧ o.reported d Ev.LINK_DEGRADED [PortIx p, rise]

section
variable {d : Device} {p : Port}

theorem Device.degrade_told {o : Device} (ho : o.events <+: d.events) (hrise : d.fld RING.LCFG_DEGTHR < (d.port p).crcRise)
    (hflag : d.flag (RING.PSTAT_DEGRADED (PortIx p)) = false) : o.toldDegraded p (d.port p).crcRise (d.degrade p) := by
  have htold : d.degrade p = d.degradeShown p (d.reportDegraded p (d.port p).crcRise) := by
    rw [Device.degrade_eq, hflag, decide_eq_true hrise]
    rfl
  rw [htold]
  refine ⟨?_, Device.reported_log (d := d.raise (RING.PSTAT_LINK_DEGRADED (PortIx p))) ho _ _⟩
  calc _ = (d.reportDegraded p (d.port p).crcRise).flag (RING.PSTAT_LINK_DEGRADED (PortIx p)) :=
        Device.flag_setFlag_bit _ (r := RING.PSTAT (PortIx p)) (i := 3) (j := 10) _ (by simp [RING.PSTAT])
          (by simp [RING.PSTAT])
    _ = (d.raise (RING.PSTAT_LINK_DEGRADED (PortIx p))).flag (RING.PSTAT_LINK_DEGRADED (PortIx p)) :=
        Device.flag_log _ _ _ _ (by cases p <;> decide) (by cases p <;> decide)
    _ = true := Device.flag_raise d _ rfl (by simp [RING.PSTAT])

/-- Judging the other port changes nothing of this one. -/
theorem Device.degrade_other (d : Device) (p : Port) :
    (d.degrade (otherPort p)).fld RING.LCFG_DEGTHR = d.fld RING.LCFG_DEGTHR ∧
    ∀ i, (d.degrade (otherPort p)).flag ⟨RING.PSTAT (PortIx p), i, 1⟩ = d.flag ⟨RING.PSTAT (PortIx p), i, 1⟩ := by
  have hregs := d.degrade_onlyRegs (otherPort p)
  have hp : (RING.PSTAT (PortIx p)).addr ∉ (RING.PSTAT (PortIx (otherPort p))).addr :: logRegs := by cases p <;> decide
  exact ⟨hregs.fld _ (by cases p <;> decide), fun i => hregs.flag ⟨RING.PSTAT (PortIx p), i, 1⟩ hp⟩

/-- What the judgement shows of either port is what judging that port alone shows. -/
theorem Device.linkDegraded_flag (h : d.ring.degSec < d.ring.second) :
    d.linkDegraded.flag (RING.PSTAT_DEGRADED (PortIx p)) = decide (d.fld RING.LCFG_DEGTHR < (d.port p).crcRise) := by
  rw [d.linkDegraded_judges h, Device.flag_modRing]
  cases p with
  | east =>
    exact (((d.degrade .east).degrade_other .east).2 3).trans (d.degrade_flag .east)
  | west =>
    rw [Device.degrade_flag, Device.degrade_port, show (d.degrade .east).fld RING.LCFG_DEGTHR = _ from
      (d.degrade_other .west).1]

theorem Device.linkDegraded_told (h : d.ring.degSec < d.ring.second)
    (hrise : d.fld RING.LCFG_DEGTHR < (d.port p).crcRise) (hflag : d.flag (RING.PSTAT_DEGRADED (PortIx p)) = false) :
    d.toldDegraded p (d.port p).crcRise d.linkDegraded := by
  rw [d.linkDegraded_judges h]
  unfold Device.toldDegraded
  rw [Device.flag_modRing]
  cases p with
  | east =>
    obtain ⟨hbit, hevent⟩ := Device.degrade_told (List.prefix_refl _) hrise hflag
    exact ⟨(((d.degrade .east).degrade_other .east).2 10).trans hbit,
      Device.reported_mono ((d.degrade .east).degrade_prefix .west) hevent⟩
  | west =>
    obtain ⟨hthr, hbits⟩ := d.degrade_other .west
    rw [← d.degrade_port .east .west] at hrise ⊢
    exact Device.degrade_told (d.degrade_prefix .east) (hthr.trans_lt hrise) ((hbits 3).trans hflag)

end

/-- Settles O29: a lemma for each way in which a cell ends, and the judgement of the CRC count. -/
theorem cellsCounted : Obligations.CellsCounted := by
  refine fun s p hp => ⟨fun hs c a hc => ⟨cellReceive_violated s p hp hs c a hc, cellReceive_early s p hp hs c a hc,
    fun hv hm => ⟨cellReceive_stomped s p hp hs c a hc hv hm, fun hcrc hbad => ?_, fun hcrc hform => ?_⟩⟩,
    fun hsec => ⟨fun hrise hflag => ?_, fun hrise => ?_⟩⟩
  · exact cellReceive_bad s p hp hs c a hc hv hm hcrc ((Cell.bad_iff _).2 hbad)
  · refine cellReceive_good s p hp hs c a hc hv hm hcrc (Bool.eq_false_iff.2 fun hbad => ?_)
    exact ((Cell.bad_iff _).1 hbad).elim (fun h => h hcrc) fun h => h hform
  · obtain ⟨hbit, hevent⟩ := Device.linkDegraded_told hsec hrise hflag
    exact completes_run (f := Device.linkDegraded) hp rfl
      ⟨(Device.linkDegraded_flag hsec).trans (decide_eq_true hrise), hbit, hevent, s.dev.linkDegraded_degSec hsec⟩
  · exact completes_run (f := Device.linkDegraded) hp rfl
      ⟨(Device.linkDegraded_flag hsec).trans (decide_eq_false (Nat.not_lt.2 hrise)), s.dev.linkDegraded_degSec hsec⟩

end Sys2Proof.Machine

namespace Sys2Proof.Machine

/-! ## EDGE messages (R169) -/

/-- A message taken leaves the others that were delivered. -/
theorem Device.takeMsg_inbox {d e : Device} {t : MsgType} {m : Msg} (h : d.takeMsg t = some (m, e)) :
    e.ring.inbox = d.ring.inbox.erase m := by rw [Device.takeMsg_takes h]

theorem Device.reportLate_inbox (d : Device) (src : Source) (seq tgt : Nat) (late gone : List Entry) :
    (d.reportLate src seq tgt late gone).ring.inbox = d.ring.inbox := by
  unfold Device.reportLate
  split
  · rfl
  · simp

theorem Device.place_inbox (d : Device) (src : Source) (e : EdgeReq) (a : Action) :
    (d.place src e a).1.ring.inbox = d.ring.inbox := by
  unfold Device.place
  exact (Device.reportLate_inbox _ _ _ _ _ _).trans (congrArg Ring.inbox (Device.wr_rest _ _ _).2.2.2.2.2.2.2.2.2.1)

/-- An edge that is entered is none of the messages. -/
theorem Device.submit_inbox {d : Device} {src : Source} {x : Nat} (h : d.enterable src (edgeReq x)) :
    (d.submit src x).1.ring.inbox = d.ring.inbox := by
  obtain ⟨h6, hmap, h10, hhead, -, -⟩ := h
  obtain ⟨a, ha⟩ := Device.check6_action h6
  have hplace : d.submit src x = d.place src (edgeReq x) a := by
    rw [Device.submit_here hhead]
    simp [Device.enter, h6, hmap, h10, ha]
  rw [hplace, Device.place_inbox]

section
variable (s : State) (hp : s.dev.powered = true) {m : Msg} {d0 : Device}
include hp

theorem edgeCellReceive_one (h : s.dev.takeMsg .edge = some (m, d0))
    (he : d0.enterable .head (edgeReq (fieldAt m.data 1 16))) (hn : byteAt m.data 0 = 1) :
    Completes .edgeCellReceive s fun d => d0.entered d .head (edgeReq (fieldAt m.data 1 16)) ∧
      d.ring.inbox = s.dev.ring.inbox.erase m := by
  refine completes_run (f := Device.edgeCell) hp rfl ?_
  have hedge : s.dev.edgeCell = (d0.submit .head (fieldAt m.data 1 16)).1 := by
    simp [Device.edgeCell, h, hn]
  rw [hedge]
  exact ⟨(Device.submit_enterable he).1, (Device.submit_inbox he).trans (Device.takeMsg_inbox h)⟩

theorem edgeCellReceive_two (h : s.dev.takeMsg .edge = some (m, d0))
    (he : d0.enterable .head (edgeReq (fieldAt m.data 1 16))) (hn : byteAt m.data 0 = 2)
    (he2 : (d0.submit .head (fieldAt m.data 1 16)).1.enterable .head (edgeReq (fieldAt m.data 17 16))) :
    Completes .edgeCellReceive s fun d =>
      d0.entered (d0.submit .head (fieldAt m.data 1 16)).1 .head (edgeReq (fieldAt m.data 1 16)) ∧
      (d0.submit .head (fieldAt m.data 1 16)).1.entered d .head (edgeReq (fieldAt m.data 17 16)) := by
  refine completes_run (f := Device.edgeCell) hp rfl ?_
  have hedge : s.dev.edgeCell = ((d0.submit .head (fieldAt m.data 1 16)).1.submit .head (fieldAt m.data 17 16)).1 := by
    simp [Device.edgeCell, h, hn]
  rw [hedge]
  exact ⟨(Device.submit_enterable he).1, (Device.submit_enterable he2).1⟩

end

/-! ## STRIKE messages (R174) -/

/-- In each of its three cases an assertion by the ring shows its source, and the first of a cycle is reported. -/
theorem Device.strike_ring (d : Device) :
    (d.struckNow = false → (d.strike .ring).flag BANK.STRIKESTAT_ACTIVE = true ∧ d.reportedCode (d.strike .ring) Ev.STRIKE) ∧
      (d.strike .ring).flag BANK.STRIKESTAT_SRC_RING = true := by
  cases hn : d.struckNow with
  | true =>
    have h : d.strike .ring = (d.raise BANK.STRIKESTAT_SRC_RING).addStrikeSource .ring := by
      unfold Device.strike; rw [if_pos hn]; rfl
    rw [h]
    exact ⟨nofun, Device.flag_raise d _ rfl (by decide)⟩
  | false =>
    cases ha : d.flag BANK.STRIKESTAT_ACTIVE with
    | true =>
      have h : d.strike .ring = d.strikeNoted .ring := by
        unfold Device.strike
        rw [if_neg (by simp [hn])]
        simp only [ha]
        rfl
      rw [h]
      refine ⟨fun _ => ⟨d.strikeNoted_active .ring, ?_⟩, d.strikeNoted_src .ring⟩
      rw [Device.reportedCode, Device.strikeNoted_events, List.drop_left]
      exact ⟨_, .head _, rfl, rfl⟩
    | false =>
      have h := Device.strike_struck .ring hn ha
      obtain ⟨e, he, hcode, -, horig⟩ := h.event
      exact ⟨fun _ => ⟨h.active, e, he, hcode, horig⟩, h.source⟩

section
variable (s : State) (hp : s.dev.powered = true) {m : Msg} {d0 : Device}
include hp

theorem strikeCellReceive_asserts (h : s.dev.takeMsg .strike = some (m, d0))
    (hrx : s.dev.flag BANK.STRIKECFG_RINGRX = true) : Completes .strikeCellReceive s fun d =>
      (s.dev.struckNow = false → d.flag BANK.STRIKESTAT_ACTIVE = true ∧ s.dev.reportedCode d Ev.STRIKE) ∧
      d.flag BANK.STRIKESTAT_SRC_RING = true := by
  refine completes_run (f := Device.strikeCell) hp rfl ?_
  have hd := Device.takeMsg_takes h
  have hcell : s.dev.strikeCell = d0.strike .ring := by
    have hrx0 : d0.flag BANK.STRIKECFG_RINGRX = true := by rw [hd]; exact hrx
    simp [Device.strikeCell, h, hrx0]
  have hstrike := d0.strike_ring
  rw [hcell]
  subst hd
  exact hstrike

theorem strikeCellReceive_ignored (h : s.dev.takeMsg .strike = some (m, d0))
    (hrx : s.dev.flag BANK.STRIKECFG_RINGRX = false) : Completes .strikeCellReceive s fun d => d = d0 := by
  refine completes_run (f := Device.strikeCell) hp rfl ?_
  have hrx0 : d0.flag BANK.STRIKECFG_RINGRX = false := by rw [Device.takeMsg_takes h]; exact hrx
  simp [Device.strikeCell, h, hrx0]

/-! ## EVENT messages (R173) -/

/-- A member's event as the head logs it. -/
def Msg.event (m : Msg) : Event :=
  { code := fieldAt m.data 0 2, tide := fieldAt m.data 2 8, orig := m.addr, raw := some (fieldAt m.data 10 8) }

theorem eventReceive_logs (h : s.dev.takeMsg .event = some (m, d0)) (hh : s.dev.isHead = true) :
    Completes .eventReceive s fun d => d.events = s.dev.events ++ [m.event] ∧
      d.rd RING.EVCNT = (s.dev.rd RING.EVCNT + 1) % 2 ^ RING.EVCNT.width := by
  refine completes_run (f := Device.eventReceive) hp rfl ?_
  have hd := Device.takeMsg_takes h
  have hh0 : d0.isHead = true := by rw [hd]; exact hh
  have hrest : ∀ c : Bool, ∀ e : Device, (if c then e.askQuery else e).regs = e.regs ∧
      (if c then e.askQuery else e).events = e.events := fun c e => by
    cases c
    · exact ⟨rfl, rfl⟩
    · exact ⟨(e.askQuery_rest .east).1, (e.askQuery_rest .east).2.1⟩
  have hrecv : ∃ c : Bool, s.dev.eventReceive =
      let e := { d0 with events := d0.events ++ [m.event] }.count RING.EVCNT
      if c then e.askQuery else e := ⟨_, by simp only [Device.eventReceive, h, hh0]; rfl⟩
  obtain ⟨c, hc⟩ := hrecv
  rw [hc, (hrest c _).2, Device.rd_congr (hrest c _).1, Device.rd_count_same]
  subst hd
  exact ⟨rfl, rfl⟩

end

/-! ## Timeouts (R155, R157, R171) -/

section
variable (s : State) (hp : s.dev.powered = true)
include hp

theorem rasmTimeout_discards (x : Partial) (hx : x ∈ s.dev.ring.parts) (hlate : x.since + 2 * msec ≤ s.dev.now) :
    Completes .rasmTimeout s fun d =>
      d.ring.parts = s.dev.ring.parts.filter (fun y => decide (s.dev.now < y.since + 2 * msec)) ∧
      d.rd RING.RASMTO = (s.dev.rd RING.RASMTO +
        (s.dev.ring.parts.filter (fun y => decide (y.since + 2 * msec ≤ s.dev.now))).length) % 2 ^ RING.RASMTO.width := by
  refine completes_run (f := Device.rasmTimeout) hp rfl ?_
  have hsome : ¬(s.dev.ring.parts.filter fun y => decide (y.since + 2 * msec ≤ s.dev.now)).length = 0 := fun h =>
    List.not_mem_nil (List.length_eq_zero_iff.1 h ▸ List.mem_filter.2 ⟨hx, decide_eq_true hlate⟩)
  unfold Device.rasmTimeout
  dsimp only
  rw [if_neg hsome]
  refine ⟨List.filter_congr fun y _ => ?_, Device.rd_count_same _ _ _⟩
  rw [← decide_not, decide_eq_decide]
  exact Nat.not_le

theorem sourceForget_forgets (src : BitVec 12) (x : SrcRec) (hx : s.dev.srcRec src.toNat = some x)
    (hlast : x.lastCell + 40 * msec ≤ s.dev.clk) : Completes (.sourceForget src) s fun d =>
      d.srcRec src.toNat = none ∧ ∀ k ∈ d.ring.kept, k.src ≠ src.toNat := by
  refine completes_run (f := fun d => d.forget src.toNat) hp rfl ?_
  unfold Device.forget
  rw [hx]
  dsimp only
  rw [if_neg (Nat.not_lt.2 hlast)]
  refine ⟨?_, fun k hk => ?_⟩
  · simp [Device.srcRec, List.find?_eq_none]
  · simpa using (List.mem_filter.1 hk).2

theorem quietEnd_ends (hq : s.dev.flag RING.LSTAT_QUIET = true) (ht : s.dev.ring.quietTo ≤ s.dev.clk) :
    Completes .quietEnd s fun d => d.flag RING.LSTAT_QUIET = false := by
  refine completes_run (f := Device.quietEnd) hp rfl ?_
  unfold Device.quietEnd
  rw [if_pos (by simp [hq, ht]), Device.flag_congr (Device.openWindow_rest _).1]
  exact Device.flag_lower _ _ rfl (by decide)

end

/-- Settles O31: a lemma for each message and each timeout. -/
theorem messagesDelivered : Obligations.MessagesDelivered :=
  ⟨fun s _ _ hp => ⟨fun h he => ⟨edgeCellReceive_one s hp h he, edgeCellReceive_two s hp h he⟩,
    fun h => ⟨strikeCellReceive_asserts s hp h, strikeCellReceive_ignored s hp h⟩, eventReceive_logs s hp⟩,
    fun s hp => ⟨rasmTimeout_discards s hp, sourceForget_forgets s hp, quietEnd_ends s hp⟩⟩

end Sys2Proof.Machine

namespace Sys2Proof.Machine

/-! ## A copy on its way (R147, R150) -/

/-- So many bytes of two numbers are the same where the numbers are, so far. -/
theorem toBytes_congr : ∀ (n : Nat) {x y : Nat}, x % 256 ^ n = y % 256 ^ n → toBytes n x = toBytes n y
  | 0, _, _, _ => rfl
  | n + 1, x, y, h => by
    rw [Nat.pow_succ'] at h
    have hbyte : x % 256 = y % 256 := by
      rw [← Nat.mod_mul_right_mod x 256 (256 ^ n), h, Nat.mod_mul_right_mod]
    have hrest : x / 256 % 256 ^ n = y / 256 % 256 ^ n := by
      rw [← Nat.mod_mul_right_div_self, h, Nat.mod_mul_right_div_self]
    rw [toBytes, toBytes, hbyte, toBytes_congr n hrest]

theorem crcByte_lt (c b : Nat) : crcByte 16 0x1021 c b < 2 ^ 16 := by
  unfold crcByte
  rw [show List.range 8 = List.range 7 ++ [7] from rfl, List.foldl_append]
  generalize List.foldl _ _ (List.range 7) = c'
  have hshift : c' * 2 % 2 ^ 16 < 2 ^ 16 := Nat.mod_lt _ (by decide)
  rw [List.foldl_cons, List.foldl_nil]
  split
  · exact Nat.xor_lt_two_pow hshift (by decide)
  · exact hshift

theorem crc16_lt (bs : List Nat) : crc16 bs < 2 ^ 16 := by
  rcases List.eq_nil_or_concat bs with rfl | ⟨l, b, rfl⟩
  · decide
  · unfold crc16
    rw [List.concat_eq_append, List.foldl_append, List.foldl_cons, List.foldl_nil]
    exact crcByte_lt _ b

/-- Sealing a cell touches its last two bytes alone. -/
theorem sealCell_bits (stomped : Bool) (x : Nat) {lo w : Nat} (h : lo + w ≤ 144) :
    bitsOf (sealCell stomped x).toNat lo w = bitsOf x lo w := by
  unfold sealCell
  rw [BitVec.toNat_ofNat, bitsOf_mod _ (by omega), bitsOf_setBits_ne _ _ (.inr h)]

/-- What is not stomped carries its own CRC. -/
theorem sealCell_sound (x : Nat) :
    (cellFields (sealCell false x).toNat).crc = (cellFields (sealCell false x).toNat).crcCalc := by
  have hcrc : bitsOf (sealCell false x).toNat 144 16 = crc16 (toBytes 17 (x / 256)) := by
    unfold sealCell
    rw [BitVec.toNat_ofNat, bitsOf_mod _ (by decide), bitsOf_setBits_same]
    exact Nat.mod_eq_of_lt (crc16_lt _)
  have hbody : toBytes 17 ((sealCell false x).toNat / 256) = toBytes 17 (x / 256) :=
    toBytes_congr 17 (sealCell_bits false x (lo := 8) (w := 136) (by decide))
  exact hcrc.trans (congrArg crc16 hbody).symm

/-- The hop count of a copy (R150). -/
theorem Device.copyOf_hop (d : Device) (p : Port) (c : CellBits) (delay : Nat) :
    (cellFields (d.copyOf p c delay).toNat).hop = ((cellFields c.toNat).hop + 1) % 4096 := by
  have hhop := bitsOf_setBits_same c.toNat 56 12 ((cellFields c.toNat).hop + 1)
  unfold Device.copyOf
  refine (sealCell_bits _ _ (lo := 56) (w := 12) (by decide)).trans ?_
  split
  · rw [bitsOf_setBits_ne _ _ (.inr (by decide)), hhop]
    rfl
  · exact hhop

theorem Device.copyOf_sound (d : Device) (p : Port) (c : CellBits) (delay : Nat)
    (h : (cellFields c.toNat).crc = (cellFields c.toNat).crcCalc) :
    (cellFields (d.copyOf p c delay).toNat).crc = (cellFields (d.copyOf p c delay).toNat).crcCalc := by
  have hseal : ∃ x, d.copyOf p c delay = sealCell false x := ⟨_, by
    unfold Device.copyOf
    dsimp only
    rw [bne_eq_false_iff_eq.2 h]⟩
  obtain ⟨x, hx⟩ := hseal
  rw [hx]
  exact sealCell_sound x

/-! ## Forwarding and stripping (R149, R151, R178) -/

/-- A cell of the device's own has been taken off the ring. -/
def Device.ownRemoved (d : Device) (f : Cell) : Device :=
  let e := d.count RING.OWNRM
  if f.src == e.addr && e.foreignSerial f && !e.flag RING.RSTAT_CONFLICT then
    (e.raise RING.RSTAT_CONFLICT).log Ev.ADDR_CONFLICT [e.addr]
  else e

/-- A forwarded cell more waits on a port. -/
def Device.forwardQueued (d : Device) (p : Port) (x : Fwd) : Device := d.modPort p fun y => { y with fwd := y.fwd ++ [x] }

section
variable {d : Device} {p : Port} {c : CellBits} (delay : Nat) (hup : d.upFor p decideTicks = true)
  (hc : startsCell c = true) (hl : (cellFields c.toNat).link = false)
include hup hc hl

theorem Device.cellForward_own (ho : d.ownSrc (cellFields c.toNat).src = true) :
    d.cellForward p c delay = d.ownRemoved (cellFields c.toNat) := by
  unfold Device.cellForward
  dsimp only
  rw [if_neg (by simp [hup, hc, hl]), if_pos ho]
  rfl

variable (ho : d.ownSrc (cellFields c.toNat).src = false) (hq : d.isUp (otherPort p) = true)
include ho hq

theorem Device.cellForward_passes (hh : (cellFields c.toNat).hop + 1 < d.rd RING.HOPLIM) : d.cellForward p c delay =
    d.forwardQueued (otherPort p) { cell := d.copyOf p c delay, live := some delay } := by
  unfold Device.cellForward
  dsimp only
  rw [if_neg (by simp [hup, hc, hl]), if_neg (by simp [ho]), if_neg (by simp [hq]), if_neg (Nat.not_le.2 hh)]
  rfl

theorem Device.cellForward_limit (hh : d.rd RING.HOPLIM ≤ (cellFields c.toNat).hop + 1) : d.cellForward p c delay =
    (d.count RING.HLIMCNT).forwardQueued (otherPort p) { cell := 0 } := by
  unfold Device.cellForward
  dsimp only
  rw [if_neg (by simp [hup, hc, hl]), if_neg (by simp [ho]), if_neg (by simp [hq]), if_pos hh]
  rfl

end

theorem Device.forwardQueued_fwd (d : Device) (p : Port) (x : Fwd) :
    ((d.forwardQueued p x).port p).fwd = (d.port p).fwd ++ [x] := by
  rw [Device.forwardQueued, Device.modPort_port_same]

/-- Logging sets no status bit of the ring but EVDROP. -/
theorem Device.flag_log_conflict (d : Device) (code : Nat) (args : List Nat) :
    (d.log code args).flag RING.RSTAT_CONFLICT = d.flag RING.RSTAT_CONFLICT := by
  have hdrop : ∀ e : Device, ((e.raise RING.RSTAT_EVDROP).countSat RING.EVDROPCNT).flag RING.RSTAT_CONFLICT =
      e.flag RING.RSTAT_CONFLICT := fun e =>
    (Device.flag_countSat_ne _ _ (by decide)).trans (Device.flag_raise_bit e (i := 9) (j := 1) (by decide) (by decide))
  unfold Device.log Device.toHead
  simp only [Bool.false_eq_true, if_false]
  split
  · rfl
  · split
    · rfl
    · exact hdrop _

section
variable (d : Device) (f : Cell)

theorem Device.ownRemoved_cases : d.ownRemoved f = d.count RING.OWNRM ∨
    d.ownRemoved f = ((d.count RING.OWNRM).raise RING.RSTAT_CONFLICT).log Ev.ADDR_CONFLICT [(d.count RING.OWNRM).addr] := by
  unfold Device.ownRemoved
  dsimp only
  split
  · exact .inr rfl
  · exact .inl rfl

theorem Device.ownRemoved_counts :
    (d.ownRemoved f).rd RING.OWNRM = (d.rd RING.OWNRM + 1) % 2 ^ RING.OWNRM.width := by
  rcases d.ownRemoved_cases f with h | h
  · rw [h, Device.rd_count_same]
  · rw [h, Device.rd_log _ _ _ _ (by decide) (by decide), Device.rd_raise_ne _ (by decide), Device.rd_count_same]

theorem Device.ownRemoved_port (p : Port) : (d.ownRemoved f).port p = d.port p := by
  rcases d.ownRemoved_cases f with h | h
  · rw [h]; exact Device.port_congr rfl p
  · rw [h, Device.log_port]; exact Device.port_congr rfl p

variable {d f} in
/-- A cell under the device's own address that carries another serial leaves CONFLICT set. -/
theorem Device.ownRemoved_conflict (hs : f.src = d.addr) (hf : d.foreignSerial f = true) :
    (d.ownRemoved f).flag RING.RSTAT_CONFLICT = true := by
  have hregs : d.onlyRegs [RING.OWNRM.addr] (d.count RING.OWNRM) := by simp
  have haddr : (d.count RING.OWNRM).addr = d.addr := hregs.fld RING.ADDR_ADDR (by decide)
  have hforeign : (d.count RING.OWNRM).foreignSerial f = d.foreignSerial f := by
    unfold Device.foreignSerial
    rw [hregs SYS.SERIAL (by decide)]
  unfold Device.ownRemoved
  dsimp only
  rw [haddr, hforeign, hs, hf, beq_self_eq_true]
  cases hflag : (d.count RING.OWNRM).flag RING.RSTAT_CONFLICT
  · exact (Device.flag_log_conflict _ _ _).trans (Device.flag_raise _ _ rfl (by decide))
  · exact hflag

end

section
variable (s : State) (p : Port) (hp : s.dev.powered = true)
include hp

section
variable (c : CellBits) (delay : Nat) (hup : s.dev.upFor p decideTicks = true) (hc : startsCell c = true)
  (hl : (cellFields c.toNat).link = false)
include hup hc hl

theorem cellForward_strips (ho : s.dev.ownSrc (cellFields c.toNat).src = true) :
    Completes (.cellForward p c delay) s fun d =>
      d.rd RING.OWNRM = (s.dev.rd RING.OWNRM + 1) % 2 ^ RING.OWNRM.width ∧
      (d.port (otherPort p)).fwd = (s.dev.port (otherPort p)).fwd ∧
      ((cellFields c.toNat).src = s.dev.addr → s.dev.foreignSerial (cellFields c.toNat) = true →
        d.flag RING.RSTAT_CONFLICT = true) := by
  refine completes_run (f := fun d => d.cellForward p c delay) hp rfl ?_
  rw [Device.cellForward_own delay hup hc hl ho]
  exact ⟨s.dev.ownRemoved_counts _, congrArg PortSt.fwd (s.dev.ownRemoved_port _ _), Device.ownRemoved_conflict⟩

theorem cellForward_forwards (ho : s.dev.ownSrc (cellFields c.toNat).src = false) (hq : s.dev.isUp (otherPort p) = true)
    (hh : (cellFields c.toNat).hop + 1 < s.dev.rd RING.HOPLIM) : Completes (.cellForward p c delay) s fun d =>
      (d.port (otherPort p)).fwd =
        (s.dev.port (otherPort p)).fwd ++ [{ cell := s.dev.copyOf p c delay, live := some delay }] ∧
      (cellFields (s.dev.copyOf p c delay).toNat).hop = ((cellFields c.toNat).hop + 1) % 4096 ∧
      ((cellFields c.toNat).crc = (cellFields c.toNat).crcCalc →
        (cellFields (s.dev.copyOf p c delay).toNat).crc = (cellFields (s.dev.copyOf p c delay).toNat).crcCalc) := by
  refine completes_run (f := fun d => d.cellForward p c delay) hp rfl ?_
  rw [Device.cellForward_passes delay hup hc hl ho hq hh, Device.forwardQueued_fwd]
  exact ⟨rfl, s.dev.copyOf_hop p c delay, s.dev.copyOf_sound p c delay⟩

theorem cellForward_limits (ho : s.dev.ownSrc (cellFields c.toNat).src = false) (hq : s.dev.isUp (otherPort p) = true)
    (hh : s.dev.rd RING.HOPLIM ≤ (cellFields c.toNat).hop + 1) : Completes (.cellForward p c delay) s fun d =>
      d.rd RING.HLIMCNT = (s.dev.rd RING.HLIMCNT + 1) % 2 ^ RING.HLIMCNT.width ∧
      (d.port (otherPort p)).fwd = (s.dev.port (otherPort p)).fwd ++ [{ cell := 0 }] := by
  refine completes_run (f := fun d => d.cellForward p c delay) hp rfl ?_
  rw [Device.cellForward_limit delay hup hc hl ho hq hh, Device.forwardQueued_fwd]
  exact ⟨(Device.rd_modPort _ _ _ _).trans (Device.rd_count_same _ _ _),
    congrArg (·.fwd ++ _) (Device.port_congr (d := s.dev) rfl (otherPort p))⟩

end

theorem cellAbort_cuts (hs : s.dev.portState p = portSync ∨ s.dev.isUp p = true) : Completes (.cellAbort p) s fun d =>
    s.dev.counted d (RING.ABORTCNT (PortIx p)) ∧
    (d.port (otherPort p)).fwd = (s.dev.port (otherPort p)).fwd.filter (fun e => e.live.isNone) ∧
    ((s.dev.port (otherPort p)).outLive ≠ none →
      (d.port (otherPort p)).out = 0 ∧ (d.port (otherPort p)).outLive = none) := by
  refine completes_run (f := fun d => d.cellAbort p) hp rfl ?_
  unfold Device.cellAbort
  rw [if_neg (by rcases hs with h | h <;> simp [h])]
  rw [Device.counted, Device.rd_modPort, Device.modPort_port_same,
    show (s.dev.countSat (RING.ABORTCNT (PortIx p))).port (otherPort p) = s.dev.port (otherPort p) from
      Device.port_congr rfl _]
  refine ⟨Device.rd_countSat_same _ _ _, rfl, fun h => ⟨?_, rfl⟩⟩
  exact if_pos (Option.isSome_iff_ne_none.2 h)

end

end Sys2Proof.Machine

namespace Sys2Proof.Machine

/-! ## The order of sending (R148, R152, R183)

`Device.onTurn` is the device as a port chooses its next cell, `Device.strikeTurn` the own STRIKE that goes first. -/

/-- The device once the send interval and the oldest event have been looked at. -/
def Device.onTurn (d : Device) (p : Port) : Device := d.sendInterval.queueEvent p

/-- The own messages that may leave, in their order. -/
def Device.sendOrder (d : Device) (p : Port) : List Nat := if d.flag RING.LSTAT_QUIET then [] else d.txOrder p

/-- The own STRIKE that goes before all else. -/
def Device.strikeTurn (d : Device) (p : Port) : Option (Nat × TxMsg) :=
  (d.sendOrder p).findSome? fun i => (d.ring.txq[i]?).bind fun m =>
    if m.msg.type == .strike && m.ahead p == 0 then some (i, m) else none

/-- The forwarded cell that goes next: a STRIKE, or else the oldest. -/
def Device.forwardTurn (d : Device) (p : Port) : Option Fwd :=
  ((d.port p).fwd.find? fun e => isStrikeCell e.cell) <|> (d.port p).fwd.head?

section
variable {d : Device} {p : Port} {incoming : Bool} (hup : d.isUp p = true) (ht : (d.port p).freeAt ≤ d.clk + 32)
include hup ht

/-- What a port that is UP does at a cell boundary. -/
theorem Device.cellSend_up : d.cellSend p incoming =
    let e := d.onTurn p
    let free := decide ((e.port p).freeAt ≤ e.clk)
    match e.strikeTurn p with
    | some (i, m) => if free then e.beginCell p i m else e
    | none =>
      match e.forwardTurn p with
      | some x => e.sendForwarded p x
      | none => if incoming || !free then e else e.sendOwn p (e.sendOrder p) := by
  have hstate := Device.isUp_iff.1 hup
  unfold Device.cellSend
  have hturn : ¬(d.clk + idleTicks < (d.port p).freeAt) := Nat.not_lt.2 ht
  rw [if_neg (by simp [hstate, portUp, portSync]), if_neg (by simp [hup, hturn])]
  rfl

theorem Device.cellSend_strike {i : Nat} {m : TxMsg} (hs : (d.onTurn p).strikeTurn p = some (i, m))
    (hf : ((d.onTurn p).port p).freeAt ≤ (d.onTurn p).clk) :
    d.cellSend p incoming = (d.onTurn p).beginCell p i m := by
  rw [Device.cellSend_up hup ht]
  simp only [hs, hf, decide_true, if_true]

theorem Device.cellSend_forwarded {x : Fwd} (hs : (d.onTurn p).strikeTurn p = none)
    (hx : (d.onTurn p).forwardTurn p = some x) : d.cellSend p incoming = (d.onTurn p).sendForwarded p x := by
  rw [Device.cellSend_up hup ht]
  simp only [hs, hx]

theorem Device.cellSend_own (hs : (d.onTurn p).strikeTurn p = none) (hx : (d.onTurn p).forwardTurn p = none)
    (hi : incoming = false) (hf : ((d.onTurn p).port p).freeAt ≤ (d.onTurn p).clk) :
    d.cellSend p incoming = (d.onTurn p).sendOwn p ((d.onTurn p).sendOrder p) := by
  rw [Device.cellSend_up hup ht]
  simp only [hs, hx, hi, hf, decide_true, Bool.not_true, Bool.or_self, Bool.false_eq_true, if_false]

end

/-! ### What the look at interval and event leaves -/

/-- What the choice of a cell looks at, beside the messages that wait. -/
structure Device.TurnKept (d e : Device) : Prop where
  port : ∀ p, e.port p = d.port p
  clk : e.clk = d.clk
  rck : e.rck = d.rck
  regs : d.onlyRegs [RING.TXDEFCNT.addr] e

namespace Device.TurnKept

variable {d e f : Device} {p : Port}

theorem trans (h : d.TurnKept e) (k : e.TurnKept f) : d.TurnKept f :=
  ⟨fun p => (k.port p).trans (h.port p), k.clk.trans h.clk, k.rck.trans h.rck, h.regs.trans k.regs⟩

theorem isUp (h : d.TurnKept e) : e.isUp p = d.isUp p := h.regs.isUp (by cases p <;> decide)

theorem quiet (h : d.TurnKept e) : e.flag RING.LSTAT_QUIET = d.flag RING.LSTAT_QUIET := h.regs.flag _ (by decide)

theorem sent (h : d.TurnKept e) : e.rd (RING.TXCELLS (PortIx p)) = d.rd (RING.TXCELLS (PortIx p)) :=
  h.regs _ (by cases p <;> decide)

theorem maySend (h : d.TurnKept e) (t : MsgType) (data : List Nat) : e.maySend t data = d.maySend t data := by
  unfold Device.maySend Device.addr
  rw [h.regs.fld _ (by decide), h.regs.flag _ (by decide), h.regs.flag _ (by decide)]

theorem linkReady (h : d.TurnKept e) : e.linkReady p = d.linkReady p := by
  have hnow : e.now = d.now := congrArg Rck.tide h.rck
  funext o
  cases o <;> simp [Device.linkReady, Device.pingDue, h.port, h.isUp, hnow]

end Device.TurnKept

theorem Device.sendInterval_cases (d : Device) : d.sendInterval = d ∨ d.sendInterval = d.newInterval := by
  unfold Device.sendInterval
  split
  · exact .inr rfl
  · exact .inl rfl

section
variable (d : Device) (p : Port)

theorem Device.sendInterval_kept : d.TurnKept d.sendInterval ∧ d.sendInterval.ring.txq = d.ring.txq ∧
    d.sendInterval.ring.evq = d.ring.evq := by
  rcases d.sendInterval_cases with h | h
  · rw [h]
    exact ⟨⟨fun _ => rfl, rfl, rfl, Device.onlyRegs_refl d⟩, rfl, rfl⟩
  · rw [h]
    exact ⟨⟨fun q => by cases q <;> rfl, rfl, rfl, fun _ _ => rfl⟩, rfl, rfl⟩

theorem Device.queueMsg_rest (t : MsgType) (dst : Nat) (data : List Nat) :
    (d.queueMsg t dst data).regs = d.regs ∧ (d.queueMsg t dst data).clk = d.clk ∧
    (d.queueMsg t dst data).port p = d.port p := by
  unfold Device.queueMsg
  split
  · cases p <;> exact ⟨rfl, rfl, rfl⟩
  · exact ⟨rfl, rfl, rfl⟩

/-- An event that becomes a message joins the others as an EVENT. -/
theorem Device.queueMsg_event (dst : Nat) (data : List Nat) :
    ∃ l, (d.queueMsg .event dst data).ring.txq = d.ring.txq ++ l ∧ ∀ m ∈ l, m.msg.type = .event := by
  unfold Device.queueMsg
  split
  · exact ⟨_, rfl, fun m hm => by rw [List.mem_singleton.1 hm]⟩
  · exact ⟨[], (List.append_nil _).symm, fun _ hm => absurd hm List.not_mem_nil⟩

theorem Device.queueEvent_cases : d.queueEvent p = d ∨
    d.queueEvent p = (d.modRing fun r => { r with evHeld := true }).countSat RING.TXDEFCNT ∨
    ∃ q dst data, d.queueEvent p = (d.modRing fun r => { r with evq := q, evHeld := false }).queueMsg .event dst data := by
  unfold Device.queueEvent
  dsimp only
  split
  · exact .inl rfl
  · (repeat' split)
    · exact .inl rfl
    · exact .inl rfl
    · exact .inr (.inl rfl)
    · exact .inr (.inr ⟨_, _, _, rfl⟩)

theorem Device.queueEvent_nil (h : d.ring.evq = []) : d.queueEvent p = d := by
  unfold Device.queueEvent
  rw [h]

theorem Device.queueEvent_kept : d.TurnKept (d.queueEvent p) ∧
    ∃ l, (d.queueEvent p).ring.txq = d.ring.txq ++ l ∧ ∀ m ∈ l, m.msg.type = .event := by
  rcases d.queueEvent_cases p with h | h | ⟨q, dst, data, h⟩
  · rw [h]
    exact ⟨⟨fun _ => rfl, rfl, rfl, Device.onlyRegs_refl d⟩, [], (List.append_nil _).symm, fun _ hm => absurd hm List.not_mem_nil⟩
  · rw [h]
    exact ⟨⟨fun p => by cases p <;> rfl, rfl, rfl, by simp⟩, [], (List.append_nil _).symm, fun _ hm => absurd hm List.not_mem_nil⟩
  · rw [h]
    let e := d.modRing fun r => { r with evq := q, evHeld := false }
    refine ⟨⟨fun p => ((e.queueMsg_rest p .event dst data).2.2).trans (by cases p <;> rfl),
      (e.queueMsg_rest p .event dst data).2.1, (e.queueMsg_bearing .event dst data).1, by simp⟩, ?_⟩
    exact e.queueMsg_event dst data

theorem Device.onTurn_kept : d.TurnKept (d.onTurn p) ∧
    ∃ l, (d.onTurn p).ring.txq = d.ring.txq ++ l ∧ ∀ m ∈ l, m.msg.type = .event := by
  obtain ⟨hkept, htxq, -⟩ := d.sendInterval_kept
  obtain ⟨hkept', l, hl, hevent⟩ := d.sendInterval.queueEvent_kept p
  exact ⟨hkept.trans hkept', l, hl.trans (by rw [htxq]), hevent⟩

variable {d p} in
/-- Where no event waits the messages stay as they are, and the budget does not shrink. -/
theorem Device.onTurn_noEvent (h : d.ring.evq = []) : (d.onTurn p).ring.txq = d.ring.txq ∧
    (d.budgetLeft = true → (d.onTurn p).budgetLeft = true) := by
  obtain ⟨-, htxq, hevq⟩ := d.sendInterval_kept
  unfold Device.onTurn
  rw [Device.queueEvent_nil _ _ (hevq.trans h)]
  refine ⟨htxq, fun hb => ?_⟩
  rcases d.sendInterval_cases with h | h
  · rw [h, hb]
  · rw [h]
    exact decide_eq_true (Nat.lt_of_le_of_lt (Nat.zero_le _) (of_decide_eq_true hb))

end

/-! ### Whose turn it is -/

section
variable {d : Device} {p : Port}

theorem Device.mem_txOrder {i : Nat} (h : i ∈ d.txOrder p) :
    ∃ m, d.ring.txq[i]? = some m ∧ m.waits p = true ∧ d.maySend m.msg.type m.msg.data = true := by
  unfold Device.txOrder at h
  obtain ⟨c, -, hc⟩ := List.mem_flatMap.1 h
  obtain ⟨-, hok⟩ := List.mem_filter.1 (List.mem_filter.1 hc).1
  obtain ⟨m, hm, hw⟩ := (Option.any_eq_true _ _).1 hok
  exact ⟨m, hm, Bool.and_eq_true_iff.1 hw⟩

theorem Device.strikeTurn_none
    (h : d.flag RING.LSTAT_QUIET = true ∨ ∀ m ∈ d.ring.txq, m.msg.type = .strike → m.waits p = false) :
    d.strikeTurn p = none := by
  refine List.findSome?_eq_none_iff.2 fun i hi => ?_
  unfold Device.sendOrder at hi
  rcases h with h | h
  · rw [h, if_pos rfl] at hi
    exact absurd hi List.not_mem_nil
  · split at hi
    · exact absurd hi List.not_mem_nil
    · obtain ⟨m, hm, hw, -⟩ := Device.mem_txOrder hi
      have hne : m.msg.type ≠ .strike := fun hs => by
        rw [h m (List.mem_of_getElem? hm) hs] at hw
        cases hw
      simp [hm, hne]

theorem sendClass_lt (t : MsgType) : sendClass t < 8 := by cases t <;> decide

/-- A message that waits alone is the whole order. -/
theorem Device.sendOrder_sole {m : TxMsg} (hq : d.ring.txq = [m]) (hquiet : d.flag RING.LSTAT_QUIET = false)
    (hw : m.waits p = true) (hs : d.maySend m.msg.type m.msg.data = true) : d.sendOrder p = [0] := by
  have hclass : ∀ k < 8, (List.range 8).flatMap (fun c => [0].filter fun _ => k == c) = [0] := by decide
  unfold Device.sendOrder Device.txOrder
  rw [hquiet, if_neg Bool.false_ne_true, hq]
  have hok : ((List.range [m].length).filter fun i =>
      ([m][i]?).any fun m => m.waits p && d.maySend m.msg.type m.msg.data) = [0] := by
    simp [hw, hs]
  simp only [hok]
  refine Eq.trans (congrArg (List.flatMap · (List.range 8)) (funext fun c => ?_)) (hclass _ (sendClass_lt m.msg.type))
  exact List.filter_congr fun i hi => by rw [List.mem_singleton.1 hi]; rfl

theorem Device.strikeTurn_sole {m : TxMsg} (hq : d.ring.txq = [m]) (horder : d.sendOrder p = [0])
    (ht : m.msg.type = .strike) (ha : m.ahead p = 0) : d.strikeTurn p = some (0, m) := by
  unfold Device.strikeTurn
  simp [horder, hq, ht, ha]

theorem Device.ownTurn_iff {incoming : Bool} : d.ownTurn p incoming = true ↔
    (d.port p).freeAt ≤ d.clk ∧ (d.port p).fwd = [] ∧ incoming = false ∧
      (d.flag RING.LSTAT_QUIET = true ∨ ∀ m ∈ d.ring.txq, m.msg.type = .strike → m.waits p = false) := by
  unfold Device.ownTurn
  simp only [Bool.and_eq_true, decide_eq_true_eq, List.isEmpty_iff, Bool.not_eq_true', Bool.or_eq_true, List.all_eq_true,
    bne_iff_ne, ne_eq, and_assoc, imp_iff_not_or]

end

/-! ### LINK cells and forwarded cells -/

theorem Device.forwardTurn_nil {d : Device} {p : Port} (h : (d.port p).fwd = []) : d.forwardTurn p = none := by
  unfold Device.forwardTurn
  rw [h]
  rfl

/-- On its turn an UP port sends the LINK cell that is ready. -/
theorem Device.cellSend_link {d : Device} {p : Port} {incoming : Bool} {o : LinkOut} (hup : d.isUp p = true)
    (ht : d.ownTurn p incoming = true) (ho : (d.port p).linkq.find? (d.linkReady p) = some o) :
    ∃ e, d.TurnKept e ∧
      d.cellSend p incoming = (e.modPort p fun x => { x with linkq := x.linkq.erase o }).linkOut p o := by
  obtain ⟨hfree, hfwd, hinc, hstrike⟩ := Device.ownTurn_iff.1 ht
  obtain ⟨hkept, l, hl, hevent⟩ := d.onTurn_kept p
  have hstrike' : (d.onTurn p).flag RING.LSTAT_QUIET = true ∨
      ∀ m ∈ (d.onTurn p).ring.txq, m.msg.type = .strike → m.waits p = false := by
    refine hstrike.imp hkept.quiet.trans fun h m hm hs => ?_
    rw [hl] at hm
    rcases List.mem_append.1 hm with hm | hm
    · exact h m hm hs
    · rw [hevent m hm] at hs
      cases hs
  have hfree' : ((d.onTurn p).port p).freeAt ≤ (d.onTurn p).clk := by rw [hkept.port, hkept.clk]; exact hfree
  have hfwd' : ((d.onTurn p).port p).fwd = [] := by rw [hkept.port]; exact hfwd
  have ho' : ((d.onTurn p).port p).linkq.find? ((d.onTurn p).linkReady p) = some o := by
    rw [hkept.port, hkept.linkReady]; exact ho
  refine ⟨d.onTurn p, hkept, ?_⟩
  have hany : ((d.onTurn p).port p).linkq.any ((d.onTurn p).linkReady p) = true :=
    List.any_eq_true.2 ⟨o, List.mem_of_find?_eq_some ho', List.find?_some ho'⟩
  rw [Device.cellSend_own hup (Nat.le_add_right_of_le hfree) (Device.strikeTurn_none hstrike')
    (Device.forwardTurn_nil hfwd') hinc hfree', Device.sendOwn, if_pos hany]
  exact Device.startLink_sends (Device.ownTurn_iff.2 ⟨hfree', hfwd', rfl, hstrike'⟩) ho'

theorem Device.sendForwarded_sends (d : Device) (p : Port) (x : Fwd) : d.sentCell p (d.sendForwarded p x) ∧
    ((d.sendForwarded p x).port p).out = x.cell ∧ ((d.sendForwarded p x).port p).fwd = (d.port p).fwd.erase x := by
  let e := (d.modPort p fun y => { y with fwd := y.fwd.erase x }).cellOut p x.cell x.live
  have hsend : (d.sendForwarded p x).regs = e.regs ∧ (d.sendForwarded p x).port p = e.port p := by
    unfold Device.sendForwarded
    dsimp only
    split
    · cases p <;> exact ⟨rfl, rfl⟩
    · exact ⟨rfl, rfl⟩
  obtain ⟨hregs, hport⟩ := hsend
  have hout := Device.cellOut_port (d.modPort p fun y => { y with fwd := y.fwd.erase x }) p x.cell x.live
  rw [Device.modPort_port_same] at hout
  refine ⟨?_, ?_, ?_⟩
  · refine (Device.rd_congr hregs _).trans ((Device.cellOut_sent _ p _ _).trans ?_)
    rw [Device.rd_modPort]
  · rw [hport, hout]
  · rw [hport, hout]

section
variable (s : State) (p : Port) (incoming : Bool) (hp : s.dev.powered = true)
include hp

theorem cellSend_sendsLink (o : LinkOut) (hs : s.dev.portState p = portSync ∨ s.dev.isUp p = true)
    (ht : s.dev.ownTurn p incoming = true) (ho : (s.dev.port p).linkq.find? (s.dev.linkReady p) = some o) :
    Completes (.cellSend p incoming) s fun d =>
      s.dev.sentCell p d ∧ (d.port p).linkq = (s.dev.port p).linkq.erase o := by
  refine completes_run (f := fun d => d.cellSend p incoming) hp rfl ?_
  have hsend : ∃ e, s.dev.TurnKept e ∧ s.dev.cellSend p incoming =
      (e.modPort p fun x => { x with linkq := x.linkq.erase o }).linkOut p o := by
    rcases hs with hs | hs
    · refine ⟨s.dev, ⟨fun _ => rfl, rfl, rfl, Device.onlyRegs_refl _⟩, ?_⟩
      unfold Device.cellSend
      rw [if_pos (by simp [hs]), Device.startLink_sends ht ho]
    · exact Device.cellSend_link hs ht ho
  obtain ⟨e, hkept, he⟩ := hsend
  rw [he]
  refine ⟨(Device.linkOut_sent _ p o).trans ?_, ?_⟩
  · rw [Device.rd_modPort, hkept.sent]
  · rw [Device.linkOut_linkq, Device.modPort_port_same, hkept.port]

theorem cellSend_forwards (e : Fwd) (hup : s.dev.isUp p = true) (hev : s.dev.ring.evq = [])
    (hq : s.dev.ring.txq.all (fun m => m.msg.type != .strike) = true) (ht : (s.dev.port p).freeAt ≤ s.dev.clk + 32)
    (he : s.dev.forwardTurn p = some e) : Completes (.cellSend p incoming) s fun d =>
      s.dev.sentCell p d ∧ (d.port p).out = e.cell ∧ (d.port p).fwd = (s.dev.port p).fwd.erase e := by
  refine completes_run (f := fun d => d.cellSend p incoming) hp rfl ?_
  obtain ⟨hkept, -⟩ := s.dev.onTurn_kept p
  have hstrike : (s.dev.onTurn p).strikeTurn p = none := by
    refine Device.strikeTurn_none (.inr fun m hm hs => ?_)
    rw [(Device.onTurn_noEvent hev).1] at hm
    have hne := List.all_eq_true.1 hq m hm
    rw [hs] at hne
    cases hne
  have hturn : (s.dev.onTurn p).forwardTurn p = some e := by
    unfold Device.forwardTurn
    rw [hkept.port]
    exact he
  obtain ⟨hsent, hout, hfwd⟩ := (s.dev.onTurn p).sendForwarded_sends p e
  rw [Device.cellSend_forwarded hup ht hstrike hturn]
  exact ⟨hsent.trans (by rw [hkept.sent]), hout, hfwd.trans (by rw [hkept.port])⟩

end

end Sys2Proof.Machine

namespace Sys2Proof.Machine

/-! ## An own message sends a segment (R148, R154, R183) -/

/-- The message once its next segment has begun on a port. -/
def TxMsg.sentOn (m : TxMsg) (p : Port) : TxMsg :=
  let last := segCount (msgBytes m.msg) ≤ m.next p + 1
  let x := m.setSeg p (if last then none else some (m.next p + 1))
  { x with paid := max m.paid (m.next p + 1), deferred := false, copied := x.copied || decide last }

/-- The `i`-th message as it now stands: off the queue where no port is still to send it. -/
def Device.moveTx (d : Device) (i : Nat) (m : TxMsg) : Device :=
  if m.segE.isNone && m.segW.isNone then d.dropTx i else d.setTx i m

section
variable (m : TxMsg) (p : Port)

theorem TxMsg.sentOn_seg : (m.sentOn p).seg p =
    if m.next p + 1 < segCount (msgBytes m.msg) then some (m.next p + 1) else none := by
  have hseg : (m.sentOn p).seg p = if segCount (msgBytes m.msg) ≤ m.next p + 1 then none else some (m.next p + 1) := by
    cases p <;> simp [TxMsg.sentOn, TxMsg.setSeg, TxMsg.seg]
  rw [hseg]
  by_cases hlast : segCount (msgBytes m.msg) ≤ m.next p + 1
  · rw [if_pos hlast, if_neg (Nat.not_lt.2 hlast)]
  · rw [if_neg hlast, if_pos (Nat.lt_of_not_le hlast)]

theorem TxMsg.capture_keeps (d : Device) : (m.capture p d).msg = m.msg ∧ (m.capture p d).next p = m.next p := by
  unfold TxMsg.capture
  split
  · exact ⟨rfl, rfl⟩
  · cases p <;> exact ⟨rfl, rfl⟩

end

section
variable (d : Device) (p : Port) (i : Nat) (m : TxMsg)

theorem Device.noteSent_rest (x : Msg) : (d.noteSent x).regs = d.regs ∧ (d.noteSent x).port p = d.port p ∧
    (d.noteSent x).ring.txq = d.ring.txq := by
  unfold Device.noteSent
  split
  · cases p <;> exact ⟨rfl, rfl, rfl⟩
  · exact ⟨rfl, rfl, rfl⟩

theorem Device.moveTx_rest : (d.moveTx i m).regs = d.regs ∧ (d.moveTx i m).port p = d.port p := by
  unfold Device.moveTx
  split <;> cases p <;> exact ⟨rfl, rfl⟩

theorem Device.ownBroadcast_other {x : Msg} (h : x.type ≠ .write) : d.ownBroadcast x = d := by
  unfold Device.ownBroadcast
  exact if_neg (by simp [h])

variable {d m} in
/-- A lone message joins no other: at most it takes its number. -/
theorem Device.beginMsg_sole (hq : d.ring.txq = [m]) (hu : m.undecided = false) :
    d.beginMsg 0 m = (d, m) ∨
    d.beginMsg 0 m = (d.wr RING.TXSEQ (d.rd RING.TXSEQ + 1), { m with seq := some (d.rd RING.TXSEQ) }) := by
  have hmerge : d.mergeWith 0 m = none := by
    unfold Device.mergeWith
    rw [hq]
    exact ite_self none
  unfold Device.beginMsg
  rw [hmerge]
  cases hseq : m.seq.isSome
  · exact .inr (by simp [hu])
  · exact .inl (if_pos rfl)

/-- The cell that carries the next segment of a message on a port. -/
def Device.cellOfSeg (d : Device) (p : Port) (m : TxMsg) : CellBits :=
  BitVec.ofNat 160 (cellBytes false d.addr (typeCode m.msg.type) (m.next p) (m.next p + 1 == segCount (msgBytes m.msg))
    m.msg.addr (m.seq.getD 0) 0 d.ver ((List.range 9).map fun j => byteAt (m.dataOn p) (9 * m.next p + j)))

/-- The device as a cell has begun, counted against the budget where it pays. -/
def Device.paidCell (d : Device) (p : Port) (c : CellBits) (x : Msg) (pays : Bool) : Device :=
  let e := (d.cellOut p c none).noteSent x
  if pays then e.modRing fun r => { r with begun := r.begun + 1 } else e

theorem Device.paidCell_rest (c : CellBits) (x : Msg) (pays : Bool) : d.sentCell p (d.paidCell p c x pays) ∧
    ((d.paidCell p c x pays).port p).fwd = (d.port p).fwd ∧ (d.paidCell p c x pays).ring.txq = d.ring.txq := by
  obtain ⟨hregs, hport, htxq⟩ := (d.cellOut p c none).noteSent_rest p x
  have hpaid : (d.paidCell p c x pays).regs = (d.cellOut p c none).regs ∧
      (d.paidCell p c x pays).port p = (d.cellOut p c none).port p ∧
      (d.paidCell p c x pays).ring.txq = (d.cellOut p c none).ring.txq := by
    cases pays
    · exact ⟨hregs, hport, htxq⟩
    · exact ⟨hregs, Eq.trans (by cases p <;> rfl) hport, htxq⟩
  obtain ⟨hregs', hport', htxq'⟩ := hpaid
  refine ⟨(Device.rd_congr hregs' _).trans (d.cellOut_sent p c none), ?_, htxq'.trans (by cases p <;> rfl)⟩
  rw [hport', Device.cellOut_port]

/-- A message that is no WRITE begins its next cell, and moves on. -/
theorem Device.beginCell_sends {e : Device} {x y : TxMsg} (h : d.beginMsg i m = (e, x)) (hy : x.capture p e = y)
    (hw : y.msg.type ≠ .write) :
    d.beginCell p i m = (e.paidCell p (e.cellOfSeg p y) y.msg (m.fresh p)).moveTx i (y.sentOn p) := by
  have hmsg : (y.setSeg p (if segCount (msgBytes y.msg) ≤ y.next p + 1 then none else some (y.next p + 1))).msg = y.msg := by
    cases p <;> rfl
  have hown : ∀ f : Device, f.ownBroadcast y.msg = f := fun f => Device.ownBroadcast_other f hw
  unfold Device.beginCell Device.moveTx Device.paidCell TxMsg.sentOn Device.cellOfSeg
  rw [h]
  simp only [hy, hmsg, hown, ite_self]

variable {d m} in
theorem Device.mem_moveTx_sole {x y : TxMsg} (hq : d.ring.txq = [m]) (h : x ∈ (d.moveTx 0 y).ring.txq) : x = y := by
  unfold Device.moveTx at h
  split at h
  · rw [show (d.dropTx 0).ring.txq = [] from congrArg (List.eraseIdx · 0) hq] at h
    exact absurd h List.not_mem_nil
  · rw [show (d.setTx 0 y).ring.txq = [y] from congrArg (List.set · 0 y) hq] at h
    exact List.mem_singleton.1 h

variable {d m} in
/-- A lone message that is no WRITE begins its next cell: the cell counts as sent, and the segment after it is next. -/
theorem Device.beginCell_sole (hq : d.ring.txq = [m]) (hu : m.undecided = false) (hw : m.msg.type ≠ .write) :
    d.sentCell p (d.beginCell p 0 m) ∧ ((d.beginCell p 0 m).port p).fwd = (d.port p).fwd ∧
    ∀ y ∈ (d.beginCell p 0 m).ring.txq,
      y.seg p = if m.next p + 1 < segCount (msgBytes m.msg) then some (m.next p + 1) else none := by
  have hbegin : ∃ e x, d.beginMsg 0 m = (e, x) ∧ e.rd (RING.TXCELLS (PortIx p)) = d.rd (RING.TXCELLS (PortIx p)) ∧
      e.ring = d.ring ∧ x.msg = m.msg ∧ x.next p = m.next p := by
    rcases Device.beginMsg_sole hq hu with h | h
    · exact ⟨_, _, h, rfl, rfl, rfl, rfl⟩
    · exact ⟨_, _, h, Device.rd_wr_ne _ _ (by cases p <;> decide), rfl, rfl, by cases p <;> rfl⟩
  obtain ⟨e, x, hbegin, htx, hring, hmsg, hnext⟩ := hbegin
  obtain ⟨hcmsg, hcnext⟩ := x.capture_keeps p e
  rw [Device.beginCell_sends d p 0 m hbegin rfl (by rw [hcmsg, hmsg]; exact hw)]
  generalize x.capture p e = y at hcmsg hcnext
  obtain ⟨hsent, hfwd, htxq⟩ := e.paidCell_rest p (e.cellOfSeg p y) y.msg (m.fresh p)
  obtain ⟨hregs, hport⟩ := (e.paidCell p (e.cellOfSeg p y) y.msg (m.fresh p)).moveTx_rest p 0 (y.sentOn p)
  refine ⟨(Device.rd_congr hregs _).trans (hsent.trans (by rw [htx])), ?_, fun z hz => ?_⟩
  · rw [hport, hfwd, Device.port_congr hring]
  · rw [Device.mem_moveTx_sole (htxq.trans (by rw [hring, hq])) hz, TxMsg.sentOn_seg, hcmsg, hcnext, hmsg, hnext]

end

theorem TxMsg.next_of_seg {m : TxMsg} {p : Port} {k : Nat} (h : m.seg p = some k) : m.next p = k := by
  unfold TxMsg.next
  rw [h]
  rfl

theorem TxMsg.waits_of_seg {m : TxMsg} {p : Port} {k : Nat} (h : m.seg p = some k) : m.waits p = true := by
  unfold TxMsg.waits
  rw [h]
  exact Bool.or_true _

/-- Where no LINK cell is ready, the lone message leaves that is begun already or for which the budget has a cell. -/
theorem Device.sendOwn_sole {d : Device} {p : Port} {m : TxMsg} (hq : d.ring.txq = [m])
    (hb : m.fresh p = false ∨ d.budgetLeft = true) (hl : (d.port p).linkq.find? (d.linkReady p) = none) :
    d.sendOwn p [0] = d.beginCell p 0 m := by
  have hlink : ¬ (d.port p).linkq.any (d.linkReady p) = true := fun h => by
    obtain ⟨o, ho, hready⟩ := List.any_eq_true.1 h
    exact List.find?_eq_none.1 hl o ho hready
  have hpays : (!m.fresh p || d.budgetLeft) = true := by
    rcases hb with h | h <;> rw [h]
    · rfl
    · exact Bool.or_true _
  have hchoice : d.chooseOwn p [0] = (d, some (0, m)) := by
    unfold Device.chooseOwn
    rw [hq]
    exact if_pos hpays
  unfold Device.sendOwn
  rw [if_neg hlink, hchoice]

section
variable {s : State} {p : Port} {incoming : Bool} (hp : s.dev.powered = true) (hup : s.dev.isUp p = true)
  (hev : s.dev.ring.evq = []) {m : TxMsg} (hq : s.dev.ring.txq = [m]) {k : Nat} (hseg : m.seg p = some k)
  (hu : m.undecided = false) (hs : s.dev.maySend m.msg.type m.msg.data = true)
  (hquiet : s.dev.flag RING.LSTAT_QUIET = false)

include hev hq hseg hs hquiet in
/-- On a port's turn the lone message is the whole order. -/
theorem Device.onTurn_sole : (s.dev.onTurn p).ring.txq = [m] ∧ (s.dev.onTurn p).sendOrder p = [0] := by
  obtain ⟨hkept, -⟩ := s.dev.onTurn_kept p
  have htxq := (Device.onTurn_noEvent (p := p) hev).1.trans hq
  exact ⟨htxq, Device.sendOrder_sole htxq (hkept.quiet.trans hquiet) (TxMsg.waits_of_seg hseg)
    ((hkept.maySend _ _).trans hs)⟩

include hp hup hev hq hseg hu hs hquiet

theorem cellSend_sendsStrike (ht : m.msg.type = .strike) (ha : m.ahead p = 0)
    (hf : (s.dev.port p).freeAt ≤ s.dev.clk) : Completes (.cellSend p incoming) s fun d =>
      s.dev.sentCell p d ∧ (d.port p).fwd = (s.dev.port p).fwd ∧ ∀ y ∈ d.ring.txq, y.seg p = none := by
  refine completes_run (f := fun d => d.cellSend p incoming) hp rfl ?_
  obtain ⟨hkept, -⟩ := s.dev.onTurn_kept p
  obtain ⟨htxq, horder⟩ := Device.onTurn_sole hev hq hseg hs hquiet
  have hfree : ((s.dev.onTurn p).port p).freeAt ≤ (s.dev.onTurn p).clk := by rw [hkept.port, hkept.clk]; exact hf
  have hone : segCount (msgBytes m.msg) = 1 := by
    unfold msgBytes
    rw [ht]
    exact (by decide : segCount 9 = 1)
  rw [Device.cellSend_strike hup (Nat.le_add_right_of_le hf) (Device.strikeTurn_sole htxq horder ht ha) hfree]
  obtain ⟨hsent, hfwd, hnext⟩ := Device.beginCell_sole p htxq hu (by rw [ht]; decide)
  refine ⟨hsent.trans (by rw [hkept.sent]), hfwd.trans (by rw [hkept.port]), fun y hy => ?_⟩
  rw [hnext y hy, hone, if_neg (by omega)]

theorem cellSend_sendsOwn (ht : m.msg.type ≠ .strike) (hw : m.msg.type ≠ .write)
    (hb : m.fresh p = false ∨ s.dev.budgetLeft = true) (hturn : s.dev.ownTurn p incoming = true)
    (hl : (s.dev.port p).linkq.find? (s.dev.linkReady p) = none) : Completes (.cellSend p incoming) s fun d =>
      s.dev.sentCell p d ∧ ∀ y ∈ d.ring.txq, y.seg p = if k + 1 < segCount (msgBytes m.msg) then some (k + 1) else none := by
  refine completes_run (f := fun d => d.cellSend p incoming) hp rfl ?_
  obtain ⟨hf, hfwd, hinc, -⟩ := Device.ownTurn_iff.1 hturn
  obtain ⟨hkept, -⟩ := s.dev.onTurn_kept p
  obtain ⟨htxq, horder⟩ := Device.onTurn_sole hev hq hseg hs hquiet
  have hfree : ((s.dev.onTurn p).port p).freeAt ≤ (s.dev.onTurn p).clk := by rw [hkept.port, hkept.clk]; exact hf
  have hstrike : (s.dev.onTurn p).strikeTurn p = none := Device.strikeTurn_none <| .inr fun x hx hxt => by
    rw [htxq, List.mem_singleton] at hx
    exact absurd (hx ▸ hxt) ht
  have hnone : (s.dev.onTurn p).forwardTurn p = none := Device.forwardTurn_nil (by rw [hkept.port]; exact hfwd)
  have hlink : ((s.dev.onTurn p).port p).linkq.find? ((s.dev.onTurn p).linkReady p) = none := by
    rw [hkept.port, hkept.linkReady]; exact hl
  rw [Device.cellSend_own hup (Nat.le_add_right_of_le hf) hstrike hnone hinc hfree, horder,
    Device.sendOwn_sole htxq (hb.imp_right (Device.onTurn_noEvent hev).2) hlink]
  obtain ⟨hsent, -, hnext⟩ := Device.beginCell_sole p htxq hu hw
  exact ⟨hsent.trans (by rw [hkept.sent]), fun y hy => by rw [hnext y hy, TxMsg.next_of_seg hseg]⟩

end

/-- The forwarded cell whose turn it is: the first STRIKE, or else the first of all. -/
theorem Device.forwardTurn_of {d : Device} {p : Port} {e : Fwd}
    (h : (d.port p).fwd.find? (fun y => isStrikeCell y.cell) = some e ∨
      ((d.port p).fwd.find? (fun y => isStrikeCell y.cell) = none ∧ (d.port p).fwd.head? = some e)) :
    d.forwardTurn p = some e := by
  unfold Device.forwardTurn
  rcases h with h | ⟨hnone, hhead⟩
  · rw [h]
    rfl
  · rw [hnone, hhead]
    rfl

/-- Settles O30: what a port does with a cell of the ring and with an aborted one, and whose turn it is at a cell
boundary. -/
theorem cellsForwarded : Obligations.CellsForwarded := by
  unfold Obligations.CellsForwarded
  refine ⟨fun s p hp => ⟨fun c delay hup hc hl => ⟨fun ho => ?_, fun ho hq => ⟨fun hh => ?_, fun hh => ?_⟩⟩, fun hs => ?_⟩,
    fun s p incoming hp => ⟨fun o hs ht ho => ?_, fun hup hev => ⟨fun e hq ht he => ?_, ?_, ?_⟩⟩⟩
  · exact cellForward_strips s p hp c delay hup hc hl ho
  · exact cellForward_forwards s p hp c delay hup hc hl ho hq hh
  · exact cellForward_limits s p hp c delay hup hc hl ho hq hh
  · exact cellAbort_cuts s p hp hs
  · exact cellSend_sendsLink s p incoming hp o hs ht ho
  · exact cellSend_forwards s p incoming hp e hup hev hq ht (Device.forwardTurn_of he)
  · intro m hq ht hseg hu ha hs hquiet hf
    exact cellSend_sendsStrike hp hup hev hq hseg hu (by rw [ht]; exact hs) hquiet ht ha hf
  · intro m k hq ht hw hseg hu hs hquiet hb hturn hl
    exact cellSend_sendsOwn hp hup hev hq hseg hu hs hquiet ht hw hb hturn hl

end Sys2Proof.Machine

namespace Sys2Proof.Machine

/-! ## Requests answered (R170–R172, R312) -/

/-- A message that is queued joins those that wait to leave; the rest of the ring stays. -/
theorem Device.queueMsg_ring (d : Device) (t : MsgType) (dst : Nat) (data : List Nat) :
    ∃ q, (d.queueMsg t dst data).ring = { d.ring with txq := q } := by
  unfold Device.queueMsg
  split <;> exact ⟨_, rfl⟩

theorem Device.queueMsg_regs (d : Device) (t : MsgType) (dst : Nat) (data : List Nat) :
    (d.queueMsg t dst data).regs = d.regs := (d.queueMsg_rest .east t dst data).1

/-- What a target keeps of a request: its answer, under the requester and the TID. -/
def Device.keepsAnswer (d : Device) (m : Msg) (write : Bool) (st : Nat) : Prop :=
  ∃ k ∈ d.ring.kept, k.src = m.addr ∧ k.tid = byteAt m.data 0 ∧ k.write = write ∧
    byteAt k.resp 0 = byteAt m.data 0 ∧ byteAt k.resp 1 = st

theorem Device.answer_kept (d : Device) (k : Kept) : k ∈ (d.answer k).ring.kept := by
  obtain ⟨q, hq⟩ := Device.queueMsg_ring (d.modRing fun r => { r with kept :=
    (let rest := r.kept.filter fun x => x.src != k.src
     if rest.length < 32 then rest else dropRead rest) ++ [k] }) .response k.src k.resp
  exact (congrArg Ring.kept hq).symm ▸ List.mem_append_right _ (.head _)

theorem Device.answer_regs (d : Device) (k : Kept) : (d.answer k).regs = d.regs := Device.queueMsg_regs _ _ _ _

theorem Device.answer_keeps (d : Device) (m : Msg) (write : Bool) (st : Nat) (l : List Nat) :
    (d.answer ⟨m.addr, byteAt m.data 0, write, byteAt m.data 0 :: st :: l⟩).keepsAnswer m write st :=
  ⟨_, d.answer_kept _, rfl, rfl, rfl, rfl, rfl⟩

theorem Device.takeMsg_regs {d e : Device} {t : MsgType} {m : Msg} (h : d.takeMsg t = some (m, e)) :
    e.regs = d.regs := by rw [Device.takeMsg_takes h]

section
variable {d e : Device} {m : Msg} (hc : d.coreRuns = true)
include hc

/-- A READ of one device that has no answer yet draws one, with its bytes where it is in order. -/
theorem Device.readRequest_new (h : d.takeMsg .read = some (m, e)) (hb : m.bcast = false) (hk : e.keptFor m = none) :
    ∃ x l, d.readRequest = Device.answer x
      ⟨m.addr, byteAt m.data 0, false, byteAt m.data 0 :: (if requestOk m then tresOk else tresBadRange) :: l⟩ := by
  unfold Device.readRequest
  rw [if_neg (by simp [hc])]
  simp only [h, hb, hk]
  cases requestOk m
  · exact ⟨_, _, rfl⟩
  · exact ⟨_, _, rfl⟩

theorem Device.readRequest_repeated {k : Kept} (h : d.takeMsg .read = some (m, e)) (hb : m.bcast = false)
    (hk : e.keptFor m = some k) : d.readRequest = e.answer k := by
  unfold Device.readRequest
  rw [if_neg (by simp [hc])]
  simp [h, hb, hk]

theorem Device.readRequest_bcast (h : d.takeMsg .read = some (m, e)) (hb : m.bcast = true) : d.readRequest = e := by
  unfold Device.readRequest
  rw [if_neg (by simp [hc])]
  simp [h, hb]

/-- A WRITE of the head's to one device that has no answer yet draws one; in order, it takes effect first. -/
theorem Device.writeRequest_new (h : d.takeMsg .write = some (m, e)) (hb : m.bcast = false)
    (hh : m.addr = e.fld RCK.HEAD_ADDR) (hk : e.keptFor m = none) :
    d.writeRequest = (if requestOk m then e.ringApply m else e).answer
      ⟨m.addr, byteAt m.data 0, true, [byteAt m.data 0, if requestOk m then tresOk else tresBadRange, 0, 0]⟩ := by
  unfold Device.writeRequest
  rw [if_neg (by simp [hc])]
  simp only [h, hb, hk, hh]
  cases requestOk m <;> simp

theorem Device.writeRequest_repeated {k : Kept} (h : d.takeMsg .write = some (m, e)) (hb : m.bcast = false)
    (hh : m.addr = e.fld RCK.HEAD_ADDR) (hk : e.keptFor m = some k) : d.writeRequest = e.answer k := by
  unfold Device.writeRequest
  rw [if_neg (by simp [hc])]
  simp [h, hb, hk, hh]

theorem Device.writeRequest_notHead (h : d.takeMsg .write = some (m, e)) (hb : m.bcast = false)
    (hh : m.addr ≠ e.fld RCK.HEAD_ADDR) : d.writeRequest =
      (e.countSat RING.NOTHEADCNT).answer ⟨m.addr, byteAt m.data 0, true, [byteAt m.data 0, tresNotHead, 0, 0]⟩ := by
  unfold Device.writeRequest
  rw [if_neg (by simp [hc])]
  simp [h, hb, hh]

end

section
variable (s : State) (hp : s.dev.powered = true)
include hp

/-- While no firmware runs, requests wait. -/
theorem requests_wait (hc : s.dev.coreRuns = false) :
    Completes .readRequest s (fun d => d = s.dev) ∧ Completes .writeRequest s (fun d => d = s.dev) :=
  ⟨completes_run (f := Device.readRequest) hp rfl (if_pos (by simp [hc])),
    completes_run (f := Device.writeRequest) hp rfl (if_pos (by simp [hc]))⟩

variable (hc : s.dev.coreRuns = true) {m : Msg} {e : Device}
include hc

theorem readRequest_answers (hb : m.bcast = false) (h : s.dev.takeMsg .read = some (m, e)) :
    (e.keptFor m = none →
      Completes .readRequest s fun d => d.keepsAnswer m false (if requestOk m then tresOk else tresBadRange)) ∧
    (∀ k, e.keptFor m = some k → Completes .readRequest s fun d => k ∈ d.ring.kept ∧ ∀ r : Reg, d.rd r = s.dev.rd r) := by
  refine ⟨fun hk => completes_run (f := Device.readRequest) hp rfl ?_,
    fun k hk => completes_run (f := Device.readRequest) hp rfl ?_⟩
  · obtain ⟨x, l, hread⟩ := Device.readRequest_new hc h hb hk
    rw [hread]
    exact x.answer_keeps m false _ l
  · rw [Device.readRequest_repeated hc h hb hk]
    exact ⟨e.answer_kept k, Device.rd_congr ((e.answer_regs k).trans (Device.takeMsg_regs h))⟩

theorem readRequest_ofAll (hb : m.bcast = true) (h : s.dev.takeMsg .read = some (m, e)) :
    Completes .readRequest s fun d => d = e :=
  completes_run (f := Device.readRequest) hp rfl (Device.readRequest_bcast hc h hb)

theorem writeRequest_answers (hb : m.bcast = false) (h : s.dev.takeMsg .write = some (m, e))
    (hh : m.addr = s.dev.fld RCK.HEAD_ADDR) :
    (e.keptFor m = none →
      Completes .writeRequest s fun d => d.keepsAnswer m true (if requestOk m then tresOk else tresBadRange)) ∧
    (∀ k, e.keptFor m = some k → Completes .writeRequest s fun d => k ∈ d.ring.kept ∧ ∀ r : Reg, d.rd r = s.dev.rd r) := by
  have hhead := hh.trans (Device.fld_congr (Device.takeMsg_regs h) RCK.HEAD_ADDR).symm
  refine ⟨fun hk => completes_run (f := Device.writeRequest) hp rfl ?_,
    fun k hk => completes_run (f := Device.writeRequest) hp rfl ?_⟩
  · rw [Device.writeRequest_new hc h hb hhead hk]
    exact Device.answer_keeps _ m true _ _
  · rw [Device.writeRequest_repeated hc h hb hhead hk]
    exact ⟨e.answer_kept k, Device.rd_congr ((e.answer_regs k).trans (Device.takeMsg_regs h))⟩

theorem writeRequest_notHead (hb : m.bcast = false) (h : s.dev.takeMsg .write = some (m, e))
    (hh : m.addr ≠ s.dev.fld RCK.HEAD_ADDR) : Completes .writeRequest s fun d => d.keepsAnswer m true tresNotHead ∧
      s.dev.counted d RING.NOTHEADCNT ∧ ∀ r : Reg, r.addr ≠ RING.NOTHEADCNT.addr → d.rd r = s.dev.rd r := by
  refine completes_run (f := Device.writeRequest) hp rfl ?_
  have hregs := Device.takeMsg_regs h
  rw [Device.writeRequest_notHead hc h hb fun he => hh (he.trans (Device.fld_congr hregs RCK.HEAD_ADDR))]
  refine ⟨Device.answer_keeps _ m true _ _, ?_, fun r hr => ?_⟩
  · unfold Device.counted
    rw [Device.rd_congr (Device.answer_regs _ _), Device.rd_countSat_same, Device.rd_congr hregs]
  · rw [Device.rd_congr (Device.answer_regs _ _), Device.rd_countSat_ne _ _ hr.symm, Device.rd_congr hregs]

end

/-! ## Transactions of the device's own (R171, R172, R187) -/

section
variable (d : Device) (st : Nat)

theorem Device.tres_status : (d.tres st).fld RING.TRES_STATUS = st % 16 :=
  (Device.fld_setFld_beside _ (f := RING.TRES_BUSY) (g := RING.TRES_STATUS) _ rfl (by decide) (by decide)).trans
    (Device.fld_setFld_same d RING.TRES_STATUS st (by decide))

theorem Device.tres_busy : (d.tres st).flag RING.TRES_BUSY = false := Device.flag_lower _ _ rfl (by decide)

theorem Device.tres_onlyRegs : d.onlyRegs [RING.TRES.addr] (d.tres st) := by
  unfold Device.tres; simp

end

/-- The transaction that a write of TCTL would start, with the next TID for its destination. -/
def Device.newTrans (d : Device) (write : Bool) : Trans :=
  let dst := d.rd RING.TDST % 4096
  let tid := ((look d.ring.tids dst).getD 0 + 1) % 256
  let head := [tid, d.rd RING.TPAGE, d.rd RING.TOFF, d.rd RING.TLEN]
  { dst := dst, write := write, tid := tid, tries := 0, queued := d.now
    data := if write then head ++ toBytes (min 32 (d.rd RING.TLEN)) (d.rd RING.TDATA) else head }

/-- Its TID is taken and its request queued. -/
def Device.requestSent (d : Device) (t : Trans) : Device :=
  (d.modRing fun r => { r with tids := put r.tids t.dst t.tid }).sendTrans t

/-- A request that is sent is no transaction yet. -/
theorem Device.sendTrans_trans (d : Device) (t : Trans) : (d.sendTrans t).ring.trans = d.ring.trans := by
  obtain ⟨q, hq⟩ := d.queueMsg_ring (if t.write then .write else .read) t.dst t.data
  exact (congrArg Ring.trans hq :)

/-- A start shows its result at once; the transactions stay. -/
def Device.startAnswered (o : Device) (st : Nat) (d : Device) : Prop :=
  d.fld RING.TRES_STATUS = st ∧ d.ring.trans = o.ring.trans

/-- A transaction with the device that TDST names is under way, its request queued now. -/
def Device.begun (o : Device) (write : Bool) (d : Device) : Prop :=
  d.flag RING.TRES_BUSY = true ∧ ∃ t ∈ d.ring.trans, t.dst = o.rd RING.TDST % 4096 ∧ t.write = write ∧ t.tries = 0 ∧
    t.queued = o.now ∧ t.sent = none

/-- Nothing keeps the device from sending requests (R187). -/
def Device.mayRequest (d : Device) : Prop :=
  d.addr ≠ 0 ∧ d.flag RING.RSTAT_BYPASS = false ∧ d.flag RING.RSTAT_CONFLICT = false

theorem Device.mayRequest_iff (d : Device) :
    d.mayRequest ↔ (decide (d.addr = 0) || d.flag RING.RSTAT_BYPASS || d.flag RING.RSTAT_CONFLICT) = false := by
  simp [Device.mayRequest, and_assoc]

section
variable {d : Device} (hfree : d.flag RING.TRES_BUSY = false)
include hfree

theorem Device.startTrans_noAddr (write : Bool) (hmay : ¬d.mayRequest) : d.startTrans write = d.tres tresNoAddr := by
  rw [Device.mayRequest_iff, Bool.not_eq_false] at hmay
  unfold Device.startTrans
  simp [hfree, hmay]

variable (hmay : d.mayRequest)
include hmay

/-- A device that may send requests judges the destination. -/
theorem Device.startTrans_judges (write : Bool) : d.startTrans write =
    if d.rd RING.TDST % 4096 = 0 || (d.rd RING.TDST % 4096 = 0xFFF && !write) then d.tres tresBadRange
    else if d.rd RING.TDST % 4096 = 0xFFF then (d.requestSent (d.newTrans write)).tres tresOk
    else (((d.requestSent (d.newTrans write)).setFld RING.TRES_STATUS tresOk).raise RING.TRES_BUSY).modRing fun r =>
      { r with trans := r.trans ++ [d.newTrans write] } := by
  rw [Device.mayRequest_iff] at hmay
  unfold Device.startTrans
  rw [if_neg (by simp [hfree]), if_neg (by simp [hmay])]
  rfl

theorem Device.startTrans_begins (write : Bool) (h0 : d.rd RING.TDST % 4096 ≠ 0) (hF : d.rd RING.TDST % 4096 ≠ 0xFFF) :
    d.begun write (d.startTrans write) := by
  rw [Device.startTrans_judges hfree hmay, if_neg (by simp [h0, hF]), if_neg hF]
  exact ⟨Device.flag_raise _ RING.TRES_BUSY rfl (by decide), d.newTrans write, List.mem_append_right _ (.head _),
    rfl, rfl, rfl, rfl, rfl⟩

theorem Device.startTrans_toAll (hF : d.rd RING.TDST % 4096 = 0xFFF) :
    d.startTrans false = d.tres tresBadRange ∧
    d.startTrans true = (d.requestSent (d.newTrans true)).tres tresOk := by
  constructor <;> rw [Device.startTrans_judges hfree hmay] <;> simp [hF]

end

/-- The transactions with a destination are ended, and the result shown. -/
def Device.transEnded (d : Device) (dst st : Nat) : Device :=
  (d.modRing fun r => { r with trans := r.trans.filter fun x => x.dst != dst }).tres st

section
variable (d : Device) (dst st : Nat)

theorem Device.transEnded_none : ∀ x ∈ (d.transEnded dst st).ring.trans, x.dst ≠ dst := fun _ hx =>
  bne_iff_ne.1 (List.mem_filter.1 hx).2

theorem Device.transEnded_onlyRegs : d.onlyRegs [RING.TRES.addr] (d.transEnded dst st) := Device.tres_onlyRegs _ _

theorem Device.transEnded_shows :
    (d.transEnded dst st).flag RING.TRES_BUSY = false ∧ (d.transEnded dst st).fld RING.TRES_STATUS = st % 16 :=
  ⟨Device.tres_busy _ _, Device.tres_status _ _⟩

end

/-- A RESPONSE to a READ that went well brings its bytes; any other brings its status alone. -/
theorem Device.responseReceive_ends {d e : Device} {m : Msg} {t : Trans} (h : d.takeMsg .response = some (m, e))
    (ht : d.ring.trans.find? (fun x => x.dst == m.addr && x.tid == byteAt m.data 0) = some t) :
    d.responseReceive =
      let x := e.transEnded m.addr (byteAt m.data 1)
      if t.write || byteAt m.data 1 != tresOk then x
      else x.setFld ⟨RING.TDATA, 0, 8 * min 32 (byteAt m.data 2)⟩ (fieldAt m.data 4 (min 32 (byteAt m.data 2))) := by
  have hdst : t.dst = m.addr := by
    have hmatch := List.find?_some ht
    rw [Bool.and_eq_true] at hmatch
    exact beq_iff_eq.1 hmatch.1
  have hring : e.ring.trans = d.ring.trans := by rw [Device.takeMsg_takes h]
  unfold Device.responseReceive
  simp only [h, hring, ht, hdst]
  rfl

/-- The first transaction that has run out goes again while it has retries left, and is abandoned otherwise. -/
theorem Device.transTimeout_late {d : Device} {t : Trans} (ht : d.ring.trans.find? d.transLate = some t) :
    d.transTimeout =
      if t.tries < d.rd RING.TRETRY then
        (d.modRing fun r => { r with trans := (d.ring.trans.filter fun x => x.dst != t.dst) ++
          [{ t with tries := t.tries + 1, queued := d.now, sent := none }] }).sendTrans t
      else (((d.transEnded t.dst tresTimeout).raise RING.RSTAT_TRANS_TIMEOUT).countSat RING.TTOCNT).log
        Ev.TRANS_TIMEOUT [t.dst] := by
  unfold Device.transTimeout
  rw [ht]
  rfl

/-- Of the ring's status bits, logging may set EVDROP alone. -/
theorem Device.flag_log_rstat (d : Device) (code : Nat) (args : List Nat) {j : Nat} (hj : j < 16) (hdrop : 9 ≠ j) :
    (d.log code args).flag ⟨RING.RSTAT, j, 1⟩ = d.flag ⟨RING.RSTAT, j, 1⟩ := by
  have hlost : ∀ e : Device, ((e.raise RING.RSTAT_EVDROP).countSat RING.EVDROPCNT).flag ⟨RING.RSTAT, j, 1⟩ =
      e.flag ⟨RING.RSTAT, j, 1⟩ := fun e =>
    (Device.flag_countSat_ne _ _ (f := ⟨RING.RSTAT, j, 1⟩) (show RING.EVDROPCNT.addr ≠ RING.RSTAT.addr by decide)).trans
      ((Device.flag_raise_bit e (i := 9) (by decide) hj).trans (if_neg hdrop))
  unfold Device.log Device.toHead
  simp only [Bool.false_eq_true, if_false]
  split
  · rfl
  · split
    · rfl
    · exact hlost _

section
variable (s : State) (hp : s.dev.powered = true)
include hp

/-- A write of TCTL completes with what the start makes of the device, where what is said of it does not look at the
two-wire port. -/
theorem tctl_starts {w : Writer} (hw : s.dev.admits w) {P : Device → Prop} (hP : ∀ d x, P d → P { d with twi := x }) :
    (P (s.dev.startTrans false) → Completes (.ringRead w) s P) ∧
    (P (s.dev.startTrans true) → Completes (.ringWrite w) s P) :=
  ⟨fun h => completes_write (f := fun d => d.startTrans false) hp hw rfl fun x => hP _ x h,
    fun h => completes_write (f := fun d => d.startTrans true) hp hw rfl fun x => hP _ x h⟩

theorem tctl_begins {w : Writer} (hw : s.dev.admits w) (hfree : s.dev.flag RING.TRES_BUSY = false)
    (hmay : s.dev.mayRequest) (h0 : s.dev.rd RING.TDST % 4096 ≠ 0) (hF : s.dev.rd RING.TDST % 4096 ≠ 0xFFF) :
    Completes (.ringRead w) s (s.dev.begun false) ∧ Completes (.ringWrite w) s (s.dev.begun true) := by
  have hbegin := fun write => Device.startTrans_begins hfree hmay write h0 hF
  exact ⟨(tctl_starts s hp hw fun _ _ h => h).1 (hbegin false), (tctl_starts s hp hw fun _ _ h => h).2 (hbegin true)⟩

theorem tctl_toAll {w : Writer} (hw : s.dev.admits w) (hfree : s.dev.flag RING.TRES_BUSY = false)
    (hmay : s.dev.mayRequest) (hF : s.dev.rd RING.TDST % 4096 = 0xFFF) :
    Completes (.ringRead w) s (s.dev.startAnswered tresBadRange) ∧ Completes (.ringWrite w) s (s.dev.startAnswered tresOk) := by
  obtain ⟨hread, hwrite⟩ := Device.startTrans_toAll hfree hmay hF
  refine ⟨(tctl_starts s hp hw fun _ _ h => h).1 ?_, (tctl_starts s hp hw fun _ _ h => h).2 ?_⟩
  · rw [hread]
    exact ⟨Device.tres_status _ _, rfl⟩
  · rw [hwrite]
    exact ⟨Device.tres_status _ _, Device.sendTrans_trans _ _⟩

theorem tctl_noAddr {w : Writer} (hw : s.dev.admits w) (hfree : s.dev.flag RING.TRES_BUSY = false)
    (hmay : ¬s.dev.mayRequest) :
    Completes (.ringRead w) s (s.dev.startAnswered tresNoAddr) ∧ Completes (.ringWrite w) s (s.dev.startAnswered tresNoAddr) := by
  have hnone := fun write => Device.startTrans_noAddr hfree write hmay
  refine ⟨(tctl_starts s hp hw fun _ _ h => h).1 ?_, (tctl_starts s hp hw fun _ _ h => h).2 ?_⟩ <;> rw [hnone] <;>
    exact ⟨Device.tres_status _ _, rfl⟩

theorem responseReceive_completes {m : Msg} {e : Device} {t : Trans} (h : s.dev.takeMsg .response = some (m, e))
    (ht : s.dev.ring.trans.find? (fun x => x.dst == m.addr && x.tid == byteAt m.data 0) = some t) :
    Completes .responseReceive s fun d =>
      (∀ x ∈ d.ring.trans, x.dst ≠ m.addr) ∧ d.flag RING.TRES_BUSY = false ∧
      d.fld RING.TRES_STATUS = byteAt m.data 1 % 16 ∧
      (t.write = false → byteAt m.data 1 = 0 →
        d.fld ⟨RING.TDATA, 0, 8 * min 32 (byteAt m.data 2)⟩ = fieldAt m.data 4 (min 32 (byteAt m.data 2))) := by
  refine completes_run (f := Device.responseReceive) hp rfl ?_
  rw [Device.responseReceive_ends h ht]
  obtain ⟨hbusy, hstatus⟩ := e.transEnded_shows m.addr (byteAt m.data 1)
  have hnone := e.transEnded_none m.addr (byteAt m.data 1)
  dsimp only
  by_cases hdata : (t.write || byteAt m.data 1 != tresOk) = true
  · rw [if_pos hdata]
    exact ⟨hnone, hbusy, hstatus, fun hw hst => by simp [hw, hst, tresOk] at hdata⟩
  · rw [if_neg hdata]
    have hreg : RING.TDATA.addr ≠ RING.TRES.addr := by decide
    refine ⟨hnone, ?_, ?_, fun _ _ => ?_⟩
    · exact (congrArg (· == 1) (Device.fld_setFld_reg _ (g := RING.TRES_BUSY) _ hreg)).trans hbusy
    · exact (Device.fld_setFld_reg _ (g := RING.TRES_STATUS) _ hreg).trans hstatus
    · have hfit : 0 + 8 * min 32 (byteAt m.data 2) ≤ RING.TDATA.width := by
        have := Nat.min_le_left 32 (byteAt m.data 2)
        simp only [RING.TDATA]
        omega
      refine (Device.fld_setFld_same _ ⟨RING.TDATA, 0, 8 * min 32 (byteAt m.data 2)⟩ _ hfit).trans (Nat.mod_eq_of_lt ?_)
      rw [Nat.pow_mul]
      exact fieldAt_lt m.data 4 _

theorem transTimeout_retries {t : Trans} (ht : s.dev.ring.trans.find? s.dev.transLate = some t)
    (hr : t.tries < s.dev.rd RING.TRETRY) : Completes .transTimeout s fun d =>
      { t with tries := t.tries + 1, queued := s.dev.now, sent := none } ∈ d.ring.trans := by
  refine completes_run (f := Device.transTimeout) hp rfl ?_
  rw [Device.transTimeout_late ht, if_pos hr, Device.sendTrans_trans]
  exact List.mem_append_right _ (.head _)

theorem transTimeout_abandons {t : Trans} (ht : s.dev.ring.trans.find? s.dev.transLate = some t)
    (hr : s.dev.rd RING.TRETRY ≤ t.tries) : Completes .transTimeout s fun d =>
      (∀ x ∈ d.ring.trans, x.dst ≠ t.dst) ∧ d.fld RING.TRES_STATUS = tresTimeout ∧ d.flag RING.TRES_BUSY = false ∧
      d.flag RING.RSTAT_TRANS_TIMEOUT = true ∧ s.dev.counted d RING.TTOCNT ∧
      s.dev.reported d Ev.TRANS_TIMEOUT [t.dst] := by
  refine completes_run (f := Device.transTimeout) hp rfl ?_
  rw [Device.transTimeout_late ht, if_neg (Nat.not_lt.2 hr)]
  obtain ⟨hbusy, hstatus⟩ := s.dev.transEnded_shows t.dst tresTimeout
  have hnone := s.dev.transEnded_none t.dst tresTimeout
  have honly := s.dev.transEnded_onlyRegs t.dst tresTimeout
  have hevents : (s.dev.transEnded t.dst tresTimeout).events = s.dev.events := rfl
  generalize s.dev.transEnded t.dst tresTimeout = x at hbusy hstatus hnone honly hevents
  have htold : x.onlyRegs (RING.TTOCNT.addr :: logRegs)
      (((x.raise RING.RSTAT_TRANS_TIMEOUT).countSat RING.TTOCNT).log Ev.TRANS_TIMEOUT [t.dst]) := by
    simp [show RING.RSTAT.addr ∈ RING.TTOCNT.addr :: logRegs by decide]
  obtain ⟨q, hq⟩ := ((x.raise RING.RSTAT_TRANS_TIMEOUT).countSat RING.TTOCNT).log_ring Ev.TRANS_TIMEOUT [t.dst] false
  refine ⟨?_, ?_, ?_, ?_, ?_, ?_⟩
  · rw [hq]
    exact hnone
  · exact (htold.fld RING.TRES_STATUS (by decide)).trans hstatus
  · exact (htold.flag RING.TRES_BUSY (by decide)).trans hbusy
  · rw [Device.flag_log_rstat _ _ _ (by decide) (by decide), Device.flag_countSat_ne _ _ (by decide)]
    exact Device.flag_raise _ _ rfl (by decide)
  · unfold Device.counted
    rw [Device.rd_log _ _ _ _ (by decide) (by decide), Device.rd_countSat_same, Device.rd_raise_ne _ (by decide),
      honly RING.TTOCNT (by decide)]
  · exact Device.reported_log (d := (x.raise RING.RSTAT_TRANS_TIMEOUT).countSat RING.TTOCNT) (by simp [hevents]) _ _

end

/-- Settles O32: a lemma for each answer of a target, and for each way in which a transaction begins and ends. -/
theorem transactions : Obligations.Transactions := by
  unfold Obligations.Transactions
  refine ⟨requests_wait, fun s m e hp hc => ⟨fun hb => ⟨readRequest_answers s hp hc hb, fun h =>
      ⟨writeRequest_answers s hp hc hb h, writeRequest_notHead s hp hc hb h⟩⟩, readRequest_ofAll s hp hc⟩,
    fun s hp => ⟨fun _ => tctl_begins s hp, fun _ => tctl_toAll s hp, fun _ => tctl_noAddr s hp,
      fun _ _ _ => responseReceive_completes s hp, fun _ ht => ⟨transTimeout_retries s hp ht, transTimeout_abandons s hp ht⟩⟩⟩

end Sys2Proof.Machine

namespace Sys2Proof.Machine

/-! ## The head's query where no version is supported (R177, R181, R182) -/

/-- A head at rest in KEEP, with an address and a query that is due, whose lowest supported version (1) lies above
its highest (0), as the compatibility table of an image may have it. -/
def State.crossedVersions : State :=
  let d := ((Device.reset.setFld RCK.CFG_ROLE 1).setFld RING.ADDR_ADDR 1).wr RING.VERSUP 0x01
  { State.reset with dev := d.modRing fun r => { r with queryPend := true } }

theorem crossedVersions_powered : State.crossedVersions.dev.powered = true := by decide +kernel

theorem crossedVersions_isHead : State.crossedVersions.dev.isHead = true := by decide +kernel

theorem crossedVersions_maySend : State.crossedVersions.dev.maySend .enum [0] = true := by decide +kernel

/-- Its query is lost: the head has entered the bypass before it queues it. -/
theorem crossedVersions_queuesNothing : State.crossedVersions.dev.enumQuerySend.ring.txq = [] := by decide +kernel

/-- Refutes O33: the head recomputes the running version before it queues its query, and in `State.crossedVersions`
that puts it into the bypass, where no query is sent. -/
theorem not_enumeration : ¬ Obligations.Enumeration := by
  intro h
  obtain ⟨query, -⟩ := h State.crossedVersions crossedVersions_powered
  obtain ⟨-, -, -, sent⟩ := completes_run_elim (f := Device.enumQuerySend) crossedVersions_powered rfl
    (query crossedVersions_isHead (.inl rfl))
  obtain ⟨x, hx, -⟩ := sent crossedVersions_maySend
  rw [crossedVersions_queuesNothing] at hx
  exact List.not_mem_nil hx

end Sys2Proof.Machine

namespace Sys2Proof.Machine

/-! ## An unpowered helm (R189, R276, R277, R314) -/

/-- A command that must be well-formed runs, where it runs, on a powered helm. -/
theorem State.runIf_asksPower {s t : State} {ok : Bool} {f : Device → Device} (ht : s.runIf ok f = .next t) :
    ∃ d, s.runIf ok f = .next { s with dev := if s.dev.powered then d else s.dev } := by
  obtain ⟨rfl, -, -⟩ := State.runIf_next ht
  exact ⟨_, rfl⟩

/-- The feed controllers of a device that has taken on those of another are those of the other. -/
theorem Device.withFeeds_withFeeds (d x : Device) : d.withFeeds (d.withFeeds x) = d.withFeeds x := by
  have below : ∀ l : List (Nat × Nat), (l.filter fun e => e.1 < 0x500).filter (fun e => e.1 / 256 == 5) = [] := fun l => by
    rw [List.filter_filter, List.filter_eq_nil_iff]; intro e _; simp; omega
  have above : ∀ l : List (Nat × Nat), (l.filter fun e => 0x600 ≤ e.1).filter (fun e => e.1 / 256 == 5) = [] := fun l => by
    rw [List.filter_filter, List.filter_eq_nil_iff]; intro e _; simp; omega
  simp [Device.withFeeds, below, above]

/-- A report of the feed controllers, with the helm unpowered, changes the controllers alone. -/
theorem State.runFeed_unpowered {s t : State} {f : Device → Device} (h : s.dev.powered = false)
    (ht : s.runFeed f = .next t) :
    t.pending = s.pending ∧ s.dev.onlyPages [0x05] t.dev ∧ t.dev = s.dev.withFeeds t.dev := by
  unfold State.runFeed Device.onFeeds at ht
  rw [if_neg (by simp [h])] at ht
  cases ht
  exact ⟨rfl, Device.withFeeds_pages _ _ (by decide), (Device.withFeeds_withFeeds _ _).symm⟩

theorem exec_feedReport (s : State) {c : Instr} (h : feedReport c = true) : ∃ f, exec c s = s.runFeed f := by
  cases c with
  | feedQualified | feedQualificationLost | feedUv | feedOv | feedInrushComplete | feedInrushFail | feedOverload
  | feedShort | feedReverse | feedRetryClear | feedDamageO | feedDamageG | feedRevert | feedVerified | feedVerifyFail
  | feedSwitch => exact ⟨_, rfl⟩
  | _ => cases h

/-- Every other command that is not a power-on reset or a wake asks for power, or is not well-formed and stops. -/
theorem exec_asksPower {s t : State} {c : Instr} (hc : runsUnpowered c = false) (ht : exec c s = .next t) :
    ∃ d, exec c s = .next { s with dev := if s.dev.powered then d else s.dev } := by
  cases c with
  | linkFrame | registerWrite => exact State.runIf_asksPower ht
  | powerOnReset | wakeButton | vbusWake | feedQualified | feedQualificationLost | feedUv | feedOv
  | feedInrushComplete | feedInrushFail | feedOverload | feedShort | feedReverse | feedRetryClear | feedDamageO
  | feedDamageG | feedRevert | feedVerified | feedVerifyFail | feedSwitch => cases hc
  | _ => exact ⟨_, rfl⟩

/-- What an unpowered helm does not take leaves the state as it was. -/
theorem exec_unpowered {s t : State} {c : Instr} (hp : s.dev.powered = false) (hc : runsUnpowered c = false)
    (ht : exec c s = .next t) : t = s := by
  obtain ⟨d, hd⟩ := exec_asksPower hc ht
  rw [ht, hp] at hd
  exact Host.Outcome.next.inj hd

/-- Settles O6: of an unpowered helm's commands only the power-on resets, the wakes and the reports of the feed
controllers are more than a run that asks for power. -/
theorem unpoweredTakesNoPart : Obligations.UnpoweredTakesNoPart := by
  intro s t c hp ht
  refine ⟨fun hc => exec_unpowered hp hc ht, fun hc => ?_⟩
  obtain ⟨f, hf⟩ := exec_feedReport s hc
  exact State.runFeed_unpowered hp (hf.symm.trans ht)

end Sys2Proof.Machine

namespace Sys2Proof.Machine

/-! ## What leaves the feed controllers alone

A running fault and the end of one act on channels, rails and the sequencer (R239–R241); the feed controllers and what
has been reported and counted of the feeds stay. -/

/-- The feed controllers beside their registers. -/
def Device.feedParts (d : Device) : Feed × Feed × Option Switchover × Nat := (d.feedA, d.feedB, d.switch, d.feedClk)

/-- The pages of the feeds and of the counters. -/
def feedPages : List Nat := [0x05, 0x13]

/-- The registers of pages FEED and CNT read in `d` as in `o`, the feed controllers are the same, and what had been
reported still is. (A report of STRIKE may have been completed by a further source of its cycle, R133.) -/
structure Device.FeedKept (o d : Device) : Prop where
  reg : ∀ r : Reg, r.addr / 256 ∈ feedPages → d.rd r = o.rd r
  parts : d.feedParts = o.feedParts
  reported : ∀ {x : Device} {code : Nat} {args : List Nat}, code ≠ Ev.STRIKE → x.reported o code args →
    x.reported d code args

/-- R239, R240: what a running fault does while the sequencer is ON, before its slot gets its chance to recover. -/
def Device.pfwWarned (d : Device) (k cause : Nat) : Device :=
  let e := (d.modSeq fun s => { s with pfwN := false, faulted := [], restarted := [] }).raise SEQ.STAT_PFWACT
  let e := (e.raise SEQ.STAT_PFW).log Ev.POWER_FAIL [k, cause] true
  (if d.flag SEQ.STAT_PFWACT then d.log Ev.POWER_FAIL [k, cause]
   else (((e.wr SEQ.FSLOT k).wr SEQ.FCAUSE cause).wr SEQ.PFWT e.now).seqReact .powerFail).modSeq
    fun s => { s with faulted := k :: s.faulted.filter (· != k) }

theorem Device.runningFault_eq (d : Device) (slot : Option Nat) (cause : Nat) : d.runningFault slot cause =
    if d.seqState != seqOn then
      if d.seqState == seqUp || d.seqState == seqPowerDown then d.log Ev.POWER_FAIL [slot.getD 0xFF, cause] else d
    else slot.elim (d.pfwWarned 0xFF cause) fun k => (d.pfwWarned k cause).chance k := by cases slot <;> rfl

namespace Device.FeedKept
variable {o d e : Device}

theorem refl (d : Device) : d.FeedKept d := ⟨fun _ _ => rfl, rfl, fun _ h => h⟩

theorem trans (h : o.FeedKept d) (k : d.FeedKept e) : o.FeedKept e where
  reg r hr := (k.reg r hr).trans (h.reg r hr)
  parts := k.parts.trans h.parts
  reported hc hr := k.reported hc (h.reported hc hr)

theorem ite {c : Prop} [Decidable c] (h : o.FeedKept d) (k : o.FeedKept e) : o.FeedKept (if c then d else e) := by
  split
  · exact h
  · exact k

theorem when (h : o.FeedKept d) (c : Bool) {g : Device → Device} (hg : o.FeedKept (g d)) : o.FeedKept (d.when c g) := by
  cases c
  · exact h
  · exact hg

theorem each {α : Type} (h : o.FeedKept d) {g : Device → α → Device} {l : List α}
    (hg : ∀ (x : Device) (a : α), o.FeedKept x → o.FeedKept (g x a)) : o.FeedKept (d.each l g) :=
  Device.each_keeps hg l d h

/-! ### Updates -/

/-- What writes no register and no feed controller, and takes no event away. -/
theorem of_regs (h : o.FeedKept d) (hr : e.regs = d.regs := by rfl) (hp : e.feedParts = d.feedParts := by rfl)
    (he : e.events = d.events := by rfl) : o.FeedKept e :=
  h.trans ⟨fun r _ => Device.rd_congr hr r, hp, fun _ hx => Device.reported_mono (by rw [he]) hx⟩

theorem wr (h : o.FeedKept d) {r : Reg} {v : Nat} (hr : r.addr / 256 ∉ feedPages := by decide) : o.FeedKept (d.wr r v) :=
  h.trans ⟨fun _ hq => Device.rd_wr_ne d v fun he => hr (he ▸ hq), rfl, fun _ hx => hx⟩

theorem setFld (h : o.FeedKept d) {f : Field} {v : Nat} (hr : f.reg.addr / 256 ∉ feedPages := by decide) :
    o.FeedKept (d.setFld f v) := h.wr hr

theorem setFlag (h : o.FeedKept d) {f : Field} {b : Bool} (hr : f.reg.addr / 256 ∉ feedPages := by decide) :
    o.FeedKept (d.setFlag f b) := h.wr hr

theorem setBit (h : o.FeedKept d) {r : Reg} {i : Nat} {b : Bool} (hr : r.addr / 256 ∉ feedPages := by decide) :
    o.FeedKept (d.setBit r i b) := h.wr hr

theorem raise (h : o.FeedKept d) {f : Field} (hr : f.reg.addr / 256 ∉ feedPages := by decide) :
    o.FeedKept (d.raise f) := (h.setFlag hr).of_regs

theorem modChan (h : o.FeedKept d) {n : Nat} {g : Chan → Chan} : o.FeedKept (d.modChan n g) := h.of_regs
theorem modBank (h : o.FeedKept d) {m : Nat} {g : Bank → Bank} : o.FeedKept (d.modBank m g) := h.of_regs
theorem modRail (h : o.FeedKept d) {r : Nat} {g : Rail → Rail} : o.FeedKept (d.modRail r g) := h.of_regs
theorem modSeq (h : o.FeedKept d) {g : Seq → Seq} : o.FeedKept (d.modSeq g) := h.of_regs

theorem log (h : o.FeedKept d) {code : Nat} {args : List Nat} {front : Bool} : o.FeedKept (d.log code args front) := by
  have hne : ∀ q r : Reg, q.addr / 256 = 0x0D → r.addr / 256 ∈ feedPages → q.addr ≠ r.addr := fun q r hq hr he => by
    rw [← he, hq] at hr; exact absurd hr (by decide)
  refine h.trans ⟨fun r hr => Device.rd_log d code args front (hne _ _ (by decide) hr) (hne _ _ (by decide) hr), ?_, ?_⟩
  · simp [feedParts]
  · exact fun _ hx => Device.reported_mono (by rw [Device.log_events]; exact List.prefix_append _ _) hx

/-! ### Channels -/

theorem chs_notFeed (n : Nat) : (CHS.STAT n).addr / 256 ∉ feedPages := by
  simp only [CHS.STAT, feedPages, List.mem_cons, List.not_mem_nil, or_false]; omega

theorem gangCommanded (h : o.FeedKept d) {ls : List Nat} {b : Bool} :
    o.FeedKept (d.each ls fun d n => d.setFlag (CHS.STAT_CMD n) b) :=
  h.each fun _ n hx => hx.setFlag (chs_notFeed n)

theorem gangRaised (h : o.FeedKept d) {ls : List Nat} {i w : Nat} :
    o.FeedKept (d.each ls fun d n => d.raise ⟨CHS.STAT n, i, w⟩) :=
  h.each fun _ n hx => hx.raise (chs_notFeed n)

theorem outOff (h : o.FeedKept d) {n : Nat} : o.FeedKept (d.outOff n) := by
  unfold Device.outOff
  exact modChan (setFlag (setFlag h (chs_notFeed n)) (chs_notFeed n))

theorem faultOff (h : o.FeedKept d) {l rk : Nat} : o.FeedKept (d.faultOff l rk) := by
  unfold Device.faultOff Device.recordState Device.bankTurnOff Device.gangOff
  exact modChan (modChan (modChan (each (modBank (gangCommanded h)) fun _ _ hx => hx.outOff)))

theorem safeOne (h : o.FeedKept d) {l : Nat} : o.FeedKept (d.safeOne l) := by
  have hmark : ∀ {ls : List Nat} {g k : Chan → Chan}, o.FeedKept (((d.each ls fun d n => d.raise (CHS.STAT_SAFE n)).modChan l
    g).modChan l k) := modChan (modChan (gangRaised h))
  unfold Device.safeOne Device.recordState
  exact ite hmark (ite (ite hmark (ite (gangRaised hmark) (modBank (gangRaised hmark))))
    (ite (modBank (gangCommanded hmark)) (gangCommanded hmark)))

theorem applySafe (h : o.FeedKept d) {cause : SafeCause} : o.FeedKept (d.applySafe cause) :=
  (h.each fun _ _ hx => hx.safeOne).log

/-! ### STRIKE -/

theorem queueMsg (h : o.FeedKept d) {t : MsgType} {dst : Nat} {data : List Nat} : o.FeedKept (d.queueMsg t dst data) := by
  unfold Device.queueMsg
  exact ite (of_regs h) h

theorem discard (h : o.FeedKept d) {which : Entry → Bool} {ev : Nat} : o.FeedKept (d.discard which ev) := by
  unfold Device.discard
  exact ite h (log (raise (wr (of_regs h))))

theorem leaveRun (h : o.FeedKept d) : o.FeedKept d.leaveRun := by
  unfold Device.leaveRun
  refine ite ?_ (of_regs h)
  exact each (each (discard (setFld (of_regs h))) fun _ _ hx => hx.faultOff) fun _ _ hx => hx.of_regs

theorem strikeNoted (h : o.FeedKept d) {src : StrikeSrc} : o.FeedKept (d.strikeNoted src) := by
  have hsrc : src.bit.reg.addr / 256 ∉ feedPages := by rw [src.bit_reg]; decide
  exact log (raise (wr (wr (raise (raise h) hsrc))))

theorem strikeDrop (h : o.FeedKept d) {src : StrikeSrc} : o.FeedKept (d.strikeDrop src) := by
  have hoff : o.FeedKept (d.each d.leads fun d l => d.faultOff l 2) := h.each fun _ _ hx => hx.faultOff
  unfold Device.strikeDrop
  exact ite (leaveRun (when hoff _ (queueMsg hoff))) (when hoff _ (queueMsg hoff))

theorem addStrikeSource (h : o.FeedKept d) {src : StrikeSrc} : o.FeedKept (d.addStrikeSource src) :=
  h.trans ⟨fun _ _ => rfl, rfl, (Device.addStrikeSource_rckFrame (rs := []) (bits := []) d src).reported⟩

theorem strike (h : o.FeedKept d) {src : StrikeSrc} : o.FeedKept (d.strike src) := by
  have hsrc : src.bit.reg.addr / 256 ∉ feedPages := by rw [src.bit_reg]; decide
  unfold Device.strike
  exact ite (addStrikeSource (raise h hsrc)) (ite (strikeNoted h) (strikeDrop (strikeNoted h)))

/-! ### The sequencer -/

theorem cv_notFeed {r : Nat} (hr : r < 4) : (CV.STAT r).addr / 256 ∉ feedPages := by
  simp only [CV.STAT, feedPages, List.mem_cons, List.not_mem_nil, or_false]; omega

theorem railStart (h : o.FeedKept d) {r : Nat} (hr : r < 4) : o.FeedKept (d.railStart r) := by
  unfold Device.railStart
  exact ite h (modRail (setFld (each h fun _ _ hx => setBit hx) (cv_notFeed hr)))

theorem railRestart (h : o.FeedKept d) {r : Nat} (hr : r < 4) : o.FeedKept (d.railRestart r) := by
  unfold Device.railRestart
  exact ite (modRail h) (ite h (railStart (setFld h (cv_notFeed hr)) hr))

theorem chance (h : o.FeedKept d) {k : Nat} : o.FeedKept (d.chance k) := by
  have hsel : ∀ x : Device, x.slotSel k < 4 := fun _ => Nat.mod_lt _ (by decide)
  unfold Device.chance
  exact ite (railRestart (modSeq (modSeq (setBit h))) (hsel _)) (modSeq (setBit h))

theorem seqReact (h : o.FeedKept d) {why : SafeCause} : o.FeedKept (d.seqReact why) := by
  unfold Device.seqReact
  exact ite h.applySafe (ite h.strike h)

theorem pfwWarned (h : o.FeedKept d) {k cause : Nat} : o.FeedKept (d.pfwWarned k cause) := by
  unfold Device.pfwWarned
  exact modSeq (ite (log h) (seqReact (wr (wr (wr (log (raise (raise (modSeq h)))))))))

theorem runningFault (h : o.FeedKept d) {slot : Option Nat} {cause : Nat} : o.FeedKept (d.runningFault slot cause) := by
  rw [Device.runningFault_eq]
  refine ite (ite (log h) h) ?_
  cases slot with
  | none => exact pfwWarned h
  | some k => exact chance (pfwWarned h)

/-- R241: the warning may be cancelled. -/
theorem checkCancel (h : o.FeedKept d) : o.FeedKept d.checkCancel := by
  unfold Device.checkCancel
  exact ite (modSeq (log (raise (setFlag h)))) h

end Device.FeedKept
end Sys2Proof.Machine

namespace Sys2Proof.Machine

/-! ## The registers of page FEED -/

section
variable (d : Device) (f g : FeedId)

theorem FeedIx_le : FeedIx f ≤ 1 := by cases f <;> decide

theorem FeedIx_inj {f g : FeedId} : FeedIx f = FeedIx g ↔ f = g := by cases f <;> cases g <;> decide

theorem fstat_page {ps : List Nat} (h : 0x05 ∈ ps) : (FEED.FSTAT (FeedIx f)).addr / 256 ∈ ps := by cases f <;> exact h

/-- A register of page FEED before the feeds' status registers. -/
theorem fstat_addr_ne {r : Reg} (h : r.addr < 0x520) : r.addr ≠ (FEED.FSTAT (FeedIx f)).addr := by
  simp only [FEED.FSTAT]; omega

theorem stat_addr_lt : FEED.STAT.addr < 0x520 := by decide

/-! ### The status bits of a feed and of the selection -/

section
variable (i j : Nat)

/-- A status bit of a feed takes a value: that bit alone, of that feed alone, reads it. -/
@[simp] theorem Device.flag_setFlag_fstat (b : Bool) (hi : i < 16 := by decide) (hj : j < 16 := by decide) :
    (d.setFlag ⟨FEED.FSTAT (FeedIx f), i, 1⟩ b).flag ⟨FEED.FSTAT (FeedIx g), j, 1⟩ =
      if f = g ∧ i = j then b else d.flag ⟨FEED.FSTAT (FeedIx g), j, 1⟩ := by
  by_cases hf : f = g
  · subst hf
    simpa using Device.flag_setFlag_bit d (r := FEED.FSTAT (FeedIx f)) b hi hj
  · rw [if_neg (by simp [hf])]
    refine Device.flag_setFlag_reg d (f := ⟨FEED.FSTAT (FeedIx f), i, 1⟩) (g := ⟨FEED.FSTAT (FeedIx g), j, 1⟩) b ?_
    simpa [FEED.FSTAT, FeedIx_inj] using hf

@[simp] theorem Device.flag_raise_fstat (hi : i < 16 := by decide) (hj : j < 16 := by decide) :
    (d.raise ⟨FEED.FSTAT (FeedIx f), i, 1⟩).flag ⟨FEED.FSTAT (FeedIx g), j, 1⟩ =
      if f = g ∧ i = j then true else d.flag ⟨FEED.FSTAT (FeedIx g), j, 1⟩ := Device.flag_setFlag_fstat d f g i j true hi hj

@[simp] theorem Device.flag_setFlag_feedStat (b : Bool) (hi : i < 16 := by decide) (hj : j < 16 := by decide) :
    (d.setFlag ⟨FEED.STAT, i, 1⟩ b).flag ⟨FEED.STAT, j, 1⟩ = if i = j then b else d.flag ⟨FEED.STAT, j, 1⟩ :=
  Device.flag_setFlag_bit d (r := FEED.STAT) b hi hj

@[simp] theorem Device.flag_raise_feedStat (hi : i < 16 := by decide) (hj : j < 16 := by decide) :
    (d.raise ⟨FEED.STAT, i, 1⟩).flag ⟨FEED.STAT, j, 1⟩ = if i = j then true else d.flag ⟨FEED.STAT, j, 1⟩ :=
  Device.flag_setFlag_feedStat d i j true hi hj

/-- Another register's write leaves a feed's status. -/
theorem Device.flag_fstat_wr {r : Reg} (v : Nat) (hr : r.addr < 0x520) :
    (d.wr r v).flag ⟨FEED.FSTAT (FeedIx f), j, 1⟩ = d.flag ⟨FEED.FSTAT (FeedIx f), j, 1⟩ :=
  Device.flag_wr_ne d v (fstat_addr_ne f hr)

@[simp] theorem Device.flag_fstat_setFld_stat (w v : Nat) : (d.setFld ⟨FEED.STAT, i, w⟩ v).flag
    ⟨FEED.FSTAT (FeedIx f), j, 1⟩ =
    d.flag ⟨FEED.FSTAT (FeedIx f), j, 1⟩ := d.flag_fstat_wr f j _ stat_addr_lt
@[simp] theorem Device.flag_fstat_setFlag_stat (b : Bool) : (d.setFlag ⟨FEED.STAT, i, 1⟩ b).flag
    ⟨FEED.FSTAT (FeedIx f), j, 1⟩ =
    d.flag ⟨FEED.FSTAT (FeedIx f), j, 1⟩ := d.flag_fstat_wr f j _ stat_addr_lt
@[simp] theorem Device.flag_fstat_raise_stat : (d.raise ⟨FEED.STAT, i, 1⟩).flag ⟨FEED.FSTAT (FeedIx f), j, 1⟩ =
    d.flag ⟨FEED.FSTAT (FeedIx f), j, 1⟩ := d.flag_fstat_setFlag_stat f i j true

theorem Device.fld_stat_wr {r : Reg} (w v : Nat) (hr : r.addr ≠ FEED.STAT.addr) :
    (d.wr r v).fld ⟨FEED.STAT, i, w⟩ = d.fld ⟨FEED.STAT, i, w⟩ := Device.fld_wr_ne d v hr

@[simp] theorem Device.flag_stat_setFlag_fstat (b : Bool) : (d.setFlag ⟨FEED.FSTAT (FeedIx f), i, 1⟩ b).flag
    ⟨FEED.STAT, j, 1⟩ =
    d.flag ⟨FEED.STAT, j, 1⟩ := Device.flag_setFlag_reg d b (fstat_addr_ne f stat_addr_lt).symm
@[simp] theorem Device.flag_stat_raise_fstat : (d.raise ⟨FEED.FSTAT (FeedIx f), i, 1⟩).flag ⟨FEED.STAT, j, 1⟩ =
    d.flag ⟨FEED.STAT, j, 1⟩ := d.flag_stat_setFlag_fstat f i j true

end

/-! ### The active feed -/

theorem Device.activeFeed_congr {d e : Device} (h : e.fld FEED.STAT_ACTIVE = d.fld FEED.STAT_ACTIVE) :
    e.activeFeed = d.activeFeed := by unfold Device.activeFeed; rw [h]

@[simp] theorem Device.activeFeed_setFlag_fstat (i : Nat) (b : Bool) :
    (d.setFlag ⟨FEED.FSTAT (FeedIx f), i, 1⟩ b).activeFeed = d.activeFeed :=
  Device.activeFeed_congr (Device.fld_setFld_reg d _ (fstat_addr_ne f stat_addr_lt).symm)
@[simp] theorem Device.activeFeed_raise_fstat (i : Nat) : (d.raise ⟨FEED.FSTAT (FeedIx f), i, 1⟩).activeFeed = d.activeFeed :=
  d.activeFeed_setFlag_fstat f i true
@[simp] theorem Device.activeFeed_setFlag_stat (i : Nat) (b : Bool) (hi : 2 ≤ i := by decide) :
    (d.setFlag ⟨FEED.STAT, i, 1⟩ b).activeFeed = d.activeFeed :=
  Device.activeFeed_congr (Device.fld_setFld_beside d (f := ⟨FEED.STAT, i, 1⟩) _ rfl (.inr hi) (by decide))
@[simp] theorem Device.activeFeed_raise_stat (i : Nat) (hi : 2 ≤ i := by decide) :
    (d.raise ⟨FEED.STAT, i, 1⟩).activeFeed = d.activeFeed := d.activeFeed_setFlag_stat i true hi
@[simp] theorem Device.activeFeed_set : (d.setFld FEED.STAT_ACTIVE (feedCode f)).activeFeed = some f := by
  have h := Device.fld_setFld_same d FEED.STAT_ACTIVE (feedCode f) (by decide)
  unfold Device.activeFeed
  rw [h]
  cases f <;> rfl
@[simp] theorem Device.activeFeed_clear : (d.setFld FEED.STAT_ACTIVE 0).activeFeed = none := by
  have h := Device.fld_setFld_same d FEED.STAT_ACTIVE 0 (by decide)
  unfold Device.activeFeed
  rw [h]
  rfl
@[simp] theorem Device.flag_setFld_active (v j : Nat) (hj : 2 ≤ j ∧ j < 16 := by decide) :
    (d.setFld FEED.STAT_ACTIVE v).flag ⟨FEED.STAT, j, 1⟩ = d.flag ⟨FEED.STAT, j, 1⟩ := by
  unfold Device.flag
  rw [Device.fld_setFld_beside d (f := FEED.STAT_ACTIVE) (g := ⟨FEED.STAT, j, 1⟩) v rfl (.inl hj.1) hj.2]

/-! ### The controllers beside the registers -/

variable (k : Feed → Feed)

@[simp] theorem Device.rd_modFeed (r : Reg) : (d.modFeed f k).rd r = d.rd r := by cases f <;> rfl
@[simp] theorem Device.fld_modFeed (x : Field) : (d.modFeed f k).fld x = d.fld x := by cases f <;> rfl
@[simp] theorem Device.flag_modFeed (x : Field) : (d.modFeed f k).flag x = d.flag x := by cases f <;> rfl
@[simp] theorem Device.activeFeed_modFeed : (d.modFeed f k).activeFeed = d.activeFeed := by cases f <;> rfl
@[simp] theorem Device.modFeed_feed_same : (d.modFeed f k).feed f = k (d.feed f) := by cases f <;> rfl
theorem Device.modFeed_feed : (d.modFeed f k).feed g = if f = g then k (d.feed g) else d.feed g := by
  cases f <;> cases g <;> rfl
@[simp] theorem Device.modFeed_rest : (d.modFeed f k).switch = d.switch ∧ (d.modFeed f k).feedClk = d.feedClk ∧
    (d.modFeed f k).events = d.events := by cases f <;> exact ⟨rfl, rfl, rfl⟩

theorem Device.feed_congr {d e : Device} (h : e.feedParts = d.feedParts) : (∀ f, e.feed f = d.feed f) ∧
    e.switch = d.switch ∧ e.feedClk = d.feedClk := by
  simp only [Device.feedParts, Prod.mk.injEq] at h
  obtain ⟨ha, hb, hs, hc⟩ := h
  exact ⟨fun f => by cases f <;> assumption, hs, hc⟩

@[simp] theorem Device.feed_setFld (x : Field) (v : Nat) : (d.setFld x v).feed f = d.feed f := by cases f <;> rfl
@[simp] theorem Device.feed_setFlag (x : Field) (b : Bool) : (d.setFlag x b).feed f = d.feed f := by cases f <;> rfl
@[simp] theorem Device.feed_raise (x : Field) : (d.raise x).feed f = d.feed f := by cases f <;> rfl
@[simp] theorem Device.feed_wr (r : Reg) (v : Nat) : (d.wr r v).feed f = d.feed f := by cases f <;> rfl
@[simp] theorem Device.feed_countSat (r : Reg) (n : Nat) : (d.countSat r n).feed f = d.feed f := by cases f <;> rfl

end

/-! ### What a kept feed shows -/

namespace Device.FeedKept
variable {o d : Device} (h : o.FeedKept d)
include h

theorem fld (f : Field) (hf : f.reg.addr / 256 ∈ feedPages := by decide) : d.fld f = o.fld f :=
  congrArg (fun v => bitsOf v f.lo f.w) (h.reg f.reg hf)

theorem flag (f : Field) (hf : f.reg.addr / 256 ∈ feedPages := by decide) : d.flag f = o.flag f :=
  congrArg (· == 1) (h.fld f hf)

theorem fstat (f : FeedId) (j : Nat) : d.flag ⟨FEED.FSTAT (FeedIx f), j, 1⟩ = o.flag ⟨FEED.FSTAT (FeedIx f), j, 1⟩ :=
  h.flag ⟨FEED.FSTAT (FeedIx f), j, 1⟩ (fstat_page f (by decide))

theorem activeFeed : d.activeFeed = o.activeFeed := Device.activeFeed_congr (h.fld FEED.STAT_ACTIVE)
theorem feed (f : FeedId) : d.feed f = o.feed f := (Device.feed_congr h.parts).1 f
theorem switch : d.switch = o.switch := (Device.feed_congr h.parts).2.1
theorem feedClk : d.feedClk = o.feedClk := (Device.feed_congr h.parts).2.2

end Device.FeedKept
end Sys2Proof.Machine

namespace Sys2Proof.Machine

/-! ## Gates and selection (R201–R205) -/

/-- The bits of FSTAT that follow the gate: ON, LIMIT, INRUSH. -/
def gateBits : List Nat := [1, 2, 3]

/-- From `o` to `d` gates, their windows and the selection may have changed; what qualifies, latches or reports a feed,
the counters, and what had been reported stay. (A report of STRIKE may have been completed, R133.) -/
structure Device.GateStep (o d : Device) : Prop where
  fstat : ∀ f, ∀ j < 16, j ∉ gateBits → d.flag ⟨FEED.FSTAT (FeedIx f), j, 1⟩ = o.flag ⟨FEED.FSTAT (FeedIx f), j, 1⟩
  cnt : ∀ r : Reg, r.addr / 256 = 0x13 → d.rd r = o.rd r
  feed : ∀ f, (d.feed f).tripped = (o.feed f).tripped ∧ (d.feed f).outOfService = (o.feed f).outOfService
  reported : ∀ {x : Device} {code : Nat} {args : List Nat}, code ≠ Ev.STRIKE → x.reported o code args →
    x.reported d code args

theorem Device.FeedKept.gateStep {o d : Device} (h : o.FeedKept d) : o.GateStep d where
  fstat f j _ _ := h.fstat f j
  cnt r hr := h.reg r (by rw [hr]; decide)
  feed f := by rw [h.feed f]; exact ⟨rfl, rfl⟩
  reported := h.reported

namespace Device.GateStep
variable {o d e : Device}

theorem refl (d : Device) : d.GateStep d := (FeedKept.refl d).gateStep

theorem trans (h : o.GateStep d) (k : d.GateStep e) : o.GateStep e where
  fstat f j hj hb := (k.fstat f j hj hb).trans (h.fstat f j hj hb)
  cnt r hr := (k.cnt r hr).trans (h.cnt r hr)
  feed f := ⟨(k.feed f).1.trans (h.feed f).1, (k.feed f).2.trans (h.feed f).2⟩
  reported hc hr := k.reported hc (h.reported hc hr)

theorem ite {c : Prop} [Decidable c] (h : o.GateStep d) (k : o.GateStep e) : o.GateStep (if c then d else e) := by
  split
  · exact h
  · exact k

theorem kept (h : o.GateStep d) (k : d.FeedKept e) : o.GateStep e := h.trans k.gateStep

/-! ### Updates -/

theorem setStat (h : o.GateStep d) {i w v : Nat} : o.GateStep (d.setFld ⟨FEED.STAT, i, w⟩ v) :=
  h.trans ⟨fun f j _ _ => d.flag_fstat_setFld_stat f i j w v,
    fun r hr => Device.rd_setFld_ne d v fun he => by
      rw [← he] at hr
      exact absurd hr (by decide : ¬FEED.STAT.addr / 256 = 0x13),
    fun _ => ⟨by simp, by simp⟩, fun _ hx => hx⟩

theorem stat (h : o.GateStep d) {i : Nat} {b : Bool} : o.GateStep (d.setFlag ⟨FEED.STAT, i, 1⟩ b) := h.setStat

theorem noteSet (h : o.GateStep d) {a b : Nat} : o.GateStep (d.noteSet a b) :=
  h.trans ⟨fun _ _ _ _ => rfl, fun _ _ => rfl, fun f => by cases f <;> exact ⟨rfl, rfl⟩, fun _ hx => hx⟩

theorem raiseStat (h : o.GateStep d) {i : Nat} : o.GateStep (d.raise ⟨FEED.STAT, i, 1⟩) := noteSet (stat h)

theorem gate (h : o.GateStep d) {f : FeedId} {i : Nat} {b : Bool} (hi : i ∈ gateBits := by decide) :
    o.GateStep (d.setFlag ⟨FEED.FSTAT (FeedIx f), i, 1⟩ b) := by
  have hlt : i < 16 := (by decide : ∀ n ∈ gateBits, n < 16) i hi
  refine h.trans ⟨fun g j hj hb => ?_, fun r hr => ?_, fun _ => ⟨by simp, by simp⟩, fun _ hx => hx⟩
  · rw [Device.flag_setFlag_fstat d f g i j b hlt hj, if_neg]
    rintro ⟨-, rfl⟩
    exact hb hi
  · refine Device.rd_setFld_ne d _ fun he : (FEED.FSTAT (FeedIx f)).addr = r.addr => ?_
    rw [← he] at hr
    cases f <;> exact absurd hr (by decide)

theorem raiseGate (h : o.GateStep d) {f : FeedId} {i : Nat} (hi : i ∈ gateBits := by decide) :
    o.GateStep (d.raise ⟨FEED.FSTAT (FeedIx f), i, 1⟩) := noteSet (gate h hi)

theorem modFeed (h : o.GateStep d) {f : FeedId} {k : Feed → Feed}
    (hk : ∀ x : Feed, (k x).tripped = x.tripped ∧ (k x).outOfService = x.outOfService := by exact fun _ => ⟨rfl, rfl⟩) :
    o.GateStep (d.modFeed f k) := by
  refine h.trans ⟨fun _ _ _ _ => by simp, fun _ _ => by simp, fun g => ?_, fun hc hx => ?_⟩
  · rw [Device.modFeed_feed]
    split
    · exact hk _
    · exact ⟨rfl, rfl⟩
  · exact Device.reported_mono (by simp) hx

theorem switched (h : o.GateStep d) {x : Option Switchover} : o.GateStep { d with switch := x } :=
  h.trans ⟨fun _ _ _ _ => rfl, fun _ _ => rfl, fun f => by cases f <;> exact ⟨rfl, rfl⟩, fun _ hx => hx⟩

end Device.GateStep

/-! ### A gate goes off (R201) -/

/-- The gate of `f` and what goes with it are off; the selection is untouched. -/
def Device.gateDown (d : Device) (f : FeedId) : Device :=
  (((d.lower (FEED.FSTAT_ON (FeedIx f))).lower (FEED.FSTAT_INRUSH (FeedIx f))).lower (FEED.FSTAT_LIMIT (FeedIx f))).modFeed f
    fun x => { x with good := false, uv := false, offAt := if d.feedOn f then d.feedClk else x.offAt }

theorem Device.gateOff_eq (d : Device) (f : FeedId) : d.gateOff f =
    if d.activeFeed = some f then ((d.gateDown f).setFld FEED.STAT_ACTIVE 0).lower FEED.STAT_MANUAL else d.gateDown f := by
  have h : (d.gateDown f).activeFeed = d.activeFeed := by simp [Device.gateDown]
  rw [← h]
  rfl

section
variable (d : Device) (f g : FeedId)

theorem Device.GateStep.gateOff {o d : Device} (h : o.GateStep d) {f : FeedId} : o.GateStep (d.gateOff f) := by
  have hdown : o.GateStep (d.gateDown f) := by
    unfold Device.gateDown
    exact modFeed (gate (gate (gate h)))
  rw [Device.gateOff_eq]
  exact ite (stat (setStat hdown)) hdown

/-- Of the gates that one alone is off, and the other as it was. -/
@[simp] theorem Device.gateOff_feedOn : (d.gateOff f).feedOn g = (d.feedOn g && f != g) := by
  have hdown : (d.gateDown f).feedOn g = (d.feedOn g && f != g) := by
    by_cases h : f = g <;> simp [Device.gateDown, Device.feedOn, h]
  rw [Device.gateOff_eq]
  split
  · simpa [Device.feedOn] using hdown
  · exact hdown

@[simp] theorem Device.gateOff_activeFeed :
    (d.gateOff f).activeFeed = if d.activeFeed = some f then none else d.activeFeed := by
  rw [Device.gateOff_eq]
  split
  · simp
  · simp [Device.gateDown]

@[simp] theorem Device.gateOff_rest : (d.gateOff f).switch = d.switch ∧ (d.gateOff f).feedClk = d.feedClk ∧
    (d.gateOff f).events = d.events := by
  rw [Device.gateOff_eq]
  split <;> simp [Device.gateDown]

/-! ### A switchover begins, a feed turns on -/

theorem Device.startSwitch_eq (cause : SwitchCause) : d.startSwitch f cause =
    { (d.gateOff (otherFeed f)).raise FEED.STAT_SWITCHING with
      switch := some { t0 := d.feedClk, incoming := f, cause := cause, verified := false } } := by
  unfold Device.startSwitch; simp

theorem Device.GateStep.startSwitch {o d : Device} (h : o.GateStep d) {f : FeedId} {cause : SwitchCause} :
    o.GateStep (d.startSwitch f cause) := by
  rw [Device.startSwitch_eq]
  exact switched (raiseStat (Device.GateStep.gateOff h))

/-- R203, step 1. -/
theorem Device.startSwitch_begins (cause : SwitchCause) : (d.startSwitch f cause).feedOn (otherFeed f) = false ∧
    (d.startSwitch f cause).flag FEED.STAT_SWITCHING = true ∧
    (d.startSwitch f cause).switch = some { t0 := d.feedClk, incoming := f, cause := cause, verified := false } := by
  rw [Device.startSwitch_eq]
  refine ⟨?_, ?_, rfl⟩
  · have h := d.gateOff_feedOn (otherFeed f) (otherFeed f)
    exact (Device.flag_fstat_raise_stat _ _ _ _).trans (h.trans (by simp))
  · exact Device.flag_raise _ FEED.STAT_SWITCHING rfl (by decide)

theorem Device.turnFeedOn_activeFeed : (d.turnFeedOn f).activeFeed = some f := by simp [Device.turnFeedOn]

@[simp] theorem Device.turnFeedOn_feedOn : (d.turnFeedOn f).feedOn g = (f == g || d.feedOn g) := by
  by_cases h : f = g <;> simp [Device.turnFeedOn, Device.feedOn, h]

theorem Device.turnFeedOn_inrush : (d.turnFeedOn f).flag (FEED.FSTAT_INRUSH (FeedIx f)) = true := by
  simp [Device.turnFeedOn]

theorem Device.GateStep.turnFeedOn {o d : Device} (h : o.GateStep d) {f : FeedId} : o.GateStep (d.turnFeedOn f) := by
  unfold Device.turnFeedOn
  exact modFeed (setStat (raiseGate (raiseGate h)))

end

/-! ### A selection (R201, R202) -/

section
variable {o d : Device}

theorem otherFeed_ne (f : FeedId) : otherFeed f ≠ f := by cases f <;> decide
@[simp] theorem otherFeed_otherFeed (f : FeedId) : otherFeed (otherFeed f) = f := by cases f <;> rfl
theorem eq_otherFeed {f g : FeedId} (h : f ≠ g) : f = otherFeed g := by
  cases f <;> cases g <;> simp [otherFeed] at *

theorem Device.GateStep.selRefused (h : o.GateStep d) : o.GateStep d.selRefused := by
  unfold Device.selRefused
  exact kept (raiseStat h) (Device.FeedKept.log (Device.FeedKept.refl _))

/-- A refused selection is noted, and nothing else of the feeds changes. -/
theorem Device.selRefused_refuses (d : Device) : d.selRefused.flag FEED.STAT_SELREF = true ∧ d.selRefused.switch = d.switch ∧
    d.selRefused.activeFeed = d.activeFeed ∧ ∀ f, d.selRefused.feedOn f = d.feedOn f := by
  have hlog : (d.raise FEED.STAT_SELREF).FeedKept d.selRefused := .log (.refl _)
  refine ⟨(hlog.flag FEED.STAT_SELREF).trans (by simp), hlog.switch.trans (by simp), hlog.activeFeed.trans (by simp),
    fun f => (hlog.fstat f 1).trans (by simp [Device.feedOn])⟩

/-- What a byte of CMD does that selects `f` alone, with no switchover under way. -/
def Device.selectOne (d : Device) (f : FeedId) : Device :=
  if d.activeFeed = some f then d
  else if !d.usable f then d.selRefused
  else if d.activeFeed.isNone then (d.turnFeedOn f).raise FEED.STAT_MANUAL
  else (d.startSwitch f .manual).raise FEED.STAT_MANUAL

theorem Device.feedSelect_none (d : Device) {v : Nat} (h : v.testBit 0 = false) (h' : v.testBit 1 = false) :
    d.feedSelect v = d := by simp [Device.feedSelect, h, h']

theorem Device.feedSelect_both (d : Device) {v : Nat} (h : v.testBit 0 = true) (h' : v.testBit 1 = true) :
    d.feedSelect v = d.selRefused := by simp [Device.feedSelect, h, h']

theorem Device.feedSelect_one {v : Nat} {f : FeedId} (h : v.testBit 0 = (f == .fa)) (h' : v.testBit 1 = (f == .fb))
    (hs : d.switch = none) : d.feedSelect v = d.selectOne f := by
  cases f <;> simp at h h' <;> simp [Device.feedSelect, h, h', hs, Device.selectOne]

theorem Device.feedSelect_switching {v : Nat} {f : FeedId} {x : Switchover} (h : v.testBit 0 = (f == .fa))
    (h' : v.testBit 1 = (f == .fb)) (hs : d.switch = some x) : d.feedSelect v =
      if x.t0 = d.feedClk && !x.cause.own then { d with switch := some { x with again := some v } } else d.selRefused := by
  cases f <;> simp at h h' <;> simp [Device.feedSelect, h, h', hs]

/-- Every byte of CMD selects nothing, both feeds or one. -/
theorem selByte_cases (v : Nat) : (v.testBit 0 = false ∧ v.testBit 1 = false) ∨ (v.testBit 0 = true ∧ v.testBit 1 = true) ∨
    ∃ f : FeedId, v.testBit 0 = (f == .fa) ∧ v.testBit 1 = (f == .fb) := by
  cases h : v.testBit 0 <;> cases h' : v.testBit 1
  · exact .inl ⟨rfl, rfl⟩
  · exact .inr (.inr ⟨.fb, rfl, rfl⟩)
  · exact .inr (.inr ⟨.fa, rfl, rfl⟩)
  · exact .inr (.inl ⟨rfl, rfl⟩)

/-- What holds of a device whatever becomes of a selection. -/
theorem Device.feedSelect_keeps {P : Device → Prop} (v : Nat) (hd : P d) (hr : P d.selRefused)
    (hx : ∀ x, d.switch ≠ none → P { d with switch := x })
    (hon : ∀ f, d.usable f = true → P ((d.turnFeedOn f).raise FEED.STAT_MANUAL))
    (hsw : ∀ f, d.usable f = true → P ((d.startSwitch f .manual).raise FEED.STAT_MANUAL)) : P (d.feedSelect v) := by
  rcases selByte_cases v with ⟨h, h'⟩ | ⟨h, h'⟩ | ⟨f, h, h'⟩
  · rwa [Device.feedSelect_none d h h']
  · rwa [Device.feedSelect_both d h h']
  · cases hs : d.switch with
    | some x =>
      rw [Device.feedSelect_switching h h' hs]
      split
      · exact hx _ (by simp [hs])
      · exact hr
    | none =>
      rw [Device.feedSelect_one h h' hs, Device.selectOne]
      split
      · exact hd
      · by_cases hu : d.usable f = true
        · rw [if_neg (by simp [hu])]
          split
          · exact hon f hu
          · exact hsw f hu
        · rwa [if_pos (by simpa using hu)]

theorem Device.GateStep.feedSelect (h : o.GateStep d) {v : Nat} : o.GateStep (d.feedSelect v) :=
  Device.feedSelect_keeps v h h.selRefused (fun _ _ => h.switched) (fun _ _ => raiseStat (Device.GateStep.turnFeedOn h))
    fun _ _ => raiseStat (Device.GateStep.startSwitch h)

/-- A feed that is not qualified stays off whatever is selected. -/
theorem Device.feedSelect_off {f : FeedId} (v : Nat) (hq : d.feedQual f = false) (hoff : d.feedOn f = false) :
    (d.feedSelect v).feedOn f = false := by
  have hne : ∀ g, d.usable g = true → g ≠ f := by
    rintro g hu rfl
    simp [Device.usable, hq] at hu
  refine Device.feedSelect_keeps (P := fun e => e.feedOn f = false) v hoff ((d.selRefused_refuses.2.2.2 f).trans hoff)
    (fun _ _ => hoff)
    (fun g hg => ?_) fun g hg => ?_
  · exact (Device.flag_fstat_raise_stat _ _ _ _).trans ((d.turnFeedOn_feedOn g f).trans (by simp [hne g hg, hoff]))
  · refine (Device.flag_fstat_raise_stat _ _ _ _).trans ?_
    rw [eq_otherFeed (hne g hg).symm]
    exact (d.startSwitch_begins g .manual).1

theorem Device.GateStep.selectAgain (h : o.GateStep d) {x : Switchover} : o.GateStep (d.selectAgain x) := by
  unfold Device.selectAgain
  split
  · exact feedSelect h
  · exact h

theorem Device.selectAgain_none {x : Switchover} (h : x.again = none) : d.selectAgain x = d := by
  unfold Device.selectAgain; rw [h]

end

/-! ### Triggers (R202, R205) -/

section
variable {o d : Device} {f : FeedId} {cause : SwitchCause} {stays : Bool}

/-- R205: the sequence is given up, up to what follows its report. -/
def Device.switchAborted (d : Device) (x : Switchover) : Device :=
  let e := ({ (d.gateOff x.incoming).lower FEED.STAT_SWITCHING with switch := none }).modFeed (otherFeed x.incoming)
    fun y => { y with unverified := y.unverified || !x.verified }
  (((e.lower FEED.STAT_MANUAL).raise FEED.STAT_FEED_SWITCH).log Ev.FEED_SWITCH [abortCode, e.feedClk - x.t0])

theorem Device.abortSwitch_eq (d : Device) (x : Switchover) : d.abortSwitch x =
    ((d.switchAborted x).runningFault (d.switchAborted x).feedSlot causeFeed).selectAgain x := rfl

theorem Device.switchAborted_gateStep (d : Device) (x : Switchover) : d.GateStep (d.switchAborted x) := by
  unfold Device.switchAborted
  have hdown : d.GateStep ((d.gateOff x.incoming).lower FEED.STAT_SWITCHING) :=
    .stat (.gateOff (.refl d))
  exact .kept (.raiseStat (.stat (.modFeed (.switched hdown)))) (.log (.refl _))

theorem Device.switchAborted_off (d : Device) (x : Switchover) : (d.switchAborted x).feedOn x.incoming = false := by
  have hlow : ((d.gateOff x.incoming).lower FEED.STAT_SWITCHING).feedOn x.incoming = false :=
    ((d.gateOff x.incoming).flag_fstat_setFlag_stat x.incoming 2 1 false).trans
      (by simpa [Device.feedOn] using d.gateOff_feedOn x.incoming x.incoming)
  refine ((Device.FeedKept.log (.refl _)).fstat x.incoming 1).trans ?_
  refine (Device.flag_fstat_raise_stat _ _ _ _).trans ((Device.flag_fstat_setFlag_stat _ _ _ _ _).trans ?_)
  exact (Device.flag_modFeed _ _ _ _).trans hlow

theorem Device.GateStep.abortSwitch (h : o.GateStep d) {x : Switchover} : o.GateStep (d.abortSwitch x) := by
  rw [Device.abortSwitch_eq]
  exact selectAgain (kept (h.trans (d.switchAborted_gateStep x)) (.runningFault (.refl _)))

theorem Device.abortSwitch_off {x : Switchover} (h : d.feedQual x.incoming = false ∨ x.again = none) :
    (d.abortSwitch x).feedOn x.incoming = false := by
  have hfault : (d.switchAborted x).FeedKept _ := .runningFault (slot := (d.switchAborted x).feedSlot)
    (cause := causeFeed) (.refl _)
  have hoff := (hfault.fstat x.incoming 1).trans (d.switchAborted_off x)
  rw [Device.abortSwitch_eq]
  unfold Device.selectAgain
  split
  · next v hv =>
    have hq : d.feedQual x.incoming = false := h.resolve_right (by simp [hv])
    have hkept := (d.switchAborted_gateStep x).kept hfault
    exact Device.feedSelect_off v ((hkept.fstat x.incoming 0 (by decide) (by decide)).trans hq) hoff
  · exact hoff

/-- A trigger moves gates and selection alone. -/
theorem Device.GateStep.trigger (h : o.GateStep d) : o.GateStep (d.trigger f cause stays) := by
  unfold Device.trigger
  cases d.switch with
  | some x => exact ite (abortSwitch h) (ite (switched (stat (Device.GateStep.gateOff h))) (Device.GateStep.gateOff h))
  | none =>
    exact ite (Device.GateStep.gateOff h) (ite (startSwitch h) (ite (kept (modFeed h) (.runningFault (.refl _)))
      (kept (Device.GateStep.gateOff h) (.runningFault (.refl _)))))

/-- After a trigger that does not leave its feed on, the feed is off, unless a selection that was put off turns it on
again, for which it would have to be qualified. -/
theorem Device.trigger_off (h : d.feedQual f = false ∨ ∀ x, d.switch = some x → x.again = none) :
    (d.trigger f cause false).feedOn f = false := by
  have hgate : (d.gateOff f).feedOn f = false := by simp
  unfold Device.trigger
  cases hs : d.switch with
  | some x =>
    dsimp only
    split
    · next hin =>
      subst hin
      exact Device.abortSwitch_off (h.imp_right fun hn => hn x hs)
    · split
      · exact (Device.flag_fstat_setFlag_stat _ _ _ _ _).trans hgate
      · exact hgate
  | none =>
    dsimp only
    split
    · exact hgate
    · split
      · simpa using (d.startSwitch_begins (otherFeed f) cause).1
      · exact (Device.FeedKept.runningFault (.refl _)).fstat f 1 |>.trans hgate
end

end Sys2Proof.Machine

namespace Sys2Proof.Machine

/-! ## What a report, a count and a reading leave of the feeds -/

section
variable (d : Device) (f g : FeedId) (j : Nat)

@[simp] theorem Device.flag_fstat_log (code : Nat) (args : List Nat) (front : Bool) :
    (d.log code args front).flag ⟨FEED.FSTAT (FeedIx f), j, 1⟩ = d.flag ⟨FEED.FSTAT (FeedIx f), j, 1⟩ :=
  (Device.FeedKept.log (.refl d)).fstat f j
@[simp] theorem Device.feed_log (code : Nat) (args : List Nat) (front : Bool) : (d.log code args front).feed f = d.feed f :=
  (Device.FeedKept.log (.refl d)).feed f

/-- A counter of page CNT lies beyond page FEED. -/
theorem Device.flag_fstat_cnt {r : Nat → Reg} {k : Nat} (h : 0x1300 ≤ (r k).addr) :
    (d.cnt r k).flag ⟨FEED.FSTAT (FeedIx f), j, 1⟩ = d.flag ⟨FEED.FSTAT (FeedIx f), j, 1⟩ := by
  have hf : (FEED.FSTAT (FeedIx f)).addr < 0x1300 := by cases f <;> decide
  have hj : CNT.JSTAT.addr ≠ (FEED.FSTAT (FeedIx f)).addr := by cases f <;> decide
  have hk : (r k).addr ≠ (FEED.FSTAT (FeedIx f)).addr := by omega
  exact (Device.flag_raise_reg _ hj).trans (Device.flag_countSat_ne _ _ hk)
@[simp] theorem Device.feed_cnt (r : Nat → Reg) (k : Nat) : (d.cnt r k).feed f = d.feed f := by cases f <;> rfl

@[simp] theorem Device.cnt_rest (r : Nat → Reg) (k : Nat) : (d.cnt r k).switch = d.switch ∧ (d.cnt r k).feedClk = d.feedClk ∧
    (d.cnt r k).events = d.events := ⟨rfl, rfl, rfl⟩

/-- A counter counts one of what it held before. -/
theorem Device.counted_cnt {o d : Device} {r : Nat → Reg} {k : Nat} (hk : (r k).addr < 0x13a2) (h : d.rd (r k) = o.rd (r k)) :
    o.counted (d.cnt r k) (r k) := by
  have hne : CNT.JSTAT.addr ≠ (r k).addr := by rw [show CNT.JSTAT.addr = 0x13a2 from rfl]; omega
  refine (Device.rd_raise_ne _ hne).trans ((Device.rd_countSat_same _ _ _).trans ?_)
  rw [h]

theorem Device.rd_cnt_ne {r : Nat → Reg} {k : Nat} {q : Reg} (hq : q.addr < 0x13a2) (h : (r k).addr ≠ q.addr) :
    (d.cnt r k).rd q = d.rd q := by
  have hne : CNT.JSTAT.addr ≠ q.addr := by rw [show CNT.JSTAT.addr = 0x13a2 from rfl]; omega
  exact (Device.rd_raise_ne _ hne).trans (Device.rd_countSat_ne _ _ h)

/-- A register of page CNT, where only pages before it may have been written. -/
theorem Device.rd_cntPage {o : Device} (h : o.onlyPages [0x05, 0x08, 0x0D] d) {r : Reg} (hr : r.addr / 256 = 0x13) :
    d.rd r = o.rd r := h r (by rw [hr]; decide)

theorem readings_ne_fstat : (FEED.VIN (FeedIx g)).addr ≠ (FEED.FSTAT (FeedIx f)).addr ∧
    (FEED.IMEAS (FeedIx g)).addr ≠ (FEED.FSTAT (FeedIx f)).addr := by cases f <;> cases g <;> decide

@[simp] theorem Device.flag_fstat_vin (v : Nat) : (d.wr (FEED.VIN (FeedIx g)) v).flag ⟨FEED.FSTAT (FeedIx f), j, 1⟩ =
    d.flag ⟨FEED.FSTAT (FeedIx f), j, 1⟩ := Device.flag_wr_ne d v (readings_ne_fstat f g).1
@[simp] theorem Device.flag_fstat_imeas (v : Nat) : (d.wr (FEED.IMEAS (FeedIx g)) v).flag ⟨FEED.FSTAT (FeedIx f), j, 1⟩ =
    d.flag ⟨FEED.FSTAT (FeedIx f), j, 1⟩ := Device.flag_wr_ne d v (readings_ne_fstat f g).2

/-! ### AVAIL and LATCHED -/

/-- AVAIL and LATCHED show the latched trip and the out-of-service mark; the other bits stay (R193, R198, R200). -/
theorem Device.feedAvail_shows : (d.feedAvail f).flag (FEED.FSTAT_LATCHED (FeedIx f)) =
    ((d.feed f).tripped || (d.feed f).outOfService) ∧
    (d.feedAvail f).flag (FEED.FSTAT_AVAIL (FeedIx f)) = !((d.feed f).tripped || (d.feed f).outOfService) := by
  simp [Device.feedAvail]

theorem Device.flag_feedAvail (hj : j < 16) (h4 : j ≠ 4) (h5 : j ≠ 5) : (d.feedAvail f).flag ⟨FEED.FSTAT (FeedIx g), j, 1⟩ =
    d.flag ⟨FEED.FSTAT (FeedIx g), j, 1⟩ := by
  unfold Device.feedAvail
  rw [Device.flag_setFlag_fstat _ f g 4 j _ (by decide) hj, if_neg (by omega),
    Device.flag_setFlag_fstat _ f g 5 j _ (by decide) hj, if_neg (by omega)]

@[simp] theorem Device.feedAvail_rest : (d.feedAvail f).switch = d.switch ∧ (d.feedAvail f).feedClk = d.feedClk ∧
    (d.feedAvail f).events = d.events ∧ ∀ g, (d.feedAvail f).feed g = d.feed g := by
  simp [Device.feedAvail]

/-! ### QUALIFIED and VIN -/

theorem Device.disqualify_flag (hj : j < 16) : (d.disqualify f).flag ⟨FEED.FSTAT (FeedIx g), j, 1⟩ =
    if f = g ∧ j = 0 then false else d.flag ⟨FEED.FSTAT (FeedIx g), j, 1⟩ := by
  unfold Device.disqualify
  rw [Device.flag_modFeed, Device.lower, Device.flag_setFlag_fstat _ f g 0 j _ (by decide) hj]
  simp [eq_comm]

@[simp] theorem Device.disqualify_qual : (d.disqualify f).feedQual f = false := by
  exact (d.disqualify_flag f f 0 (by decide)).trans (by simp)

@[simp] theorem Device.disqualify_rest : (d.disqualify f).switch = d.switch ∧ (d.disqualify f).feedClk = d.feedClk ∧
    (d.disqualify f).events = d.events := by simp [Device.disqualify]

theorem Device.disqualify_feed : (d.disqualify f).feed f = { d.feed f with lostAt := d.feedClk } := by
  simp [Device.disqualify]

/-- R191: a reading of VIN shows in its register, and may end the undervoltage noted of the feed; of the feeds' and the
counters' registers every other one stays. -/
theorem Device.seeVin_kept (vin : Nat) : ∃ uv,
    ((d.wr (FEED.VIN (FeedIx f)) vin).modFeed f fun x => { x with uv := uv }).FeedKept
    (d.seeVin f vin) := by
  unfold Device.seeVin
  dsimp only
  split
  · exact ⟨false, .checkCancel (.refl _)⟩
  · exact ⟨((d.wr (FEED.VIN (FeedIx f)) vin).feed f).uv, .of_regs (.refl _) (by cases f <;> rfl) (by cases f <;> rfl)
      (by cases f <;> rfl)⟩

theorem Device.seeVin_vin {vin : Nat} (hv : vin < 2 ^ 16) : (d.seeVin f vin).rd (FEED.VIN (FeedIx f)) = vin := by
  obtain ⟨uv, h⟩ := d.seeVin_kept f vin
  refine (h.reg _ (by cases f <;> decide)).trans ?_
  rw [Device.rd_modFeed, Device.rd_wr_same]
  exact Nat.mod_eq_of_lt hv

@[simp] theorem Device.seeVin_flag (vin : Nat) : (d.seeVin f vin).flag ⟨FEED.FSTAT (FeedIx g), j, 1⟩ =
    d.flag ⟨FEED.FSTAT (FeedIx g), j, 1⟩ := by
  obtain ⟨uv, h⟩ := d.seeVin_kept f vin
  refine (h.fstat g j).trans ?_
  simp

theorem Device.seeVin_feed (vin : Nat) : ∃ uv, (d.seeVin f vin).feed f = { d.feed f with uv := uv } := by
  obtain ⟨uv, h⟩ := d.seeVin_kept f vin
  exact ⟨uv, (h.feed f).trans (by simp)⟩

theorem Device.checkCancel_prefix : d.events <+: d.checkCancel.events := by
  unfold Device.checkCancel
  split
  · simp [Device.modSeq, Device.log_events]
  · exact List.prefix_rfl

theorem Device.seeVin_prefix (vin : Nat) : d.events <+: (d.seeVin f vin).events := by
  have hev : ∀ k, ((d.wr (FEED.VIN (FeedIx f)) vin).modFeed f k).events = d.events := fun k => by simp
  unfold Device.seeVin
  dsimp only
  split
  · rw [← hev fun x => { x with uv := false }]
    exact Device.checkCancel_prefix _
  · exact List.prefix_rfl

end
end Sys2Proof.Machine

namespace Sys2Proof.Machine

/-! ## Runs of the feed controllers (R189) -/

theorem Device.rd_withFeeds (d x : Device) {r : Reg} (hr : r.addr / 256 = 5) : (d.withFeeds x).rd r = x.rd r := by
  unfold Device.rd Device.withFeeds
  rw [look_append, look_append, look_filter_not d.regs (by simp; omega), look_filter_of x.regs (by simp [hr]),
    look_filter_not d.regs (by simp; omega)]
  simp

/-- Powered or not, the feed controllers and their page become what `k` makes of them. -/
theorem Device.onFeeds_shows (d : Device) (k : Device → Device) :
    (∀ r : Reg, r.addr / 256 = 5 → (d.onFeeds k).rd r = (k d).rd r) ∧ (d.onFeeds k).feedParts = (k d).feedParts := by
  unfold Device.onFeeds
  split
  · exact ⟨fun _ _ => rfl, rfl⟩
  · exact ⟨fun r hr => d.rd_withFeeds (k d) hr, rfl⟩

theorem Device.onFeeds_flag (d : Device) (k : Device → Device) (f : FeedId) (j : Nat) :
    (d.onFeeds k).flag ⟨FEED.FSTAT (FeedIx f), j, 1⟩ = (k d).flag ⟨FEED.FSTAT (FeedIx f), j, 1⟩ :=
  Device.flag_of_rd ((d.onFeeds_shows k).1 (FEED.FSTAT (FeedIx f)) (by cases f <;> decide))

/-- With the helm powered, a report of the feed controllers completes with what it makes of the device. -/
theorem completes_runFeed {c : Instr} {s : State} {k : Device → Device} {P : Device → Prop} (hp : s.dev.powered = true)
    (hc : exec c s = s.runFeed k) (h : P (k s.dev)) : Completes c s P :=
  ⟨_, hc, rfl, by simpa [Device.onFeeds, hp] using h⟩

/-! ## Qualification (R191) -/

section
variable (d : Device) (f g : FeedId)

/-- What a stretch of QUAL ms in the window notes, before the reading shows. -/
def Device.qualNoted : Device :=
  (d.raise (FEED.FSTAT_QUALIFIED (FeedIx f))).modFeed f fun x => { x with qualAt := d.feedClk }

/-- R191: QUAL ms in the window. -/
theorem Device.feedQualified_qualifies {vin held : Nat} (hq : d.feedQual f = false) (hin : d.inWindow f vin = true)
    (hheld : d.fld (FEED.FCFG_QUAL (FeedIx f)) * msec ≤ held) (hlost : (d.feed f).lostAt + held ≤ d.feedClk)
    (hv : vin < 2 ^ 16) :
    (d.feedQualified f vin held).feedQual f = true ∧ (d.feedQualified f vin held).rd (FEED.VIN (FeedIx f)) = vin ∧
    ((d.feedQualified f vin held).feed f).qualAt = d.feedClk := by
  have he : d.feedQualified f vin held = (d.qualNoted f).seeVin f vin := by
    unfold Device.feedQualified
    rw [if_neg (by simp [hq, hin, hheld, hlost])]
    rfl
  rw [he]
  refine ⟨(Device.seeVin_flag _ f f 0 vin).trans ?_, Device.seeVin_vin _ f hv, ?_⟩
  · simp [Device.qualNoted]
  · obtain ⟨uv, h⟩ := (d.qualNoted f).seeVin_feed f vin
    rw [h]
    simp [Device.qualNoted]

/-- R191: outside its window the feed is not qualified; the gate stays as it is. -/
theorem Device.qualLost_shows {vin : Nat} (hin : d.inWindow f vin = false) (hv : vin < 2 ^ 16) :
    (d.qualLost f vin).feedQual f = false ∧ (d.qualLost f vin).rd (FEED.VIN (FeedIx f)) = vin ∧
    (d.qualLost f vin).feedOn f = d.feedOn f := by
  unfold Device.qualLost
  rw [if_neg (by simp [hin])]
  refine ⟨(Device.seeVin_flag _ f f 0 vin).trans (d.disqualify_qual f), Device.seeVin_vin _ f hv, ?_⟩
  exact (Device.seeVin_flag _ f f 1 vin).trans ((d.disqualify_flag f f 1 (by decide)).trans (by simp [Device.feedOn]))

theorem Device.qualLost_prefix (vin : Nat) : d.events <+: (d.qualLost f vin).events := by
  unfold Device.qualLost
  split
  · exact List.prefix_rfl
  · simpa using (d.disqualify f).seeVin_prefix f vin

/-! ## Inrush (R193, R194) -/

/-- The inrush window ends, and the readings show. -/
def Device.inrushRead (vin vbus : Nat) : Device := ((d.lower (FEED.FSTAT_INRUSH (FeedIx f))).wr FEED.VBUS vbus).seeVin f vin

theorem Device.inrushRead_shows {vin vbus : Nat} (hv : vbus < 2 ^ 16) :
    (d.inrushRead f vin vbus).flag (FEED.FSTAT_INRUSH (FeedIx f)) = false ∧ (d.inrushRead f vin vbus).rd FEED.VBUS = vbus := by
  have hvin : (FEED.VIN (FeedIx f)).addr ≠ FEED.VBUS.addr := by cases f <;> decide
  obtain ⟨uv, h⟩ := ((d.lower (FEED.FSTAT_INRUSH (FeedIx f))).wr FEED.VBUS vbus).seeVin_kept f vin
  constructor
  · rw [Device.inrushRead, Device.seeVin_flag, Device.flag_fstat_wr _ _ _ _ (by decide)]
    simp
  · rw [Device.inrushRead, h.reg FEED.VBUS (by decide), Device.rd_modFeed, Device.rd_wr_ne _ _ hvin, Device.rd_wr_same]
    exact Nat.mod_eq_of_lt hv

theorem Device.inrushDone_completes {vin vbus : Nat} (hon : d.feedOn f = true)
    (hin : d.flag (FEED.FSTAT_INRUSH (FeedIx f)) = true) (hend : d.feedClk < d.inrushEnd f)
    (hlim : d.flag (FEED.FSTAT_LIMIT (FeedIx f)) = false) (hlow : vin ≤ vbus + 50) (hhigh : vbus < vin + 50)
    (hv : vbus < 2 ^ 16) :
    (d.inrushDone f vin vbus).flag (FEED.FSTAT_INRUSH (FeedIx f)) = false ∧ ((d.inrushDone f vin vbus).feed f).good = true ∧
    (d.inrushDone f vin vbus).rd FEED.VBUS = vbus := by
  have he : d.inrushDone f vin vbus =
      ((d.inrushRead f vin vbus).modFeed f fun x => { x with good := true }).checkCancel := by
    simp [Device.inrushDone, Device.inrushRead, hon, hin, hend, hlim, hlow, hhigh]
  have hkept : ((d.inrushRead f vin vbus).modFeed f fun x => { x with good := true }).FeedKept (d.inrushDone f vin vbus) :=
    he ▸ .checkCancel (.refl _)
  obtain ⟨hinrush, hvbus⟩ := d.inrushRead_shows f (vin := vin) hv
  refine ⟨(hkept.fstat f 3).trans (by simpa using hinrush), ?_, (hkept.reg FEED.VBUS (by decide)).trans (by simpa using hvbus)⟩
  rw [hkept.feed]
  simp

/-! ## Undervoltage and overvoltage (R191, R202) -/

/-- What is noted of an undervoltage or overvoltage, before the selection reacts: the status bit `i`, the event `ev` and the
counter `r`. -/
def Device.vinNoted (i ev : Nat) (r : Nat → Reg) (vin : Nat) : Device :=
  (((d.qualLost f vin).raise ⟨FEED.FSTAT (FeedIx f), i, 1⟩).log ev [FeedIx f, vin]).cnt r (4 + FeedIx f)

theorem Device.vinNoted_shows {i ev vin : Nat} {r : Nat → Reg} (hi : i < 16) (hpage : ∀ k < 10, (r k).addr / 256 = 0x13)
    (hlt : ∀ k < 10, (r k).addr < 0x13a2) (hin : d.inWindow f vin = false) (hv : vin < 2 ^ 16) (h0 : i ≠ 0) :
    (d.vinNoted f i ev r vin).flag ⟨FEED.FSTAT (FeedIx f), i, 1⟩ = true ∧ (d.vinNoted f i ev r vin).feedQual f = false ∧
    d.reported (d.vinNoted f i ev r vin) ev [FeedIx f, vin] ∧ d.counted (d.vinNoted f i ev r vin) (r (4 + FeedIx f)) := by
  have hk : 4 + FeedIx f < 10 := by have := FeedIx_le f; omega
  have hfar : 0x1300 ≤ (r (4 + FeedIx f)).addr := by have := hpage _ hk; omega
  have hpages : d.onlyPages [0x05, 0x08, 0x0D] (((d.qualLost f vin).raise
    ⟨FEED.FSTAT (FeedIx f), i, 1⟩).log ev [FeedIx f, vin]) :=
    (Device.log_pages _ _ _ _ (by decide)).mpr ((Device.raise_pages _ (fstat_page f (by decide))).mpr
      ((Device.qualLost_pages d f vin (by decide) (by decide) (by decide)).mpr (Device.onlyPages_refl d)))
  obtain ⟨hqual, -, -⟩ := d.qualLost_shows f hin hv
  refine ⟨?_, ?_, ?_, Device.counted_cnt (hlt _ hk) (hpages _ (by rw [hpage _ hk]; decide))⟩
  · rw [Device.vinNoted, Device.flag_fstat_cnt _ _ _ hfar, Device.flag_fstat_log, Device.flag_raise_fstat _ _ _ _ _ hi hi]
    simp
  · rw [Device.feedQual, Device.vinNoted, Device.flag_fstat_cnt _ _ _ hfar, Device.flag_fstat_log,
      Device.flag_raise_fstat _ _ _ _ _ hi (by decide), if_neg (by simp [h0])]
    exact hqual
  · exact Device.reported_log (by simpa using d.qualLost_prefix f vin) ev [FeedIx f, vin]

theorem Device.feedUv_shows {vin held : Nat} (hlive : d.feedLive f = true) (hheld : d.rd (FEED.FILT (FeedIx f)) * usec ≤ held)
    (hv : vin < d.rd (FEED.UV (FeedIx f))) (hv16 : vin < 2 ^ 16) :
    (d.feedUv f vin held).flag (FEED.FSTAT_FEED_UV (FeedIx f)) = true ∧
    (d.feedUv f vin held).feedQual f = false ∧ d.reported (d.feedUv f vin held) Ev.FEED_UV [FeedIx f, vin] ∧
    d.counted (d.feedUv f vin held) (CNT.UV (4 + FeedIx f)) := by
  have he : d.feedUv f vin held = (d.vinNoted f 8 Ev.FEED_UV CNT.UV vin).trigger f .uv true := by
    unfold Device.feedUv
    rw [if_neg (by simp [hlive, hv, Device.filtered, hheld])]
    rfl
  have hin : d.inWindow f vin = false := by simp [Device.inWindow]; omega
  obtain ⟨hflag, hqual, hrep, hcnt⟩ := d.vinNoted_shows (ev := Ev.FEED_UV) (r := CNT.UV) f (by decide : 8 < 16) (by decide)
    (by decide) hin hv16 (by decide)
  have hstep : (d.vinNoted f 8 Ev.FEED_UV CNT.UV vin).GateStep _ := .trigger (f := f) (cause := .uv) (stays := true) (.refl _)
  rw [he]
  exact ⟨(hstep.fstat f 8 (by decide) (by decide)).trans hflag, (hstep.fstat f 0 (by decide) (by decide)).trans hqual,
    hstep.reported (by decide) hrep, (hstep.cnt _ (by cases f <;> decide)).trans hcnt⟩

theorem Device.feedOv_shows {vin held : Nat} (hlive : d.feedLive f = true) (hheld : d.rd (FEED.FILT (FeedIx f)) * usec ≤ held)
    (hv : d.rd (FEED.OV (FeedIx f)) ≤ vin) (hv16 : vin < 2 ^ 16) :
    (d.feedOv f vin held).flag (FEED.FSTAT_FEED_OV (FeedIx f)) = true ∧
    (d.feedOv f vin held).feedQual f = false ∧ (d.feedOv f vin held).feedOn f = false ∧
    d.reported (d.feedOv f vin held) Ev.FEED_OV [FeedIx f, vin] ∧
    d.counted (d.feedOv f vin held) (CNT.OV (4 + FeedIx f)) := by
  have he : d.feedOv f vin held = (d.vinNoted f 9 Ev.FEED_OV CNT.OV vin).trigger f .ov false := by
    unfold Device.feedOv
    rw [if_neg (by simp [hlive, Device.filtered, hheld]; omega)]
    rfl
  have hin : d.inWindow f vin = false := by simp [Device.inWindow]; omega
  obtain ⟨hflag, hqual, hrep, hcnt⟩ := d.vinNoted_shows (ev := Ev.FEED_OV) (r := CNT.OV) f (by decide : 9 < 16) (by decide)
    (by decide) hin hv16 (by decide)
  have hstep : (d.vinNoted f 9 Ev.FEED_OV CNT.OV vin).GateStep _ := .trigger (f := f) (cause := .ov)
    (stays := false) (.refl _)
  rw [he]
  exact ⟨(hstep.fstat f 9 (by decide) (by decide)).trans hflag, (hstep.fstat f 0 (by decide) (by decide)).trans hqual,
    Device.trigger_off (.inl hqual), hstep.reported (by decide) hrep, (hstep.cnt _ (by cases f <;> decide)).trans hcnt⟩

/-! ## The selection at a tick (R201) -/

/-- The shunt's reading bears on the limit bit and the fault timer alone. -/
theorem Device.feedTick_keeps (n : Nat) : (∀ j < 16, j ∉ gateBits → (d.feedTick n f).flag ⟨FEED.FSTAT (FeedIx g), j, 1⟩ =
      d.flag ⟨FEED.FSTAT (FeedIx g), j, 1⟩) ∧ ((d.feedTick n f).feed g).unverified = (d.feed g).unverified ∧
    (∀ r : Reg, r.addr < 0x520 → (d.feedTick n f).rd r = d.rd r) := by
  have hset : ∀ b, (∀ j < 16, j ∉ gateBits → (d.setFlag (FEED.FSTAT_LIMIT (FeedIx f)) b).flag ⟨FEED.FSTAT (FeedIx g), j, 1⟩ =
        d.flag ⟨FEED.FSTAT (FeedIx g), j, 1⟩) ∧ ∀ r : Reg, r.addr < 0x520 →
        (d.setFlag (FEED.FSTAT_LIMIT (FeedIx f)) b).rd r = d.rd r := fun b =>
    ⟨fun j hj hb => ((Device.GateStep.refl d).gate (f := f) (i := 2) (b := b)).fstat g j hj hb,
      fun r hr => Device.rd_setFld_ne d _ (fstat_addr_ne f hr).symm⟩
  unfold Device.feedTick
  dsimp only
  split
  · exact ⟨fun _ _ _ => rfl, rfl, fun _ _ => rfl⟩
  · split
    · exact ⟨(hset _).1, by simp, (hset _).2⟩
    · refine ⟨fun j hj hb => by simpa using (hset _).1 j hj hb, ?_, fun r hr => by simpa using (hset _).2 r hr⟩
      rw [Device.modFeed_feed]
      split <;> simp

/-- What decides on the selection. -/
theorem Device.feedTick_selection (n : Nat) : (d.feedTick n f).usable g = d.usable g ∧
    (d.feedTick n f).activeFeed = d.activeFeed ∧
    (d.feedTick n f).priFeed = d.priFeed ∧ (d.feedTick n f).flag FEED.STAT_SWITCHING = d.flag FEED.STAT_SWITCHING := by
  obtain ⟨hbits, -, hrd⟩ := d.feedTick_keeps f g n
  obtain ⟨-, hunv, -⟩ := d.feedTick_keeps f (otherFeed g) n
  refine ⟨?_, Device.activeFeed_congr (Device.fld_of_rd (hrd FEED.STAT (by decide))), ?_,
    Device.flag_of_rd (hrd FEED.STAT (by decide))⟩
  · rw [Device.usable, Device.feedQual, hbits 0 (by decide) (by decide), hbits 4 (by decide) (by decide), hunv]
    rfl
  · rw [Device.priFeed, Device.flag_of_rd (hrd FEED.CFG (by decide))]
    rfl

/-- The device at the end of a tick of the feed controllers, before the selection. -/
def Device.feedsClocked : Device := (({ d with feedClk := d.feedClk + 1 }).feedTick 1 .fa).feedTick 1 .fb

theorem Device.feedsClocked_selection : d.feedsClocked.usable g = d.usable g ∧ d.feedsClocked.activeFeed = d.activeFeed ∧
    d.feedsClocked.priFeed = d.priFeed ∧ d.feedsClocked.flag FEED.STAT_SWITCHING = d.flag FEED.STAT_SWITCHING := by
  obtain ⟨hua, haa, hpa, hsa⟩ := ({ d with feedClk := d.feedClk + 1 }).feedTick_selection .fa g 1
  obtain ⟨hub, hab, hpb, hsb⟩ := (({ d with feedClk := d.feedClk + 1 }).feedTick 1 .fa).feedTick_selection .fb g 1
  exact ⟨hub.trans hua, hab.trans haa, hpb.trans hpa, hsb.trans hsa⟩

/-- R201: with no feed on and no switchover under way, a tick turns on the preferred usable feed. -/
theorem Device.feedsTick_selects (ha : d.activeFeed = none) (hs : d.flag FEED.STAT_SWITCHING = false)
    (hg : d.usable g = true) (hpri : g = d.priFeed ∨ g = otherFeed d.priFeed ∧ d.usable d.priFeed = false) :
    d.feedsTick 1 = d.feedsClocked.turnFeedOn g := by
  obtain ⟨hu, hact, hp, hsw⟩ := d.feedsClocked_selection g
  obtain ⟨hupri, -⟩ := d.feedsClocked_selection d.priFeed
  show d.feedsClocked.selectFeed = _
  unfold Device.selectFeed
  rw [if_neg (by simp [hact, ha, hsw, hs]), hp, hupri]
  obtain rfl | ⟨rfl, hno⟩ := hpri
  · rw [if_pos hg]
  · rw [if_neg (by simp [hno]), hu, if_pos hg]

end

/-- R189: an idle block's tick runs the selection without a supply too. -/
theorem unpowered_tick_selects {s : State} {f : FeedId} (hoff : s.dev.powered = false) (hidle : s.pending = [])
    (hsel : s.dev.feedsTick 1 = s.dev.feedsClocked.turnFeedOn f) :
    ∃ t, step s = .next t ∧ t.dev.feedOn f = true ∧ t.dev.activeFeed = some f ∧
    t.dev.flag (FEED.FSTAT_INRUSH (FeedIx f)) = true := by
  have htick : s.dev.tick = s.dev.onFeeds fun d => d.feedsTick 1 := by unfold Device.tick; rw [if_pos (by simp [hoff])]
  obtain ⟨hrd, -⟩ := s.dev.onFeeds_shows fun d => d.feedsTick 1
  refine ⟨_, step_nil s hidle, ?_⟩
  rw [htick, Device.feedOn, Device.onFeeds_flag, Device.onFeeds_flag,
    Device.activeFeed_congr (Device.fld_of_rd (hrd FEED.STAT (by decide)))]
  rw [hsel]
  exact ⟨(Device.turnFeedOn_feedOn _ f f).trans (by simp), Device.turnFeedOn_activeFeed _ f, Device.turnFeedOn_inrush _ f⟩

/-- Settles O34: what each report writes, reading by reading; what reacts to it moves gates alone, and an unpowered tick is
a tick of the feed controllers. -/
theorem feedsQualify : Obligations.FeedsQualify := by
  unfold Obligations.FeedsQualify
  refine ⟨fun s f vin held hq hin hheld hlost => ?_, fun s hoff hidle ha hs => ⟨fun hu => ?_, fun hno hu => ?_⟩,
    fun s f vin vbus hp => ⟨fun hin => ?_, fun hon hin hend hlim hlow hhigh => ?_⟩,
    fun s f vin held hp hlive hheld => ⟨fun hv => ?_, fun hv => ?_⟩⟩
  · obtain ⟨hrd, hparts⟩ := s.dev.onFeeds_shows fun d => d.feedQualified f vin.toNat held
    obtain ⟨hqual, hvin, hat⟩ := s.dev.feedQualified_qualifies f hq hin hheld hlost vin.isLt
    refine ⟨_, rfl, rfl, (Device.onFeeds_flag _ _ f 0).trans hqual, (hrd _ (by cases f <;> decide)).trans hvin, ?_⟩
    dsimp only
    rw [(Device.feed_congr hparts).1 f]
    exact hat
  · exact unpowered_tick_selects hoff hidle (s.dev.feedsTick_selects _ ha hs hu (.inl rfl))
  · exact unpowered_tick_selects hoff hidle (s.dev.feedsTick_selects _ ha hs hu (.inr ⟨rfl, hno⟩))
  · exact completes_runFeed hp rfl (s.dev.qualLost_shows f hin vin.isLt)
  · exact completes_runFeed hp rfl (s.dev.inrushDone_completes f hon hin hend hlim hlow hhigh vbus.isLt)
  · exact completes_runFeed hp rfl (s.dev.feedUv_shows f hlive hheld hv vin.isLt)
  · exact completes_runFeed hp rfl (s.dev.feedOv_shows f hlive hheld hv vin.isLt)

end Sys2Proof.Machine

namespace Sys2Proof.Machine

/-! ## Trips (R193, R196–R198) -/

section
variable (d : Device) (f : FeedId) (i ev : Nat) (shunt : Int)

/-- What a trip shows after `o`: its status bit `i`, its event `ev` with the current, the latch, and both counters. -/
def Device.tripShown (o d : Device) (f : FeedId) (i ev amps : Nat) : Prop :=
  d.flag ⟨FEED.FSTAT (FeedIx f), i, 1⟩ = true ∧ o.reported d ev [FeedIx f, amps] ∧ d.feedOn f = false ∧
  (d.feed f).tripped = true ∧ d.flag (FEED.FSTAT_LATCHED (FeedIx f)) = true ∧ d.flag (FEED.FSTAT_AVAIL (FeedIx f)) = false ∧
  d.feedQual f = false ∧ o.counted d (CNT.OC (4 + FeedIx f)) ∧ o.counted d (CNT.TRIP (4 + FeedIx f))

/-- The report of a trip: its status bit, its event and the current. -/
def Device.feedTripNoted : Device :=
  ((d.raise ⟨FEED.FSTAT (FeedIx f), i, 1⟩).log ev [FeedIx f, d.shuntAmps f shunt]).wr (FEED.IMEAS (FeedIx f))
  (d.shuntAmps f shunt)

/-- R198: the trip is latched, and the feed must qualify again. -/
def Device.feedTripLatched : Device :=
  (((d.feedTripNoted f i ev shunt).disqualify f).modFeed f
    fun x => { x with tripped := true, tripAt := (d.feedTripNoted f i ev shunt).feedClk }).feedAvail f

/-- The trip is counted. -/
def Device.feedTripCounted : Device :=
  ((d.feedTripLatched f i ev shunt).cnt CNT.OC (4 + FeedIx f)).cnt CNT.TRIP (4 + FeedIx f)

theorem Device.feedTrip_eq : d.feedTrip f ⟨FEED.FSTAT (FeedIx f), i, 1⟩ ev shunt =
    (d.feedTripCounted f i ev shunt).trigger f .trip false := rfl

theorem Device.feedTripLatched_pages : d.onlyPages [0x05, 0x08, 0x0D] (d.feedTripLatched f i ev shunt) := by
  have hnoted : d.onlyPages [0x05, 0x08, 0x0D] (d.feedTripNoted f i ev shunt) :=
    (Device.wr_pages _ _ (by cases f <;> decide)).mpr ((Device.log_pages _ _ _ _ (by decide)).mpr
      ((Device.raise_pages _ (fstat_page f (by decide))).mpr (Device.onlyPages_refl d)))
  exact (Device.feedAvail_pages _ f (by decide)).mpr ((Device.modFeed_pages _ f _).mpr
    ((Device.disqualify_pages _ f (by decide)).mpr hnoted))

theorem Device.feedTripLatched_latches : ((d.feedTripLatched f i ev shunt).feed f).tripped = true ∧
    (d.feedTripLatched f i ev shunt).flag (FEED.FSTAT_LATCHED (FeedIx f)) = true ∧
    (d.feedTripLatched f i ev shunt).flag (FEED.FSTAT_AVAIL (FeedIx f)) = false := by
  unfold Device.feedTripLatched
  rw [(Device.feedAvail_shows _ f).1, (Device.feedAvail_shows _ f).2]
  simp

/-- Of the status bits beside AVAIL and LATCHED, the trip raises its own and lowers QUALIFIED. -/
theorem Device.feedTripLatched_flag {j : Nat} (hj : j < 16) (h4 : j ≠ 4) (h5 : j ≠ 5) (hi : i < 16) :
    (d.feedTripLatched f i ev shunt).flag ⟨FEED.FSTAT (FeedIx f), j, 1⟩ =
      if j = 0 then false else if i = j then true else d.flag ⟨FEED.FSTAT (FeedIx f), j, 1⟩ := by
  rw [Device.feedTripLatched, Device.flag_feedAvail _ f f j hj h4 h5, Device.flag_modFeed, Device.disqualify_flag _ f f j hj,
    Device.feedTripNoted, Device.flag_fstat_imeas, Device.flag_fstat_log, Device.flag_raise_fstat _ f f i j hi hj]
  simp

theorem Device.feedTripLatched_reported : d.reported (d.feedTripLatched f i ev shunt) ev [FeedIx f, d.shuntAmps f shunt] := by
  refine Device.reported_mono ?_
    (Device.reported_log (d := d.raise ⟨FEED.FSTAT (FeedIx f), i, 1⟩) (by simp) ev [FeedIx f, d.shuntAmps f shunt])
  simp [Device.feedTripLatched, Device.feedTripNoted]

/-- Counting changes neither status bits nor controllers. -/
theorem Device.feedTripCounted_flag (j : Nat) : (d.feedTripCounted f i ev shunt).flag ⟨FEED.FSTAT (FeedIx f), j, 1⟩ =
    (d.feedTripLatched f i ev shunt).flag ⟨FEED.FSTAT (FeedIx f), j, 1⟩ :=
  (Device.flag_fstat_cnt _ f j (by cases f <;> decide)).trans (Device.flag_fstat_cnt _ f j (by cases f <;> decide))

theorem Device.feedTripCounted_rest : (d.feedTripCounted f i ev shunt).feed f = (d.feedTripLatched f i ev shunt).feed f ∧
    (d.feedTripCounted f i ev shunt).events = (d.feedTripLatched f i ev shunt).events := by simp [Device.feedTripCounted]

theorem Device.feedTripCounted_counted : d.counted (d.feedTripCounted f i ev shunt) (CNT.OC (4 + FeedIx f)) ∧
    d.counted (d.feedTripCounted f i ev shunt) (CNT.TRIP (4 + FeedIx f)) := by
  have hpages := d.feedTripLatched_pages f i ev shunt
  have hoc : (CNT.OC (4 + FeedIx f)).addr < 0x13a2 ∧ (CNT.OC (4 + FeedIx f)).addr / 256 = 0x13 := by cases f <;> decide
  have htrip : (CNT.TRIP (4 + FeedIx f)).addr < 0x13a2 ∧ (CNT.TRIP (4 + FeedIx f)).addr / 256 = 0x13 := by cases f <;> decide
  have hne : (CNT.OC (4 + FeedIx f)).addr ≠ (CNT.TRIP (4 + FeedIx f)).addr := by cases f <;> decide
  exact ⟨(Device.rd_cnt_ne _ hoc.1 hne.symm).trans (Device.counted_cnt hoc.1 (Device.rd_cntPage _ hpages hoc.2)),
    Device.counted_cnt htrip.1 ((Device.rd_cnt_ne _ htrip.1 hne).trans (Device.rd_cntPage _ hpages htrip.2))⟩

/-- R198, R202: a trip latches, and what reacts to it moves gates alone. -/
theorem Device.feedTrip_trips (hi : 8 ≤ i) (hi16 : i < 16) (hev : ev ≠ Ev.STRIKE) :
    d.tripShown (d.feedTrip f ⟨FEED.FSTAT (FeedIx f), i, 1⟩ ev shunt) f i ev (d.shuntAmps f shunt) := by
  have hstep : (d.feedTripCounted f i ev shunt).GateStep ((d.feedTripCounted f i ev shunt).trigger f .trip false) :=
    (Device.GateStep.refl _).trigger
  have hflag : ∀ j < 16, j ∉ gateBits → ((d.feedTripCounted f i ev shunt).trigger f .trip false).flag
      ⟨FEED.FSTAT (FeedIx f), j, 1⟩ = (d.feedTripLatched f i ev shunt).flag ⟨FEED.FSTAT (FeedIx f), j, 1⟩ := fun j hj hb =>
    (hstep.fstat f j hj hb).trans (d.feedTripCounted_flag f i ev shunt j)
  have hqual : (d.feedTripLatched f i ev shunt).feedQual f = false :=
    d.feedTripLatched_flag f i ev shunt (j := 0) (by decide) (by decide) (by decide) hi16
  have hgate : i ∉ gateBits := by simp [gateBits]; omega
  obtain ⟨htrip, hlatch, havail⟩ := d.feedTripLatched_latches f i ev shunt
  obtain ⟨hoc, hcount⟩ := d.feedTripCounted_counted f i ev shunt
  obtain ⟨hfeed, hevents⟩ := d.feedTripCounted_rest f i ev shunt
  have hrep := Device.reported_mono (by rw [hevents]) (d.feedTripLatched_reported f i ev shunt)
  rw [Device.feedTrip_eq]
  refine ⟨(hflag i hi16 hgate).trans ?_, hstep.reported hev hrep, ?_,
    (hstep.feed f).1.trans ((congrArg Feed.tripped hfeed).trans htrip), (hflag 5 (by decide) (by decide)).trans hlatch,
    (hflag 4 (by decide) (by decide)).trans havail, (hflag 0 (by decide) (by decide)).trans hqual,
    (hstep.cnt _ ?_).trans hoc, (hstep.cnt _ ?_).trans hcount⟩
  · rw [d.feedTripLatched_flag f i ev shunt hi16 (by omega) (by omega) hi16]
    simp; omega
  · exact Device.trigger_off (.inl ((d.feedTripCounted_flag f i ev shunt 0).trans hqual))
  · cases f <;> decide
  · cases f <;> decide

end

/-! ### Reverse current, retry and clearing (R197, R198) -/

section
variable (d : Device) (f : FeedId)

theorem Device.feedReverse_shows {shunt : Int} (hlive : d.feedLive f = true) (hrev : shunt ≤ -500)
    (hagain : ∀ x, d.switch = some x → x.again = none) :
    (d.feedReverse f shunt).flag (FEED.FSTAT_FEED_REVERSE (FeedIx f)) = true ∧ (d.feedReverse f shunt).feedOn f = false ∧
    ((d.feedReverse f shunt).feed f).tripped = (d.feed f).tripped := by
  have he : d.feedReverse f shunt =
      ((d.raise (FEED.FSTAT_FEED_REVERSE (FeedIx f))).log Ev.FEED_REVERSE [FeedIx f]).trigger f .reverse false := by
    simp [Device.feedReverse, hlive, hrev]
  have hstep : ((d.raise (FEED.FSTAT_FEED_REVERSE (FeedIx f))).log Ev.FEED_REVERSE [FeedIx f]).GateStep
    (d.feedReverse f shunt) :=
    he ▸ (Device.GateStep.refl _).trigger
  refine ⟨(hstep.fstat f 13 (by decide) (by decide)).trans (by simp), ?_, (hstep.feed f).1.trans (by simp)⟩
  rw [he]
  exact Device.trigger_off (.inr (by simpa using hagain))

/-- R198: after a second the trip ends; what is out of service stays latched. -/
theorem Device.feedRetry_clears (hretry : d.flag (FEED.FCFG_RETRY (FeedIx f)) = true) (htrip : (d.feed f).tripped = true)
    (hat : (d.feed f).tripAt + second ≤ d.feedClk) : ((d.feedRetry f).feed f).tripped = false ∧
    (d.feedRetry f).flag (FEED.FSTAT_LATCHED (FeedIx f)) = (d.feed f).outOfService ∧ (d.feedRetry f).feedQual f = false := by
  have he : d.feedRetry f = ((d.modFeed f fun x => { x with tripped := false }).feedAvail f).disqualify f := by
    simp [Device.feedRetry, hretry, htrip, hat]
  rw [he]
  refine ⟨?_, ?_, Device.disqualify_qual _ f⟩
  · rw [Device.disqualify_feed]
    simp
  · rw [Device.disqualify_flag _ f f 5 (by decide), if_neg (by simp), (Device.feedAvail_shows _ f).1]
    simp

/-- R198, R200. -/
theorem Device.feedClear_clears {v : Nat} (hv : v.testBit 0 = true)
    (h : (d.feed f).tripped = true ∨ (d.feed f).outOfService = true) :
    ((d.feedClear f v).feed f).tripped = false ∧ ((d.feedClear f v).feed f).outOfService = false ∧
    (d.feedClear f v).flag (FEED.FSTAT_LATCHED (FeedIx f)) = false ∧
    (d.feedClear f v).flag (FEED.FSTAT_AVAIL (FeedIx f)) = true := by
  have he : ∃ (e : Device) (n : Nat), d.feedClear f v = (e.modFeed f fun x =>
      { x with tripped := false, outOfService := false, unverified := false, qualAt := n }).feedAvail f := by
    unfold Device.feedClear
    rw [if_pos (by simpa [hv] using h)]
    exact ⟨_, _, rfl⟩
  obtain ⟨e, n, he⟩ := he
  rw [he, (Device.feedAvail_shows _ f).1, (Device.feedAvail_shows _ f).2]
  simp

/-! ## Damage (R199, R200) -/

variable (i ev : Nat)

/-- What recognised damage shows after `o`: its status bit `i`, its event, its count, and with DREACT = 1 the feed out of
service. -/
def Device.damageShown (o d : Device) (f : FeedId) (i ev : Nat) : Prop :=
  d.flag ⟨FEED.FSTAT (FeedIx f), i, 1⟩ = true ∧ o.reported d ev [FeedIx f] ∧ o.counted d (CNT.TRIP (4 + FeedIx f)) ∧
  (o.flag (FEED.FCFG_DREACT (FeedIx f)) = true → (d.feed f).outOfService = true ∧
  d.flag (FEED.FSTAT_AVAIL (FeedIx f)) = false)

/-- Damage is reported and counted. -/
def Device.damageNoted : Device :=
  ((d.raise ⟨FEED.FSTAT (FeedIx f), i, 1⟩).log ev [FeedIx f]).cnt CNT.TRIP (4 + FeedIx f)

theorem Device.damageNoted_flag {j : Nat} (hi : i < 16) (hj : j < 16) :
    (d.damageNoted f i ev).flag ⟨FEED.FSTAT (FeedIx f), j, 1⟩ =
    if i = j then true else d.flag ⟨FEED.FSTAT (FeedIx f), j, 1⟩ := by
  rw [Device.damageNoted, Device.flag_fstat_cnt _ f j (by cases f <;> decide), Device.flag_fstat_log,
    Device.flag_raise_fstat _ f f i j hi hj]
  simp

theorem Device.damageNoted_counted : d.counted (d.damageNoted f i ev) (CNT.TRIP (4 + FeedIx f)) := by
  have hpages : d.onlyPages [0x05, 0x08, 0x0D] ((d.raise ⟨FEED.FSTAT (FeedIx f), i, 1⟩).log ev [FeedIx f]) :=
    (Device.log_pages _ _ _ _ (by decide)).mpr ((Device.raise_pages _ (fstat_page f (by decide))).mpr
    (Device.onlyPages_refl d))
  exact Device.counted_cnt (by cases f <;> decide) (Device.rd_cntPage _ hpages (by cases f <;> decide))

/-- The configuration of the reaction is as it was. -/
theorem Device.damageNoted_dreact : (d.damageNoted f i ev).flag (FEED.FCFG_DREACT (FeedIx f)) =
    d.flag (FEED.FCFG_DREACT (FeedIx f)) := by
  have hlt : (FEED.FCFG (FeedIx f)).addr < 0x13a2 ∧ (FEED.FCFG (FeedIx f)).addr / 256 ∈ feedPages := by cases f <;> decide
  have hne : (CNT.TRIP (4 + FeedIx f)).addr ≠ (FEED.FCFG (FeedIx f)).addr ∧
      (FEED.FSTAT (FeedIx f)).addr ≠ (FEED.FCFG (FeedIx f)).addr := by cases f <;> decide
  refine Device.flag_of_rd ((Device.rd_cnt_ne _ hlt.1 hne.1).trans ?_)
  exact ((Device.FeedKept.log (.refl _)).reg _ hlt.2).trans (Device.rd_raise_ne d hne.2)

theorem Device.feedDamage_eq : d.feedDamage f ⟨FEED.FSTAT (FeedIx f), i, 1⟩ ev =
    if d.flag (FEED.FCFG_DREACT (FeedIx f)) then
      ((d.damageNoted f i ev).modFeed f fun x => { x with outOfService := true }).feedAvail f
    else d.damageNoted f i ev := by
  rw [← d.damageNoted_dreact f i ev]
  rfl

theorem Device.damageNoted_rest : (d.damageNoted f i ev).switch = d.switch ∧
    (d.damageNoted f i ev).events = ((d.raise ⟨FEED.FSTAT (FeedIx f), i, 1⟩).log ev [FeedIx f]).events := by
  simp [Device.damageNoted]

/-- Damage leaves a switchover under way as it is. -/
theorem Device.feedDamage_switch : (d.feedDamage f ⟨FEED.FSTAT (FeedIx f), i, 1⟩ ev).switch = d.switch := by
  obtain ⟨hnoted, -⟩ := d.damageNoted_rest f i ev
  rw [Device.feedDamage_eq]
  split
  · simpa using hnoted
  · exact hnoted

theorem Device.feedDamage_shows (hi : 8 ≤ i) (hi16 : i < 16) :
    d.damageShown (d.feedDamage f ⟨FEED.FSTAT (FeedIx f), i, 1⟩ ev) f i ev := by
  have hflag := d.damageNoted_flag f i ev hi16 hi16
  have hrep : d.reported (d.damageNoted f i ev) ev [FeedIx f] := by
    refine Device.reported_mono ?_ (Device.reported_log (d := d.raise ⟨FEED.FSTAT (FeedIx f), i, 1⟩) (by simp) ev [FeedIx f])
    rw [(d.damageNoted_rest f i ev).2]
  have hcount := d.damageNoted_counted f i ev
  rw [if_pos rfl] at hflag
  rw [Device.feedDamage_eq]
  by_cases hd : d.flag (FEED.FCFG_DREACT (FeedIx f)) = true
  · rw [if_pos hd]
    have hpages : (d.damageNoted f i ev).onlyPages [0x05, 0x08, 0x0D]
        (((d.damageNoted f i ev).modFeed f fun x => { x with outOfService := true }).feedAvail f) :=
      (Device.feedAvail_pages _ f (by decide)).mpr ((Device.modFeed_pages _ f _).mpr (Device.onlyPages_refl _))
    refine ⟨?_, Device.reported_mono (by simp) hrep, (Device.rd_cntPage _ hpages (by cases f <;> decide)).trans hcount,
      fun _ => ⟨by simp, ?_⟩⟩
    · rw [Device.flag_feedAvail _ f f i hi16 (by omega) (by omega), Device.flag_modFeed]
      exact hflag
    · rw [(Device.feedAvail_shows _ f).2]
      simp
  · rw [if_neg hd]
    exact ⟨hflag, hrep, hcount, fun h => absurd h hd⟩

/-- What reacts to a trigger moves gates alone. -/
theorem Device.damageShown_gateStep {o d e : Device} {f : FeedId} {i ev : Nat} (h : o.damageShown d f i ev)
    (hs : d.GateStep e)
    (hi : 8 ≤ i) (hi16 : i < 16) (hev : ev ≠ Ev.STRIKE) : o.damageShown e f i ev := by
  obtain ⟨hflag, hrep, hcount, hout⟩ := h
  refine ⟨(hs.fstat f i hi16 (by simp [gateBits]; omega)).trans hflag, hs.reported hev hrep,
    (hs.cnt _ (by cases f <;> decide)).trans hcount, fun hd => ?_⟩
  exact ⟨(hs.feed f).2.trans (hout hd).1, (hs.fstat f 4 (by decide) (by decide)).trans (hout hd).2⟩

theorem Device.feedDamageO_shows {src vbus held : Nat} (hdmg : (d.fld (FEED.FCFG_DMG (FeedIx f))).testBit 0 = true)
    (hoff : d.feedOn f = false) (hsrc : vbus < 2 * src) (hheld : 2 * msec ≤ held)
    (hat : (d.feed f).offAt + held ≤ d.feedClk) :
    d.damageShown (d.feedDamageO f src vbus held) f 14 Ev.FEED_DAMAGE_O := by
  have he : d.feedDamageO f src vbus held = d.feedDamage f (FEED.FSTAT_FEED_DAMAGE_O (FeedIx f)) Ev.FEED_DAMAGE_O := by
    simp [Device.feedDamageO, hdmg, hoff, hsrc, hheld, hat]
  rw [he]
  exact d.feedDamage_shows f 14 Ev.FEED_DAMAGE_O (by decide) (by decide)

theorem Device.feedDamageG_shows {vgs : Nat} {shunt : Int} (hdmg : (d.fld (FEED.FCFG_DMG (FeedIx f))).testBit 1 = true)
    (hon : d.feedOn f = true) (hfrom : (d.feed f).onAt + 20000 ≤ d.feedClk) (hto : d.feedClk < (d.feed f).onAt + 21000)
    (hvgs : vgs < 20) (hshunt : 10 * shunt < 50 * (d.fld ⟨FEED.VINR (FeedIx f), 0, 10⟩ : Int))
    (hagain : ∀ x, d.switch = some x → x.again = none) :
    d.damageShown (d.feedDamageG f vgs shunt) f 15 Ev.FEED_DAMAGE_G ∧ (d.feedDamageG f vgs shunt).feedOn f = false := by
  have he : d.feedDamageG f vgs shunt =
      (d.feedDamage f (FEED.FSTAT_FEED_DAMAGE_G (FeedIx f)) Ev.FEED_DAMAGE_G).trigger f .damage false := by
    have hwin : (d.feed f).onAt + 200 * usec ≤ d.feedClk ∧ d.feedClk < (d.feed f).onAt + 200 * usec + 10 * usec := by
      simp only [usec]; omega
    unfold Device.feedDamageG
    simp [hdmg, hon, hwin, hvgs, hshunt]
  rw [he]
  refine ⟨Device.damageShown_gateStep (d.feedDamage_shows f 15 Ev.FEED_DAMAGE_G (by decide) (by decide))
    (Device.GateStep.refl _).trigger (by decide) (by decide) (by decide), Device.trigger_off (.inr ?_)⟩
  rw [Device.feedDamage_switch]
  exact hagain

end

/-- Settles O35: every trip is one latch with its report and count, every damage one report; the trigger that follows
moves gates alone. -/
theorem feedTrips : Obligations.FeedTrips := by
  unfold Obligations.FeedTrips
  refine ⟨fun s f i hp => ⟨fun hon hin hend => ?_, fun hon hin htmr => ?_,
    fun hlive => ⟨fun hshort => ?_, fun hrev hagain => ?_⟩,
    fun hretry htrip hat => ?_, fun w v hw hv h => ?_⟩,
    fun s f hp => ⟨fun src vbus held hdmg hoff hsrc hheld hat => ?_,
    fun vgs shunt hdmg hon hfrom hto hvgs hshunt hagain => ?_⟩⟩
  · have he : s.dev.feedInrushFail f i = s.dev.feedTrip f (FEED.FSTAT_FEED_INRUSH_FAIL (FeedIx f)) Ev.FEED_INRUSH_FAIL i := by
      simp [Device.feedInrushFail, hon, hin, hend]
    exact completes_runFeed hp rfl (he ▸ s.dev.feedTrip_trips f 10 _ i (by decide) (by decide) (by decide))
  · have he : s.dev.feedOverload f i = s.dev.feedTrip f (FEED.FSTAT_FEED_OVERLOAD (FeedIx f)) Ev.FEED_OVERLOAD i := by
      simp [Device.feedOverload, hon, hin, htmr]
    exact completes_runFeed hp rfl (he ▸ s.dev.feedTrip_trips f 11 _ i (by decide) (by decide) (by decide))
  · have he : s.dev.feedShort f i = s.dev.feedTrip f (FEED.FSTAT_FEED_SHORT (FeedIx f)) Ev.FEED_SHORT i := by
      simp [Device.feedShort, hlive, hshort]
    exact completes_runFeed hp rfl (he ▸ s.dev.feedTrip_trips f 12 _ i (by decide) (by decide) (by decide))
  · exact completes_runFeed hp rfl (s.dev.feedReverse_shows f hlive hrev hagain)
  · exact completes_runFeed hp rfl (s.dev.feedRetry_clears f hretry htrip hat)
  · have hbit : v.toNat.testBit 0 = true := hv
    obtain ⟨htrip, hout, hlatch, havail⟩ := s.dev.feedClear_clears f hbit h
    refine completes_write hp hw rfl fun x => ⟨Eq.trans ?_ htrip, Eq.trans ?_ hout, hlatch, havail⟩ <;> cases f <;> rfl
  · exact completes_runFeed hp rfl (s.dev.feedDamageO_shows f hdmg hoff hsrc hheld hat)
  · exact completes_runFeed hp rfl (s.dev.feedDamageG_shows f hdmg hon hfrom hto hvgs hshunt hagain)

end Sys2Proof.Machine

namespace Sys2Proof.Machine

/-! ## Selections by CMD (R201, R202) -/

section
variable (d : Device) (f : FeedId)

/-- From `o` a switchover to `f` has begun, and the outgoing gate is off. -/
def Device.switchBegun (o d : Device) (f : FeedId) (cause : SwitchCause) : Prop :=
  d.feedOn (otherFeed f) = false ∧ d.flag FEED.STAT_SWITCHING = true ∧
  d.switch = some { t0 := o.feedClk, incoming := f, cause := cause, verified := false }

theorem Device.feedSelect_begins {v : Nat} (h : v.testBit 0 = (f == .fa)) (h' : v.testBit 1 = (f == .fb))
    (hs : d.switch = none)
    (ha : d.activeFeed = some (otherFeed f)) (hu : d.usable f = true) :
    d.switchBegun (d.feedSelect v) f .manual ∧ (d.feedSelect v).flag FEED.STAT_MANUAL = true := by
  obtain ⟨hoff, hsw, hx⟩ := d.startSwitch_begins f .manual
  rw [Device.feedSelect_one h h' hs, Device.selectOne, if_neg (by simp [ha, otherFeed_ne f]), if_neg (by simp [hu]),
    if_neg (by simp [ha])]
  refine ⟨⟨?_, ?_, by simpa using hx⟩, by simp⟩
  · exact (Device.flag_fstat_raise_stat _ _ _ _).trans hoff
  · exact (Device.flag_raise_feedStat _ 3 2).trans (by simpa using hsw)

/-- A feed that may not be turned on is refused. -/
theorem Device.feedSelect_unusable {v : Nat} (h : v.testBit 0 = (f == .fa)) (h' : v.testBit 1 = (f == .fb))
    (hs : d.switch = none)
    (ha : d.activeFeed ≠ some f) (hu : d.usable f = false) : d.feedSelect v = d.selRefused := by
  rw [Device.feedSelect_one h h' hs, Device.selectOne, if_neg ha, if_pos (by simp [hu])]

theorem Device.feedSelect_turnsOn {v : Nat} (h : v.testBit 0 = (f == .fa)) (h' : v.testBit 1 = (f == .fb))
    (hs : d.switch = none)
    (ha : d.activeFeed = none) (hu : d.usable f = true) :
    (d.feedSelect v).activeFeed = some f ∧ (d.feedSelect v).flag FEED.STAT_MANUAL = true := by
  rw [Device.feedSelect_one h h' hs, Device.selectOne, if_neg (by simp [ha]), if_neg (by simp [hu]), if_pos (by simp [ha])]
  simp [Device.turnFeedOn_activeFeed]

/-- With no feed usable and no switchover under way, a selection does nothing or is refused. -/
theorem Device.feedSelect_refuses (v : Nat) (hs : d.switch = none) (hu : ∀ f, d.usable f = false) :
    d.feedSelect v = d ∨ d.feedSelect v = d.selRefused :=
  Device.feedSelect_keeps (P := fun e => e = d ∨ e = d.selRefused) v (.inl rfl) (.inr rfl) (fun _ hne => absurd hs hne)
    (fun f hf => absurd hf (by simp [hu f])) fun f hf => absurd hf (by simp [hu f])

/-! ## A switchover's steps (R203, R204) -/

variable {x : Switchover}

theorem Device.feedRevert_begins (hrev : d.flag FEED.CFG_REVERT = true) (hman : d.flag FEED.STAT_MANUAL = false)
    (hs : d.switch = none) (ha : d.activeFeed = some (otherFeed d.priFeed)) (hu : d.usable d.priFeed = true)
    (hat : (d.feed d.priFeed).qualAt + d.fld FEED.CFG_RVT * 100 * msec ≤ d.feedClk) :
    d.switchBegun d.feedRevert d.priFeed .revert := by
  have he : d.feedRevert = d.startSwitch d.priFeed .revert := by
    unfold Device.feedRevert
    simp [hrev, hman, hs, ha, hu, hat]
  rw [he]
  exact d.startSwitch_begins d.priFeed .revert

/-- R203, step 4. -/
theorem Device.feedVerified_releases (hs : d.switch = some x) (hver : x.verified = false) (hfrom : x.t0 + 300 ≤ d.feedClk)
    (hto : d.feedClk ≤ x.t0 + 800) :
    d.feedVerified.feedOn x.incoming = true ∧ d.feedVerified.switch = some { x with verified := true } := by
  unfold Device.feedVerified
  rw [hs]
  dsimp only
  rw [if_neg (by simp [hver, hfrom, hto])]
  refine ⟨?_, rfl⟩
  exact (Device.flag_modFeed _ _ _ _).trans (by simp)

/-- R203, step 5: the incoming feed is the active one, and the gap is noted. -/
def Device.gapEnded (x : Switchover) : Device :=
  (((({ d.lower FEED.STAT_SWITCHING with switch := none }).setFld FEED.STAT_ACTIVE (feedCode x.incoming)).wr FEED.LASTGAP
    (min (d.feedClk - x.t0) 0xFFFF)).countSat FEED.SWCNT).modFeed x.incoming fun y =>
    { y with good := true, uv := false, ftmr := 0 }

/-- R203, step 6: the switchover is reported, and may end a power-fail warning. -/
def Device.gapReported (x : Switchover) : Device :=
  (((d.gapEnded x).raise FEED.STAT_FEED_SWITCH).log Ev.FEED_SWITCH [x.cause.code, min (d.feedClk - x.t0) 0xFFFF]).checkCancel

theorem Device.feedSwitch_eq (hs : d.switch = some x) (hver : x.verified = true) (hagain : x.again = none) :
    d.feedSwitch = d.gapReported x := by
  unfold Device.feedSwitch
  rw [hs]
  dsimp only
  rw [if_neg (by simp [hver]), Device.selectAgain_none hagain]
  rfl

theorem Device.gapEnded_stat : (d.gapEnded x).activeFeed = some x.incoming ∧
    (d.gapEnded x).flag FEED.STAT_SWITCHING = false := by
  have hstat : ∀ {r : Reg}, r.addr = 0x506 ∨ r.addr = 0x508 → r.addr ≠ FEED.STAT.addr := by
    rintro r (h | h) <;> rw [h] <;> decide
  have hwr : ∀ (e : Device) (i w : Nat), ((e.wr FEED.LASTGAP (min (d.feedClk - x.t0) 0xFFFF)).countSat FEED.SWCNT).fld
    ⟨FEED.STAT, i, w⟩ =
      e.fld ⟨FEED.STAT, i, w⟩ := fun e i w =>
    (Device.fld_stat_wr _ i w _ (hstat (.inr rfl))).trans (Device.fld_stat_wr e i w _ (hstat (.inl rfl)))
  constructor
  · rw [Device.gapEnded, Device.activeFeed_modFeed, Device.activeFeed_congr (hwr _ 0 2)]
    exact Device.activeFeed_set _ _
  · rw [Device.gapEnded, Device.flag_modFeed, Device.flag, hwr]
    exact (Device.flag_setFld_active _ _ 2).trans ((d.flag_setFlag_feedStat 2 2 false).trans rfl)

theorem Device.gapEnded_counts : (d.gapEnded x).rd FEED.LASTGAP = min (d.feedClk - x.t0) 0xFFFF ∧
    d.counted (d.gapEnded x) FEED.SWCNT := by
  constructor
  · rw [Device.gapEnded, Device.rd_modFeed, Device.rd_countSat_ne _ _ (by decide), Device.rd_wr_same]
    exact Nat.mod_eq_of_lt (show _ < 65536 by omega)
  · rw [Device.counted, Device.gapEnded, Device.rd_modFeed, Device.rd_countSat_same, Device.rd_wr_ne _ _ (by decide),
      Device.rd_setFld_ne _ _ (by decide)]
    rw [show ({ d.lower FEED.STAT_SWITCHING with switch := none } : Device).rd FEED.SWCNT = d.rd FEED.SWCNT from
      Device.rd_setFld_ne d _ (by decide)]

/-- Reporting leaves the rest of the feeds as it is. -/
theorem Device.gapReported_kept : ((d.gapEnded x).raise FEED.STAT_FEED_SWITCH).FeedKept (d.gapReported x) :=
  .checkCancel (.log (.refl _))

theorem Device.gapReported_reported :
    d.reported (d.gapReported x) Ev.FEED_SWITCH [x.cause.code, min (d.feedClk - x.t0) 0xFFFF] := by
  refine Device.reported_mono (Device.checkCancel_prefix _) (Device.reported_log ?_ _ _)
  simp [Device.gapEnded]

theorem Device.feedSwitch_ends (hs : d.switch = some x) (hver : x.verified = true) (hagain : x.again = none) :
    d.feedSwitch.activeFeed = some x.incoming ∧ d.feedSwitch.switch = none ∧ d.feedSwitch.flag FEED.STAT_SWITCHING = false ∧
    (d.feedSwitch.feed x.incoming).good = true ∧ d.feedSwitch.rd FEED.LASTGAP = min (d.feedClk - x.t0) 0xFFFF ∧
    d.counted d.feedSwitch FEED.SWCNT ∧ d.reported d.feedSwitch Ev.FEED_SWITCH [x.cause.code,
    min (d.feedClk - x.t0) 0xFFFF] := by
  have hkept := d.gapReported_kept (x := x)
  obtain ⟨hact, hsw⟩ := d.gapEnded_stat (x := x)
  obtain ⟨hgap, hcount⟩ := d.gapEnded_counts (x := x)
  rw [d.feedSwitch_eq hs hver hagain]
  refine ⟨hkept.activeFeed.trans (by simpa using hact), hkept.switch.trans (by simp [Device.gapEnded]),
    (hkept.flag FEED.STAT_SWITCHING).trans (by simpa using hsw), ?_, ?_, ?_, d.gapReported_reported⟩
  · rw [hkept.feed]
    simp [Device.gapEnded]
  · exact (hkept.reg FEED.LASTGAP (by decide)).trans ((Device.rd_raise_ne _ (by decide)).trans hgap)
  · exact (hkept.reg FEED.SWCNT (by decide)).trans ((Device.rd_raise_ne _ (by decide)).trans hcount)

/-! ### A verification that fails (R204) -/

/-- What a failed verification at `x` shows after `o`: the incoming gate as it was, the outgoing feed out of service and
unverified. -/
structure Device.VerifyFailed (o : Device) (x : Switchover) (gateTest : Bool) (d : Device) : Prop where
  on : d.feedOn x.incoming = o.feedOn x.incoming
  switch : d.switch = none
  flag : d.flag FEED.STAT_VERIFY_FAIL = true
  out : (d.feed (otherFeed x.incoming)).outOfService = true ∧ (d.feed (otherFeed x.incoming)).unverified = true
  reported : o.reported d Ev.FEED_VERIFY_FAIL [FeedIx (otherFeed x.incoming), gateTest.toNat]

theorem Device.VerifyFailed.kept {o e : Device} {b : Bool} (h : o.VerifyFailed x b d) (hk : d.FeedKept e) :
    o.VerifyFailed x b e where
  on := (hk.fstat x.incoming 1).trans h.on
  switch := hk.switch.trans h.switch
  flag := (hk.flag FEED.STAT_VERIFY_FAIL).trans h.flag
  out := by rw [hk.feed]; exact h.out
  reported := hk.reported (by decide) h.reported

theorem Device.VerifyFailed.selRefused {o : Device} {b : Bool} (h : o.VerifyFailed x b d) : o.VerifyFailed x b d.selRefused :=
  Device.VerifyFailed.kept (d.raise FEED.STAT_SELREF) (by
    refine ⟨(d.flag_fstat_raise_stat _ _ _).trans h.on, ?_, ?_, ?_, h.reported⟩
    · simpa using h.switch
    · exact (d.flag_raise_feedStat 10 9).trans (by simpa using h.flag)
    · simpa using h.out) (.log (.refl _))

/-- The sequence has ended without the incoming feed. -/
def Device.verifyEnded : Device :=
  (({ d.lower FEED.STAT_SWITCHING with switch := none }).raise FEED.STAT_VERIFY_FAIL).lower FEED.STAT_MANUAL

/-- The failure is reported. -/
def Device.verifyReported (x : Switchover) (gateTest : Bool) : Device :=
  d.verifyEnded.log Ev.FEED_VERIFY_FAIL [FeedIx (otherFeed x.incoming), gateTest.toNat]

/-- The outgoing feed is out of service, and inhibits the other. -/
def Device.outgoingHeld (x : Switchover) (gateTest : Bool) : Device :=
  ((d.verifyReported x gateTest).modFeed (otherFeed x.incoming) fun y =>
    { y with outOfService := true, unverified := true }).feedAvail (otherFeed x.incoming)

theorem Device.verifyFail_eq {gateTest : Bool} (hs : d.switch = some x) (hver : x.verified = false)
    (hat : x.t0 + 800 ≤ d.feedClk) :
    d.verifyFail gateTest =
      ((d.outgoingHeld x gateTest).runningFault (d.outgoingHeld x gateTest).feedSlot causeFeed).selectAgain x := by
  unfold Device.verifyFail
  rw [hs]
  dsimp only
  rw [if_neg (by simp [hver, hat])]
  rfl

theorem Device.verifyReported_kept (gateTest : Bool) : d.verifyEnded.FeedKept (d.verifyReported x gateTest) := .log (.refl _)

theorem Device.outgoingHeld_failed (gateTest : Bool) : d.VerifyFailed x gateTest (d.outgoingHeld x gateTest) := by
  have hkept := d.verifyReported_kept (x := x) gateTest
  have hrep : d.reported (d.verifyReported x gateTest) Ev.FEED_VERIFY_FAIL [FeedIx (otherFeed x.incoming), gateTest.toNat] :=
    Device.reported_log (by simp [Device.verifyEnded]) _ _
  refine ⟨?_, ?_, ?_, by simp [Device.outgoingHeld], Device.reported_mono (by simp [Device.outgoingHeld]) hrep⟩
  · rw [Device.outgoingHeld, Device.feedOn, Device.flag_feedAvail _ _ _ 1 (by decide) (by decide) (by decide),
      Device.flag_modFeed, hkept.fstat, Device.verifyEnded, Device.flag_fstat_setFlag_stat, Device.flag_fstat_raise_stat]
    exact d.flag_fstat_setFlag_stat x.incoming 2 1 false
  · simpa [Device.outgoingHeld, Device.verifyEnded] using hkept.switch
  · have hflag := hkept.flag FEED.STAT_VERIFY_FAIL
    simpa [Device.outgoingHeld, Device.feedAvail, Device.verifyEnded] using hflag

/-- Neither feed may be turned on: the outgoing one is out of service, and by it the incoming one is inhibited (R204). -/
theorem Device.outgoingHeld_unusable (gateTest : Bool) {e : Device} (hk : (d.outgoingHeld x gateTest).FeedKept e)
    (f : FeedId) :
    e.usable f = false := by
  have hout : (e.feed (otherFeed x.incoming)).unverified = true := by
    rw [hk.feed]
    simp [Device.outgoingHeld]
  have havail : e.flag (FEED.FSTAT_AVAIL (FeedIx (otherFeed x.incoming))) = false := by
    refine (hk.fstat (otherFeed x.incoming) 4).trans ((Device.feedAvail_shows _ _).2.trans ?_)
    simp
  unfold Device.usable
  by_cases h : f = x.incoming
  · simp [h, hout]
  · rw [show f = otherFeed x.incoming from eq_otherFeed h, havail]
    simp

theorem Device.verifyFail_fails {gateTest : Bool} (hs : d.switch = some x) (hver : x.verified = false)
    (hat : x.t0 + 800 ≤ d.feedClk) :
    d.VerifyFailed x gateTest (d.verifyFail gateTest) := by
  have hk : (d.outgoingHeld x gateTest).FeedKept
      ((d.outgoingHeld x gateTest).runningFault (d.outgoingHeld x gateTest).feedSlot causeFeed) := .runningFault (.refl _)
  have hfailed := Device.VerifyFailed.kept _ (d.outgoingHeld_failed gateTest) hk
  rw [d.verifyFail_eq hs hver hat, Device.selectAgain]
  split
  · next v _ =>
    rcases Device.feedSelect_refuses _ v hfailed.switch (d.outgoingHeld_unusable gateTest hk) with he | he
    · rw [he]
      exact hfailed
    · rw [he]
      exact Device.VerifyFailed.selRefused _ hfailed
  · exact hfailed

end

/-- Settles O36: a selection by its cases, and each step of the sequence by what it writes; after a failed verification
no feed is usable, so that a selection put off cannot turn one on. -/
theorem feedSwitchover : Obligations.FeedSwitchover := by
  unfold Obligations.FeedSwitchover
  refine fun s hp => ⟨fun w v hw => ⟨fun h h' => ?_, fun f h h' =>
    ⟨fun hs ha => ⟨fun hu => ?_, fun hu => ?_⟩, fun hs ha hu => ?_,
    fun x hs hown ht => ?_⟩⟩, fun hrev hman hs ha hu hat => ?_, fun x hs => ⟨fun hver hfrom hto => ?_, fun hver hagain => ?_,
    fun gate hver hat => ?_⟩⟩
  · have he : s.dev.feedSelect v.toNat = s.dev.selRefused := Device.feedSelect_both _ h h'
    obtain ⟨hflag, hs, ha, -⟩ := s.dev.selRefused_refuses
    exact completes_write hp hw rfl fun x => by rw [he]; exact ⟨hflag, hs, ha⟩
  · exact completes_write hp hw rfl fun x => s.dev.feedSelect_begins f h h' hs ha hu
  · have he : s.dev.feedSelect v.toNat = s.dev.selRefused :=
      s.dev.feedSelect_unusable f h h' hs (by simp [ha, otherFeed_ne f]) hu
    obtain ⟨hflag, hsw, hact, -⟩ := s.dev.selRefused_refuses
    exact completes_write hp hw rfl fun x => by rw [he]; exact ⟨hflag, hsw, hact⟩
  · exact completes_write hp hw rfl fun x => s.dev.feedSelect_turnsOn f h h' hs ha hu
  · have he : s.dev.feedSelect v.toNat = { s.dev with switch := some { x with again := some v.toNat } } := by
      rw [Device.feedSelect_switching h h' hs, if_pos (by simp [ht, hown])]
    exact completes_write hp hw rfl fun _ => by rw [he]
  · exact completes_runFeed hp rfl (s.dev.feedRevert_begins hrev hman hs ha hu hat)
  · exact completes_runFeed hp rfl (s.dev.feedVerified_releases hs hver hfrom hto)
  · exact completes_runFeed hp rfl (s.dev.feedSwitch_ends hs hver hagain)
  · obtain ⟨hon, hsw, hflag, hout, hrep⟩ := s.dev.verifyFail_fails (gateTest := gate) hs hver hat
    exact completes_runFeed hp rfl ⟨hon, hsw, hflag, hout.1, hout.2, hrep⟩

end Sys2Proof.Machine
